-- ==== Sys2Proof/Word.lean ====
section
/-!
DEFINITION. The plain data words of the model: octets, and tables held as association lists.
-/
namespace Sys2Proof

/-- One octet (R8, R9). -/
abbrev Byte := BitVec 8

/-- A sparse table by a number: keys strictly rising, one entry a key (canonical form, `tblWf`). -/
abbrev Tbl (α : Type) := List (Nat × α)

/-- The largest value of an n-bit field. -/
def maxOf (n : Nat) : Nat := 2 ^ n - 1

end Sys2Proof
end

