-- ==== Sys2Proof/Config.lean ====
section
/-!
DEFINITION. What the spec leaves to the chip, to a cited standard or to chance: constants with no body. No proof can see
what they are, so a statement holds whatever they are (log entries 1, 2 and 3).
-/
namespace Sys2Proof.Config

/-- The operations of an engine's cipher unit, as far as a PIN tag tells them apart (R421): a PIN block deciphered; a PIN field enciphered as a
PIN block; ICC PIN data enciphered; the offset or verification value; a comparison or test reduced to one bit; any other, by number. -/
inductive CipherOp where
  | openPin | sealPin | sealIcc | verification | test
  | other (op : Nat)
  deriving DecidableEq, Repr, Inhabited

/-- What a customer program does next (R420, R421): an operation under a key register, a key derived from one key register into another, or
its end with a status and an output record, `marked` where it marks a field of it as clear PIN material. -/
inductive ProgOp where
  | cipher (op : CipherOp) (reg : Nat) (data : List Byte)
  | derive (op reg dst : Nat) (data : List Byte)
  | finish (status : Nat) (out : List Byte) (marked : Bool)
  deriving DecidableEq, Repr, Inhabited

/-- A value the spec leaves open, the k-th such value of a run (log entry 1). -/
opaque freeNat : Nat → Nat

/-- The truncated AES-256-CMAC of an event record's first 56 octets under the record key (R475). -/
opaque recordMac : List Byte → Nat
/-- The truncated AES-256-CMAC of an evidence entry's first 56 octets under the evidence key (R467). -/
opaque evidenceMac : List Byte → Nat
/-- SHA-256 (a cited standard). -/
opaque sha256 : List Byte → List Byte
/-- SHA-384 (a cited standard). -/
opaque sha384 : List Byte → List Byte
/-- Whether a signature verifies: algorithm, public key, message, signature (R382, R409). -/
opaque sigOk : Nat → List Byte → List Byte → List Byte → Bool
/-- Whether a point of a curve, an X25519 value or an ML-KEM encapsulation key passes the checks of R382: key type (R212), key. -/
opaque pubKeyOk : Nat → List Byte → Bool
/-- Whether the key in a SubjectPublicKeyInfo passes them: algorithm, octets (R299, R382). -/
opaque spkiKeyOk : Nat → List Byte → Bool
/-- Whether both signatures of an image verify under the Ehras image keys of the boot ROM (R445). -/
opaque ehrasSigOk : List Byte → Bool
/-- Whether every section of an image matches its digest (R445). -/
opaque imageSectionsOk : List Byte → Bool
/-- The image Ehras leaves in firmware slot A. -/
opaque factoryImage : List Byte
/-- ID_SERIAL (R80, fixed). -/
opaque serial : Nat
/-- ID_BUILD.HW_STEP (R80, fixed). -/
opaque hwStep : Nat
/-- The output fields of a vendor program that its consumed mask holds for a request's options, its PARAM, AUX and input record (R129): the
spec lists no FIELDS of the vendor programs (log entry 84). -/
opaque consumedMask : Nat → List Byte → Nat → List Byte → Nat
/-- ID_BUILD.FW_BUILD of a firmware image (R80). -/
opaque fwBuild : List Byte → Nat
/-- The factory baseline of a mesh segment, gauge or accelerometer: band, sensor, instance (R453). -/
opaque factoryBaseline : Nat → Nat → Nat → Int
/-- The tolerance of a duplicated temperature sensor, for R455 (ids 7 and 8; the spec gives no figure). -/
opaque dupTolerance : Nat → Int
/-- The fixed vibration floor of R453. -/
opaque vibFloor : Int

/-! ### The key store's cryptography (R203 to R206, R211, R227 to R236): cited standards and keys no one outside knows. -/

/-- The 256 bits reconstructed from the SRAM PUF response and the helper data (R202). -/
opaque pufKey : List Byte
/-- The octets of an ember, from the draw that made it (R202). -/
opaque emberOf : Nat → List Byte
/-- The encipherment of a zero block under a TDES key, and the AES-CMAC of a zero block (R211). -/
opaque kcvTdes : List Byte → List Byte
opaque kcvAes : List Byte → List Byte
/-- Whether eight octets are a weak DES key (R231). -/
opaque weakDes : List Byte → Bool
/-- Octets of a random bit generator, from a free value; the last argument is how many are asked for (R154, R366). -/
opaque randomBytes : Nat → Nat → List Byte
/-- The stored private material of a generated key pair: type, free value (R231). -/
opaque genPair : Nat → Nat → List Byte
/-- The encoded public half of private material: type, material (R231). -/
opaque publicHalf : Nat → List Byte → List Byte

/-- The header of an ANSI X9.143 key block taken apart (R227): characters as numbers, two-character fields big-endian. `opts`
lists the optional block identifiers with their character offsets, `type0E` the TYPE of the Ehras block, `kc` and `kp` the check
values it carries, `dataAt` the character offset of the enciphered key. -/
structure BlockHead where
  version : Nat
  context : Nat
  usage   : Nat
  alg     : Nat
  mode    : Nat
  kvn     : Nat
  exp     : Nat
  opts    : List (Nat × Nat)
  type0E  : Option Nat
  kc      : Option (List Byte)
  kp      : Option (List Byte)
  dataAt  : Nat
  deriving DecidableEq, Repr

/-- A key block's header, or none with the character offset of the field whose syntax fails. -/
opaque blockHead : List Byte → Option BlockHead
/-- The character offset of the first field of a key block whose syntax fails. -/
opaque blockFault : List Byte → Nat
/-- Verify a key block's MAC and decipher it: KBPK material, block (R228). None when the MAC fails. -/
opaque unwrapBlock : List Byte → List Byte → Option (List Byte)
/-- Build a key block: KBPK material; VERSION_ID, usage, algorithm character, mode, KVN, exportability and key context; optional
blocks with their contents; key. -/
opaque wrapBlock : List Byte → List Nat → List (Nat × List Byte) → List Byte → List Byte
/-- The check value a key block carries of a key (R228, R230). -/
opaque blockKcv : List Byte → List Byte
/-- The ECDH value of a private key of a type and an ephemeral public key; none when it is no point of the curve (R232). -/
opaque ecdh : Nat → List Byte → List Byte → Option (List Byte)
/-- The X25519 value of a private key and a public value (R232). -/
opaque x25519 : List Byte → List Byte → Option (List Byte)
/-- The ML-KEM-768 shared secret of a decapsulation key and a ciphertext (R232). -/
opaque mlKemDecaps : List Byte → List Byte → Option (List Byte)
/-- The octets recovered by RSA-OAEP with SHA-256: private material, ciphertext; none on a decoding failure (R232). -/
opaque oaepOpen : List Byte → List Byte → Option (List Byte)
/-- The private halves of a ceremony's ML-KEM-768 and X25519 pairs, from its seed, and their public halves (R234). -/
opaque cerDk : Nat → List Byte
opaque cerSk : Nat → List Byte
opaque cerEk : Nat → List Byte
opaque cerX25519 : Nat → List Byte
/-- The header of a snapshot up to its HMAC, whose layout R240 does not give: SNAP_SEQ, CHANGE_SEQ, chain, STORE_GEN, FORMAT, occupied
segments, segment digests. -/
opaque snapHeader : Nat → Nat → List Byte → Nat → Nat → List Nat → List (List Byte) → List Byte
/-- The 2 MiB of a snapshot's domain table and epoch schedule, whose layout R240 does not give, from the octets of their entries. -/
opaque snapTables : List Byte → List Byte
/-- The newest record FORMAT a firmware image brings (R244). -/
opaque imageFormat : List Byte → Nat

/-! ### Block ciphers and derivations (R154 to R171): cited standards. -/

/-- TDES, or single DES under an eight-octet key, of one block: key, block. -/
opaque tdesEnc : List Byte → List Byte → List Byte
opaque tdesDec : List Byte → List Byte → List Byte
/-- AES of one block: key, block. -/
opaque aesEnc : List Byte → List Byte → List Byte
opaque aesDec : List Byte → List Byte → List Byte
/-- A DUKPT working key: SCHEME, base derivation key, KSN, DK_TYPE, key usage (R167). -/
opaque dukptKey : Nat → List Byte → List Byte → Nat → Nat → List Byte
/-- A DUKPT initial key: SCHEME, base derivation key, initial KSN, DK_TYPE (R168). -/
opaque dukptInitial : Nat → List Byte → List Byte → Nat → List Byte

/-! ### Cryptograms, MACs and tokens (R185 to R196): cited standards. -/

/-- A card master key by Option B (EMV Book 2 A1.4): key type, issuer key, digits of PAN and PSN, two an octet. -/
opaque emvOptionB : Nat → List Byte → List Byte → List Byte
/-- A card master key by Option A under AES: issuer key, Y (R185). -/
opaque emvMasterAes : List Byte → List Byte → List Byte
/-- A session key under AES: card master key, R (R185). -/
opaque emvSessionAes : List Byte → List Byte → List Byte
/-- The ICC PIN data of EMV Book 2: type and value of the cryptogram card master key, new PIN, current PIN when used (R189). -/
opaque iccPinData : Nat → List Byte → List Nat → List Nat → List Byte
/-- AES-CMAC of a message (SP 800-38B). -/
opaque aesCmac : List Byte → List Byte → List Byte
/-- HMAC: digest length in octets, key, message (FIPS 198-1). -/
opaque hmac : Nat → List Byte → List Byte → List Byte
/-- FF1 at radix 10: key, tweak, digits (NIST SP 800-38G). -/
opaque ff1Enc : List Byte → List Byte → List Nat → List Nat
opaque ff1Dec : List Byte → List Byte → List Nat → List Nat

/-! ### Bulk ciphers, sealed messages and digests (R250, R253, R288, R292, R349): cited standards. -/

/-- AES-256-XTS of one data unit: encipher, keys, data-unit number, octets. -/
opaque xtsUnit : Bool → List Byte → Nat → List Byte → List Byte
/-- The GHASH accumulator after more octets: key, accumulator, octets. -/
opaque ghash : List Byte → List Byte → List Byte → List Byte
/-- The GCM tag: key, IV, accumulator, octets of AAD and of text. -/
opaque gcmTag : List Byte → List Byte → List Byte → Nat → Nat → List Byte
/-- AES-GCM of a whole message: key, nonce, AAD, text; the tag stands at the end of the ciphertext. -/
opaque gcmSeal : List Byte → List Byte → List Byte → List Byte → List Byte
/-- AES-GCM decipherment: key, nonce, AAD, ciphertext with tag; none when the tag fails. -/
opaque gcmOpen : List Byte → List Byte → List Byte → List Byte → Option (List Byte)
/-- The chaining value a digest begins with, and after one more block: ALG, chaining value, block (R349). -/
opaque dgInit : Nat → List Byte
opaque dgBlock : Nat → List Byte → List Byte → List Byte
/-- The digest: ALG, chaining value, octets after the last whole block, octets in all. -/
opaque dgFinal : Nat → List Byte → List Byte → Nat → List Byte

/-! ### Ports (R255, R288, R297, R300, R301): cited standards. -/

/-- The full packet number of an XPN frame: lowest acceptable PN, its low half (IEEE 802.1AE). -/
opaque xpnRecover : Nat → Nat → Nat
/-- The implicit SCI of a frame without one (IEEE 802.1AE). -/
opaque implicitSci : List Byte → Nat
/-- A MACsec frame deciphered: [suite, SCI, SSCI, PN], key, salt, frame; none when the ICV fails. -/
opaque macsecOpen : List Nat → List Byte → List Byte → List Byte → Option (List Byte)
/-- A MACsec frame made: [suite, SCI, SSCI, PN, AN and flags], key, salt, clear frame. -/
opaque macsecSeal : List Nat → List Byte → List Byte → List Byte → List Byte
/-- What a certificate says: whether its signature verifies under the anchor, notBefore, notAfter, whether its key and key
usage fit an ALG, and its SubjectPublicKeyInfo; none when it does not parse. ALG, anchor type, anchor key, certificate. -/
opaque certRead : Nat → Nat → List Byte → List Byte → Option (Bool × Nat × Nat × Bool × List Byte)
/-- ML-KEM-768 encapsulation: encapsulation key, random octets: ciphertext and shared secret (R300, FIPS 203). -/
opaque mlKemEncaps : List Byte → List Byte → List Byte × List Byte
/-- The octets of the module's ECDSA signature of an ACCEPT, whose form R300 does not give, from a free value. -/
opaque acceptSigLen : Nat → Nat
/-- The module's signature of an ACCEPT: key type, private key, signed octets, free value (R300). -/
opaque acceptSig : Nat → List Byte → List Byte → Nat → List Byte

/-! ### Accords (R321, R323): what no rule states. -/

/-- The octet a conversion writes for a source that is none of the digits it takes: CONV, source value (R321). -/
opaque convOctet : Nat → Nat → Nat
/-- The octets of a fixed output field that no map wrote: ENC, offset (R323). -/
opaque fieldFill : Nat → Nat → Byte

/-! ### Programs (R122, R124). -/

/-- What a customer program's instructions do next, once the results of its cipher operations so far are there: code, AUX, input, those
results (R122, R420). -/
opaque progNext : List Byte → Nat → List Byte → List (List Byte) → ProgOp
/-- The result of an operation of an engine's cipher unit: operation, key, data (R118, R421). -/
opaque cipherUnit : CipherOp → List Byte → List Byte → List Byte
/-- A key derived from a key register into a key register: operation, key, data (R420). -/
opaque keyDerive : Nat → List Byte → List Byte → List Byte

/-! ### Public-key operations (R381, R387, R388): cited standards. -/

/-- A signature: type, private material, the input record, free value (R387). -/
opaque pkSign : Nat → List Byte → List Byte → Nat → List Byte
/-- Whether a signature verifies: type, public material, the input record (R387). -/
opaque pkVerify : Nat → List Byte → List Byte → Bool
/-- An OAEP encryption: public material, the input record, free value (R387). -/
opaque pkEncrypt : List Byte → List Byte → Nat → List Byte
/-- An OAEP decryption: private material, the input record; none on a decoding failure (R388). -/
opaque pkDecrypt : List Byte → List Byte → Option (List Byte)

/-- Whether an Ehras countersignature verifies under a key of a firmware image: image, VEND_KEY, algorithm, message, signature (R126). -/
opaque vendSigOk : List Byte → Nat → Nat → List Byte → List Byte → Bool

/-- The steps a customer program with data-dependent STEPS takes: code, input (R122). -/
opaque progSteps : List Byte → List Byte → Nat

/-- The flue identity's SHA-384 digest, from the draw of its key pair (R523). -/
opaque flueDigest : Nat → List Byte
/-- The JOIN_HELLO or JOIN_ACCEPT body of a module: TYPE, GROUP_ID, its identity's draw, the draw of its handshake values, and the group SAK
that JOIN_ACCEPT wraps (R524). -/
opaque flueJoin : Nat → Nat → Nat → Nat → List Byte → List Byte
/-- The secure channel identifier of a member: GROUP_ID, member (R255, R519). -/
opaque flueSci : Nat → Nat → Nat
/-- The destination and source addresses of a group frame: from a member to a member, 255 for all (R520). -/
opaque flueAddr : Nat → Nat → List Byte
/-- A replication payload enciphered under a member's link key (R521, R525): the member, the change number, the octets. -/
opaque flueSeal : Nat → Nat → List Byte → List Byte

end Sys2Proof.Config
end

