-- ==== Sys2Proof/State/Output.lean ====
section
/-!
DEFINITION. What the block puts out: every beat that leaves it, newest first in State.
-/
namespace Sys2Proof.Machine

/-- One thing the block sends. -/
inductive Output where
  /-- the data of a BAR0 or BAR2 read: the window offset and the value -/
  | readData (offset value : Nat)
  /-- an MSI-X message: function (0 PF0, 1 and 2 the PF1 instances of links 0 and 1), PASID and vector (R76, R81, R399) -/
  | msix (fn : Nat) (pasid : Option Nat) (vec : Nat)
  /-- a DMA write to host memory: link, PASID, Relaxed Ordering, address, octets -/
  | hostWrite (link : Nat) (pasid : Option Nat) (relaxed : Bool) (addr : Nat) (data : List Byte)
  /-- a DMA read of host memory: link, PASID, address, octets asked for -/
  | hostRead (link : Nat) (pasid : Option Nat) (addr len : Nat)
  /-- the answer of the SMBus port; none when the transfer is not acknowledged (R573) -/
  | smbus (data : Option (List Byte))
  /-- an Ethernet frame out of a port: port, link, octets (R289) -/
  | frame (port link : Nat) (data : List Byte)
  /-- a TPC datagram toward an endpoint: port, sub-port, destination addresses, endpoint, TYPE, sequence number, octets (R289,
  R290) -/
  | tpc (port subport : Nat) (dst : List Byte) (endpoint type seq : Nat) (data : List Byte)
  deriving DecidableEq, Repr

end Sys2Proof.Machine
end

