-- ==== Sys2Proof/State/Control.lean ====
section
/-!
DEFINITION. The state of the control side: mailbox, quorum gate, provisioning block, fences (R394 to R429), the
life-cycle record and the power-on sequence (R431 to R449), the controller pairs (R500 to R516).
-/
namespace Sys2Proof.Machine

/-- A signature block of a frame (R401). -/
structure SigBlock where
  cred : Nat
  alg  : Nat
  sig  : List Byte
  deriving DecidableEq, Repr

/-- A Folarn command frame after its header was taken apart (R401). -/
structure Frame where
  code    : Nat
  ext     : Bool
  out     : Bool
  tag     : Nat
  nonceId : Nat
  payload : List Byte
  payLen  : Nat
  nsig    : Nat
  bodyLen : Nat
  sigs    : List SigBlock
  extAddr : Nat
  outAddr : Nat
  outLen  : Nat
  deriving DecidableEq, Repr

/-- How far the held command has come (R396, R403, R410). -/
inductive CmdStage where
  /-- copied, waiting for the end of stage 6 or for a controller pair (R442, R504, R511) -/
  | waiting
  /-- the body of an extended frame is being read (R401) -/
  | body
  /-- the signatures are being verified (R410) -/
  | quorum
  /-- every check of the frame grate and the quorum gate passed: the command may be carried out -/
  | ready
  /-- decided once; the second decision is due (R440) -/
  | decision
  /-- carried out; the response waits for an event (a switch-over, a slice reset, an erasure) -/
  | running
  /-- answered, but the response carries a payload and the exits take none: its status, detail, tick and payload (R461) -/
  | answered (status detail tick : Nat) (payload : List Byte)
  deriving DecidableEq, Repr

/-- The command ledger (R416). -/
inductive Ledger where
  | empty
  | received
  | armed (tick : Nat)
  | done
  deriving DecidableEq, Repr

/-- An outstanding nonce (R408). -/
structure Nonce where
  id      : Nat
  value   : List Byte
  expires : Nat
  deriving DecidableEq, Repr

/-- The held command (R396); `relay` says that it came from the manager of the group (R526). -/
structure Held where
  frame   : Frame
  stage   : CmdStage
  cls     : Nat
  since   : Nat
  nonce   : Option Nonce
  signers : Nat
  opId    : Nat := 0
  len     : Nat := 64
  relay   : Bool := false
  deriving DecidableEq, Repr

/-- A long command (R398); `data` is its payload. -/
structure LongCmd where
  opId   : Nat
  code   : Nat
  state  : Nat
  status : Nat
  detail : Nat
  doneTick : Nat
  data   : List Byte
  deriving DecidableEq, Repr

/-- The mailbox (R394 to R398, R408, R416). `inner` is the relayed frame whose
signatures the gate evaluates for GP_RELAY (R526); `outHeld` is output at OUT_ADDR that waits, with the response, for host link 0 (R37). -/
structure MbSt where
  cmdBuf   : Tbl Byte := []
  busy     : Bool := false
  overrun  : Bool := false
  bufDrop  : Bool := false
  cmdCount : Nat := 0
  rspBuf   : List Byte := []
  rspValid : Bool := false
  rspStale : Bool := false
  rspTag   : Nat := 0
  rspCount : Nat := 0
  held     : Option Held := none
  inner    : Option Held := none
  ledger   : Ledger := .empty
  nonces   : List Nonce := []
  nextNonce : Nat := 1
  longs    : List LongCmd := []
  nextOp   : Nat := 1
  egressStops : List Nat := []
  vecOwed  : Bool := false
  outHeld  : List Output := []
  deriving DecidableEq, Repr

/-- A credential (R404). STATE: 0 empty, 1 active, 2 revoked. -/
structure Cred where
  role  : Nat := 0
  alg   : Nat := 0
  state : Nat := 0
  label : List Byte := List.replicate 32 0
  key   : List Byte := []
  enrolled : Nat := 0
  deriving DecidableEq, Repr

/-- Signers a quorum class requires, by role (R411). -/
structure Rule where
  so : Nat
  kc : Nat
  au : Nat
  op : Nat
  deriving DecidableEq, Repr

/-- A customer program key (R126, R413). -/
structure ProgKey where
  alg : Nat
  key : List Byte
  deriving DecidableEq, Repr

/-- The default quorum rules (R411), classes 0 to 15. -/
def defaultRules : List Rule :=
  [⟨0,0,0,0⟩, ⟨0,0,0,1⟩, ⟨0,0,1,0⟩, ⟨0,1,0,0⟩, ⟨2,0,0,0⟩, ⟨0,3,0,0⟩, ⟨0,0,2,0⟩, ⟨1,0,1,0⟩,
   ⟨3,0,0,0⟩, ⟨1,1,0,0⟩, ⟨1,0,1,0⟩, ⟨1,0,1,0⟩, ⟨2,0,1,0⟩, ⟨0,0,0,0⟩, ⟨0,0,0,0⟩, ⟨0,0,0,0⟩]

/-- The provisioning block (R24, R404, R411, R435) but for the PIN policy block and the locked fence regions, which
stand with the limiter and the fences. -/
structure ProvSt where
  creds    : List Cred := List.replicate 32 {}
  rules    : List Rule := defaultRules
  isSealed : Bool := false
  progKeys : Tbl ProgKey := []
  deriving DecidableEq, Repr

/-- A fence region (R426 to R428). Pages are 4 KiB. -/
structure Region where
  base   : Nat := 0
  en     : Bool := false
  lock   : Bool := false
  vlock  : Bool := false
  rd     : Bool := false
  wr     : Bool := false
  limit  : Nat := 0
  subOff : Nat := 0
  mHi    : Nat := 0
  mLo    : Nat := 0
  pv     : Bool := false
  pasid  : Nat := 0
  deriving DecidableEq, Repr

/-- A fence's report record (R428). -/
structure FenceInfo where
  valid  : Bool := false
  master : Nat := 0
  access : Nat := 0
  reason : Nat := 0
  region : Nat := 0
  sub    : Nat := 0
  addr   : Nat := 0
  tick   : Nat := 0
  deriving DecidableEq, Repr

/-- A fence's reports (R428). -/
structure FenceRep where
  viol  : Nat := 0
  last  : FenceInfo := {}
  first : FenceInfo := {}
  deriving DecidableEq, Repr

/-- A region that guards some pages for a range of masters, vendor-locked (R427). -/
def vendorRegion (base limit lo hi : Nat) (rd wr : Bool) : Region :=
  { base, limit, mLo := lo, mHi := hi, rd, wr, en := true, vlock := true }

/-- A vendor-locked part of a fence's range: what some masters may do there, and nothing for every other master (R427). -/
def vendorPart (fence k base limit lo hi : Nat) (rd wr : Bool) : List (Nat × Region) :=
  [(32 * fence + k, vendorRegion base limit lo hi rd wr), (32 * fence + k + 1, vendorRegion base limit 0 0xFFF false false)]

/-- The vendor-locked regions of an HBM stack (R23, R427): half of the key records and of the integrity tree, in R23's order (log entry 23). -/
def vendorHbm (stack : Nat) : List (Nat × Region) :=
  (List.range 10).flatMap (fun k =>
    let f := 16 * stack + k
    vendorPart f 0 (393216 * f) (393216 * f + 393215) 0x400 0x43F true false) ++
  (let f := 16 * stack + 10
   vendorPart f 0 (393216 * f) (393216 * f + 262143) 0x400 0x43F true false ++
   [(32 * f + 2, vendorRegion (393216 * f + 262144) (393216 * f + 393215) 0 0xFFF false false)])

/-- The vendor-locked regions of MRAM (R24, R427), in R24's order from address 0 (log entry 23): what the controllers alone read; then the
evidence log, which they read and the monitor writes, and the key store root. -/
def vendorMram : List (Nat × Region) :=
  (List.range 5).flatMap (fun k => vendorPart (32 + k) 0 (16384 * k) (16384 * k + 16383) 0x600 0x601 true false) ++
  vendorPart 37 0 81920 82193 0x600 0x601 true false ++
  [(32 * 37 + 2, vendorRegion 82194 83225 0x600 0x601 true false)] ++ vendorPart 37 3 82194 83225 0x700 0x700 false true ++
  vendorPart 37 5 85338 85593 0x600 0x601 true false

/-- A controller's DMA fence as it leaves the factory: the whole of host memory is its management aperture (R425, R427, log entry 23). -/
def factoryAperture (fence master : Nat) : Nat × Region :=
  (32 * fence, { base := 0, limit := 2 ^ 52 - 1, en := true, rd := true, wr := true, mLo := master, mHi := master })

/-- The regions as they leave the factory. -/
def factoryRegions : List (Nat × Region) :=
  vendorHbm 0 ++ vendorHbm 1 ++ vendorMram ++
  [factoryAperture 56 0x600, factoryAperture 57 0x601, factoryAperture 80 0x600, factoryAperture 81 0x601]

/-- A region change armed for a tick (R31, R427). -/
structure FenceArm where
  key    : Nat
  region : Region
  tick   : Nat
  deriving DecidableEq, Repr

/-- The 96 fences; region k of fence f has key 32 f + k. `locks` are LOCK changes armed: key, LOCK, tick. `past` keeps, oldest first, the
copies that work granted before a switch still meets: the tick of the switch and the copy before it (R31, R429). `owed` holds violations of
locked regions by a controller whose lock-class event is still to come: master and REASON. -/
structure FenceSt where
  regions : Tbl Region := factoryRegions
  reports : Tbl FenceRep := []
  armed   : List FenceArm := []
  locks   : List (Nat × Bool × Nat) := []
  past    : List (Nat × Tbl Region) := []
  owed    : List (Nat × Nat) := []
  deriving DecidableEq, Repr

/-- The life-cycle states (R431). -/
inductive Lc where
  | manufacture | shipped | development | provisioned | operational | maintenance | locked | zeroized | decommissioned
  deriving DecidableEq, Repr

/-- The encoding of ID_STATE.LC and of STATE (R431). -/
def Lc.code : Lc → Nat
  | .manufacture => 1 | .shipped => 2 | .development => 3 | .provisioned => 4 | .operational => 5
  | .maintenance => 6 | .locked => 7 | .zeroized => 8 | .decommissioned => 9

/-- The state an encoding names (R431). -/
def Lc.ofCode : Nat → Option Lc
  | 1 => some .manufacture | 2 => some .shipped | 3 => some .development | 4 => some .provisioned
  | 5 => some .operational | 6 => some .maintenance | 7 => some .locked | 8 => some .zeroized
  | 9 => some .decommissioned | _ => none

/-- The life-cycle record (R437). DIR: 1 securing, 2 opening. -/
structure LcRec where
  seq     : Nat := 0
  state   : Lc := .shipped
  origin  : Option Lc := none
  intent  : Bool := false
  target  : Option Lc := none
  dir     : Nat := 0
  causeKind : Nat := 0
  done    : Nat := 0
  cause   : Nat := 0
  intentTick : Nat := 0
  commitTick : Nat := 0
  activeSlot : Nat := 0
  trial   : Bool := false
  fwFloor : Nat := 0
  slotAVer : Nat := 0
  slotBVer : Nat := 0
  terminal : Bool := false
  deriving DecidableEq, Repr

/-- What a transition's action does (R434, R436). -/
inductive LcAction where
  | armOperating | raiseStoreGen | openService | stopAll | emptyStore | restoreProv | closeTrace | requireSealed
  | stopPay | resumePay | stopGrants | recordFrom | resumeFrom | destroyEmber | eraseHelper | eraseRoot | eraseLimits
  | drawEmber | enrolPuf | eraseSlots | markTerminal
  deriving DecidableEq, Repr

/-- What the decision unit decides twice (R440). -/
inductive DecKind where
  | transition (target : Lc)
  | fwAccept (opId slot : Nat)
  | fwActivate (slot : Nat)
  | startSlot (slot : Nat)
  | progAccept (opId : Nat)
  deriving DecidableEq, Repr

/-- A decision taken once, waiting for the second (R440). -/
structure Decision where
  kind  : DecKind
  first : Bool
  due   : Nat
  deriving DecidableEq, Repr

/-- A firmware slot (R445, R446): the octets written there, and what was found of them. -/
structure FwSlot where
  valid   : Bool := false
  version : Nat := 0
  minVersion : Nat := 0
  image   : List Byte := []
  deriving DecidableEq, Repr

/-- A firmware activation under way (R449). -/
structure Activation where
  slot   : Nat
  loaded : Bool
  since  : Nat
  deriving DecidableEq, Repr

/-- Life cycle and start-up (R431 to R449). `stage` is the last stage of R442 ended: 0 before stage 1, 9 once READY;
`readyTick` is the tick of READY. -/
structure LcSt where
  copyA    : LcRec := { slotAVer := 1 }
  copyB    : LcRec := { slotAVer := 1 }
  aValid   : Bool := true
  bValid   : Bool := true
  shownLc  : Nat := 2
  ready    : Bool := false
  stage    : Nat := 0
  pgTick   : Nat := 0
  startFail : Option (Nat × Nat) := none
  decision : Option Decision := none
  slotA    : FwSlot := { valid := true, version := 1, minVersion := 1, image := Config.factoryImage }
  slotB    : FwSlot := {}
  runSlot  : Nat := 0
  activation : Option Activation := none
  trialStart : Nat := 0
  rollback : Bool := false
  lockAfter : Option Nat := none
  zeroAfter : Option Nat := none
  stopAll  : Bool := false
  stopPay  : Bool := false
  stopGrants : Bool := false
  puf      : Bool := true
  frk      : List Byte := []
  bootNonce : Nat := 0
  debugBlocked : Bool := true
  readyTick : Nat := 0
  deriving DecidableEq, Repr

/-- The states of a controller pair (R501). -/
inductive PairState where
  | off | selftest | loading | standby | active | stopped | heldOut
  deriving DecidableEq, Repr

/-- The encoding of a pair state (R501). -/
def PairState.code : PairState → Nat
  | .off => 0 | .selftest => 1 | .loading => 2 | .standby => 3 | .active => 4 | .stopped => 5 | .heldOut => 6

/-- The controller pairs (R500 to R516). Pair 0 is HC-A, pair 1 HC-B; `beat` is the tick of the active pair's last heartbeat write. -/
structure HcSt where
  a        : PairState := .off
  b        : PairState := .off
  active   : Option Nat := none
  preferred : Nat := 0
  gap      : Bool := false
  headless : Bool := false
  gapStart : Nat := 0
  gapFrom  : Nat := 0
  gapCause : Nat := 0
  switches : Nat := 0
  lastTick : Nat := 0
  lastCause : Nat := 0
  lastFrom : Nat := 0
  lastTo   : Nat := 0
  lastGap  : Nat := 0
  aStops   : Nat := 0
  bStops   : Nat := 0
  aStopTicks : List Nat := []
  bStopTicks : List Nat := []
  gapPeak  : Nat := 0
  handing  : Option (Nat × Nat) := none
  putOff   : Option (Nat × Nat) := none
  planned  : Option (Nat × Nat) := none
  rotDue   : Bool := false
  beat     : Option Nat := none
  deriving DecidableEq, Repr

end Sys2Proof.Machine
end

