-- ==== Sys2Proof/State/Events.lean ====
section
/-!
DEFINITION. What an event brings with it: the operand types of the commands.
-/
namespace Sys2Proof

/-- How a DMA read ended (R77, R78). -/
inductive ReadResult where
  | data (octets : List Byte)
  | error
  deriving DecidableEq, Repr

/-- A sensor instance's reading in one sample (R451). -/
structure SensorReading where
  sensor : Nat
  inst   : Nat
  value  : Int
  good   : Bool
  valid  : Bool
  deriving DecidableEq, Repr

/-- An access to guarded memory: fence, address, octets, kind (0 read, 1 write, 2 read-modify-write), PASID (R426). -/
structure Access where
  fence : Nat
  addr  : Nat
  len   : Nat
  kind  : Nat
  pasid : Option Nat
  deriving DecidableEq, Repr

/-- How a granted step ended on its engines (R67, R130, R135, R422, R429): the output fields in which the two runs differ (bit k for
entry k of FIELDS, bit 32 for the side-effect requests), which engine's consumed fields differ from the agreed result, issue cycles and
exposed fetch wait of each function the step ran, and an access the program made outside its fixed paths. -/
structure StepOut where
  diff   : Nat := 0
  bad1   : Bool := false
  bad2   : Bool := false
  cal    : List (Nat × Nat) := []
  access : Option Access := none
  deriving DecidableEq, Repr

/-- A DMA read that can time out (R77). -/
inductive ReadId where
  | fetch (qp : Nat)
  | input (work : Nat)
  | body
  | image
  | flush (slice link : Nat)
  deriving DecidableEq, Repr

end Sys2Proof
end

