-- ==== Sys2Proof/State/Engines.lean ====
section
/-!
DEFINITION. The transaction engines, their clusters and the engine programs (R118 to R152).
-/
namespace Sys2Proof.Machine

/-- An engine (R135 to R139, R152). ESTATE: 0 in service, 1 retest, 2 retired. `ready` marks an engine of a RETIRED cluster
that passed its retest, `back` a retired engine under the retest of its re-admission (R137). -/
structure Eng where
  estate  : Nat := 0
  readmit : Bool := false
  latents : List Nat := []
  scores  : List Nat := []
  lastTick : Nat := 0
  retest  : Option Nat := none
  refEng  : Option Nat := none
  retireDue : Bool := false
  ready   : Bool := false
  back    : Bool := false
  deriving DecidableEq, Repr

/-- A cluster (R146 to R152). STATE: 0 IN_SERVICE, 1 DRAINED, 2 LOADING, 3 GATED, 4 WAKING, 5 RETIRED. -/
structure Cluster where
  state   : Nat := 0
  stTick  : Nat := 0
  vendVer : Nat := 0
  custVer : Nat := 0
  granted : Nat := 0
  spill   : Nat := 0
  mismatch : Nat := 0
  retryOk : Nat := 0
  twinFail : Nat := 0
  latent  : Nat := 0
  pfault  : Nat := 0
  gates   : Nat := 0
  loadOk  : Bool := false
  loadTick : Nat := 0
  drainAt : Option Nat := none
  returnAt : Option Nat := none
  gateAfter : Bool := false
  deriving DecidableEq, Repr

/-- An installed customer program (R122, R125). `added` is the set version that brought it, `gone` the one that took it
away. -/
structure Prog where
  func    : Nat
  version : Nat
  steps   : Nat
  topok   : Bool
  twin    : Bool
  cycles  : Nat
  keyTypes : Nat
  fields  : List (Nat × Nat)
  code    : List Byte
  added   : Nat
  gone    : Option Nat := none
  deriving DecidableEq, Repr

/-- Engines, clusters and programs. `load` is, per engine, the issue cycles and threads placed in this tick; `assigned` is,
per cluster, the CU assigned at this sample point, and `assignedTop` the top-note part of it (R119, R120). -/
structure EngSt where
  engines  : Tbl Eng := []
  clusters : Tbl Cluster := []
  load     : Tbl (Nat × Nat) := []
  assigned : Tbl Nat := []
  assignedTop : Tbl Nat := []
  progs    : List Prog := []
  setVer   : Nat := 0
  rollout  : Bool := false
  gating   : Bool := false
  peaks    : List (Nat × Nat) := []
  gateTick : Option Nat := none
  highTicks : List Nat := []
  wakeAsk  : Bool := false
  deriving DecidableEq, Repr

end Sys2Proof.Machine
end

