-- ==== Sys2Proof/State/Keystore.lean ====
section
/-!
DEFINITION. The key store: records, domain table, epoch schedule, cache, journal, root slots, ceremony (R202 to R247).
-/
namespace Sys2Proof.Machine

/-- A key record (R211). TYPE 0 is the empty record, which keeps the generation last issued at its index; TYPE 31 an
extension record, of which `owner` is that of its base. USAGE and KVN are their two characters as a big-endian number. The
material of a key stands whole in its base record; `ext` names the extension records that hold the rest of it, in order. -/
structure KRec where
  gen      : Nat := 0
  format   : Nat := 1
  type     : Nat := 0
  usage    : Nat := 0
  mode     : Nat := 0
  exp      : Nat := 0
  alg      : Nat := 0
  lim      : Nat := 0
  owner    : Nat := 0
  peer     : Nat := 0
  scope    : Nat := 0
  flags    : Nat := 0
  epoch    : Nat := 0
  kvn      : Nat := 0
  ext      : List Nat := []
  kcvLen   : Nat := 0
  kcv      : List Byte := []
  created  : Nat := 0
  notAfter : Nat := 0
  uses     : Nat := 0
  material : List Byte := []
  label    : List Byte := []
  base     : Nat := 0
  seq      : Nat := 0
  deriving DecidableEq, Repr

/-- A domain's entry (R219). -/
structure Dom where
  isOpen   : Bool := false
  quota    : Nat := 0
  pinQuota : Nat := 0
  limPin   : Nat := 0
  limTok   : Nat := 0
  cur      : Nat := 0
  oldest   : Nat := 0
  tgtLo    : Nat := 0
  tgtN     : Nat := 0
  deriving DecidableEq, Repr

/-- An epoch command waiting for its tick (R221). -/
structure EpochCmd where
  tick   : Nat
  domain : Nat
  cur    : Nat
  oldest : Nat
  deriving DecidableEq, Repr

/-- What a step found at one key field when it was granted (R216, R217). `epoch`: 0 open, 1 closed, 2 staged. -/
structure KeyRead where
  handle  : Nat := 0
  bad     : Bool := false
  rec_    : KRec := {}
  epoch   : Nat := 0
  expired : Bool := false
  ownerOpen : Bool := true
  deriving DecidableEq, Repr

/-- How a fetch or a scrub of a record ended (R207 to R210): both reads included. -/
inductive FetchEnd where
  | good | corrected | badRecord | badNode | hubError
  deriving DecidableEq, Repr

/-- What a change does to the store (R31, R33). -/
inductive ChangeKind where
  | place (index : Nat) (r : KRec)
  | erase (index : Nat)
  | replace (index : Nat) (r : KRec)
  | pin (index : Nat) (on : Bool)
  deriving DecidableEq, Repr

/-- A change waiting for its switch (R33). `work` is the request that made it, `batch` the atomic batch that commits it, if
there is one (R143), `out` where that batch holds the part's attribute record. -/
structure Change where
  kind  : ChangeKind
  work  : Option Nat := none
  batch : Option Nat := none
  out   : Nat := 0
  deriving DecidableEq, Repr

/-- A change of a domain's entry armed for a tick (R219). -/
structure DomArm where
  tick   : Nat
  domain : Nat
  entry  : Dom
  deriving DecidableEq, Repr

/-- The journal ring (R236). -/
structure JRing where
  base  : Nat
  log   : Nat
  link  : Nat
  pasid : Option Nat
  deriving DecidableEq, Repr

/-- A journal entry: its slots and octets (R236). `mark` is a KIND 5 entry, which is no change (R243). -/
structure JEntry where
  seq   : Nat
  slots : Nat
  bytes : List Byte
  mark  : Bool := false
  sent  : Bool := false
  deriving DecidableEq, Repr

/-- A root slot (R239). -/
structure RootSlot where
  slotSeq   : Nat
  changeSeq : Nat
  chain     : List Byte
  gen       : Nat
  format    : Nat := 1
  deriving DecidableEq, Repr

/-- A component ceremony (R234). -/
structure Ceremony where
  id     : Nat
  place  : List Byte
  domain : Nat
  nonce  : List Byte
  seed   : Nat
  needed : Nat
  parts  : List (Nat × List Byte) := []
  used   : List Nat := []
  opened : Nat
  deriving DecidableEq, Repr

/-- A snapshot running (R240): the store as it stood at the switch tick, once `taken`. -/
structure Snap where
  opId  : Nat
  taken : Bool := false
  seq   : Nat
  changeSeq : Nat := 0
  chain : List Byte := []
  gen   : Nat := 0
  format : Nat := 1
  recs  : Tbl KRec := []
  minors : Tbl Nat := []
  majors : Tbl Nat := []
  doms  : Tbl Dom := []
  epochs : List EpochCmd := []
  bufs  : List (Nat × Nat)
  deriving DecidableEq, Repr

/-- What a journal entry of an image says once read (R236). -/
inductive ReplayKind where
  | written (recs : List (Nat × KRec))
  | erased (index format : Nat)
  | domain (d : Nat) (entry : Dom)
  | epoch (c : EpochCmd)
  | other
  deriving DecidableEq, Repr

/-- A journal entry of an image: SEQ, the chain value computed over the entries as read, and its content. -/
structure Replay where
  seq   : Nat
  chain : List Byte
  kind  : ReplayKind
  deriving DecidableEq, Repr

/-- A key-store image as the module reads and deciphers it from the host's buffers (R240, R241). -/
structure Image where
  headerOk   : Bool
  segmentsOk : Bool
  storeGen   : Nat
  format     : Nat
  changeSeq  : Nat
  chain      : List Byte
  recs       : Tbl KRec
  doms       : Tbl Dom
  epochs     : List EpochCmd
  journal    : List Replay
  deriving DecidableEq, Repr

/-- A format migration (R244): the format being written, the segments switched, those copied whole that switch at the next sample
point, and the records committed during their segment's copy, which are copied again. -/
structure Migration where
  target : Nat
  done   : List Nat := []
  copied : List Nat := []
  again  : List Nat := []
  deriving DecidableEq, Repr

/-- The key store (R202 to R247). STATE: 0 CLOSED, 1 LOADING, 2 READY, 3 FAILED, 4 ERASED. `newest` is the newest record format in the
store, `loadSince` the tick a RELOAD began. -/
structure KsSt where
  state    : Nat := 0
  storeGen : Nat := 0
  format   : Nat := 1
  newest   : Nat := 1
  recs     : Tbl KRec := []
  held     : Tbl Nat := []
  freed    : Tbl Nat := []
  quar     : List Nat := []
  quarTicks : List Nat := []
  doms     : Tbl Dom := []
  domArmed : List DomArm := []
  epochs   : List EpochCmd := []
  cache    : Tbl Nat := []
  nodes    : Tbl Nat := []
  fetching : List Nat := []
  missGrants : Nat := 0
  hits     : Nat := 0
  misses   : Nat := 0
  integ    : Nat := 0
  scrubs   : Nat := 0
  scrubPos : Nat := 0
  scrubStart : Nat := 0
  scrubSeen : Tbl Nat := []
  scrubGrant : Option Nat := none
  minors   : Tbl Nat := []
  majors   : Tbl Nat := []
  changes  : List Change := []
  changeSeq : Nat := 0
  durableSeq : Nat := 0
  chain    : List Byte := List.replicate 32 0
  ring     : Option JRing := none
  wpos     : Nat := 0
  jhead    : Nat := 0
  full     : Bool := false
  entries  : List JEntry := []
  streamTick : Nat := 0
  streamUsed : Nat := 0
  slots    : Tbl RootSlot := []
  slotSeq  : Nat := 0
  snap     : Option Snap := none
  snapSeq  : Nat := 0
  loadOp   : Option (Nat × Nat) := none
  loadSince : Nat := 0
  mig      : Option Migration := none
  cer      : Option Ceremony := none
  nextCer  : Nat := 1
  domSel   : Nat := 0
  deriving DecidableEq, Repr

end Sys2Proof.Machine
end

