-- ==== Sys2Proof/State/Limiter.lean ====
section
/-!
DEFINITION. The PIN-function limiter and the PIN policy block (R161, R172 to R179).
-/
namespace Sys2Proof.Machine

/-- A limiter class's ceilings (R178). -/
structure LimClass where
  useCeil : Nat := 4194304
  failCeil : Nat := 65536
  lockWindows : Nat := 1
  deriving DecidableEq, Repr

/-- A guard's parameters (R178). -/
structure GuardCfg where
  ratio   : Nat := 256
  min     : Nat := 4096
  windows : Nat := 2
  deriving DecidableEq, Repr

/-- A decimalisation table with its validation data (R161). -/
structure DecTab where
  digits : List Nat := List.replicate 16 0
  start  : Nat := 0
  len    : Nat := 0
  pad    : Nat := 0
  valid  : Bool := false
  deriving DecidableEq, Repr

/-- The ceilings and guards of a PIN policy block (R178). -/
structure Ceilings where
  classes : List LimClass := List.replicate 16 {}
  pin     : GuardCfg := {}
  card    : GuardCfg := {}
  deriving DecidableEq, Repr

/-- A lockout, a trip or a suspension (R174, R175). `due` is the tick of the second decision still to come. -/
structure LimLock where
  confirmed : Bool
  until_    : Nat
  due       : Option Nat
  deriving DecidableEq, Repr

/-- An index's counts in the window (R172). `place` says that it holds one of the 524,288 places. -/
structure LimCount where
  uses  : Nat := 0
  fails : Nat := 0
  place : Bool := true
  window : Nat := 0
  deriving DecidableEq, Repr

/-- The limiter. Locks have the record index as key, or 0x0800_0000 and 0x0800_0001 for the guards (R179). -/
structure LimSt where
  running  : Bool := false
  starting : Bool := true
  window   : Nat := 0
  counts   : Tbl LimCount := []
  fullNoted : Bool := false
  locks    : Tbl LimLock := []
  pinV     : Nat := 0
  pinF     : Nat := 0
  cardV    : Nat := 0
  cardF    : Nat := 0
  ceilings : Ceilings := {}
  nextCeilings : Option Ceilings := none
  tables   : List DecTab := List.replicate 8 {}
  armedTables : Option (Nat × List DecTab) := none
  clears   : List Nat := []
  deriving DecidableEq, Repr

end Sys2Proof.Machine
end

