-- ==== Sys2Proof/State/Work.lean ====
section
/-!
DEFINITION. Requests and what becomes of them: submission entries (R88), the dispatcher's work items (R39 to R71), batches
(R99 to R102, R140 to R145), and the results of functions.
-/
namespace Sys2Proof.Machine

/-- A submission entry or a batch part taken apart (R88). `rsv` says that its reserved bits and fields are zero. -/
structure Sub where
  func   : Nat
  note   : Nat := 1
  inl    : Bool := true
  atomic : Bool := false
  ctag   : Nat := 0
  slice  : Nat := 0
  domain : Nat := 0
  pasid  : Nat := 0
  key0   : Nat := 0
  key1   : Nat := 0
  key2   : Nat := 0
  inAddr : Nat := 0
  inLen  : Nat := 0
  outMax : Nat := 0
  outAddr : Nat := 0
  aux    : Nat := 0
  param  : List Byte := []
  rsv    : Bool := true
  deriving DecidableEq, Repr

/-- An accord step (R328): the chain steps it runs, its issue cycles per engine, and whether parse and build are in it. -/
structure PlanStep where
  funcs  : List Nat
  cycles : Nat
  parse  : Bool
  build  : Bool
  deriving DecidableEq, Repr

/-- A chain as one request (R328 to R331): each chain step's keys and lengths, its accord steps, and the handles it names. -/
structure ChainPlan where
  subs    : List Sub
  steps   : List PlanStep
  twin    : Bool
  topOk   : Bool
  parse   : Nat
  build   : Nat
  handles : List Nat
  deriving DecidableEq, Repr

/-- Where a request came from. -/
inductive WSrc where
  /-- submission SEQ of a queue pair -/
  | queue (qp seq : Nat)
  /-- part `idx` of the batch whose work number is `batch` -/
  | part (batch idx : Nat)
  /-- step of the accord chain of a terminated message -/
  | chain (msg : Nat)
  /-- part of a spread batch, received from the manager of the hearth group -/
  | spread (batch idx : Nat)
  /-- the handshake of an endpoint (R301) -/
  | handshake (ep : Nat)
  deriving DecidableEq, Repr

/-- What runs a function's steps (R43, R114, R365, R384). -/
inductive UnitKind where
  | engine | hostLane | digest | pk | random
  deriving DecidableEq, Repr

/-- How far a request has come. -/
inductive Phase where
  /-- its input read is outstanding (R88, R100) -/
  | reading
  /-- a batch part that waits for staging room, or for its batch (R100, R142) -/
  | unstaged
  /-- eligible, waiting for its grant -/
  | waiting
  /-- a part of a spread batch that a worker runs (R532) -/
  | away
  /-- a step runs -/
  | running
  /-- the twin retry is granted and runs -/
  | retrying
  /-- the twin retry waits for the retry reserve (R131) -/
  | retryDue
  /-- a public-key unit runs its steps (R384) -/
  | unit
  /-- a failed check: it waits for a context of another unit (R390) -/
  | unitDue
  /-- a step ended; the next waits for its grant (R54) -/
  | between
  /-- every step ended; the completion waits for the store, the batch or the egress (R143, R239) -/
  | ended
  deriving DecidableEq, Repr

/-- What a function answers: status, DETAIL, INFO [30:0], result octets, whether a side effect of R583 stands, for bulk work
the octets already written at OUT_ADDR, and the retry-after of a refusal. -/
structure FnRes where
  status  : Nat := 0
  detail  : Nat := 0
  info    : Nat := 0
  out     : List Byte := []
  effects : Bool := false
  wrote   : Option Nat := none
  ticks   : Nat := 0
  pin     : Bool := false
  deriving DecidableEq, Repr

/-- A request at the dispatcher. `note` is its note now, `since` the tick from which its limit counts, `squash` a reset
that ends it at the end of its step (1 drain, 2 squash). `version` and `vend` are the customer program set and the vendor image of
the cluster that took its first step (R148); `onEng` says that a step stands on the engines `e1` and `e2`. `place` is the host lane or digest unit of bulk work, `pos` the octets
it has done, `turn` its place in the round robin there (R252, R365), `asked` that a host read for it is outstanding since
`readTick`, `ckpt` its running state, `aad` that the AAD chunk is done, `rerun` that its chunk runs again (R251, R264, R365), `barred` that the dirty set has held it back (R556).
Of unit work (R378 to R390): `pkTotal` and `pkDone` count its steps, `pkFirst` is the unit a check failed on, `pkSeed` what it drew,
`pkSpent` that its attempts are used up, `long` that it is a long operation. -/
structure Work where
  src     : WSrc
  sub     : Sub
  link    : Nat := 0
  input   : List Byte := []
  acct    : Nat := 0
  reqNote : Nat := 1
  note    : Nat := 1
  elig    : Nat := 0
  since   : Nat := 0
  isNew   : Bool := true
  phase   : Phase := .waiting
  unit    : UnitKind := .engine
  charged : Nat := 0
  stepsDone : Nat := 0
  grant   : Option Nat := none
  lastGrant : Nat := 0
  cost    : Nat := 0
  runNote : Nat := 3
  dem     : Bool := false
  age     : Bool := false
  rty     : Bool := false
  late    : Bool := false
  cons    : Bool := false
  band    : Nat := 0
  cluster : Nat := 0
  slot    : Bool := false
  spilled : Bool := false
  staged  : Bool := false
  version : Nat := 0
  vend    : Nat := 0
  onEng   : Bool := false
  e1      : Nat := 0
  e2      : Nat := 0
  old1    : Nat := 0
  old2    : Nat := 0
  oldBad1 : Bool := false
  oldBad2 : Bool := false
  overruns : Nat := 0
  checks  : Nat := 0
  squash  : Nat := 0
  maxGran : Nat := 1
  readTick : Nat := 0
  asked   : Bool := false
  reads   : Nat := 1
  stageCl : Nat := 0
  turn    : Nat := 0
  saved   : List Nat := []
  inDoubt : Bool := false
  eff     : Bool := false
  mc1     : Bool := false
  mc2     : Bool := false
  changeSeq : Nat := 0
  keys    : List KeyRead := []
  missed  : Nat := 0
  tables  : List DecTab := []
  pkUnit  : Option (Nat × Nat) := none
  pkTotal : Nat := 0
  pkDone  : Nat := 0
  pkFirst : Option Nat := none
  pkSeed  : Nat := 0
  pkSpent : Bool := false
  long    : Bool := false
  plan    : Option ChainPlan := none
  place   : Option Nat := none
  pos     : Nat := 0
  ckpt    : List Byte := []
  aad     : Bool := false
  rerun   : Bool := false
  res     : Option FnRes := none
  endTicks : Nat := 0
  barred  : Bool := false
  deriving DecidableEq, Repr

/-- A part record (R101). -/
structure PartRec where
  status  : Nat := 0
  detail  : Nat := 0
  disp    : Nat := 0
  outBytes : Nat := 0
  info    : Nat := 0
  result  : List Byte := []
  deriving DecidableEq, Repr

/-- A batch (R99, R140): its parts and the records of those that ended; `works` names each part's
request, `outs` the outputs an atomic batch withholds until its commit, `counted` the parts that ended with a limiter count. -/
structure Batch where
  parts   : List Sub
  recs    : Tbl PartRec := []
  works   : Tbl Nat := []
  outs    : List (Nat × List Byte) := []
  counted : List Nat := []
  atomic  : Bool
  begun   : Bool := false
  failed  : Bool := false
  committed : Bool := false
  commitTick : Nat := 0
  firstNote : Nat := 3
  firstGrant : Option Nat := none
  band    : Nat := 0
  age     : Bool := false
  rty     : Bool := false
  late    : Bool := false
  cons    : Bool := false
  checkFailed : Bool := false
  reset   : Bool := false
  done    : Bool := false
  deriving DecidableEq, Repr

/-- All requests, by their number in arrival order. -/
structure WorkSt where
  works   : Tbl Work := []
  next    : Nat := 1
  batches : Tbl Batch := []
  deriving DecidableEq, Repr

end Sys2Proof.Machine
end

