-- ==== Sys2Proof/State/Group.lean ====
section
/-!
DEFINITION. The hearth group (R518 to R546).
-/
namespace Sys2Proof.Machine

/-- The header of a group frame (R520), but for its TYPE. -/
structure GpHead where
  ver   : Nat
  src   : Nat
  dst   : Nat
  group : Nat
  mgen  : Nat
  len   : Nat
  seq   : Nat
  tick  : Nat
  deriving DecidableEq, Repr

/-- One replicated change, or one item of a resync, deciphered and taken apart (R521, R524, R525, R528). `members` names the
configured members: number, deputy, identity digest. `lockout` ends at a group tick. -/
inductive ReplItem where
  | key (index : Nat) (r : KRec)
  | erase (index : Nat)
  | domain (d : Nat) (e : Dom)
  | epoch (c : EpochCmd)
  | creds (l : List Cred)
  | rules (l : List Rule)
  | isSealed (b : Bool)
  | progKeys (t : Tbl ProgKey)
  | policy (c : Ceilings) (t : List DecTab)
  | programs (l : List Prog)
  | members (l : List (Nat × Bool × List Byte))
  | lockout (index until_ : Nat)
  deriving DecidableEq, Repr

/-- A part of a spread batch as PART_REQ carries it (R532): the batch's number at the manager, the part's index, its entry, its
input. -/
structure PartIn where
  batch : Nat
  idx   : Nat
  sub   : Sub
  input : List Byte
  deriving DecidableEq, Repr

/-- A part's end as PART_RESULT carries it (R532, R533); `refused` says that the worker ran nothing. -/
structure PartOut where
  batch   : Nat
  idx     : Nat
  refused : Bool
  rec_    : PartRec
  out     : List Byte
  deriving DecidableEq, Repr

/-- A part that PART_CANCEL names (R536). MODE: 0 cancel, 1 drain, 2 squash. -/
structure PartStop where
  batch : Nat
  idx   : Nat
  mode  : Nat
  deriving DecidableEq, Repr

/-- A member as this module sees it (R518, R543, R544). STATE: 0 absent, 1 admitted, 2 resync, 3 LIVE, 4 lost. `rxSeq` is the
last SEQ accepted from it, `txSeq` the last sent to it, `pool` the P it last reported, `full` that its resync is a full one, `goal`
the change its resync ends with, `sent` the changes its resync carries, `echo` the tick of its last frame's header. -/
structure Member where
  state   : Nat := 0
  deputy  : Bool := false
  port    : Nat := 0
  subport : Nat := 0
  seen    : Nat := 0
  ack     : Nat := 0
  identity : List Byte := []
  rxSeq   : Nat := 0
  txSeq   : Nat := 0
  pool    : Nat := 0
  full    : Bool := true
  goal    : Nat := 0
  sent    : Nat := 0
  echo    : Nat := 0
  synced  : Nat := 0
  deriving DecidableEq, Repr

/-- A part of a worker's part journal (R533). STATE: 0 received, 1 granted, 2 ended, 3 withdrawn. `sent` is the tick its result
was sent. -/
structure JPart where
  batch : Nat
  idx   : Nat
  state : Nat
  rec_  : PartRec := {}
  sent  : Option Nat := none
  deriving DecidableEq, Repr

/-- A part that a worker runs for the manager's batch (R532, R535): its member, and its entry. -/
structure Away where
  batch  : Nat
  idx    : Nat
  member : Nat
  deriving DecidableEq, Repr

/-- An entry in doubt (R537). RESOLUTION: 0 held, 1 resolved, 2 unresolvable. -/
structure Doubt where
  qp     : Nat
  part   : Nat
  member : Nat
  res    : Nat
  seq    : Nat
  ctag   : Nat
  batch  : Nat
  mgen   : Nat
  tick   : Nat
  rec_   : PartRec
  deriving DecidableEq, Repr

/-- A change sent to the workers (R525, R528): its number, its tick, its octets, and the store's change number when it is one of
the store. -/
structure ReplChange where
  seq   : Nat
  tick  : Nat
  bytes : List Byte
  ks    : Nat := 0
  deriving DecidableEq, Repr

/-- The group tables as last sent (R521, R528). -/
structure SentTables where
  creds    : List Cred := []
  rules    : List Rule := []
  isSealed : Bool := false
  progKeys : Tbl ProgKey := []
  ceilings : Ceilings := {}
  tables   : List DecTab := []
  progs    : List Prog := []
  members  : List (Nat × Bool × List Byte) := []
  deriving DecidableEq, Repr

/-- The group unit. ROLE: 0 NONE, 1 MANAGER, 2 WORKER, 3 JOINING, 4 ORPHAN, 5 DEPOSED. `manager` is the manager's member number,
`expel` the members a promotion left out of N; `spread` the marked slices; `history` the changes kept, oldest first; `sentKs` the
store's last change sent; `needAcks` the acknowledgements a promotion needs. `rejoining` marks a JOIN_HELLO out, `resync` a resync running to this module,
`inbox`, `stops` and `emptyDue`, the emptying of the store, what waits for the next sample point. `relay` is the member a GP_RELAY went to, `relayed` the relayed command
that waits, with its class and signers. `sak` is the group SAK in use and `an` its AN; `frames` holds the clear frames that the FLUE ports have
passed to the group unit: port, sub-port, octets (R288, R519, R520). -/
structure GpSt where
  role     : Nat := 0
  member   : Nat := 0
  groupId  : Nat := 0
  mgen     : Nat := 0
  domain   : Nat := 0
  manager  : Nat := 0
  mgrDigest : List Byte := []
  identity : Option Nat := none
  expel    : Nat := 0
  acks     : List Nat := []
  needAcks : Nat := 0
  frozen   : Bool := false
  majority : Bool := false
  members  : Tbl Member := []
  offset   : Int := 0
  replSeq  : Nat := 0
  history  : List ReplChange := []
  sentKs   : Nat := 0
  tables   : SentTables := {}
  lastMgr  : Nat := 0
  losses   : Nat := 0
  nSplit   : Nat := 0
  reassigned : Nat := 0
  sel      : Nat := 0
  spread   : List Nat := []
  away     : List Away := []
  doubts   : List Doubt := []
  journal  : List JPart := []
  joinPort : Nat := 0
  joinSub  : Nat := 0
  rejoining : Bool := false
  resync   : Bool := false
  inbox    : List (Nat × ReplItem) := []
  emptyDue : Bool := false
  stops    : List PartStop := []
  heartTick : Nat := 0
  relay    : Option Nat := none
  relayed  : Option (List Byte × Nat × Nat) := none
  sak      : List Byte := []
  an       : Nat := 0
  frames   : List (Nat × Nat × List Byte) := []
  asked    : List Nat := []
  deriving DecidableEq, Repr

end Sys2Proof.Machine
end

