-- ==== Sys2Proof/Syntax.lean ====
section
/-!
DEFINITION. The commands: one constructor per row of spec/opcode_table.json, in the table's order.

An operand is what comes from outside the block: what a host or a frame carries, which of several equal units an event is about,
and how something the spec does not compute (a read, a self-test, an analogue measurement) came out. The payload of a mailbox
command is no operand: the frame the mailbox holds carries it (R396, R401).
-/
namespace Sys2Proof

/-- A command from outside the block, or an event at its pins, links, clocks or units. -/
inductive Instr where
  /-- SAMPLE_POINT (R49): At hub cycle 0 of each tick the dispatcher refills allowances, ages and charges base work, then grants top, housekeeping, heart and base work in order. -/
  | samplePoint
  /-- POWER_SAMPLE (R65): The power stage delivers one 48 V voltage and current sample per tick, updating the mean power, the load band and PWR_FAULT. -/
  | powerSample (mv ma : Int)
  /-- UTC_UPDATE (R73): At every 512th sample point the UTC fields are updated together with TK_UTC_TICK. -/
  | utcUpdate
  /-- UTC_VALID_EXPIRY (R73): After 2^19 ticks without a UTC correction VALID clears and UTC continues from the tick count. -/
  | utcValidExpiry
  /-- TK_COUNT_LOW_READ (R74): A 32-bit read of TK_COUNT at 0x000 latches bits [63:32] into TK_COUNT_HI_LATCH. -/
  | tkCountLowRead
  /-- COUNTER_READ_CLEAR (R11): A read of a ROC field returns its value and clears it in the same access. -/
  | counterReadClear (bar2 : Option Nat) (off size : Nat)
  /-- REGISTER_WRITE (R11): A write to a register field without behaviour of its own sets, clears or ignores it by its access code. -/
  | registerWrite (bar2 : Option Nat) (off size value : Nat)
  /-- BAR0_ACCESS_INVALID (R13): A BAR0 access of wrong width, wrong alignment or to an undefined offset is discarded or returns all ones, and a notice of severity N is posted. -/
  | bar0AccessInvalid (write : Bool) (off size value : Nat)
  /-- QP_SQ_TAIL (R85): A TAIL write announces new submission entries and starts fetching, or is discarded and counted when out of range. -/
  | qpSqTail (n inst value : Nat)
  /-- QP_CQ_HEAD (R85): A completion HEAD write frees consumed granules, or is discarded with a notice when out of span. -/
  | qpCqHead (n inst value : Nat)
  /-- QP_CANCEL (R103): A cancel write naming SEQ and CTAG is held to take effect at the next sample point or at the fetch. -/
  | qpCancel (n inst value : Nat)
  /-- QP_POLL (R97): A poll read returns the valid entries beyond HEAD after the LENWORD writes it reports. -/
  | qpPoll (n inst : Nat)
  /-- SUBMISSION_FETCH_DONE (R89): A fetch read returns up to 32 entries, each checked by the grate in order and either refused or made eligible. -/
  | submissionFetchDone (n : Nat) (r : ReadResult)
  /-- INPUT_READ_DONE (R88): The non-bulk input read at IN_ADDR completes before the grate finishes, making the request eligible. -/
  | inputReadDone (id : Nat) (r : ReadResult)
  /-- DMA_READ_TIMEOUT (R77): A DMA read not completed 64 ticks after issue times out and its request or fetch ends with GRATE_TIMEOUT. -/
  | dmaReadTimeout (r : ReadId)
  /-- LATE_COMPLETION (R77): A read completion arriving after its read has timed out is discarded and counted. -/
  | lateCompletion
  /-- CQ_WAIT_EXPIRY (R98): CQ_WAIT ticks after the first unsignalled entry the queue pair's MSI-X vector is raised. -/
  | cqWaitExpiry (n : Nat)
  /-- HOST_LINK_UP (R75): A host link trains and records its width and speed, posting a notice when narrower or slower than x16 Gen 6. -/
  | hostLinkUp (l width speed : Nat)
  /-- HOST_LINK_DOWN (R79): A host link leaves DL_Active and its homed queue pairs enter LINKDOWN with ungranted work withdrawn. -/
  | hostLinkDown (l : Nat)
  /-- PERST_ASSERT (R568): PERST# on a link puts its queue pairs in LINKDOWN, and on link 0 sets STALE and releases claimed digest units. -/
  | perstAssert (l : Nat)
  /-- PERST_DEASSERT (R567): Release of PERST# starts link training, taken no earlier than power-good. -/
  | perstDeassert (l : Nat)
  /-- FUNCTION_LEVEL_RESET (R79): An FLR of a PF1 instance stops its queue pairs, and an FLR of PF0 releases digest units and marks a held response STALE. -/
  | functionLevelReset (fn : Nat)
  /-- BUS_MASTER_CLEAR (R79): Clearing Bus Master Enable on a PF1 instance puts its homed queue pairs in LINKDOWN. -/
  | busMasterClear (l : Nat)
  /-- HOST_LINK_ERROR (R78): A correctable or uncorrectable non-fatal link error is counted, with a notice for the latter. -/
  | hostLinkError (l : Nat) (correctable : Bool)
  /-- SLICE_FLUSH_DONE (R112): When the flush reads and outstanding reads of a reset slice have ended, the slice becomes READY and its queue pairs are reinitialised. -/
  | sliceFlushDone (n : Nat)
  /-- BATCH_PART_INPUT_READ (R100): A batch part's input is staged in cluster memory and checked, making the part eligible for grant or failing it. -/
  | batchPartInputRead (bid idx : Nat) (r : ReadResult)
  /-- ENGINE_STEP_END (R130): A granted step ends on its engines and the supervisor compares the twin outputs as equal, latently divergent or mismatched. -/
  | engineStepEnd (id : Nat) (o : StepOut)
  /-- MACHINE_CHECK (R133): An uncorrectable local-memory or issue-path parity error on an engine counts as a mismatch or triggers a single-run retry. -/
  | machineCheck (id : Nat) (second : Bool)
  /-- ENGINE_CYCLE_OVERRUN (R134): A thread not finished by engine cycle 4,096 is a machine check, or a PROGRAM_FAULT when both runs overrun. -/
  | engineCycleOverrun (id : Nat) (both second : Bool)
  /-- RETEST_END (R139): After 2 ticks of known-answer steps the engine's latent count is cleared, or it is retired. -/
  | retestEnd (e : Nat) (passed : Bool)
  /-- CL_LOAD_DONE (R147): A drained cluster finishes loading its program memory and checks it against the image digest. -/
  | clLoadDone (c : Nat) (ok : Bool)
  /-- GATING_DECISION (R149): With gating on, the controller gates or wakes a cluster by its grant history. -/
  | gatingDecision (c : Nat)
  /-- CLUSTER_WAKE_END (R149): After 16 ticks in WAKING a cluster returns to service at a sample point. -/
  | clusterWakeEnd (c : Nat)
  /-- LIMITER_SECOND_DECISION (R174): After a random delay the limiter decides a suspension again, confirming the lockout or raising a lock-class split. -/
  | limiterSecondDecision (n : Nat) (fault : Bool)
  /-- LIMITER_WINDOW_BOUNDARY (R172): At each 2^19-tick window boundary counts of indexes not locked out are released. -/
  | limiterWindowBoundary
  /-- LIMITER_LOCKOUT_END (R174): A lockout, suspension or guard trip ends at the sample point of the first tick after it. -/
  | limiterLockoutEnd (n : Nat)
  /-- KEY_FETCH_DONE (R207): A missing key record and its level-1 node arrive and are checked before entering the key cache, or the index is quarantined. -/
  | keyFetchDone (n : Nat) (e : Machine.FetchEnd)
  /-- KEYSTORE_SCRUB (R210): Scrub reads and checks 4 records per tick, rewriting corrected ones. -/
  | keystoreScrub (a b c d : Machine.FetchEnd)
  /-- JOURNAL_STREAM (R237): Committed changes stream to the host journal ring at up to 128 units per tick, pausing when the ring or link is unavailable. -/
  | journalStream
  /-- ROOT_SLOT_WRITE (R239): At each sample point whose tick is a multiple of 16 a new root slot covers transmitted changes, making them durable and releasing completions. -/
  | rootSlotWrite
  /-- KS_JHEAD (R247): A journal head write frees consumed slots, or is discarded with a notice when out of span. -/
  | ksJhead (value : Nat)
  /-- HOLD_DOWN_EXPIRY (R215): 2^24 ticks after a delete's switch tick the erased indexes leave hold-down. -/
  | holdDownExpiry (n : Nat)
  /-- MIGRATION_SEGMENT_SWITCH (R244): A migrated key-store segment switches to its new place at a sample point. -/
  | migrationSegmentSwitch (seg : Nat)
  /-- CEREMONY_EXPIRY (R234): A component ceremony not committed 2^29 ticks after opening expires and its components are erased. -/
  | ceremonyExpiry
  /-- LANE_BEAT_MISMATCH (R261): A port-side lane beat fails comparison, the lane is quarantined, the port holds output and a spare replays the set. -/
  | laneBeatMismatch (n : Nat)
  /-- LANE_REPLAY_DONE (R261): The spare delivers the last frame of the replay set and the port releases its held output. -/
  | laneReplayDone (n hold : Nat)
  /-- HOST_LANE_MISMATCH (R264): A host lane fails comparison, is quarantined and its operations move, with the failed chunk replayed or ended with LANE_FAULT. -/
  | hostLaneMismatch (n id : Nat)
  /-- HOST_LANE_CHUNK_END (R251): A host-lane chunk's last beat compares equal, a checkpoint is taken and output is written, completing the operation after the last chunk. -/
  | hostLaneChunkEnd (id : Nat) (r : ReadResult) (a : Option Access)
  /-- LANE_RETEST_START (R265): 16 ticks after QUARANTINED a lane enters RETEST. -/
  | laneRetestStart (n : Nat)
  /-- LANE_RETEST_END (R265): After 2^16 ticks of known-answer vectors a lane becomes SPARE or IN_SERVICE, or is retired. -/
  | laneRetestEnd (n : Nat) (passed : Bool)
  /-- SPARE_KAT_FAULT (R266): A spare or idle lane's known-answer test differs and is handled as a fault with nothing to replay. -/
  | spareKatFault (n : Nat)
  /-- LANE_ROTATION_START (R267): Every 2^ROT_LOG2 ticks a die moves a slot from its longest-serving lane to its longest spare. -/
  | laneRotationStart (d : Nat)
  /-- HANDOVER_END (R267): The outgoing lane's replay set empties and it begins its retest vectors. -/
  | handoverEnd (d : Nat)
  /-- HANDOVER_RETEST_END (R267): After 2^10 ticks of retest vectors the outgoing lane enters SPARE and the reserved spare is released. -/
  | handoverRetestEnd (d : Nat)
  /-- MACSEC_FRAME (R288): A frame received on a THROUGH or FLUE port is checked and deciphered, then forwarded to the partner or group unit or dropped. -/
  | macsecFrame (p k : Nat) (f : List Byte)
  /-- MAC_CONTROL_FRAME (R279): A received MAC Control frame is dropped and counted in PT_CTRL_DROP. -/
  | macControlFrame (p k : Nat) (frame : List Byte)
  /-- ARP_REQUEST (R289): An ARP request for a TERMINATE sub-port's IPv4 address is answered. -/
  | arpRequest (p k : Nat) (f : List Byte)
  /-- NEIGHBOR_SOLICITATION (R289): A Neighbor Solicitation for a sub-port's IPv6 address is answered. -/
  | neighborSolicitation (p k : Nat) (f : List Byte)
  /-- OTHER_FRAME (R289): A frame of no accepted kind on a TERMINATE sub-port is dropped and counted in PT_OTHER_DROP. -/
  | otherFrame (p k : Nat) (f : List Byte)
  /-- TPC_HELLO (R301): A HELLO passing its header pass is checked for replay and rate and submitted as a handshake, or answered with a REJECT. -/
  | tpcHello (p k : Nat) (f : List Byte)
  /-- TPC_REQUEST (R293): A REQUEST passes header, tag, replay and accord checks and becomes eligible, or is dropped or refused. -/
  | tpcRequest (p k : Nat) (f : List Byte)
  /-- TPC_REPLY (R340): A REPLY that matches an open pending forward closes it and runs under its DIR 1 accord. -/
  | tpcReply (p k : Nat) (f : List Byte)
  /-- TPC_KEEPALIVE (R303): A verified KEEPALIVE returns the session to ESTABLISHED and is answered with a KEEPALIVE. -/
  | tpcKeepalive (p k : Nat) (f : List Byte)
  /-- TPC_CLOSE (R303): A CLOSE from the endpoint erases the session keys and moves the context to IDLE. -/
  | tpcClose (p k : Nat) (f : List Byte)
  /-- HANDSHAKE_DONE (R301): The handshake's public-key work ends, the keys are installed at a sample point and the ACCEPT is sent. -/
  | handshakeDone (e : Nat)
  /-- ACCEPT_TIMEOUT (R302): When no message verifies under the new set within 2^16 ticks the new set is erased. -/
  | acceptTimeout (e : Nat)
  /-- SESSION_IDLE_TIMEOUT (R303): A session with no verified message for 2^IDLE_LOG2 ticks becomes DORMANT. -/
  | sessionIdleTimeout (e : Nat)
  /-- DORMANT_TIMEOUT (R303): A session DORMANT for 2^24 ticks has its keys erased and becomes IDLE. -/
  | dormantTimeout (e : Nat)
  /-- CERT_EXPIRY (R303): When an endpoint certificate's notAfter passes with UTC valid the module sends CLOSE and erases the keys. -/
  | certExpiry (e : Nat)
  /-- RESPONSE_READY (R304): The egress assembler takes a response, REFUSE or DELIVER and sends it, or holds it in the resume store. -/
  | responseReady (id : Nat)
  /-- RESUME_WINDOW_END (R305): A held message not sent by the end of its 2^16-tick window is discarded and recorded. -/
  | resumeWindowEnd (e : Nat)
  /-- FORWARD_CLOSE (R341): At its closing tick an open pending forward closes with FORWARD_TIMEOUT and a KIND 3 header. -/
  | forwardClose (id : Nat)
  /-- REFERRAL_VERDICT_EXPIRY (R344): At its verdict tick an undecided referral closes with VERDICT_TIMEOUT and a KIND 3 header. -/
  | referralVerdictExpiry (id : Nat)
  /-- LOSS_OF_SIGNAL (R283): Loss of signal for 2 ticks takes a link DOWN and restarts full training. -/
  | lossOfSignal (p k : Nat)
  /-- LOSS_OF_ALIGNMENT (R283): Loss of PCS alignment for 2 ticks takes a link DOWN and restarts full training. -/
  | lossOfAlignment (p k : Nat)
  /-- REMOTE_FAULT (R283): A remote fault for 2 ticks takes a link DOWN while the module sends idle. -/
  | remoteFault (p k : Nat)
  /-- LINK_UP (R283): A link that holds alignment for 2^12 ticks comes UP. -/
  | linkUp (p k : Nat)
  /-- FEC_UNCORRECTABLE (R283): An uncorrectable FEC codeword is counted and more than 16 in 2^16 ticks post a notice. -/
  | fecUncorrectable (p k : Nat)
  /-- TRAINING_END (R280): A full training ends with stored settings and the link up, or fails after 2^17 ticks with CAUSE 6. -/
  | trainingEnd (p k : Nat) (ok : Bool)
  /-- SERDES_BAND_APPLY (R281): After a band change stored settings are applied in service one SerDes lane per die every 4 ticks. -/
  | serdesBandApply
  /-- AUTO_RETRAIN_START (R282): With RETRAIN_AUTO set and the band unchanged for 2^20 ticks, a port lacking settings starts a full training. -/
  | autoRetrainStart (p : Nat)
  /-- PTP_SYNC (R311): A PTP Sync message is timestamped and filtered toward a UTC offset. -/
  | ptpSync (p k : Nat) (f : List Byte) (t2 : Int)
  /-- PTP_FOLLOW_UP (R311): A PTP Follow_Up completes a two-step Sync exchange. -/
  | ptpFollowUp (p k : Nat) (f : List Byte)
  /-- PTP_DELAY_RESP (R311): A PTP Delay_Resp completes the delay measurement and may update UTC. -/
  | ptpDelayResp (p k : Nat) (f : List Byte) (t3 : Int)
  /-- PTP_ANNOUNCE (R310): A PTP Announce feeds the best-master choice on the port. -/
  | ptpAnnounce (p k : Nat) (f : List Byte)
  /-- PTP_EXCHANGE_TIMEOUT (R311): A Follow_Up or Delay_Resp not arriving within 2^12 ticks discards the exchange. -/
  | ptpExchangeTimeout (p : Nat)
  /-- PTP_LOCK_LOSS (R311): No Sync or Announce for 3 announce intervals loses lock and hands UTC to the secondary or the tick count. -/
  | ptpLockLoss (p : Nat)
  /-- DG_CLAIM (R353): A claim write moves a unit's queue operations away and claims it, or is refused at 6 claims. -/
  | dgClaim (u : Nat)
  /-- DG_RELEASE (R353): A release write returns a unit to the unclaimed set and erases its state. -/
  | dgRelease (u : Nat)
  /-- DG_CLAIM_COMPLETE (R353): Once queue chunks have ended and moved, the claimed unit is marked CLAIMED. -/
  | dgClaimComplete (u : Nat)
  /-- DG_START (R356): START begins a plain message, or a sealed one after the key checks of R358. -/
  | dgStart (u alg : Nat) (isSealed : Bool)
  /-- DG_SEALED_KEY_READY (R358): The sealed key record arrives, is tested and its pad blocks are absorbed, clearing BUSY. -/
  | dgSealedKeyReady (u : Nat)
  /-- DG_SAVE (R360): SAVE at a block boundary writes the plain or wrapped state record to DG_STATE and erases the unit. -/
  | dgSave (u : Nat)
  /-- DG_RESTORE (R362): RESTORE checks the state record and resumes the message from its COUNT. -/
  | dgRestore (u : Nat)
  /-- DG_ABORT (R354): ABORT ends the message and erases the unit. -/
  | dgAbort (u : Nat)
  /-- DG_DATA (R356): A write of 8 message bytes that may complete a block and set BUSY. -/
  | dgData (u v : Nat)
  /-- DG_LAST_CTL (R357): The final write appends VB bytes, pads and runs the outer pass toward DONE. -/
  | dgLastCtl (u vb : Nat)
  /-- DG_BLOCK_DONE (R356): Compression of a block ends, COUNT rises and BUSY clears. -/
  | dgBlockDone (u : Nat)
  /-- DG_MESSAGE_DONE (R357): The final block and outer pass end, DG_OUT is written and DONE is set. -/
  | dgMessageDone (u : Nat)
  /-- DIGEST_CHUNK_END (R365): A 16-block queue digest chunk ends and the operation continues round robin or completes. -/
  | digestChunkEnd (id : Nat)
  /-- RN_DATA (R370): A read returns 64 random bits, refilling from the host instance, or zero with UNDERRUN at the limit. -/
  | rnData
  /-- ENTROPY_BLOCK (R366): The conditioner emits a 256-bit block into the pool or host reserve. -/
  | entropyBlock
  /-- NOISE_SOURCE_FAIL (R372): A source failing a health test is disabled, or set OFF after a third failure. -/
  | noiseSourceFail (k cause : Nat)
  /-- SOURCE_RETEST (R372): 2^16 ticks after disabling, a source reruns its start-up tests and is re-enabled on passing. -/
  | sourceRetest (k : Nat) (passed : Bool)
  /-- NO_SOURCE_TIMEOUT (R372): No source enabled for 2^16 ticks is a lock-class event. -/
  | noSourceTimeout
  /-- SOURCE_WINDOW_END (R373): Each 2^20 raw bits a source reports ONES and AGREE and sets a bias or correlation warning when out of range. -/
  | sourceWindowEnd (k ones equal : Nat)
  /-- PK_UNIT_STEP (R379): Each tick a public-key unit runs one step of its next occupied context, checking the result at the last step. -/
  | pkUnitStep (u : Nat) (failed : Bool) (a : Option Access)
  /-- MB_RSP_ACK (R396): Writing the response TAG releases the response and clears VALID and BUSY, or is discarded with a notice. -/
  | mbRspAck (tag : Nat)
  /-- MB_BODY_READ_DONE (R401): The body of an extended frame arrives from host memory and the frame grate continues. -/
  | mbBodyReadDone (r : ReadResult)
  /-- QUORUM_CHECK_DONE (R410): Both evaluations of every signature finish on the public-key units and the quorum gate issues or refuses the authority. -/
  | quorumCheckDone (faults : List (Bool × Bool))
  /-- LONG_COMMAND_END (R398): A long command ends, posts a notice and updates CMD_STATUS. -/
  | longCommandEnd (op : Nat) (img : Option Machine.Image)
  /-- NONCE (R408): Issues a 32-octet nonce with its id and expiry. -/
  | nonce
  /-- ECHO (R413): Returns the payload unchanged. -/
  | echo
  /-- STATUS (R413): Returns the life-cycle state, key store state, active controller, SEALED and tick. -/
  | status
  /-- CMD_STATUS (R398): Returns the state and final status of a long command by OP_ID. -/
  | cmdStatus
  /-- CRED_ENROL (R405): Enrols a credential under quorum with proof of possession. -/
  | credEnrol
  /-- CRED_REVOKE (R407): Revokes a credential when the remaining ones still satisfy every class. -/
  | credRevoke
  /-- CRED_LIST (R413): Returns the 32 credential entries. -/
  | credList
  /-- QUORUM_SET (R412): Replaces all quorum rules at once. -/
  | quorumSet
  /-- QUORUM_GET (R413): Returns the quorum rules. -/
  | quorumGet
  /-- CRED_SEAL (R406): Sets SEALED and closes the bootstrap window. -/
  | credSeal
  /-- STATE_CHANGE (R434): Requests a life-cycle transition, which is decided twice and carried out by intent, actions and commit. -/
  | stateChange
  /-- UNLOCK (R466): Returns the module from LOCKED to FROM when no class L condition is active. -/
  | unlock
  /-- FW_LOAD (R446): Writes and verifies an image in a slot as a long command. -/
  | fwLoad
  /-- FW_ACTIVATE (R449): Activates the inactive slot through the standby pair and starts a trial, or commits an image on trial. -/
  | fwActivate
  /-- FW_STANDBY_LOADED (R449): The standby pair has loaded and started the new image, awaiting the planned switch-over. -/
  | fwStandbyLoaded
  /-- FW_TRIAL_COMMIT (R449): 2^28 ticks without a stop of a pair on the new image commits the trial and raises FW_FLOOR. -/
  | fwTrialCommit
  /-- PROG_KEY_SET (R413): Sets a customer program key in the provisioning block. -/
  | progKeySet
  /-- PROG_LOAD (R126): Checks a customer program package twice and writes it for rollout. -/
  | progLoad
  /-- PROG_WITHDRAW (R123): Withdraws a function's program so that the function becomes undefined. -/
  | progWithdraw
  /-- EV_CLEAR (R487): Clears the fixative area, the sillage ring or both, recording the clear. -/
  | evClear
  /-- TRACE_OPEN (R494): Opens trace for the named groups and duration. -/
  | traceOpen
  /-- TRACE_CLOSE (R494): Closes trace. -/
  | traceClose
  /-- TRACE_END_TICK (R494): Trace closes at the sample point of END_TICK. -/
  | traceEndTick
  /-- TRACE_SYNC (R493): A sync packet is written at every tick whose count is a multiple of 2^16. -/
  | traceSync
  /-- FENCE_SET (R427): Configures a fence region under R31. -/
  | fenceSet
  /-- FENCE_LOCK (R427): Locks or unlocks a fence region. -/
  | fenceLock
  /-- CL_DRAIN (R146): Schedules the drain of a cluster at a sample point. -/
  | clDrain
  /-- CL_LOAD (R147): Starts loading a drained cluster's program memory. -/
  | clLoad
  /-- CL_RETURN (R147): Returns a loaded cluster to service at a named sample point. -/
  | clReturn
  /-- CL_GATING (R149): Turns cluster power gating on or off. -/
  | clGating
  /-- READMIT (R137): Re-admits a retired engine, cipher lane or public-key unit after a retest. -/
  | readmit (passed : Bool)
  /-- LANE_SET (R270): Sets rotation enable, period and spare test duty. -/
  | laneSet
  /-- UNIT_QUERY (R391): Returns a public-key unit's status record. -/
  | unitQuery
  /-- DOMAIN_SET (R219): Sets an owner domain's entry at a switch tick. -/
  | domainSet
  /-- EPOCH (R221): Schedules an epoch change of a domain at a switch tick. -/
  | epoch
  /-- JOURNAL_SET (R238): Configures or moves the key-store journal ring. -/
  | journalSet
  /-- SNAPSHOT (R240): Takes a key-store snapshot into host buffers as a long command. -/
  | snapshot
  /-- RELOAD (R241): Reloads the key store from a snapshot and journal as a long command. -/
  | reload
  /-- STORE_EMPTY (R243): Empties the key store and raises STORE_GEN. -/
  | storeEmpty
  /-- CER_OPEN (R234): Opens a component ceremony and returns its public keys and nonce. -/
  | cerOpen
  /-- CER_COMPONENT (R234): Recovers and checks one key component. -/
  | cerComponent
  /-- CER_COMMIT (R234): Combines the components and places the key record. -/
  | cerCommit
  /-- CER_ABORT (R234): Aborts the ceremony and erases its components. -/
  | cerAbort
  /-- PIN_POLICY_SET (R178): Sets the PIN policy block of ceilings and decimalisation tables. -/
  | pinPolicySet
  /-- LIMIT_QUERY (R179): Returns the limiter status record of an index or guard. -/
  | limitQuery
  /-- LIMIT_CLEAR (R179): Ends a lockout, guard trip or suspension at the next sample point. -/
  | limitClear
  /-- DIGEST_DOMWIN (R352): Sets the owner domains allowed for sealed keys in the DG window. -/
  | digestDomwin
  /-- ADMIT_SET (R414): Sets the module-wide admission configuration at a switch tick. -/
  | admitSet
  /-- ACCT_SET (R414): Sets account rates and depths at a switch tick. -/
  | acctSet
  /-- TIME_SET (R414): Sets UTC from the host unless a port holds PTP lock. -/
  | timeSet
  /-- SLICE_BIND (R105): Binds a slice's PASID, domain range and permissions. -/
  | sliceBind
  /-- SLICE_START (R105): Starts a READY slice so its queue pairs fetch and serve. -/
  | sliceStart
  /-- SLICE_RESET (R109): Stops fetching for a slice and applies a drain or squash at the next sample point. -/
  | sliceReset
  /-- SLICE_UNBIND (R106): Unbinds a READY slice and disables its queue pairs. -/
  | sliceUnbind
  /-- QP_SET (R81): Configures, enables or disables a queue pair. -/
  | qpSet
  /-- PORT_SET (R276): Configures a port's role, split and sub-ports and starts training. -/
  | portSet
  /-- SA_SET (R257): Installs a MACsec SA at its switch tick. -/
  | saSet
  /-- SA_REMOVE (R413): Removes a MACsec SA at its switch tick. -/
  | saRemove
  /-- EP_LOAD (R297): Loads an endpoint context after checking its certificate. -/
  | epLoad
  /-- EP_REMOVE (R296): Removes an endpoint, closing its session and discarding its held messages. -/
  | epRemove
  /-- EP_QUERY (R309): Returns an endpoint status record. -/
  | epQuery
  /-- PTP_SET (R310): Sets the PTP domain number. -/
  | ptpSet
  /-- ACCORD_LOAD (R316): Loads or replaces an accord at a switch tick after checking it. -/
  | accordLoad
  /-- ACCORD_REMOVE (R315): Removes an accord at a switch tick. -/
  | accordRemove
  /-- ACCORD_QUERY (R347): Returns an accord statistics record. -/
  | accordQuery
  /-- ROUTE_SET (R337): Loads up to 64 routing entries, each at its own switch tick. -/
  | routeSet
  /-- VERDICT (R343): Applies verdict records to referrals at the next sample point. -/
  | verdict
  /-- AC_CONFIG (R551): Sets the interval close mode and period. -/
  | acConfig
  /-- AC_RATE_LOAD (R549): Fills part of the shadow rate table. -/
  | acRateLoad
  /-- AC_TARIFF_ARM (R549): Makes the shadow rate table pending for a switch tick. -/
  | acTariffArm
  /-- AC_TARIFF_CANCEL (R549): Withdraws the pending tariff switch. -/
  | acTariffCancel
  /-- AC_RING_SET (R553): Names the usage ring for closed-interval records. -/
  | acRingSet
  /-- AC_CLOSE_NOW (R551): Closes the interval at the next sample point. -/
  | acCloseNow
  /-- AC_RHEAD (R561): A usage ring head write frees slots, or is discarded with a notice when outside the ring. -/
  | acRhead (value : Nat)
  /-- INTERVAL_CLOSE (R552): At a MODE 1 or MODE 2 boundary the interval closes and its capture is written as a pinned close checkpoint. -/
  | intervalClose
  /-- TARIFF_SWITCH (R550): At the switch tick the pending rate table becomes active and the interval closes. -/
  | tariffSwitch
  /-- USAGE_STREAM (R553): A closed interval's header and cell records stream to the usage ring, unpinning its checkpoint at the end. -/
  | usageStream (n : Nat)
  /-- CHECKPOINT_START (R555): Every 2^16 ticks a counter checkpoint captures the cells and starts writing into the target copy. -/
  | checkpointStart
  /-- CHECKPOINT_END (R555): The checkpoint header is written and the copy becomes the last completed checkpoint. -/
  | checkpointEnd
  /-- INPUT_LOSS_DETECTED (R557): VIN48 below 40 V for 256 hub cycles starts load shedding, stops grants and drives PWR_GOOD low. -/
  | inputLossDetected
  /-- POWER_FAIL_SAVE (R558): At f+5 the record staging, CLOSE entries and dirty entries are saved to MRAM with the header last. -/
  | powerFailSave
  /-- POWER_FAIL_SAVE_END (R557): The save ends and the module stays off or restarts from stage 1 if the input returned. -/
  | powerFailSaveEnd (back : Bool)
  /-- GP_FORM (R522): Forms a new group, or promotes an ORPHAN deputy to manager. -/
  | gpForm
  /-- GP_ADMIT (R524): Records a candidate's identity digest under a member number. -/
  | gpAdmit
  /-- GP_JOIN (R524): Has a candidate join a group through the flue handshake. -/
  | gpJoin
  /-- GP_REMOVE (R541): Takes a member out of the group and handles its parts as a loss. -/
  | gpRemove
  /-- GP_SPREAD (R532): Marks or unmarks a slice for spreading batches across workers. -/
  | gpSpread
  /-- GP_STATUS (R522): Returns the module's group role, member and identity. -/
  | gpStatus
  /-- GP_DOUBTS (R537): Returns and releases entries in doubt. -/
  | gpDoubts
  /-- GP_RELAY (R526): Relays an inner command with its authority to a worker. -/
  | gpRelay
  /-- JOIN_HELLO (R524): A candidate's JOIN_HELLO is received and the manager answers with JOIN_ACCEPT and a resync. -/
  | joinHello (p k group : Nat) (digest : List Byte) (sigOk restarted : Bool)
  /-- JOIN_ACCEPT (R524): A JOIN_ACCEPT is received, link keys are derived and the candidate becomes JOINING. -/
  | joinAccept (p k : Nat) (h : Machine.GpHead) (digest : List Byte) (sigOk : Bool) (lc rtt : Nat) (full : Bool) (sak : List Byte)
  /-- HEARTBEAT_SEND (R521): Every 2^10 ticks each member sends a HEARTBEAT on each flue link. -/
  | heartbeatSend
  /-- HEARTBEAT (R527): A received HEARTBEAT refreshes contact, P and GP_OFFSET. -/
  | heartbeat (p k : Nat) (h : Machine.GpHead) (echo rtt pool backlog last : Nat)
  /-- CONTROL (R526): A relayed command from the current manager is placed in the worker's mailbox path and run. -/
  | control (p k : Nat) (h : Machine.GpHead) (inner : List Byte) (cls signers : Nat)
  /-- CONTROL_RESP (R526): A worker's relayed response returns as the GP_RELAY response. -/
  | controlResp (p k : Nat) (h : Machine.GpHead) (response : List Byte)
  /-- REPL (R528): A worker applies replicated changes at its next sample point and answers REPL_ACK. -/
  | repl (p k : Nat) (h : Machine.GpHead) (items : List (Nat × Machine.ReplItem))
  /-- REPL_ACK (R528): The manager records a worker's last applied change. -/
  | replAck (p k : Nat) (h : Machine.GpHead) (last : Nat) (wants : List Nat)
  /-- LOCKOUT (R531): A confirmed lockout from another member is applied at the next sample point. -/
  | lockout (p k : Nat) (h : Machine.GpHead) (index until_ : Nat)
  /-- PART_REQ (R532): A worker receives spread batch parts and admits them into its part journal. -/
  | partReq (p k : Nat) (h : Machine.GpHead) (parts : List Machine.PartIn)
  /-- PART_RESULT (R532): The manager receives part records and outputs from a worker. -/
  | partResult (p k : Nat) (h : Machine.GpHead) (results : List Machine.PartOut)
  /-- PART_CANCEL (R536): A worker applies a cancel, drain or squash of spread parts at its next sample point. -/
  | partCancel (p k : Nat) (h : Machine.GpHead) (stops : List Machine.PartStop)
  /-- PART_JOURNAL (R537): A rejoining worker's part journal lets the manager reconcile parts in doubt. -/
  | partJournal (p k : Nat) (h : Machine.GpHead) (entries : List Machine.JPart)
  /-- PROMOTE (R539): A member checks a promotion, accepts the higher MGEN and answers PROMOTE_ACK, or a manager becomes DEPOSED. -/
  | promote (p k : Nat) (h : Machine.GpHead) (f : Machine.Frame) (serial : Nat) (nonce : List Byte)
  /-- PROMOTE_ACK (R539): A promoted deputy counts acknowledgements toward its majority. -/
  | promoteAck (p k : Nat) (h : Machine.GpHead)
  /-- RESYNC_DONE (R524): A member has applied its full or partial resync and becomes LIVE. -/
  | resyncDone (m : Nat)
  /-- MEMBER_LOST (R535): The manager declares a silent or lagging worker lost and reassigns or holds its parts in doubt. -/
  | memberLost (m : Nat)
  /-- PART_WITHDRAW_TIMEOUT (R533): A worker without manager frames for 2^12 ticks withdraws its ungranted parts. -/
  | partWithdrawTimeout
  /-- MANAGER_LOST (R538): A worker without manager frames for 2^16 ticks becomes ORPHAN. -/
  | managerLost
  /-- DOUBT_EXPIRY (R537): An entry in doubt not resolved within 2^32 ticks becomes unresolvable. -/
  | doubtExpiry
  /-- HC_PAIR_STOP (R500): A controller pair stops on mismatch, memory error or fence violation, and the standby takes over or the module becomes headless. -/
  | hcPairStop (pair cause : Nat) (a : Option Access)
  /-- HC_HEARTBEAT_TIMEOUT (R500): The hub watchdog stops a pair after 2^12 ticks without a heartbeat write. -/
  | hcHeartbeatTimeout (pair : Nat)
  /-- TAKEOVER_FIRST_COMMAND (R503): The new active pair issues its first command, ending the gap and answering the held command by the ledger. -/
  | takeoverFirstCommand (gap : Nat)
  /-- PAIR_RESTART_DONE (R506): A stopped pair finishes self-test and image load and enters STANDBY, or enters HELD_OUT on failure. -/
  | pairRestartDone (pair failStep : Nat)
  /-- REVERT_BOUNDARY (R509): At a 2^19 boundary the preferred standby pair takes control back by a planned switch-over. -/
  | revertBoundary
  /-- ROTATION_BOUNDARY (R510): Every 2^35 ticks the preferred pair changes and may take control. -/
  | rotationBoundary
  /-- DECISION_SECOND (R440): After a random delay the decision unit decides again, arming the action or raising DECISION_SPLIT. -/
  | decisionSecond (fault : Bool)
  /-- POWER_GOOD (R442): Every core rail comes into range and the power-on sequence starts. -/
  | powerGood (addr0 addr1 : Bool)
  /-- STAGE1_BELLOWS_LOCKED (R442): The bellows locks and tick strobes run. -/
  | stage1BellowsLocked
  /-- STAGE2_SELFTEST_END (R442): Boot ROM and lockstep self-test end and locked fence regions are loaded. -/
  | stage2SelftestEnd (aOk bOk : Bool)
  /-- STAGE3_LC_RECORD_READ (R439): The life-cycle record is read, an intent resolved and the battery-time events appended. -/
  | stage3LcRecordRead (aOk bOk : Bool)
  /-- STAGE4_ROOT_DERIVED (R202): The PUF is reconstructed, the ember read and the firebox root key derived. -/
  | stage4RootDerived (pufOk : Bool)
  /-- STAGE5_RANDOM_READY (R442): Noise start-up and DRBG tests pass and all instances are instantiated. -/
  | stage5RandomReady (srcOk : List Bool) (katOk : Bool)
  /-- STAGE6_SLOT_DECIDED (R447): The firmware slot is verified, decided twice and started. -/
  | stage6SlotDecided (fault : Bool)
  /-- STAGE7_HBM_READY (R442): HBM is trained, per-boot keys set and tree counters zeroed. -/
  | stage7HbmReady
  /-- STAGE8_UNITS_TESTED (R442): Program store and clusters are loaded and every unit passes its known-answer tests. -/
  | stage8UnitsTested (engs lanes pks clusters : List Nat)
  /-- STAGE9_READY (R442): The key store root is read, calibration and counters restored, the limiter started and READY set. -/
  | stage9Ready
  /-- TAMPER_SAMPLE (R452): Every 500 ticks the monitor samples all sensors and takes a first decision or records an N event when a condition meets its count. -/
  | tamperSample (rs : List SensorReading)
  /-- TAMPER_SECOND_DECISION (R461): After a random delay the comparator decides again and carries out the Z or L response, or records a split. -/
  | tamperSecondDecision (fault : Bool)
  /-- BATTERY_SAMPLE (R451): On battery the monitor samples sensors at crystal-counted periods into the battery-time buffer. -/
  | batterySample (rs : List SensorReading)
  /-- VIBRATION_WAKE (R451): On battery the vibration comparator wakes and samples every 512 periods for 64 samples. -/
  | vibrationWake
  /-- MONITOR_CRYSTAL_PERIOD (R26): While main power is absent each crystal period advances the tick accumulator. -/
  | monitorCrystalPeriod
  /-- CRYSTAL_STOP (R459): A stopped or deviating crystal hands the tick accumulator to the RC oscillator and sets CLOCK_RC. -/
  | crystalStop
  /-- CRYSTAL_RESTORED (R459): After 2^16 ticks within 100 ppm the crystal drives the accumulator again. -/
  | crystalRestored
  /-- CELL_SELECT_CHANGE (R457): The monitor switches its supply between cells or the bridge and records a KIND 11 entry. -/
  | cellSelectChange (cellA cellB detail : Nat)
  /-- SUPPLY_EXHAUSTED (R458): With every supply exhausted the ember is lost and the next start enters ZEROIZED. -/
  | supplyExhausted
  /-- BASELINE_COMPLETE (R454): After 2^20 samples in an unchanged band a baseline is committed or rejected. -/
  | baselineComplete (sensor inst : Nat)
  /-- TM_EVID_SEL (R471): Writing an index loads the evidence entry into TM_EVID_DATA with its result. -/
  | tmEvidSel (value : Nat)
  /-- RECORD_FLUSH (R478): A new record is programmed into the sillage ring within 64 ticks. -/
  | recordFlush (seq : Nat)
  /-- RECORD_CLOSE_TIMEOUT (R480): An open record closes 2^20 ticks after its last occurrence. -/
  | recordCloseTimeout (seq : Nat)
  /-- RECORD_STAGING_ROOM (R483): When staging room returns after drops, one record of reports dropped is created. -/
  | recordStagingRoom
  /-- EV_SNAP_TAKE (R486): TAKE latches the highest SEQ and copies open records for a consistent read. -/
  | evSnapTake
  /-- EV_GO (R486): Starts a read of up to 64 records by SEQ into EV_BUF with status bytes. -/
  | evGo (value : Nat)
  /-- NQ_POP (R488): A 64-bit read removes the highest waiting notice and latches its record fields. -/
  | nqPop
  /-- NQ_WM_REARM (R492): Writing 1 to LATCHED clears the latch and re-arms the watermark. -/
  | nqWmRearm (k : Nat)
  /-- NQ_WM_CFG (R492): Writing a watermark's EN and MARK takes effect in the next hub cycle. -/
  | nqWmCfg (k value : Nat)
  /-- SMBUS_READ_BYTE (R573): Read Byte returns one byte of the health block. -/
  | smbusReadByte (addr cmd : Nat) (pec : Bool)
  /-- SMBUS_READ_WORD (R573): Read Word returns two bytes of one refresh of the health block. -/
  | smbusReadWord (addr cmd : Nat) (pec : Bool)
  /-- SMBUS_BLOCK_READ (R573): Block Read at 0x80 returns the 32-byte health block as one copy. -/
  | smbusBlockRead (addr cmd : Nat) (pec : Bool)
  /-- SMBUS_DATA_WRITE (R573): A write carrying a data byte is not acknowledged and changes nothing. -/
  | smbusDataWrite (addr cmd : Nat)
  /-- SMBUS_CLOCK_STUCK (R574): SMB_CLK held low for 35 ms releases SMB_DAT and resets the port. -/
  | smbusClockStuck
  /-- MB_CMD_SUBMIT (R396): A write of MB_CMD_SUBMIT copies the frame into the hub, sets BUSY and runs the frame grate, refusing a malformed frame or an undefined code with its status. -/
  | mbCmdSubmit (value : Nat)
  /-- TPC_OTHER_TYPE (R293): A TPC datagram whose TYPE is undefined, or is a module-to-endpoint type sent by an endpoint, is dropped in the header pass or answered with a REFUSE carrying GRATE_RANGE. -/
  | tpcOtherType (p k : Nat) (f : List Byte)
  /-- THERMAL_RAIL_REMOVAL (R452): 64 ticks after the LOCKED commit of a 110 °C thermal lock, the power stage removes the engine-die and I/O-die rails. -/
  | thermalRailRemoval
  /-- HOST_LINK_RECOVERY (R238): A host link enters or leaves error recovery or retraining, setting or clearing RECOV and pausing or resuming journal and usage streaming and the host-path bound. -/
  | hostLinkRecovery (l : Nat) (enters : Bool)
  /-- EV_CLEAR_DONE (R487): The erasure of a record clear ends within 2,048 ticks, after which the response is written and the read regime returns to settled. -/
  | evClearDone
  deriving DecidableEq, Repr

end Sys2Proof
end

