-- ==== Sys2Proof/Decode.lean ====
section
/-!
DEFINITION. The command a word spells. The block has no encoding of its own commands: they are register accesses, frames, bus
transactions and events of its units, and spec/opcode_table.json gives its rows no bits. So no word spells a command.
-/
namespace Sys2Proof

/-- The command that the `nbits` bits of `w` spell: none, for every word, since no row of the table gives bits. -/
def decodeTableWord (_nbits _w : Nat) : Option Instr := none

end Sys2Proof
end

