-- ==== Sys2Proof/State/Accords.lean ====
section
/-!
DEFINITION. Accords, the routing table, terminated messages, pending forwards and referrals (R315 to R347).
-/
namespace Sys2Proof.Machine

/-- A field definition (R318). -/
structure FieldDef where
  field  : Nat
  form   : Nat
  enc    : Nat
  lenEnc : Nat
  req    : Bool
  cls    : Nat
  maxLen : Nat
  deriving DecidableEq, Repr

/-- A map (R321). -/
structure AMap where
  kind : Nat
  conv : Nat
  src  : Nat
  dst  : Nat
  len  : Nat
  deriving DecidableEq, Repr

/-- A chain step (R322). -/
structure AStep where
  func   : Nat
  ksrc   : List Nat
  onFail : Nat
  first  : Nat
  n      : Nat
  inLen  : Nat
  deriving DecidableEq, Repr

/-- A build entry (R323). -/
structure ABuild where
  field : Nat
  first : Nat
  n     : Nat
  deriving DecidableEq, Repr

/-- A header entry (R324). -/
structure AHead where
  field : Nat
  src   : Nat
  treat : Nat
  deriving DecidableEq, Repr

/-- An accord (R317). -/
structure Accord where
  num     : Nat := 0
  syn     : Nat := 1
  coding  : Nat := 0
  dir     : Nat := 0
  topReq  : Bool := false
  detok   : Bool := false
  mtiIn   : List Nat := []
  mtiOut  : Nat := 0
  domLo   : Nat := 0
  domN    : Nat := 0
  hdrQp   : Nat := 0
  action  : Nat := 3
  routeDigits : Nat := 0
  routeField : Nat := 0
  routeBase : Nat := 0
  replyLog : Nat := 10
  verdictLog : Nat := 10
  ins     : List FieldDef := []
  outs    : List FieldDef := []
  steps   : List AStep := []
  maps    : List AMap := []
  builds  : List ABuild := []
  heads   : List AHead := []
  consts  : List Nat := []
  deriving DecidableEq, Repr

/-- An accord's statistics (R347). -/
structure AccStat where
  passed    : Nat := 0
  refused   : Nat := 0
  responded : Nat := 0
  forwarded : Nat := 0
  matched   : Nat := 0
  fwdTimeouts : Nat := 0
  late      : Nat := 0
  referred  : Nat := 0
  applied   : Nat := 0
  verdictTimeouts : Nat := 0
  discarded : Nat := 0
  deriving DecidableEq, Repr

/-- A routing entry (R337). -/
structure Route where
  action  : Nat := 0
  flags   : Nat := 0
  waitLog : Nat := 0
  dest    : Nat := 0
  keyA    : Nat := 0
  keyB    : Nat := 0
  label   : List Byte := []
  deriving DecidableEq, Repr

/-- A field of a message: its value in its own encoding, and its length in its units. -/
structure MField where
  field : Nat
  val   : List Byte
  len   : Nat
  deriving DecidableEq, Repr

/-- What a chain step ended with. -/
structure StepRec where
  step   : Nat
  func   : Nat
  status : Nat
  detail : Nat
  out    : List Byte
  pin    : Bool := false
  deriving DecidableEq, Repr

/-- What every header of a message says of it (R334). -/
structure HdrInfo where
  accord : Nat
  ep     : Nat
  seq    : Nat
  ref    : Nat
  domain : Nat
  port   : Nat
  route  : Option Nat
  rxTick : Nat
  mti    : Nat
  qp     : Nat
  elig   : Nat
  deriving DecidableEq, Repr

/-- A pending forward (R339); `gran` is what it still reserves on HDR_QP, `version` the accord version its request is bound to (R315). -/
structure Forward where
  info    : HdrInfo
  note    : Nat
  route   : Option Route
  dest    : Nat
  seq     : Option Nat
  closing : Nat
  effects : Bool
  gran    : Nat := 0
  version : Nat := 0
  deriving DecidableEq, Repr

/-- A terminated message in flight (R315, R328). `granules` are those it still reserves on HDR_QP; `fwd` is, for a REPLY, the
forward it closed; `refId` is the referral that a verdict's build serves, with its verdict and values. -/
structure Msg where
  accord  : Accord
  version : Nat
  info    : HdrInfo
  kind    : Nat
  note    : Nat
  fields  : List MField
  route   : Option Route
  fwd     : Option (Nat × Forward) := none
  results : List StepRec := []
  granules : Nat := 0
  size    : Nat := 0
  refId   : Option Nat := none
  verdict : Nat := 0
  dest    : Nat := 0
  values  : List (Nat × List Byte) := []
  deriving DecidableEq, Repr

/-- A referral (R342). -/
structure Referral where
  msg     : Msg
  status  : Nat
  detail  : Nat
  step    : Option Nat
  effects : Bool
  tick    : Nat
  deriving DecidableEq, Repr

/-- A verdict record that waits for its sample point (R343). -/
structure VerdictRec where
  id     : Nat
  verdict : Nat
  dest   : Nat
  values : List (Nat × List Byte)
  deriving DecidableEq, Repr

/-- Accords by number with their version, armed switches of accords and routes, messages, forwards and referrals. `decided`
are the referrals a verdict closed, `expired` those that timed out; `reserved` counts the places in-flight messages hold. -/
structure AccSt where
  accords  : Tbl (Nat × Accord) := []
  stats    : Tbl AccStat := []
  armed    : List (Nat × Nat × Option Accord) := []
  nextVer  : Nat := 1
  routes   : Tbl Route := []
  routeArmed : List (Nat × Nat × Route) := []
  msgs     : Tbl Msg := []
  nextMsg  : Nat := 1
  forwards : Tbl Forward := []
  nextFwd  : Nat := 1
  referrals : Tbl Referral := []
  nextRef  : Nat := 1
  decided  : List Nat := []
  verdicts : List VerdictRec := []
  deriving DecidableEq, Repr

end Sys2Proof.Machine
end

