-- ==== Sys2Proof/State/Records.lean ====
section
/-!
DEFINITION. The state of the record unit: event records, notices, watermarks and trace (R475 to R499).
-/
namespace Sys2Proof.Machine

/-- An event record (R475). `suspect`, `isOpen` and `progTick` are the record unit's own bookkeeping (R480, R481);
the MAC is computed from the content whenever the record is presented. -/
structure Rec where
  seq      : Nat
  tick     : Nat
  event    : Nat
  sev      : Nat
  coal     : Bool := false
  cont     : Bool := false
  start    : Bool := false
  restored : Bool := false
  rep      : Nat := 0
  unit     : Nat := 0xFFFF
  lastTick : Nat
  argA     : Nat := 0
  argB     : Nat := 0
  argC     : Nat := 0
  suspect  : Nat := 0
  cluster  : Option Nat := none
  isOpen   : Bool := true
  progTick : Option Nat := none
  deriving DecidableEq, Repr

/-- A programmed slot of the sillage ring or of the fixative area (R478); a slot not listed is blank. -/
inductive RecSlot where
  /-- a whole record, and whether its stored MAC verifies -/
  | whole (r : Rec) (macOk : Bool)
  /-- some but not all blank flags set (R484) -/
  | torn
  deriving DecidableEq, Repr

/-- A clear of the record areas between its acceptance and the end of its erasure (R487). -/
structure ClearOp where
  scope   : Nat
  signers : Nat
  tick    : Nat
  began   : Bool
  deriving DecidableEq, Repr

/-- The record unit (R475 to R487, R498). -/
structure RecSt where
  live      : Bool := true
  liveCause : Nat := 1
  nextSeq   : Nat := 0
  oldest    : Nat := 0
  fixFirst  : Nat := 0
  fixCount  : Nat := 0
  clears    : Nat := 0
  clearTick : Nat := 0
  coalCnt   : Nat := 0
  dropped   : Nat := 0
  dropRun   : Nat := 0
  staging   : List Rec := []
  sillage   : Tbl RecSlot := []
  fixative  : Tbl RecSlot := []
  snapValid   : Bool := false
  snapRefused : Bool := false
  snapHigh  : Nat := 0
  snapTick  : Nat := 0
  snapCopy  : List Rec := []
  sel       : Nat := 0
  rdReady   : Bool := false
  rdLive    : Bool := false
  rdSnap    : Bool := false
  returned  : Nat := 0
  rstat     : List Nat := List.replicate 64 0
  buf       : List (List Byte) := List.replicate 64 (List.replicate 64 0)
  clearing  : Option ClearOp := none
  deriving DecidableEq, Repr

/-- A waiting notice: a pointer to its record with the fields NQ_POP shows (R488, R499). -/
structure Notice where
  seq   : Nat
  sev   : Nat
  event : Nat
  unit  : Nat
  tick  : Nat
  argA  : Nat
  deriving DecidableEq, Repr

/-- One watermark (R490 to R492); `last` is the level at the last look, to tell a crossing. -/
structure Wm where
  en      : Bool := false
  mark    : Nat := 0xFFFFFF
  latched : Bool := false
  crossings : Nat := 0
  peak    : Nat := 0
  last    : Nat := 0
  deriving DecidableEq, Repr

/-- The notice queue and its registers (R488, R489, R499). -/
structure NqSt where
  queue  : List Notice := []
  seq    : Nat := 0
  tick   : Nat := 0
  arg    : Nat := 0
  lost   : Bool := false
  nLost  : Nat := 0
  posted : Nat := 0
  wms    : List Wm := List.replicate 16 {}
  deriving DecidableEq, Repr

/-- A trace packet (R493). -/
structure Packet where
  type   : Nat
  source : Nat
  code   : Nat
  tickLo : Nat
  data   : Nat
  deriving DecidableEq, Repr

/-- The trace unit (R493 to R496, R498); packet n lies in slot n mod 6,144. -/
structure TraceSt where
  isOpen  : Bool := false
  dev     : Bool := false
  groups  : Nat := 0
  openTick : Nat := 0
  endTick : Nat := 0
  write   : Nat := 0
  read    : Nat := 0
  lost    : Nat := 0
  buf     : Tbl Packet := []
  deriving DecidableEq, Repr

end Sys2Proof.Machine
end

