-- ==== Sys2Proof/State/Account.lean ====
section
/-!
DEFINITION. Usage accounting: cells, rate tables, intervals, closes, the usage ring, checkpoints, the dirty set, saves (R547 to
R561).
-/
namespace Sys2Proof.Machine

/-- A cell (R547). -/
structure Cell where
  ops      : Nat := 0
  cu       : Nat := 0
  bytes    : Nat := 0
  interval : Nat := 0
  tariff   : Nat := 0
  deriving DecidableEq, Repr

/-- A closed interval with its capture (R552, R553). -/
structure Close where
  interval : Nat
  cause    : Nat
  deferred : Bool := false
  utcBad   : Bool := false
  restored : Bool := false
  first    : Nat
  last     : Nat
  utcStart : Nat
  utcEnd   : Nat
  cells    : Tbl Cell
  deriving DecidableEq, Repr

/-- A completed checkpoint copy (R555); a close checkpoint names its close. -/
structure Ckpt where
  tick     : Nat
  interval : Nat
  close    : Option Close := none
  cells    : Tbl Cell
  deriving DecidableEq, Repr

/-- A checkpoint being written: the target copy, its capture, the tick it began (R555). -/
structure CkptRun where
  copy  : Nat
  ckpt  : Ckpt
  since : Nat
  deriving DecidableEq, Repr

/-- The usage ring (R553). -/
structure URing where
  base  : Nat
  log   : Nat
  link  : Nat
  pasid : Option Nat
  deriving DecidableEq, Repr

/-- A power-fail save (R558). -/
structure Save where
  seq      : Nat
  tick     : Nat
  interval : Nat
  staging  : List Rec
  held     : Option Close
  close    : Tbl Cell
  dirty    : Tbl Cell
  deriving DecidableEq, Repr

/-- Accounting. `streamed` counts the records of the pinned close already written, `pinned` says which copy holds it; `dirty`
names the cells changed since the last completed checkpoint, `closeDirty` the CLOSE entries with their values. `rates` and
`shadow` read 0xFF where nothing is listed. `waits` says that a checkpoint waits for the stream to end (R552). `closedUtc` is the last boundary closed under MODE 2, `tariffAt` the tick of the last
tariff switch. -/
structure AcSt where
  mode     : Nat := 0
  intLog   : Nat := 0
  intSec   : Nat := 0
  cells    : Tbl Cell := []
  rates    : Tbl Nat := []
  shadow   : Tbl Nat := []
  pending  : Option (Nat × Tbl Nat) := none
  rated    : Bool := false
  interval : Nat := 0
  intStart : Nat := 0
  utcStart : Nat := 0
  utcOk    : Bool := false
  closedUtc : Nat := 0
  closeNow : Bool := false
  due      : Option Nat := none
  pinned   : Option Nat := none
  streamed : Nat := 0
  held     : Option Close := none
  copyA    : Option Ckpt := none
  copyB    : Option Ckpt := none
  lastCopy : Nat := 1
  run      : Option CkptRun := none
  ckptTick : Nat := 0
  dirty    : List Nat := []
  closeDirty : Tbl Cell := []
  ring     : Option URing := none
  rhead    : Nat := 0
  wpos     : Nat := 0
  ringFull : Bool := false
  rseq     : Nat := 0
  heldCnt  : Nat := 0
  forced   : Nat := 0
  holdNoted : Bool := false
  waits    : Bool := false
  tariffAt : Option Nat := none
  lossTick : Option Nat := none
  saving   : Option Nat := none
  saveA    : Option Save := none
  saveB    : Option Save := none
  saveSeq  : Nat := 0
  deriving DecidableEq, Repr

end Sys2Proof.Machine
end

