-- ==== Sys2Proof/State/Digest.lean ====
section
/-!
DEFINITION. The digest units and the random-number chain (R349 to R375).
-/
namespace Sys2Proof.Machine

/-- What a unit in BUSY waits for: a block in compression, the final block, or a sealed key (R356 to R358, R362). `start` is what the
tests of R358 found at START: a status, or the key's material. -/
inductive DgWait where
  | block (octets : List Byte)
  | final (octets : List Byte)
  | key (alg : Nat) (start : Nat ⊕ List Byte)
  deriving DecidableEq, Repr

/-- A digest unit (R350 to R362). `chain` is the chaining value, `outer` that of the outer pass of a sealed message; `buf` the
octets of the unfinished block; `handle` and `dom` what DG_KEY and DG_DOMAIN held at START. -/
structure DgUnit where
  claimed : Bool := false
  pend    : Bool := false
  wait    : Option DgWait := none
  active  : Bool := false
  done    : Bool := false
  saved   : Bool := false
  keyed   : Bool := false
  alg     : Nat := 0
  status  : Nat := 0
  key     : Nat := 0
  domain  : Nat := 0
  handle  : Nat := 0
  dom     : Nat := 0
  chain   : List Byte := []
  outer   : List Byte := []
  buf     : List Byte := []
  last    : List Byte := []
  count   : Nat := 0
  out     : List Byte := []
  regs    : List Byte := []
  deriving DecidableEq, Repr

/-- The digest units, the global registers, and the nonce counter of CTX-WRAP with whether its key stands (R352, R360). -/
structure DgSt where
  units   : Tbl DgUnit := []
  refused : Bool := false
  domLo   : Nat := 0
  domN    : Nat := 0
  bytes   : Nat := 0
  nonce   : Nat := 0
  wrap    : Bool := false
  deriving DecidableEq, Repr

/-- A noise source (R366, R371 to R375). STATE: 0 ENABLED, 1 DISABLED, 2 RETEST, 3 OFF. -/
structure Noise where
  state : Nat := 0
  bias  : Bool := false
  corr  : Bool := false
  cause : Nat := 0
  ones  : Nat := 0
  agree : Nat := 0
  fails : Nat := 0
  failTicks : List Nat := []
  deriving DecidableEq, Repr

/-- A DRBG instance (R368, R369); `pers` is the personalisation string it was instantiated with. -/
structure Drbg where
  pers  : List Byte := []
  calls : Nat := 0
  pend  : Bool := false
  limit : Bool := false
  deriving DecidableEq, Repr

/-- The random chain: pool, host reserve, sources, instances, the RN window, and the host instance's buffer as 64-bit words.
`noneSince` is the tick from which no source has been enabled. -/
structure RnSt where
  blocks  : Nat := 0
  reserve : Nat := 2
  src     : Tbl Noise := []
  inst    : Tbl Drbg := []
  underrun : Bool := false
  low     : Bool := false
  ready   : Bool := false
  nUnderrun : Nat := 0
  stretch : Nat := 0
  reseeds : Nat := 0
  sel     : Nat := 0
  buf     : List Nat := []
  noneSince : Option Nat := none
  deriving DecidableEq, Repr

end Sys2Proof.Machine
end

