-- ==== Sys2Proof/State/Firebox.lean ====
section
/-!
DEFINITION. The state of the firebox monitor (R451 to R474), of the input supply and of the board pins (R563 to R578).
-/
namespace Sys2Proof.Machine

/-- An evidence entry (R467, R468). The MAC is computed from the content. -/
structure Evid where
  seq    : Nat
  tick   : Nat
  utc    : Nat
  kind   : Nat
  cls    : Nat
  source : Nat
  lc     : Nat
  batt   : Bool := false
  split  : Bool := false
  ring   : Bool := false
  cons   : Bool := false
  band   : Nat := 0
  valA   : Nat := 0
  valB   : Nat := 0
  detail : Nat := 0
  deriving DecidableEq, Repr

/-- A slot of the evidence log that is not blank (R469, R471). -/
inductive EvidSlot where
  | whole (e : Evid) (macOk : Bool)
  | torn
  deriving DecidableEq, Repr

/-- How one condition of R452 stands on one sensor instance. -/
structure CondRun where
  hold   : Nat := 0
  clear  : Nat := 0
  active : Bool := false
  deriving DecidableEq, Repr

/-- One sensor instance as the monitor last saw it (R451, R455, R474); readings are integers in the unit of the
sensor's summary field. `faulty`: a sensor fault that is not clear, `clear` the samples without one since. -/
structure SensorSt where
  reading : Int := 0
  same    : Nat := 0
  faultRun : Nat := 0
  clear    : Nat := 0
  faulty  : Bool := false
  seen    : Bool := false
  deriving DecidableEq, Repr

/-- What a sample met: a class, its source, the latched sample, and what the evidence entry carries (R452, R455, R461). -/
structure Hit where
  cls     : Nat
  sensor  : Nat
  inst    : Nat
  reading : Int
  good    : Bool
  idx     : Nat
  thr     : Int
  need    : Nat
  fault   : Bool
  deriving DecidableEq, Repr

/-- A first decision that waits for its second: what was latched, under which band and supply, and when the second is due (R461). -/
structure TamperDec where
  hit  : Hit
  band : Nat
  main : Bool
  due  : Nat
  deriving DecidableEq, Repr

/-- A battery-time event (R460). -/
structure BattEvt where
  tick   : Nat
  cls    : Nat
  kind   : Nat
  source : Nat
  valA   : Nat
  valB   : Nat
  detail : Nat
  deriving DecidableEq, Repr

/-- A baseline collection in the band in force (R454). -/
structure Collect where
  count : Nat := 0
  sum   : Int := 0
  deriving DecidableEq, Repr

/-- The firebox monitor (R451 to R474). `blankHit` says that an append skipped a slot: its lock-class event is due (R469). `rcSince` is the
tick the clock went to its RC oscillator (R459), `shown` the summary registers as vector 2 last knew them (R399). -/
structure TmSt where
  arm      : Nat := 1
  pending  : Option TamperDec := none
  ember    : Bool := true
  emberVal : Nat := 0
  clockRc  : Bool := false
  rcSince  : Nat := 0
  battEvents : Bool := false
  lastClass : Nat := 0
  lastSource : Nat := 0
  lastInst : Nat := 0
  lastSplit : Bool := false
  lastTick : Nat := 0
  nCount   : Nat := 0
  lCount   : Nat := 0
  zCount   : Nat := 0
  splits   : Nat := 0
  selB     : Bool := false
  bridgeSel : Bool := false
  battTicks : Nat := 0
  sensorSel : Nat := 0
  conds    : Tbl CondRun := []
  sensors  : Tbl SensorSt := []
  baselines : Tbl Int := []
  collects : Tbl Collect := []
  bandSince : Nat := 0
  thermalLock : Bool := false
  railsDue : Option Nat := none
  railsOff : Bool := false
  grantStop : Bool := false
  exitStop : Bool := false
  evid     : Tbl EvidSlot := []
  evidNext : Nat := 0
  append   : Nat := 0
  full     : Bool := false
  torn     : Bool := false
  blankHit : Bool := false
  ringCount : Nat := 0
  ring     : Tbl EvidSlot := []
  evidSel  : Nat := 0
  evidReady : Bool := false
  evidResult : Nat := 0
  evidData : List Byte := List.replicate 64 0
  battBuf  : List BattEvt := []
  battLost : Nat := 0
  lSeen    : Bool := false
  emberLost : Bool := false
  accFrac  : Nat := 0
  wakeLeft : Nat := 0
  eraseBarred : Bool := true
  shown    : Option (List Nat) := none
  deriving DecidableEq, Repr

/-- The board's pins and the supply (R563 to R574). `pwrGood` says that PWR_GOOD is released, `healthAlert` that HEALTH_ALERT# is
low; the straps are read at power-good; `smbFresh` is the health block as last refreshed, `smbCmd` the register the port last
selected. PERST# stands with the host links. -/
structure PinSt where
  pwrGood   : Bool := false
  smbAddr0  : Bool := false
  smbAddr1  : Bool := false
  healthAlert : Bool := false
  mainPower : Bool := false
  shedding  : Bool := false
  smbCmd    : Nat := 0
  smbFresh  : List Byte := List.replicate 32 0
  deriving DecidableEq, Repr

end Sys2Proof.Machine
end

