-- ==== Sys2Proof/State/Host.lean ====
section
/-!
DEFINITION. The host links, the queue pairs and the slices (R75 to R117).
-/
namespace Sys2Proof.Machine

/-- A host link (R75, R80, R238). `bme` is Bus Master Enable of its PF1 instance (log entry 33). -/
structure HostLink where
  up     : Bool := false
  recov  : Bool := false
  width  : Nat := 0
  speed  : Nat := 0
  corr   : Nat := 0
  uncorr : Nat := 0
  perst  : Bool := true
  bme    : Bool := true
  deriving DecidableEq, Repr

/-- An entry of a function's MSI-X table in BAR4 with its pending bit: message address and data, mask (R76). -/
structure MsixEntry where
  addr    : Nat := 0
  data    : Nat := 0
  masked  : Bool := false
  pending : Bool := false
  deriving DecidableEq, Repr

/-- A fetch read outstanding: the SEQ of its first entry, how many, and the tick of issue (R86, R77). -/
structure FetchRead where
  seq   : Nat
  n     : Nat
  issued : Nat
  deriving DecidableEq, Repr

/-- A cancel held (R103): `fetched` says it waits for a sample point and not for a fetch. -/
structure Cancel where
  seq  : Nat
  ctag : Nat
  tick : Nat
  deriving DecidableEq, Repr

/-- A queue pair (R81 to R98). `fetched`, `written` and `head` count entries and granules since the queue pair was enabled
or reset; a ring index is the count modulo the ring's size. STATE: 0 DISABLED, 1 ENABLED, 2 ERROR, 3 LINKDOWN. -/
structure Qp where
  sqBase  : Nat := 0
  cqBase  : Nat := 0
  sqLog   : Nat := 0
  cqLog   : Nat := 0
  en      : Bool := false
  top     : Bool := false
  link    : Nat := 0
  roData  : Bool := false
  slice   : Nat := 0
  vector  : Nat := 0
  topSlots : Nat := 0
  cqWait  : Nat := 0
  cqThresh : Nat := 0
  state   : Nat := 0
  cause   : Nat := 0
  inflight : Nat := 0
  tail    : Nat := 0
  announced : Nat := 0
  fetched : Nat := 0
  written : Nat := 0
  head    : Nat := 0
  entries : List Nat := []
  fetch   : Option FetchRead := none
  failRun : Nat := 0
  badTails : List Nat := []
  discarded : Nat := 0
  cancels : List Cancel := []
  ovf     : Bool := false
  miss    : Nat := 0
  unsig   : Nat := 0
  unsigSince : Nat := 0
  noticed : Option Nat := none
  lostFirst : Option Nat := none
  deriving DecidableEq, Repr

/-- A slice (R105 to R112). `flushAt` are the flush reads outstanding: link and tick of issue. STATE: 0 UNBOUND, 1 READY, 2 RUNNING, 3 DRAINING, 4 SQUASHING. -/
structure Slice where
  state   : Nat := 0
  flushTmo : Bool := false
  pv      : Bool := false
  pasid   : Nat := 0
  domN    : Nat := 0
  domLo   : Nat := 0
  detok   : Bool := false
  group   : Nat := 0
  spoof   : Nat := 0
  resetTick : Nat := 0
  resetAt : Option Nat := none
  applied : Bool := false
  flushing : Bool := false
  flushAt : List (Nat × Nat) := []
  discards : Nat := 0
  spoofNoticed : Option Nat := none
  deriving DecidableEq, Repr

/-- A host read outstanding whose request has ended: what asked for it, its slice, its link, the tick of its issue (R77, R112). -/
structure Orphan where
  work  : Nat
  part  : Option (Nat × Nat) := none
  slice : Nat
  link  : Nat
  since : Nat
  reads : Nat := 1
  deriving DecidableEq, Repr

/-- The host path. `shared` counts the shared fetch slots in use on each link (R60, R86); `late` the completions of reads
that had timed out (R77). -/
structure HostSt where
  link0  : HostLink := {}
  link1  : HostLink := {}
  qps    : Tbl Qp := []
  slices : Tbl Slice := []
  late   : Nat := 0
  rrQp   : Nat := 0
  timedOut : Nat := 0
  orphans : List Orphan := []
  msix   : Tbl MsixEntry := []
  deriving DecidableEq, Repr

end Sys2Proof.Machine
end

