-- ==== Sys2Proof/State/Ports.lean ====
section
/-!
DEFINITION. The cipher lanes, the MACsec associations, the ports and their links, the endpoints, the resume store, PTP
(R248 to R313).
-/
namespace Sys2Proof.Machine

/-- A cipher lane (R249, R271). STATE: 0 IN_SERVICE, 1 SPARE, 2 QUARANTINED, 3 RETEST, 4 RETIRED, 5 HANDOVER. `since` is the
tick from which the lane has held its slot or been a spare; `faults` the ticks of its faults; `occ` the lane cycles of its replay set
(R259). -/
structure Lane where
  state   : Nat := 0
  stTick  : Nat := 0
  slot    : Option Nat := none
  since   : Nat := 0
  readmit : Bool := false
  back    : Bool := false
  faults  : List Nat := []
  lastFault : Nat := 0
  inBytes : Nat := 0
  outBytes : Nat := 0
  units   : Nat := 0
  mismatch : Nat := 0
  icvFail : Nat := 0
  lenDrop : Nat := 0
  replays : Nat := 0
  holdPeak : Nat := 0
  rotations : Nat := 0
  peak    : Nat := 0
  occ     : Nat := 0
  katOk   : Bool := false
  passes  : Nat := 0
  deriving DecidableEq, Repr

/-- A replay under way (R261, R263, R268): the faulty lane, its slot, the lane that runs its set, and whether that is the
reserved spare of a handover. -/
structure LaneReplay where
  lane : Nat
  slot : Nat
  runs : Nat
  reserved : Bool
  deriving DecidableEq, Repr

/-- A handover (R267): outgoing lane, reserved spare, the slot, and the tick its replay set emptied. -/
structure Handover where
  die      : Nat
  out      : Nat
  reserve  : Nat
  slot     : Nat
  emptied  : Option Nat
  deriving DecidableEq, Repr

/-- A MACsec association (R256, R257). `low` is the lowest acceptable PN of a receive SA. -/
structure Sa where
  dir     : Nat
  suite   : Nat
  an      : Nat
  flags   : Nat
  port    : Nat
  subport : Nat
  sak     : Nat
  ssci    : Nat
  sci     : Nat
  salt    : List Byte
  window  : Nat
  nextPn  : Nat
  low     : Nat
  tick    : Nat
  near    : Bool := false
  deriving DecidableEq, Repr

/-- An SA removal waiting for its tick: port, sub-port, direction, AN, SCI, tick (R413). -/
structure SaGone where
  port    : Nat
  subport : Nat
  dir     : Nat
  an      : Nat
  sci     : Nat
  tick    : Nat
  deriving DecidableEq, Repr

/-- The lane supervisor: lanes, replays, handovers, slots that lanes take at the next sample point, the settings of R270, and
the SA table. `rotTick` is, per die, the tick of its last rotation start. -/
structure LaneSt where
  lanes    : Tbl Lane := []
  replays  : List LaneReplay := []
  hands    : List Handover := []
  slotDue  : List (Nat × Nat) := []
  rotEn    : Bool := true
  rotLog   : Nat := 22
  duty     : Nat := 1
  rotTick  : Tbl Nat := []
  sas      : List Sa := []
  saArmed  : List Sa := []
  saGone   : List SaGone := []
  deriving DecidableEq, Repr

/-- A sub-port's Ethernet link (R280, R283, R284). `training` holds the start of a full training under way; `fresh` says that
the port has not come up since its training began. -/
structure Lnk where
  up       : Bool := false
  held     : Bool := false
  training : Option Nat := none
  fresh    : Bool := false
  since    : Nat := 0
  downs    : List Nat := []
  remote   : Bool := false
  fecTicks : List Nat := []
  deriving DecidableEq, Repr

/-- A sub-port's addresses (R276). -/
structure SubAddr where
  mac  : List Byte
  vlan : Nat
  ip4  : List Byte
  ip6  : List Byte
  deriving DecidableEq, Repr

/-- The event counters of a port (R313). -/
structure PortCnt where
  rxDropFull : Nat := 0
  txDrop   : Nat := 0
  ctrlDrop : Nat := 0
  otherDrop : Nat := 0
  noSectag : Nat := 0
  unknownSa : Nat := 0
  macReplay : Nat := 0
  hdrDrop  : Nat := 0
  noSession : Nat := 0
  tpcReplay : Nat := 0
  tpcRefuse : Nat := 0
  hsOk     : Nat := 0
  hsFail   : Nat := 0
  fecUncorr : Nat := 0
  linkDowns : Nat := 0
  resumeDiscard : Nat := 0
  deriving DecidableEq, Repr

/-- A port's PTP input (R310, R311): the chosen master with its data set and its announce interval in ticks, the last Sync or Announce, the
exchange under way, the run of offsets out of range, the run of equal origin timestamps, the ns the master's time scale is ahead of UTC,
the correction of a two-step Sync, and the transport (0 Ethernet, 4 and 6 UDP) and sub-port of its Syncs. -/
structure PtpIn where
  lock     : Bool := false
  master   : Option (List Byte) := none
  quality  : List Nat := []
  interval : Nat := 0
  heard    : Nat := 0
  t1       : Option Int := none
  t2       : Option Int := none
  followUp : Bool := false
  seq      : Nat := 0
  exTick   : Nat := 0
  outRun   : List Int := []
  origin   : Option Int := none
  same     : Nat := 0
  utcOff   : Int := 0
  corr     : Int := 0
  via      : Nat := 0
  sub      : Nat := 0
  first    : Bool := true
  reject   : Nat := 0
  offset   : Int := 0
  deriving DecidableEq, Repr

/-- A message for an endpoint (R291, R304, R305): `port` is the port of its request, `since` the tick it was held, `pin` the
function and program version of a PIN-tagged value it carries (R421). -/
structure OutMsg where
  ep      : Nat
  type    : Nat
  note    : Nat
  accord  : Nat
  ref     : Nat
  echo    : Nat
  payload : List Byte
  port    : Nat
  fwd     : Option Nat := none
  since   : Nat := 0
  pin     : Option (Nat × Nat) := none
  deriving DecidableEq, Repr

/-- A frame in a port's egress buffer (R34, R260, R304): sub-port, octets on the wire, the beat, the message it carries, and whether that
is a response in top note. -/
structure EgItem where
  sub  : Nat
  size : Nat
  beat : Output
  msg  : Option OutMsg := none
  top  : Bool := false
  deriving DecidableEq, Repr

/-- A frame in a port's ingress buffer (R34, R285): sub-port, source of a datagram, octets, the length of the frame on the wire, and the tick of
its last octet. `tpc`
tells a datagram from a MACsec frame. -/
structure InFrame where
  sub  : Nat
  tpc  : Bool
  src  : List Byte
  data : List Byte
  size : Nat
  tick : Nat
  deriving DecidableEq, Repr

/-- A port (R274 to R286, R312). STATE: 0 OFF, 1 CONFIG, 2 TRAINING, 3 UP, 4 DOWN, 5 HELD_DOWN, 6 FAILED. `cal` has bit b
for the settings stored for band b; `inq` is what the ingress buffer holds, `egq` what waits in the egress buffer, in the order it leaves,
`egFill` what is left of the frame on the line, and `egUsed` the octets sent since the last sample point. -/
structure Port where
  state    : Nat := 0
  role     : Nat := 0
  split    : Nat := 0
  partner  : Nat := 0
  cause    : Nat := 0
  owner    : Nat := 0
  udpPort  : Nat := 0
  signKey  : Nat := 0
  idleLog  : Nat := 0
  auto     : Bool := false
  ptpPri   : Bool := false
  ptpSec   : Bool := false
  hsRate   : Nat := 0
  subs     : List SubAddr := []
  links    : List Lnk := []
  band     : Nat := 0
  sdCons   : Bool := false
  pend     : Bool := false
  cal      : Nat := 0
  stTick   : Nat := 0
  trainTick : Nat := 0
  rxBytes  : Nat := 0
  txBytes  : Nat := 0
  rxFrames : Nat := 0
  txFrames : Nat := 0
  cnt      : PortCnt := {}
  hsWindow : Nat := 0
  hsCount  : Nat := 0
  ptp      : PtpIn := {}
  corr     : List Nat := []
  inq      : List InFrame := []
  egq      : List EgItem := []
  egFill   : Nat := 0
  egUsed   : Nat := 0
  deriving DecidableEq, Repr

/-- The keys and counters of one session (R292, R294, R300). `map` has bit j for SEQ H − j; `sign` is the handle of the SIGN_KEY that
signed its ACCEPT (R303). -/
structure KeySet where
  phase   : Nat
  kem     : List Byte
  kme     : List Byte
  sem     : List Byte
  sme     : List Byte
  high    : Nat := 0
  map     : Nat := 0
  txNext  : Nat := 1
  estTick : Nat := 0
  near    : Bool := false
  sign    : Nat := 0
  deriving DecidableEq, Repr

/-- A handshake under way (R301): HELLO header and payload, where it came from, the signing key as it was read at the grant (R31), and the
tick in which the public-key work ended. -/
structure Hello where
  header  : List Byte
  payload : List Byte
  port    : Nat
  subport : Nat
  src     : List Byte
  sign    : KeyRead := {}
  done    : Option Nat := none
  deriving DecidableEq, Repr

/-- A loaded endpoint (R296 to R303). `cur` is the set in use, `next` the one that awaits its first message; `src` is the
Ethernet, IP and UDP source of its last verified message; `back` the state an acceptance that lapses returns to. -/
structure Ep where
  domain  : Nat
  topOk   : Bool
  baseOk  : Bool
  alg     : Nat
  anchor  : Nat
  mask    : Nat
  spki    : List Byte
  notAfter : Nat
  state   : Nat := 1
  cur     : Option KeySet := none
  next    : Option KeySet := none
  phase   : Nat := 1
  port    : Nat := 0
  subport : Nat := 0
  src     : List Byte := []
  nextSrc : Option (Nat × Nat × List Byte) := none
  lastRx  : Nat := 0
  helloSeq : Option Nat := none
  dormantAt : Nat := 0
  acceptAt : Nat := 0
  back    : Nat := 1
  hello   : Option Hello := none
  deriving DecidableEq, Repr

/-- The ports, the endpoints, the messages ready for the egress assembler and those held, and the PTP domain. `source` is the
port UTC comes from; `bandSeen` the band the ports last answered, `serdesAt` and `serdesLane` the change of settings under way (R281);
`staging` the credits of 256 octets in use in the terminated-message staging: die × 2, plus 1 for those reserved to top note (R34, R60); `hubUsed` those each die's hub link has moved since
the last sample point (R21); `stopped` says that no lane takes a new frame, as of the last sample point (R270). -/
structure PortSt where
  ports   : Tbl Port := []
  eps     : Tbl Ep := []
  ready   : Tbl OutMsg := []
  nextOut : Nat := 1
  held    : List OutMsg := []
  ptpDomain : Nat := 0
  source  : Option Nat := none
  bandSeen : Nat := 0
  serdesAt : Option Nat := none
  serdesLane : Nat := 0
  staging  : Tbl Nat := []
  hubUsed  : Tbl Nat := []
  stopped  : Bool := false
  deriving DecidableEq, Repr

end Sys2Proof.Machine
end

