-- ==== Sys2Proof/State/Tick.lean ====
section
/-!
DEFINITION. Tick, notes and admission: accounts, the admission configuration, load bands, cost calibration, UTC,
housekeeping (R39 to R74).
-/
namespace Sys2Proof.Machine

/-- An account's budgets, in CU (R46, R47). -/
structure Acct where
  topRate   : Nat := 0
  topDepth  : Nat := 0
  topAllow  : Nat := 0
  baseRate  : Nat := 0
  baseDepth : Nat := 0
  baseAllow : Nat := 0
  deriving DecidableEq, Repr

/-- The module-wide admission configuration (R48, R74). -/
structure AdmCfg where
  tTop : Nat := 0
  lend : Bool := true
  heartLimit : Nat := 16
  ageWait : Nat := 512
  topHbm : Nat := 4
  pinLimit : Nat := 16384
  deriving DecidableEq, Repr

/-- An armed change of accounts: account, top rate and depth, base rate and depth (R31, R414). -/
structure AcctChange where
  acct : Nat
  topRate : Nat
  topDepth : Nat
  baseRate : Nat
  baseDepth : Nat
  deriving DecidableEq, Repr

/-- A cost entry's calibration in one band: samples and committed values (R66, R67). `cycles` are issue cycles of one engine,
`waits` exposed fetch waits per miss in whole CU, rounded up; both rise. -/
structure Cal where
  cycles : List Nat := []
  waits  : List Nat := []
  stepCu : Option Nat := none
  fetch  : Option Nat := none
  deriving DecidableEq, Repr

/-- A housekeeping task (R59). KIND: 0 DRBG reseed, 1 scrub, 2 record flush, 3 twin retest; `arg` names the instance, record
or engine; `window` is its deadline window. -/
structure HkTask where
  kind  : Nat
  arg   : Nat
  since : Nat
  window : Nat
  cu    : Nat
  deriving DecidableEq, Repr

/-- The TK window and the dispatcher (R39 to R74). `samples` are the last 256 valid products in µW, newest first; `shValid`, `shSrc`
and `shPort` are TK_UTC_STAT as last updated; `calSeen` are the bands that have had a sample, `calDue` the entries to commit at the
next sample point (function × 4 + band), `calOld` the values of versions that a rollout replaces (R148), `calVend` the vendor image
the entries belong to; `lastAcct` is the account served last at the previous sample point, `servedAcct` at this;
`flushCu` is what record flushes took since the last sample point (R59). -/
structure TickSt where
  countHi  : Nat := 0
  utcSec   : Nat := 0
  utcNs    : Nat := 0
  utcTick  : Nat := 0
  utcValid : Bool := false
  utcSrc   : Nat := 0
  utcPort  : Nat := 0
  shValid  : Bool := false
  shSrc    : Nat := 0
  shPort   : Nat := 0
  refNs    : Option Int := none
  refTick  : Nat := 0
  corrTick : Nat := 0
  cfg      : AdmCfg := {}
  cfgArmed : List (Nat × AdmCfg) := []
  acctArmed : List (Nat × List AcctChange) := []
  accts    : Tbl Acct := []
  band     : Nat := 0
  powerW   : Nat := 0
  pwrFault : Bool := false
  cons     : Bool := true
  samples  : List Int := []
  validRun : Nat := 0
  lastV    : Int := 0
  lastI    : Int := 0
  sameRun  : Nat := 0
  sampleTick : Nat := 0
  bandTick : Nat := 0
  bandChanges : Nat := 0
  cal      : Tbl Cal := []
  calSeen  : List Nat := []
  calDue   : List Nat := []
  calOld   : Tbl Cal := []
  calVend  : Nat := 0
  nServed  : Nat := 0
  nDelayed : Nat := 0
  nDemoted : Nat := 0
  nAged    : Nat := 0
  nRefused : Nat := 0
  nCancelled : Nat := 0
  nCancelLate : Nat := 0
  nOverdue : Nat := 0
  grantTick : Nat := 0
  grantTop : Nat := 0
  grantHeart : Nat := 0
  grantBase : Nat := 0
  hkOverdue : Bool := false
  hkCu     : Nat := 0
  acctSel  : Nat := 0
  costSel  : Nat := 0
  costBand : Nat := 3
  lastAcct : Nat := 0
  servedAcct : Nat := 0
  tasks    : List HkTask := []
  flushCu  : Nat := 0
  pool     : Nat := 81185
  lowPool  : Bool := false
  deriving DecidableEq, Repr

end Sys2Proof.Machine
end

