-- ==== Sys2Proof/State/Units.lean ====
section
/-!
DEFINITION. The public-key units (R377 to R391).
-/
namespace Sys2Proof.Machine

/-- One evaluation of a signature by the quorum gate in context 0 of a unit (R378, R410): unit steps in all and still to run, the tick
its next step is due from, and the unit on which a check of it failed before (R390). -/
structure PkCtl where
  total : Nat
  left  : Nat
  from_ : Nat
  first : Option Nat := none
  deriving DecidableEq, Repr

/-- A public-key unit. Its contexts are what the requests say: a request names the unit and context it holds. `ran` is the
tick of its last step, `last` the context of that step. -/
structure PkUnit where
  retired : Bool := false
  readmit : Bool := false
  scores  : List Nat := []
  retireDue : Bool := false
  steps   : Nat := 0
  checkFail : Nat := 0
  restarts : Nat := 0
  lastFail : Nat := 0
  last    : Nat := 0
  ran     : Option Nat := none
  ctl     : List PkCtl := []
  deriving DecidableEq, Repr

/-- The units. -/
structure PkSt where
  units : Tbl PkUnit := []
  deriving DecidableEq, Repr

end Sys2Proof.Machine
end

