-- ==== Sys2Proof/Machine/State.lean ====
section
/-!
DEFINITION. The state of the block, the outcomes that are no next state, and reset.
-/
namespace Sys2Proof.Machine

/-- Why the model stops: no rule of the spec stops the block, so there is no fault. -/
inductive Fault where
  deriving DecidableEq, Repr

/-- Why a command has no outcome. -/
inductive Refusal where
  /-- The command has no meaning in the model yet; raised by `exec` alone. Safe. -/
  | notModelled (mnemonic : String)
  deriving DecidableEq, Repr

/-- The whole block. `out` is newest first; `freeCtr` is the model's own counter of free values (log entry 1). -/
structure State where
  tick : Nat := 0
  out : List Output := []
  freeCtr : Nat := 0
  rc : RecSt := {}
  nq : NqSt := {}
  tr : TraceSt := {}
  mb : MbSt := {}
  prov : ProvSt := {}
  fn : FenceSt := {}
  lc : LcSt := {}
  hc : HcSt := {}
  tm : TmSt := {}
  pin : PinSt := {}
  wk : WorkSt := {}
  hl : HostSt := {}
  tk : TickSt := {}
  en : EngSt := {}
  lim : LimSt := {}
  ac : AcSt := {}
  ks : KsSt := {}
  pk : PkSt := {}
  ln : LaneSt := {}
  pt : PortSt := {}
  ad : AccSt := {}
  dg : DgSt := {}
  rn : RnSt := {}
  gp : GpSt := {}
  exitHeld : List Output := []
  pending : List Instr := []
  deriving DecidableEq, Repr

/-- The machine right after reset. -/
def State.reset : State := {}

end Sys2Proof.Machine
end

