-- ==== Sys2Proof/Machine/Ops.lean ====
section
/-!
DEFINITION. The named operations every meaning is built from: tables, octet strings, counters, free values, outputs.
-/
namespace Sys2Proof.Machine

/-- The outcome of a command. -/
abbrev Res := Host.Outcome State Fault Refusal

/-! ### Tables -/

/-- The entry of a key, if there is one. -/
def tblGet {α : Type} : Tbl α → Nat → Option α
  | [], _ => none
  | (k, v) :: t, j => if j = k then some v else if j < k then none else tblGet t j

/-- Put an entry, keeping the keys in order. -/
def tblPut {α : Type} : Tbl α → Nat → α → Tbl α
  | [], j, x => [(j, x)]
  | (k, v) :: t, j, x =>
    if j < k then (j, x) :: (k, v) :: t else if j = k then (j, x) :: t else (k, v) :: tblPut t j x

/-- Remove an entry. -/
def tblDel {α : Type} : Tbl α → Nat → Tbl α
  | [], _ => []
  | (k, v) :: t, j => if j = k then t else if j < k then (k, v) :: t else (k, v) :: tblDel t j

/-- The keys rise strictly, each above `lo`. -/
def tblAbove {α : Type} : Nat → Tbl α → Bool
  | _, [] => true
  | lo, (k, _) :: t => decide (lo < k) && tblAbove k t

/-- The keys of a table rise. -/
def tblWf {α : Type} : Tbl α → Bool
  | [] => true
  | (k, _) :: t => tblAbove k t

/-- What a key reads as, where an absent entry reads as `d`. -/
def tget {α : Type} (d : α) (t : Tbl α) (k : Nat) : α := (tblGet t k).getD d

/-- Write a key, where an absent entry reads as `d`: writing `d` removes the entry. -/
def tset {α : Type} [DecidableEq α] (d : α) (t : Tbl α) (k : Nat) (v : α) : Tbl α :=
  if v = d then tblDel t k else tblPut t k v

/-- No entry equals what an absent entry reads as. -/
def tblNoDefault {α : Type} [DecidableEq α] (d : α) (t : Tbl α) : Bool := t.all (fun p => decide (p.2 ≠ d))

/-- The canonical form of a store whose absent entries read as `d`: keys rise, and no entry is `d`. -/
def tblCanon {α : Type} [DecidableEq α] (d : α) (t : Tbl α) : Bool := tblWf t && tblNoDefault d t

/-! ### Octet strings -/

/-- The number a big-endian octet string spells (R9). -/
def beNat (bs : List Byte) : Nat := bs.foldl (fun a b => a * 256 + b.toNat) 0

/-- The number a little-endian octet string spells (R8). -/
def leNat (bs : List Byte) : Nat := bs.foldr (fun b a => b.toNat + 256 * a) 0

/-- n octets at an offset; octets beyond the end are zero. -/
def octets (bs : List Byte) (off n : Nat) : List Byte :=
  let got := (bs.drop off).take n
  got ++ List.replicate (n - got.length) 0

/-- A big-endian field of a structure. -/
def be (bs : List Byte) (off n : Nat) : Nat := beNat (octets bs off n)

/-- A little-endian field of a structure. -/
def le (bs : List Byte) (off n : Nat) : Nat := leNat (octets bs off n)

/-- A number as n little-endian octets. -/
def leBytes : Nat → Nat → List Byte
  | 0, _ => []
  | n + 1, v => BitVec.ofNat 8 v :: leBytes n (v / 256)

/-- A number as n big-endian octets. -/
def beBytes (n v : Nat) : List Byte := (leBytes n v).reverse

/-- Whether octets are all zero. -/
def allZero (bs : List Byte) : Bool := bs.all (· == 0)

/-- Overwrite octets at an offset. -/
def overwrite (bs : List Byte) (off : Nat) (new : List Byte) : List Byte :=
  octets bs 0 off ++ new ++ bs.drop (off + new.length)

/-- Bit k of a number. -/
def bitOf (v k : Nat) : Bool := v.testBit k

/-- Bits [hi:lo] of a number. -/
def bits (v hi lo : Nat) : Nat := (v / 2 ^ lo) % 2 ^ (hi + 1 - lo)

/-- A flag as a bit. -/
def b2n (b : Bool) : Nat := if b then 1 else 0

/-! ### Counters -/

/-- A counter of n bits that saturates. -/
def satAdd (n c k : Nat) : Nat := min (c + k) (maxOf n)

/-- A counter of n bits that wraps. -/
def wrapAdd (n c k : Nat) : Nat := (c + k) % 2 ^ n

/-- Two's complement in n bits. -/
def twos (n : Nat) (v : Int) : Nat := (v % (2 ^ n : Int)).toNat

/-- Change the element at a position. -/
def listMod {α : Type} (l : List α) (i : Nat) (f : α → α) : List α := l.modify i f

/-! ### Lanes -/

/-- A lane as it stands at start (R249). -/
def laneInit (n : Nat) : Lane :=
  if n < 128 then { slot := some n } else if n < 152 then { state := 1 } else {}

/-- A lane. -/
def lane (s : State) (n : Nat) : Lane := tget (laneInit n) s.ln.lanes n

/-- Change a lane. -/
def modLane (n : Nat) (f : Lane → Lane) (s : State) : State :=
  { s with ln.lanes := tset (laneInit n) s.ln.lanes n (f (lane s n)) }

/-! ### Outputs and free values -/

/-- Send something. -/
def emit (o : Output) (s : State) : State := { s with out := o :: s.out }

/-- Send a beat through an exit, or hold it there while a Z decision is taken (R422, R461). -/
def send (o : Output) (s : State) : State :=
  if s.tm.exitStop then { s with exitHeld := o :: s.exitHeld } else emit o s

/-- The place of a vector in the MSI-X tables: 2,048 to a function (R76). -/
def msixKey (fn vec : Nat) : Nat := 2048 * fn + vec

/-- Raise a vector of a function: a masked one sets its pending bit (R76). -/
def raiseMsix (put : Output → State → State) (fn : Nat) (pasid : Option Nat) (vec : Nat) (s : State) : State :=
  let e : MsixEntry := tget {} s.hl.msix (msixKey fn vec)
  if e.masked then { s with hl.msix := tset {} s.hl.msix (msixKey fn vec) { e with pending := true } }
  else put (.msix fn pasid vec) s

/-- Raise a vector of PF0 (R399). -/
def vector (v : Nat) (s : State) : State := raiseMsix emit 0 none v s

/-- Cut a range at the multiples of a power of two `g`: the pieces' addresses and sizes. -/
def pieces (g : Nat) : Nat → Nat → Nat → List (Nat × Nat)
  | 0, _, _ => []
  | k + 1, a, n => if n = 0 then [] else let m := min n (g - a % g)
                                         (a, m) :: pieces g k (a + m) (n - m)

/-- The requests of a read of host memory: at most 4,096 octets each (R76). -/
def readPieces (addr len : Nat) : List (Nat × Nat) := pieces 4096 (len / 4096 + 2) addr len

/-- Read host memory (R76). -/
def readHost (link : Nat) (pasid : Option Nat) (addr len : Nat) (s : State) : State :=
  (readPieces addr len).foldl (fun s r => emit (.hostRead link pasid r.1 r.2) s) s

/-- The writes of octets to host memory: payloads of at most 512 octets (R76). -/
def writeBeats (link : Nat) (pasid : Option Nat) (relaxed : Bool) (addr : Nat) (d : List Byte) : List Output :=
  (pieces 512 (d.length / 512 + 2) addr d.length).map (fun r => .hostWrite link pasid relaxed r.1 ((d.drop (r.1 - addr)).take r.2))

/-- Send several beats, in order. -/
def sendAll (os : List Output) (s : State) : State := os.foldl (fun s o => send o s) s

/-- Write octets to host memory (R76). -/
def writeHost (link : Nat) (pasid : Option Nat) (relaxed : Bool) (addr : Nat) (d : List Byte) (s : State) : State :=
  sendAll (writeBeats link pasid relaxed addr d) s

/-- A host link. -/
def hostLink (s : State) (l : Nat) : HostLink := if l = 0 then s.hl.link0 else s.hl.link1

/-- Change a host link. -/
def modLink (l : Nat) (f : HostLink → HostLink) (s : State) : State :=
  if l = 0 then { s with hl.link0 := f s.hl.link0 } else { s with hl.link1 := f s.hl.link1 }

/-- A queue pair. -/
def qp (s : State) (n : Nat) : Qp := tget {} s.hl.qps n

/-- Change a queue pair. -/
def modQp (n : Nat) (f : Qp → Qp) (s : State) : State := { s with hl.qps := tset {} s.hl.qps n (f (qp s n)) }

/-- A slice. -/
def slice (s : State) (n : Nat) : Slice := tget {} s.hl.slices n

/-- Change a slice. -/
def modSlice (n : Nat) (f : Slice → Slice) (s : State) : State :=
  { s with hl.slices := tset {} s.hl.slices n (f (slice s n)) }

/-- Take the next free value (log entry 1). -/
def draw (s : State) : Nat × State := (Config.freeNat s.freeCtr, { s with freeCtr := s.freeCtr + 1 })

/-- The octets of a text. -/
def ascii (t : String) : List Byte := t.toList.map (fun c => BitVec.ofNat 8 c.toNat)

/-- The row of an event of the block's own units that does not arise in the state (no such read is outstanding, no such timer has run
out), or of a command that is not held: nothing happens (log entry 19). -/
def noEvent (s : State) : Res := .next s

/-- A meaning that holds only when the event can arise: `t` is the state after it. -/
def whenOk (c : Bool) (s t : State) : Res := if c then .next t else noEvent s

/-- An access to BAR0, which reaches the block through host link 0 alone: while that link is down nothing arrives (R37). -/
def viaPf0 (s : State) (r : Res) : Res := if s.hl.link0.up then r else noEvent s

end Sys2Proof.Machine
end

