-- ==== Sys2Proof/Machine/Status.lean ====
section
/-!
DEFINITION. The status codes (R16, R579) and the command codes (R413).
-/
namespace Sys2Proof.Machine.St
def ok : Nat := 0x0000
def delayed : Nat := 0x0101
def demoted : Nat := 0x0102
def aged : Nat := 0x0103
def cancelled : Nat := 0x0104
def cancelLate : Nat := 0x0105
def partialRun : Nat := 0x0106
def grateFormat : Nat := 0x0201
def grateRange : Nat := 0x0202
def grateTimeout : Nat := 0x0203
def lengthInvalid : Nat := 0x0204
def spoof : Nat := 0x0205
def accordFormat : Nat := 0x0206
def digestSequence : Nat := 0x0207
def notAuthorised : Nat := 0x0301
def quorumMissing : Nat := 0x0302
def usageForbidden : Nat := 0x0303
def pinNotVerified : Nat := 0x0304
def cvcNotVerified : Nat := 0x0305
def pinFormatDowngrade : Nat := 0x0306
def pinPolicy : Nat := 0x0307
def pinBlockInvalid : Nat := 0x0308
def arqcNotVerified : Nat := 0x0309
def macNotVerified : Nat := 0x030A
def tokenInvalid : Nat := 0x030B
def panCheckFailed : Nat := 0x030C
def p2peDataInvalid : Nat := 0x030D
def certRejected : Nat := 0x030E
def routeRefused : Nat := 0x030F
def verdictRefused : Nat := 0x0310
def signatureNotVerified : Nat := 0x0311
def decryptFailed : Nat := 0x0312
def nonceInvalid : Nat := 0x0313
def credentialInvalid : Nat := 0x0314
def keyAbsent : Nat := 0x0401
def keyGenerationStale : Nat := 0x0402
def keyEpochClosed : Nat := 0x0403
def keyIntegrity : Nat := 0x0404
def keyStoreFull : Nat := 0x0405
def keyExpired : Nat := 0x0406
def keyBlockInvalid : Nat := 0x0407
def keyCheckFailed : Nat := 0x0408
def keyPinFull : Nat := 0x0409
def keyImageRejected : Nat := 0x040A
def publicKeyInvalid : Nat := 0x040B
def refusedLoad : Nat := 0x0501
def refusedLimit : Nat := 0x0502
def busy : Nat := 0x0503
def noLane : Nat := 0x0504
def headerUnavailable : Nat := 0x0505
def noPkUnit : Nat := 0x0506
def twinRetried : Nat := 0x0601
def fenceViolation : Nat := 0x0602
def squashed : Nat := 0x0603
def inDoubt : Nat := 0x0604
def hcSwitched : Nat := 0x0605
def latentDivergence : Nat := 0x0606
def hostDmaError : Nat := 0x0607
def tagMismatch : Nat := 0x0608
def rolledBack : Nat := 0x0609
def partNotRun : Nat := 0x060A
def programFault : Nat := 0x060B
def laneFault : Nat := 0x060C
def forwardTimeout : Nat := 0x060D
def verdictTimeout : Nat := 0x060E
def contextRejected : Nat := 0x060F
def pkAttemptsExhausted : Nat := 0x0610
def egressBlocked : Nat := 0x0611
def stateForbids : Nat := 0x0701
def locked : Nat := 0x0702
def decisionSplit : Nat := 0x0703
def startFailed : Nat := 0x0704
def fwRejected : Nat := 0x0705
def workerLost : Nat := 0x0801
def groupDegraded : Nat := 0x0802
def groupRole : Nat := 0x0803
def groupJoinRefused : Nat := 0x0804
end Sys2Proof.Machine.St
end

