-- ==== Sys2Proof/Machine/Layouts.lean ====
section
/-!
DEFINITION. Payload layouts that a field table does not say: reserved bits inside words, fields that bound each other, entries in a
list (check 7 of R403, with R15, R74, R81, R178, R223, R256, R276, R337, R343, R404, R414, R427, R553). Each answers the status and the
octet offset of the first failing field.
-/
namespace Sys2Proof.Machine

/-- Octets of the public key of an algorithm (R404): 97 for P-384, 1,952 for ML-DSA-65. -/
def keyLen (alg : Nat) : Nat := if alg = 1 then 97 else 1952

/-- A payload field that may not hold its value. -/
def badFormat (bad : Bool) (o : Nat) : Option (Nat × Nat) := if bad then some (St.grateFormat, 64 + o) else none

/-- A payload field that is outside its range. -/
def badRange (bad : Bool) (o : Nat) : Option (Nat × Nat) := if bad then some (St.grateRange, 64 + o) else none

/-- The pages a fence covers (R425, R427). -/
def fenceRange (f : Nat) : Nat × Nat :=
  if f < 32 then (393216 * f, 393216 * f + 393215)
  else if f < 48 then (16384 * (f - 32), 16384 * (f - 32) + 16383)
  else (0, 2 ^ 52 - 1)

/-- FENCE_SET (R414, R427, R428). -/
def fenceLayout (p : List Byte) : Option (Nat × Nat) :=
  let b := be p 16 8; let l := be p 24 8; let m := be p 32 8
  let rng := fenceRange (be p 0 1)
  badFormat (b % 128 ≠ 0) 16 <|> badFormat (bits l 11 8 ≠ 0) 24 <|> badFormat (bits m 63 56 ≠ 0 || bits m 31 21 ≠ 0) 32 <|>
  badRange (l / 4096 < b / 4096 || b / 4096 < rng.1 || rng.2 < l / 4096) 16 <|>
  badRange (l % 256 ≠ 0 && (l / 4096 - b / 4096 + 1) % 8 ≠ 0) 24 <|> badRange (bits m 55 44 < bits m 43 32) 32

/-- SLICE_BIND (R107, R414). -/
def sliceLayout (p : List Byte) : Option (Nat × Nat) :=
  let g := be p 6 2
  badFormat (g % 2 ≠ 0 || 4096 ≤ g) 6 <|> badFormat (bits (be p 8 4) 30 20 ≠ 0) 8 <|> badFormat (2 ≤ be p 12 1) 12 <|>
  badRange (be p 4 2 ≠ 0 && 65536 < be p 2 2 + be p 4 2) 2

/-- QP_SET (R81, R82, R414): with EN 0 the other fields are not looked at. -/
def qpLayout (p : List Byte) : Option (Nat × Nat) :=
  let top := bitOf (be p 6 1) 1
  badFormat (16 ≤ be p 6 1) 6 <|>
  if bitOf (be p 6 1) 0 then
    badRange (be p 4 1 < 4 || 16 < be p 4 1) 4 <|> badRange (be p 5 1 < 5 || 18 < be p 5 1) 5 <|>
    badRange (top != decide (be p 7 1 ≠ 0)) 7 <|> badRange (be p 8 8 % 4096 ≠ 0) 8 <|> badRange (be p 16 8 % 4096 ≠ 0) 16 <|>
    badRange (2047 < be p 24 2) 24 <|> badRange (4095 < be p 26 2) 26 <|> badRange (4095 < be p 28 2) 28
  else none

/-- ADMIT_SET (R74, R223, R414), the budgets apart. -/
def admitLayout (p : List Byte) : Option (Nat × Nat) :=
  badRange (be p 12 1 = 0 || 64 < be p 12 1) 12 <|> badRange (16 < be p 13 1) 13 <|> badRange (1 < be p 14 1) 14 <|>
  badRange (be p 16 2 = 0 || 16383 < be p 16 2) 16 <|> badRange (65536 < be p 20 4) 20

/-- The entries of ACCT_SET (R414): RSV, then accounts, each once. -/
def acctLayout (p : List Byte) : Option (Nat × Nat) :=
  let js := List.range (be p 8 2)
  let acct := fun (j : Nat) => be p (16 + 24 * j) 2
  js.findSome? (fun j => badFormat (be p (18 + 24 * j) 2 ≠ 0) (18 + 24 * j) <|> badFormat (be p (36 + 24 * j) 4 ≠ 0) (36 + 24 * j)) <|>
  js.findSome? (fun j => badRange (4127 < acct j || (List.range j).any (fun i => acct i = acct j)) (16 + 24 * j))

/-- An entry of ROUTE_SET (R337). -/
def routeLayout (p : List Byte) (j : Nat) : Option (Nat × Nat) :=
  let o := 8 + 80 * j
  let fl := be p (o + 17) 1
  let log := be p (o + 18) 1
  let dest := be p (o + 20) 4
  badFormat (be p (o + 4) 4 ≠ 0) (o + 4) <|> badFormat (8 ≤ fl) (o + 17) <|> badFormat (be p (o + 19) 1 ≠ 0) (o + 19) <|>
  badFormat (be p (o + 32) 16 ≠ 0) (o + 32) <|> badRange (2 ^ 20 ≤ be p o 4) o <|> badRange (3 < be p (o + 16) 1) (o + 16) <|>
  badRange (bitOf fl 0 && fl / 2 = 3) (o + 17) <|> badRange (log ≠ 0 && (log < 10 || 20 < log)) (o + 18) <|>
  badRange (2 ^ 18 ≤ dest || (be p (o + 16) 1 ≠ 1 && dest ≠ 0)) (o + 20)

/-- A record of VERDICT (R15, R343): what is out of its meaning otherwise answers with a result of its own. -/
def verdictLayout (p : List Byte) (j : Nat) : Option (Nat × Nat) :=
  let o := 8 + 32 * j
  badFormat (be p (o + 10) 2 ≠ 0) (o + 10) <|> badRange (2 ^ 18 ≤ be p (o + 12) 4) (o + 12)

/-- AC_CONFIG (R553). -/
def acLayout (p : List Byte) : Option (Nat × Nat) :=
  let mode := be p 0 1
  badFormat (be p 2 2 ≠ 0) 2 <|> badRange (2 < mode) 0 <|> badRange (mode = 1 && (be p 1 1 < 16 || 36 < be p 1 1)) 1 <|>
  badRange (mode = 2 && (be p 4 4 = 0 || 86400 % be p 4 4 ≠ 0)) 4

/-- PORT_SET (R276): the reserved bits, and those of a TERMINATE port's sub-ports. -/
def portLayout (p : List Byte) : Option (Nat × Nat) :=
  badFormat (8 ≤ be p 13 1) 13 <|>
  if be p 1 1 = 2 then (List.range (2 ^ be p 2 1)).findSome? (fun k => badFormat (be p (44 + 32 * k) 4 ≠ 0) (44 + 32 * k)) else none

/-- The last PN of a cipher suite (R257). -/
def pnLast (suite : Nat) : Nat := if suite ≤ 2 then 2 ^ 32 - 1 else 2 ^ 64 - 1

/-- SA_SET (R256), as far as the payload alone says. -/
def saLayout (p : List Byte) : Option (Nat × Nat) :=
  let plain := decide (be p 1 1 ≤ 2)
  badFormat (16 ≤ be p 3 1) 3 <|> badRange (plain && be p 12 4 ≠ 0) 12 <|> badRange (plain && !allZero (octets p 24 12)) 24 <|>
  badRange ((if be p 0 1 = 0 then 2 ^ 30 - 1 else 0) < be p 36 4) 36 <|>
  badRange (pnLast (be p 1 1) < be p 40 8 || (be p 0 1 = 1 && be p 40 8 = 0)) 40

/-! ### The PIN policy block (R178) -/

/-- A class of a PIN policy block (R178). -/
def parseClass (p : List Byte) (c : Nat) : LimClass := ⟨be p (8 + 16 * c) 4, be p (12 + 16 * c) 4, be p (16 + 16 * c) 1⟩

/-- A guard of a PIN policy block, at an offset (R178). -/
def parseGuard (p : List Byte) (o : Nat) : GuardCfg := ⟨be p o 2, be p (o + 2) 4, be p (o + 6) 1⟩

/-- The nibbles of octets, high nibble first. -/
def nibs (bs : List Byte) : List Nat := bs.flatMap (fun b => [b.toNat / 16, b.toNat % 16])

/-- A decimalisation table of a PIN policy block (R178). -/
def parseTable (p : List Byte) (t : Nat) : DecTab :=
  let o := 0x120 + 16 * t
  { digits := nibs (octets p o 8), start := be p (o + 8) 1, len := be p (o + 9) 1, pad := be p (o + 10) 1
    valid := decide (be p (o + 11) 1 = 1) }

/-- The reserved octets of a PIN policy block's entries. -/
def policyRsv (p : List Byte) : Option Nat :=
  let rsv : List (Nat × Nat) := (List.range 16).map (fun c => (17 + 16 * c, 7)) ++ [(0x10F, 1), (0x117, 1)] ++
    (List.range 8).map (fun t => (0x12C + 16 * t, 4))
  rsv.findSome? (fun r => if allZero (octets p r.1 r.2) then none else some (64 + r.1))

/-- The first field of a PIN policy block out of range (R178), as its offset in the frame. -/
def policyRange (p : List Byte) : Option Nat :=
  let classes : List (Nat × Bool) := (List.range 16).flatMap (fun c =>
    let k := parseClass p c
    [(12 + 16 * c, decide (1 ≤ k.failCeil)), (16 + 16 * c, decide (1 ≤ k.lockWindows))])
  let guards : List (Nat × Bool) := [0x108, 0x110].flatMap (fun o =>
    let g := parseGuard p o
    [(o, decide (1 ≤ g.ratio ∧ g.ratio ≤ 1024)), (o + 2, decide (1 ≤ g.min)), (o + 6, decide (1 ≤ g.windows))])
  let tables : List (Nat × Bool) := (List.range 8).flatMap (fun t =>
    let o := 0x120 + 16 * t
    let d := parseTable p t
    [(o + 11, decide (be p (o + 11) 1 ≤ 1)),
     (o, !d.valid || ((d.digits.all (fun x => decide (x < 10))) && (List.range 10).all (fun x => decide (x ∈ d.digits)))),
     (o + 8, !d.valid || decide (1 ≤ d.start ∧ d.start ≤ 19)), (o + 9, !d.valid || decide (1 ≤ d.len ∧ d.len ≤ 16)),
     (o + 10, !d.valid || decide (d.pad ≤ 15))])
  let all : List (Nat × Bool) := [(0, decide (be p 0 2 = 1))] ++ classes ++ guards ++ tables
  (all.find? (fun f => !f.2)).map (fun f => 64 + f.1)

/-- PIN_POLICY_SET (R178). -/
def policyLayout (p : List Byte) : Option (Nat × Nat) :=
  ((policyRsv p).map (fun o => (St.grateFormat, o))) <|> ((policyRange p).map (fun o => (St.grateRange, o)))

/-! ### All of them -/

/-- What the layout and ranges of a payload forbid beyond the tables of fields (check 7 of R403). -/
def payloadLayout (code : Nat) (p : List Byte) : Option (Nat × Nat) :=
  match code with
  | 0x0101 => badRange (be p 4 2 ≠ keyLen (be p 2 1)) 4
  | 0x0301 => admitLayout p
  | 0x0302 => acctLayout p
  | 0x0401 => sliceLayout p
  | 0x0405 => qpLayout p
  | 0x0603 => badFormat (bits (be p 12 4) 30 20 ≠ 0) 12
  | 0x0701 => policyLayout p
  | 0x0801 => portLayout p
  | 0x0802 => saLayout p
  | 0x0804 => badFormat (4 ≤ be p 6 1) 6
  | 0x0904 => (List.range (be p 0 1)).findSome? (routeLayout p)
  | 0x0905 => (List.range (be p 0 1)).findSome? (verdictLayout p)
  | 0x0B01 => fenceLayout p
  | 0x0C01 => acLayout p
  | _ => none

end Sys2Proof.Machine
end

