-- ==== Sys2Proof/Machine/Frames.lean ====
section
/-!
DEFINITION. Folarn frames: their header, the command codes with their classes, the payload layouts and ranges (R401,
R403, R411 to R414).
-/
namespace Sys2Proof.Machine

/-- The defined command codes and the class of each (R413, R522, R562). -/
def cmdTable : List (Nat × Nat) :=
  [(0x0001, 0), (0x0002, 0), (0x0003, 0), (0x0004, 0), (0x0101, 8), (0x0102, 8), (0x0103, 0), (0x0104, 8), (0x0105, 0),
   (0x0106, 8), (0x0201, 12), (0x0202, 4), (0x0203, 7), (0x0204, 7), (0x0205, 7), (0x0206, 7), (0x0207, 7), (0x0A01, 6),
   (0x0A02, 11), (0x0A03, 0), (0x0B01, 1), (0x0B02, 9)] ++
  [(0x0501, 1), (0x0502, 1), (0x0503, 1), (0x0504, 1), (0x0505, 10), (0x0506, 1), (0x0507, 0), (0x0601, 9), (0x0602, 1),
   (0x0603, 1), (0x0604, 1), (0x0605, 1), (0x0606, 4), (0x0607, 3), (0x0608, 3), (0x0609, 5), (0x060A, 3), (0x0701, 9),
   (0x0702, 0), (0x0703, 9), (0x0704, 9)] ++
  [(0x0301, 1), (0x0302, 1), (0x0303, 1), (0x0401, 1), (0x0402, 1), (0x0403, 1), (0x0404, 1), (0x0405, 1), (0x0801, 1),
   (0x0802, 1), (0x0803, 1), (0x0804, 1), (0x0805, 1), (0x0806, 0), (0x0807, 1), (0x0901, 1), (0x0902, 1), (0x0903, 0),
   (0x0904, 1), (0x0905, 0)] ++
  [(0x0C01, 1), (0x0C02, 1), (0x0C03, 1), (0x0C04, 1), (0x0C05, 1), (0x0C06, 1), (0x0D01, 12), (0x0D02, 12), (0x0D03, 12),
   (0x0D04, 1), (0x0D05, 1), (0x0D06, 1), (0x0D07, 1), (0x0D08, 1)]

/-- The class the table of R413 gives a code. -/
def cmdClass (code : Nat) : Option Nat := (cmdTable.find? (fun p => decide (p.1 = code))).map (·.2)

/-- Octets of a signature of an algorithm (R401). -/
def sigLen (alg : Nat) : Nat := if alg = 1 then 96 else 3309

/-- The number of payload octets a command has, from the payload itself where it counts its own entries
(R413, R414, R522, R562); none where any length stands. -/
def payloadLen (code : Nat) (p : List Byte) : Option Nat :=
  if code ∈ [0x0001, 0x0003, 0x0103, 0x0105, 0x0106, 0x0202, 0x0A03, 0x0606, 0x0C04, 0x0C06, 0x0D06] then some 0
  else if code ∈ [0x0004, 0x0102, 0x0201, 0x0204, 0x0207, 0x0A01, 0x0A02, 0x0B02, 0x0502, 0x0504, 0x0505, 0x0506, 0x0507,
    0x0609, 0x060A, 0x0702, 0x0703, 0x0704, 0x0402, 0x0403, 0x0404, 0x0805, 0x0806, 0x0807, 0x0903, 0x0D04, 0x0D05,
    0x0D07, 0x0C03, 0x0C01] then some 8
  else if code ∈ [0x0501, 0x0503, 0x0602, 0x0603, 0x0303, 0x0401, 0x0902, 0x0C05] then some 16
  else if code ∈ [0x0301, 0x0803] then some 24
  else if code ∈ [0x0601, 0x0405] then some 32
  else if code = 0x0B01 then some 40
  else if code ∈ [0x0104, 0x0802] then some 64
  else if code = 0x0101 then some (40 + be p 4 2)
  else if code = 0x0205 then some (8 + keyLen (be p 2 1))
  else if code = 0x0604 then some (8 + 16 * be p 0 4)
  else if code = 0x0605 then some (16 + 16 * be p 8 4)
  else if code = 0x0607 then some 72
  else if code = 0x0608 then some (1152 + be p 1144 2)
  else if code = 0x0701 then some 416
  else if code = 0x0302 then some (16 + 24 * be p 8 2)
  else if code = 0x0801 then some (32 + 32 * 2 ^ (min (be p 2 1) 3))
  else if code = 0x0804 then some (32 + be p 16 2)
  else if code = 0x0904 then some (8 + 80 * be p 0 1)
  else if code = 0x0905 then some (8 + 32 * be p 0 1)
  else if code = 0x0C02 then some (8 + be p 4 4)
  else if code = 0x0D01 then some 24
  else if code = 0x0D02 then some 56
  else if code = 0x0D03 then some 56
  else none

/-- The octets a payload of no fixed length has at least: its fixed fields (R413, R522). -/
def payloadLeast (code : Nat) : Nat := if code ∈ [0x0203, 0x0901, 0x0D08] then 8 else 0

/-- Reserved octets of a payload: offset and size (R413, R414). -/
def payloadRsv (code : Nat) : List (Nat × Nat) :=
  match code with
  | 0x0101 => [(3, 1), (6, 2)]
  | 0x0102 => [(1, 7)]
  | 0x0201 | 0x0203 | 0x0204 | 0x0A01 | 0x0502 | 0x0504 | 0x0507 | 0x0807 => [(1, 7)]
  | 0x0501 | 0x0503 => [(1, 7)]
  | 0x0205 => [(3, 5)]
  | 0x0207 => [(2, 6)]
  | 0x0A02 => [(2, 6)]
  | 0x0B01 => [(2, 6)]
  | 0x0B02 => [(3, 5)]
  | 0x0505 => [(1, 1), (4, 4)]
  | 0x0506 => [(3, 5)]
  | 0x0601 => [(13, 3)]
  | 0x0602 => [(14, 2)]
  | 0x0603 | 0x0C05 => [(10, 2)]
  | 0x0604 => [(4, 4)]
  | 0x0605 => [(12, 4)]
  | 0x0607 => [(26, 6), (66, 6)]
  | 0x0608 => [(10, 6), (1146, 6)]
  | 0x0702 | 0x0703 | 0x0704 => [(4, 4)]
  | 0x0301 => [(15, 1), (18, 2)]
  | 0x0302 => [(10, 6)]
  | 0x0303 => [(12, 4)]
  | 0x0401 => [(13, 3)]
  | 0x0402 | 0x0404 => [(2, 6)]
  | 0x0403 => [(3, 5)]
  | 0x0405 => [(30, 2)]
  | 0x0801 => [(16, 16)]
  | 0x0802 => [(6, 2), (56, 8)]
  | 0x0803 => [(4, 4)]
  | 0x0804 => [(18, 14)]
  | 0x0805 | 0x0806 => [(4, 4)]
  | 0x0902 | 0x0903 => [(2, 6)]
  | 0x0904 | 0x0905 => [(1, 7)]
  | 0x0D01 => [(5, 1), (12, 4)]
  | 0x0D02 => [(4, 4)]
  | 0x0D03 => [(6, 2)]
  | 0x0D04 | 0x0D08 => [(1, 7)]
  | 0x0D05 => [(3, 5)]
  | 0x0D07 => [(2, 6)]
  | 0x0701 => [(2, 6), (0x118, 8)]
  | _ => []

/-- Ranges of single payload fields: offset, size, least, greatest (R413, R414, R270, R487, R494, R522, R553). -/
def payloadRange (code : Nat) : List (Nat × Nat × Nat × Nat) :=
  match code with
  | 0x0101 => [(0, 1, 0, 31), (1, 1, 1, 4), (2, 1, 1, 2)]
  | 0x0102 => [(0, 1, 0, 31)]
  | 0x0203 | 0x0204 => [(0, 1, 0, 1)]
  | 0x0205 => [(2, 1, 1, 2)]
  | 0x0A01 => [(0, 1, 1, 3)]
  | 0x0A02 => [(0, 1, 0, 31)]
  | 0x0B01 => [(0, 1, 0, 95), (1, 1, 0, 31)]
  | 0x0B02 => [(0, 1, 0, 95), (1, 1, 0, 31), (2, 1, 0, 1)]
  | 0x0501 | 0x0502 | 0x0503 => [(0, 1, 0, 63)]
  | 0x0504 => [(0, 1, 0, 1)]
  | 0x0505 => [(0, 1, 0, 2)]
  | 0x0506 => [(0, 1, 0, 1), (1, 1, 16, 30), (2, 1, 1, 4)]
  | 0x0507 => [(0, 1, 0, 63)]
  | 0x0601 => [(10, 1, 0, 1), (11, 1, 0, 15), (12, 1, 0, 15)]
  | 0x0603 => [(8, 1, 12, 24), (9, 1, 0, 1)]
  | 0x0302 => [(8, 2, 1, 256)]
  | 0x0402 | 0x0404 => [(0, 2, 0, 4095)]
  | 0x0401 => [(0, 2, 0, 4095)]
  | 0x0403 => [(0, 2, 0, 4095), (2, 1, 0, 1)]
  | 0x0405 => [(0, 2, 0, 8191), (2, 2, 0, 4095)]
  | 0x0801 => [(0, 1, 0, 31), (1, 1, 0, 3), (2, 1, 0, 3)]
  | 0x0802 => [(0, 1, 0, 1), (1, 1, 1, 4), (2, 1, 0, 3), (4, 1, 0, 31), (5, 1, 0, 7)]
  | 0x0803 => [(0, 1, 0, 31), (1, 1, 0, 7), (2, 1, 0, 1), (3, 1, 0, 3)]
  | 0x0804 => [(0, 4, 0, 262143), (7, 1, 1, 2), (16, 2, 1, 8192)]
  | 0x0805 | 0x0806 => [(0, 4, 0, 262143)]
  | 0x0902 | 0x0903 => [(0, 2, 0, 1023)]
  | 0x0904 => [(0, 1, 1, 64)]
  | 0x0905 => [(0, 1, 1, 32)]
  | 0x0C05 => [(8, 1, 10, 24), (9, 1, 0, 1)]
  | 0x0D01 => [(4, 1, 0, 63)]
  | 0x0D02 | 0x0D04 => [(0, 1, 0, 63)]
  | 0x0D05 => [(0, 2, 0, 4095), (2, 1, 0, 1)]
  | 0x0D07 => [(0, 2, 1, 49)]
  | 0x0D08 => [(0, 1, 0, 63)]
  | _ => []

/-- Check 7 of R403: layout, then ranges. The DETAIL is the octet offset of the field in the frame. -/
def payloadCheck (code : Nat) (p : List Byte) : Option (Nat × Nat) :=
  if (payloadLen code p).any (fun n => decide (n ≠ p.length)) || decide (p.length < payloadLeast code) then some (St.grateFormat, 64)
  else match (payloadRsv code).find? (fun r => !allZero (octets p r.1 r.2)) with
  | some r => some (St.grateFormat, 64 + r.1)
  | none =>
    match (payloadRange code).find? (fun r => decide (be p r.1 r.2.1 < r.2.2.1) || decide (r.2.2.2 < be p r.1 r.2.1)) with
    | some r => some (St.grateRange, 64 + r.1)
    | none => payloadLayout code p

/-- The switch tick in force: a tick already begun, or 0, selects the next sample point (R31, R413). -/
def switchAt (k : Nat) (s : State) : Nat := if k ≤ s.tick then s.tick + 1 else k

/-- The signature blocks of a body, from an offset (R401). -/
def parseSigs : Nat → List Byte → List SigBlock
  | 0, _ => []
  | n + 1, bs =>
    let l := be bs 2 2
    ⟨be bs 0 1, be bs 1 1, octets bs 8 l⟩ :: parseSigs n (bs.drop (8 + l))

/-- The first field of the signature blocks that is not well formed, as its offset from the first block: CRED, ALG, SIG_LEN, the reserved
octets; the blocks fill the body (R401). -/
def sigsBad : Nat → Nat → List Byte → Option Nat
  | _, 0, bs => if bs.isEmpty then none else some 0
  | o, n + 1, bs =>
    let alg := be bs 1 1
    let l := be bs 2 2
    if 31 < be bs 0 1 then some o
    else if alg ≠ 1 ∧ alg ≠ 2 then some (o + 1)
    else if l ≠ sigLen alg ∨ bs.length < 8 + l then some (o + 2)
    else if be bs 4 4 ≠ 0 then some (o + 4)
    else sigsBad (o + 8 + l) n (bs.drop (8 + l))

/-- The octets the blocks of a body take, from their own lengths. -/
def sigsLen : Nat → List Byte → Nat
  | 0, _ => 0
  | n + 1, bs => 8 + be bs 2 2 + sigsLen n (bs.drop (8 + be bs 2 2))

/-- Take a header apart (R401). -/
def parseHeader (h : List Byte) : Frame :=
  { code := be h 4 2, ext := bitOf (be h 6 2) 0, out := bitOf (be h 6 2) 1, tag := be h 8 4, nonceId := be h 12 4,
    payload := [], payLen := be h 16 4, nsig := be h 20 1, bodyLen := be h 24 4, sigs := [], extAddr := be h 32 8,
    outAddr := be h 40 8, outLen := be h 48 4 }

/-- Join a header and its body (R401). -/
def Frame.withBody (f : Frame) (body : List Byte) : Frame :=
  { f with payload := octets body 0 f.payLen, sigs := parseSigs f.nsig (body.drop f.payLen) }

/-- NSIG of check 5 of R403 (R401). -/
def nsigOk (f : Frame) : Bool := decide (f.nsig ≤ if f.code = 0x0101 then 9 else 8) && decide (cmdClass f.code = some 0 → f.nsig = 0)

/-- Checks 1 to 4 of R403 on the header; `len` is the submitted LEN. A body in host memory is read after NSIG was checked. -/
def headerCheck (h : List Byte) (len : Nat) : Option (Nat × Nat) :=
  let f := parseHeader h
  if be h 0 2 ≠ 0x464C then some (St.grateFormat, 0)
  else if be h 2 1 ≠ 1 then some (St.grateFormat, 2)
  else if be h 3 1 ≠ 1 then some (St.grateFormat, 3)
  else if (cmdClass f.code).isNone then some (St.grateRange, 4)
  else if 4 ≤ be h 6 2 then some (St.grateFormat, 6)
  else if be h 21 3 ≠ 0 then some (St.grateFormat, 21)
  else if be h 28 4 ≠ 0 then some (St.grateFormat, 28)
  else if !f.ext && decide (f.extAddr ≠ 0) then some (St.grateFormat, 32)
  else if !f.out && decide (f.outAddr ≠ 0) then some (St.grateFormat, 40)
  else if be h 52 2 ≠ 0 then some (St.grateFormat, 52)
  else if be h 54 2 ≠ 0 then some (St.grateFormat, 54)
  else if be h 56 8 ≠ 0 then some (St.grateFormat, 56)
  else if len ≠ (if f.ext then 64 else 64 + f.bodyLen) then some (St.lengthInvalid, 24)
  else if 2 ^ 28 < f.payLen then some (St.lengthInvalid, 16)
  else if f.bodyLen < f.payLen then some (St.lengthInvalid, 24)
  else if f.ext && !nsigOk f then some (St.grateFormat, 20)
  else none

/-- The rest of checks 4 and 5, and check 7, once the body is there. -/
def bodyCheck (f : Frame) (body : List Byte) : Option (Nat × Nat) :=
  if f.bodyLen ≠ f.payLen + sigsLen f.nsig (body.drop f.payLen) then some (St.lengthInvalid, 24)
  else if !nsigOk f then some (St.grateFormat, 20)
  else match sigsBad 0 f.nsig (body.drop f.payLen) with
  | some o => some (St.grateFormat, 64 + f.payLen + o)
  | none => payloadCheck f.code (octets body 0 f.payLen)

end Sys2Proof.Machine
end

