-- ==== Sys2Proof/Machine/Records.lean ====
section
/-!
DEFINITION. The record unit: event records, repeats, coalescing, notices, the record reader (R475 to R489, R498, R499).
-/
namespace Sys2Proof.Machine

/-- What a unit tells the record unit (R476, R481). `cluster` is the bit a coalesced record sets, if any. -/
structure Report where
  event   : Nat
  sev     : Nat := 1
  notify  : Bool := true
  unit    : Nat := 0xFFFF
  argA    : Nat := 0
  argB    : Nat := 0
  argC    : Nat := 0
  suspect : Nat := 0
  cluster : Option Nat := none
  deriving DecidableEq, Repr

/-- Records the staging holds at most (R479). -/
def stagingMax : Nat := 1024
/-- Slots of the sillage ring (R478). -/
def sillageSlots : Nat := 131072
/-- Slots of the fixative area (R478). -/
def fixativeSlots : Nat := 4096

/-- FLAGS of a record (R475); `rd` is the OPEN bit of the reader's copy. -/
def Rec.flags (r : Rec) (rd : Bool) : Nat :=
  b2n r.coal + 2 * b2n r.cont + 4 * b2n r.start + 8 * b2n r.restored + 16 * b2n rd

/-- The 56 octets of a record that its MAC covers (R475). -/
def Rec.body (r : Rec) (rd : Bool) : List Byte :=
  leBytes 8 r.seq ++ leBytes 8 r.tick ++ leBytes 2 r.event ++ leBytes 1 r.sev ++ leBytes 1 (r.flags rd) ++
  leBytes 2 r.rep ++ leBytes 2 r.unit ++ leBytes 8 r.lastTick ++ leBytes 8 r.argA ++ leBytes 8 r.argB ++ leBytes 8 r.argC

/-- The 64 octets of a record (R475). The MAC is that of the stored content, OPEN clear. -/
def Rec.bytes (r : Rec) (rd : Bool) : List Byte := r.body rd ++ leBytes 8 (Config.recordMac (r.body false))

/-- An occurrence matches an open record (R480 item 1). -/
def Rec.matches (r : Rec) (p : Report) : Bool :=
  r.isOpen &&
  if r.coal then decide (r.event = p.event) && decide (p.suspect ≠ 0) && decide (r.suspect = p.suspect)
  else decide (r.event = p.event) && decide (r.unit = p.unit) && decide (r.argA = p.argA) &&
    (decide (p.event = 0x0905) || decide (r.argB = p.argB))

/-- A report of the same event and suspect from another unit, in the tick in which the lone record was created: it becomes coalesced
(R481). -/
def Rec.coalesces (r : Rec) (p : Report) (now : Nat) : Bool :=
  r.isOpen && !r.coal && decide (r.tick = now) && decide (r.event = p.event) &&
  decide (p.suspect ≠ 0) && decide (r.suspect = p.suspect) && decide (r.unit ≠ p.unit)

/-- Absorb an occurrence into an ordinary record (R480). -/
def Rec.absorb (r : Rec) (p : Report) (now : Nat) : Rec :=
  if p.event = 0x0905 then { r with rep := r.rep + 1, lastTick := now, argB := p.argB, argC := p.argC }
  else { r with rep := r.rep + 1, lastTick := now, argC := p.argC }

/-- The cluster bit of a report (R481). -/
def Report.bit (p : Report) : Nat := match p.cluster with | some c => 2 ^ (c % 64) | none => 0

/-- Turn a lone record, with the reports it absorbed, and a report of another unit into a coalesced record (R481). -/
def Rec.toCoal (r : Rec) (p : Report) : Rec :=
  { r with coal := true, rep := 0, argA := r.rep + 2 + (r.unit % 2 ^ 16) * 2 ^ 32, unit := 0xFFFF, argB := p.suspect,
           argC := Report.bit { event := r.event, cluster := r.cluster } ||| p.bit }

/-- Absorb a report into a coalesced record: REPEAT rises once a tick (R481). -/
def Rec.absorbCoal (r : Rec) (p : Report) (now : Nat) : Rec :=
  let reports := min (r.argA % 2 ^ 32 + 1) (2 ^ 32 - 1)
  { r with rep := if r.lastTick = now then r.rep else r.rep + 1, lastTick := now,
           argA := reports + (r.argA / 2 ^ 32) * 2 ^ 32, argC := r.argC ||| p.bit }

/-- Notices sort highest severity first, then by SEQ (R488). -/
def Notice.before (a b : Notice) : Bool := decide (b.sev < a.sev) || (decide (a.sev = b.sev) && decide (a.seq ≤ b.seq))

/-- Put a notice in its place. -/
def insertNotice (n : Notice) : List Notice → List Notice
  | [] => [n]
  | m :: t => if m.before n then m :: insertNotice n t else n :: m :: t

/-- Whether the queue's last notice, the newest of the lowest severity, lies below a severity (R489). -/
def lowestBelow (sev : Nat) (q : List Notice) : Bool := match q.getLast? with | some m => decide (m.sev < sev) | none => false

/-- Notices the queue holds at most (R489). -/
def noticeMax : Nat := 1024

/-- Enter a notice; a full queue displaces its lowest or drops the new one (R489). True when one was lost. -/
def enterNotice (n : Notice) (s : State) : Bool × State :=
  let q := s.nq.queue
  let s := { s with nq.posted := wrapAdd 64 s.nq.posted 1 }
  if q.length < noticeMax then
    let s := { s with nq.queue := insertNotice n q }
    (false, if q.isEmpty then vector 1 s else s)
  else if lowestBelow n.sev q then
    (true, { s with nq.queue := insertNotice n q.dropLast, nq.lost := true, nq.nLost := satAdd 32 s.nq.nLost 1 })
  else (true, { s with nq.lost := true, nq.nLost := satAdd 32 s.nq.nLost 1 })

/-- The notice of a record. -/
def Rec.notice (r : Rec) : Notice := ⟨r.seq, r.sev, r.event, r.unit, r.tick, r.argA⟩

/-- Close the records that `p` picks: they wait for their last programming (R480). -/
def closeWhere (p : Rec → Bool) (s : State) : State :=
  { s with rc.staging := s.rc.staging.map (fun r => if r.isOpen && p r then { r with isOpen := false, progTick := none } else r) }

/-- The open records. -/
def openRecs (s : State) : List Rec := s.rc.staging.filter (·.isOpen)

/-- The open record with the oldest LAST_TICK (R480 item 4). -/
def oldestOpen : List Rec → Option Rec
  | [] => none
  | r :: t => match oldestOpen t with
    | none => some r
    | some m => if m.lastTick < r.lastTick then some m else some r

/-- Make room for one more open record (R480 item 4: a 257th closes the oldest). -/
def closeOldest (s : State) : State :=
  if (openRecs s).length < 256 then s else
    match oldestOpen (openRecs s) with
    | none => s
    | some m => closeWhere (fun r => decide (r.seq = m.seq)) s

/-- Create a record; a full staging counts the report as dropped (R480, R483). -/
def createRec (p : Report) (cont : Bool) (s : State) : Option Rec × State :=
  let s := closeOldest s
  if stagingMax ≤ s.rc.staging.length then
    (none, { s with rc.dropped := satAdd 32 s.rc.dropped 1, rc.dropRun := s.rc.dropRun + 1 })
  else
    let r : Rec := { seq := s.rc.nextSeq, tick := s.tick, event := p.event, sev := p.sev, cont := cont, start := !s.lc.ready,
                     unit := p.unit, lastTick := s.tick, argA := p.argA, argB := p.argB, argC := p.argC, suspect := p.suspect, cluster := p.cluster }
    (some r, { s with rc.nextSeq := s.rc.nextSeq + 1, rc.staging := s.rc.staging ++ [r] })

/-- A record of event 0x02 0x02 for one lost notice, whose own notice loses no further one (R489). -/
def openLost (cont : Bool) (s : State) : State :=
  let q := createRec { event := 0x0202 } cont s
  match q.1 with
  | none => q.2
  | some r => (enterNotice r.notice q.2).2

/-- One notice was lost: the record of event 0x02 0x02 absorbs it, is created, or is continued when its repeat count is full (R480, R489). -/
def lostNotice (s : State) : State :=
  let p : Report := { event := 0x0202 }
  match s.rc.staging.find? (fun r => r.matches p) with
  | none => openLost false s
  | some r0 =>
    if r0.rep < 65535 then
      { s with rc.staging := s.rc.staging.map (fun r => if r.seq = r0.seq then r.absorb p s.tick else r) }
    else openLost true (closeWhere (fun r => decide (r.seq = r0.seq)) s)

/-- Post a notice (R489). -/
def postNotice (n : Notice) (s : State) : State :=
  match enterNotice n s with
  | (false, s) => s
  | (true, s) => lostNotice s

/-- Events marked record only (R477). -/
def recordOnly (ev : Nat) : Bool := decide (ev = 0x0905 ∨ ev = 0x0B04 ∨ ev = 0x0F02)

/-- A report that matches nothing open opens a record and posts its notice (R477, R480). -/
def openRec (p : Report) (cont : Bool) (s : State) : State :=
  match createRec p cont s with
  | (none, s) => s
  | (some r, s) => if p.notify && !recordOnly p.event then postNotice r.notice s else s

/-- An open record is due to close: 2^20 ticks have passed since its LAST_TICK (R480 item 3). The record of notices lost stays open while
NQ_STAT.LOST is set (R489). -/
def Rec.overdue (r : Rec) (s : State) : Bool :=
  r.isOpen && decide (r.lastTick + 2 ^ 20 ≤ s.tick) && !(s.nq.lost && decide (r.event = 0x0202))

/-- A unit's report reaches the record unit (R477, R480, R481); a record due to close absorbs nothing more (R497). -/
def report (p : Report) (s : State) : State :=
  let s := closeWhere (fun r => r.overdue s) s
  match s.rc.staging.find? (fun r => r.coalesces p s.tick) with
  | some r0 =>
    { s with
      rc.staging := s.rc.staging.map (fun r => if r.seq = r0.seq then r.toCoal p else r)
      rc.coalCnt := satAdd 32 s.rc.coalCnt (r0.rep + 2)
      nq.queue := s.nq.queue.map (fun n => if n.seq = r0.seq then { n with unit := 0xFFFF } else n) }
  | none =>
    match s.rc.staging.find? (fun r => r.matches p) with
    | some r0 =>
      if r0.coal = true ∧ (r0.lastTick = s.tick ∨ r0.rep < 65535) then
        { s with
          rc.staging := s.rc.staging.map (fun r => if r.seq = r0.seq then r.absorbCoal p s.tick else r)
          rc.coalCnt := satAdd 32 s.rc.coalCnt 1 }
      else if r0.coal = false ∧ r0.rep < 65535 then
        { s with rc.staging := s.rc.staging.map (fun r => if r.seq = r0.seq then r.absorb p s.tick else r) }
      else openRec p true (closeWhere (fun r => decide (r.seq = r0.seq)) s)
    | none => openRec p false s

/-- A report with the values most rules name. -/
def note (event sev unit a b : Nat) (s : State) : State := report { event, sev, unit, argA := a, argB := b } s

/-! ### Programming, closing, reading -/

/-- Program a record's slots: the sillage slot, and at the close the fixative slot (R478, R480). -/
def programRec (r : Rec) (s : State) : State :=
  let stored : Rec := { r with progTick := some s.tick }
  let s := { s with
    rc.sillage := tblPut s.rc.sillage (r.seq % sillageSlots) (.whole stored true)
    rc.oldest := max s.rc.oldest (r.seq + 1 - sillageSlots) }
  if r.isOpen then
    { s with rc.staging := s.rc.staging.map (fun x => if x.seq = r.seq then stored else x) }
  else
    let s := { s with rc.staging := s.rc.staging.filter (fun x => decide (x.seq ≠ r.seq)) }
    if r.seq < s.rc.fixFirst then s
    else if fixativeSlots ≤ r.seq - s.rc.fixFirst then s
    else match tblGet s.rc.fixative (r.seq - s.rc.fixFirst) with
      | some _ => s
      | none => { s with rc.fixative := tblPut s.rc.fixative (r.seq - s.rc.fixFirst) (.whole stored true)
                         rc.fixCount := s.rc.fixCount + 1 }

/-- RECORD_FLUSH (R478, R480): the named staged record is programmed; an open one at most once in 2^16 ticks. -/
def execRecordFlush (seq : Nat) (s : State) : Res :=
  match s.rc.staging.find? (fun r => decide (r.seq = seq)) with
  | none => noEvent s
  | some r =>
    let due := match r.progTick with | none => true | some t => decide (t + 2 ^ 16 ≤ s.tick)
    let s1 := if r.progTick.isNone then { s with tk.flushCu := s.tk.flushCu + 1 } else s
    whenOk (due && !(s.rc.clearing.any (·.began))) s (programRec r s1)

/-- RECORD_CLOSE_TIMEOUT (R480 item 3): an open record closes once 2^20 ticks passed since its LAST_TICK. -/
def execRecordCloseTimeout (seq : Nat) (s : State) : Res :=
  match s.rc.staging.find? (fun r => decide (r.seq = seq)) with
  | none => noEvent s
  | some r => whenOk (r.overdue s) s (closeWhere (fun x => decide (x.seq = seq)) s)

/-- RECORD_STAGING_ROOM (R483): one record of the reports dropped. -/
def execRecordStagingRoom (s : State) : Res :=
  whenOk (decide (0 < s.rc.dropRun) && decide (s.rc.staging.length < stagingMax)) s
    (report { event := 0x0702, argA := s.rc.dropRun } { s with rc.dropRun := 0 })

/-- The live regime begins: the snapshot lapses (R485, R486). -/
def setLive (cause : Nat) (s : State) : State := { s with rc.live := true, rc.liveCause := cause, rc.snapValid := false }

/-- The settled regime returns (R485). -/
def setSettled (s : State) : State := { s with rc.live := false, rc.liveCause := 0 }

/-- The read regime that what is under way calls for, as EV_STATE.CAUSE names it (R485): 1 start-up, 3 a gap, 2 a reload or a clear, 0 settled. -/
def regime (s : State) : Nat :=
  if !s.lc.ready then 1 else if s.hc.gap then 3 else if s.rc.clearing.any (·.began) || s.ks.loadOp.isSome then 2 else 0

/-- The read regime follows what is under way (R485). -/
def refreshRegime (s : State) : State := if regime s = 0 then setSettled s else setLive (regime s) s

/-- EV_SNAP_TAKE (R486): a write of EV_SNAP.TAKE. -/
def execEvSnapTake (s : State) : Res := viaPf0 s <|
  .next (if s.rc.live then { s with rc.snapRefused := true }
    else { s with rc.snapValid := true, rc.snapHigh := s.rc.nextSeq - 1, rc.snapTick := s.tick, rc.snapCopy := openRecs s })

/-- 64 octets of zero: the content of a record that is not returned (R486). -/
def zero64 : List Byte := List.replicate 64 0

/-- A slot's status and content (R486); `lv` is the live regime. -/
def slotRead (lv : Bool) : RecSlot → Nat × List Byte
  | .whole r ok => (if !ok then 4 else if lv then 6 else 0, r.bytes false)
  | .torn => (5, zero64)

/-- The record of a slot, when the slot holds that SEQ. -/
def slotIs (seq : Nat) : RecSlot → Bool
  | .whole r _ => decide (r.seq = seq)
  | .torn => true

/-- Read one record by SEQ: status and content (R486). -/
def readRec (s : State) (seq : Nat) : Nat × List Byte :=
  let lv := s.rc.live
  if s.rc.nextSeq ≤ seq ∨ (s.rc.snapValid = true ∧ s.rc.snapHigh < seq) then (3, zero64)
  else match if s.rc.snapValid then s.rc.snapCopy.find? (fun r => decide (r.seq = seq)) else none with
  | some r => (1, r.bytes true)
  | none =>
    match s.rc.staging.find? (fun r => decide (r.seq = seq)) with
    | some r => (if lv then 6 else if r.isOpen then 1 else 0, r.bytes r.isOpen)
    | none =>
      match (tblGet s.rc.sillage (seq % sillageSlots)).filter (fun x => decide (s.rc.oldest ≤ seq) && slotIs seq x) with
      | some x => slotRead lv x
      | none =>
        if seq < s.rc.fixFirst then (2, zero64) else
        match (tblGet s.rc.fixative (seq - s.rc.fixFirst)).filter (slotIs seq) with
        | some x => slotRead lv x
        | none => (2, zero64)

/-- EV_GO (R486, R498): a write of EV_GO. A count outside 1 to 64, or GO clear, discards the write. -/
def execEvGo (value : Nat) (s : State) : Res := viaPf0 s <|
  let n := bits value 6 0
  if bitOf value 31 = false ∨ n = 0 ∨ 64 < n then .next s else
  let reads := (List.range n).map (fun j => readRec s (s.rc.sel + j))
  .next { s with
    rc.rstat := reads.map (·.1) ++ s.rc.rstat.drop n
    rc.buf := reads.map (·.2) ++ s.rc.buf.drop n
    rc.rdReady := true, rc.rdLive := s.rc.live, rc.rdSnap := s.rc.snapValid, rc.returned := n }

/-- NQ_POP as a 64-bit word (R499). -/
def Notice.word (n : Notice) : Nat := 2 ^ 63 + (n.sev % 4) * 2 ^ 61 + (n.event % 2 ^ 16) * 2 ^ 32 + (n.unit % 2 ^ 16) * 2 ^ 16

/-- The record of a SEQ, where it stands now: in the staging, the sillage ring or the fixative area (R486). -/
def recordOf (s : State) (seq : Nat) : Option Rec :=
  let held := fun (x : Option RecSlot) => match x with
    | some (.whole r _) => if r.seq = seq then some r else none
    | _ => none
  match s.rc.staging.find? (fun r => decide (r.seq = seq)), held (tblGet s.rc.sillage (seq % sillageSlots)) with
  | some r, _ => some r
  | none, some r => some r
  | none, none => if s.rc.fixFirst ≤ seq then held (tblGet s.rc.fixative (seq - s.rc.fixFirst)) else none

/-- The TICK and ARG_A of a notice's record as it stands; as posted once the record is gone (R488). -/
def noticeTickArg (s : State) (n : Notice) : Nat × Nat :=
  match recordOf s n.seq with
  | some r => (r.tick, r.argA)
  | none => (n.tick, n.argA)

/-- NQ_POP (R488): a 64-bit read. -/
def execNqPop (s : State) : Res := viaPf0 s <|
  match s.nq.queue with
  | [] => .next (send (.readData 0x3000 0) { s with nq.seq := 0, nq.tick := 0, nq.arg := 0 })
  | n :: q =>
    let ta := noticeTickArg s n
    .next (send (.readData 0x3000 n.word) { s with nq.queue := q, nq.seq := n.seq, nq.tick := ta.1, nq.arg := ta.2 })

end Sys2Proof.Machine
end

