-- ==== Sys2Proof/Machine/LcBase.lean ====
section
/-!
DEFINITION. The life-cycle record as every other unit sees it: the current state, what it lets through, and how the
record is written (R431, R437).
-/
namespace Sys2Proof.Machine

/-- The current copy of the life-cycle record: the valid one with the higher SEQ (R437). -/
def lcRec (s : State) : LcRec :=
  if s.lc.aValid && (!s.lc.bValid || decide (s.lc.copyB.seq ≤ s.lc.copyA.seq)) then s.lc.copyA else s.lc.copyB

/-- The life-cycle state. -/
def lcState (s : State) : Lc := (lcRec s).state

/-- Write the record: SEQ rises, copy A then copy B (R437). -/
def writeLc (r : LcRec) (s : State) : State :=
  let r := { r with seq := (lcRec s).seq + 1 }
  { s with lc.copyA := r, lc.copyB := r, lc.aValid := true, lc.bValid := true, lc.shownLc := r.state.code }

/-- The states in which the module serves: DEVELOPMENT, PROVISIONED, OPERATIONAL, MAINTENANCE. -/
def Lc.service : Lc → Bool
  | .development | .provisioned | .operational | .maintenance => true
  | _ => false

/-- The query commands of R415. -/
def queryCmds : List Nat := [0x0103, 0x0105, 0x0702, 0x0507, 0x0806, 0x0903]

/-- Whether a state lets a command through; the status of the refusal otherwise (R415, R431). -/
def lcRefuses (lc : Lc) (code : Nat) : Option Nat :=
  let group0 := decide (code < 0x0100)
  match lc with
  | .manufacture => if group0 then none else some St.stateForbids
  | .shipped | .zeroized => if group0 || decide (code = 0x0201) || decide (code ∈ queryCmds) then none else some St.stateForbids
  | .development | .operational | .maintenance => none
  | .provisioned => if code = 0x0A02 then some St.stateForbids else none
  | .locked => if group0 || decide (code ∈ [0x0202, 0x0201, 0x0A01]) || decide (code ∈ queryCmds) then none else some St.locked
  | .decommissioned => if group0 || decide (code = 0x0103) then none else some St.stateForbids

/-- What the state refuses of queue work of a group (R431): none when it serves it. `func` tells 0x070A. -/
def lcQueueRefuses (s : State) (func : Nat) : Option Nat :=
  let g := func / 256
  let pay := decide (1 ≤ g ∧ g ≤ 6)
  match lcState s with
  | .development => if s.lc.stopAll then some St.stateForbids else none
  | .operational => if func = 0x070A then some St.stateForbids else if s.lc.stopPay && pay then some St.stateForbids else none
  | .maintenance => if func = 0x070A ∨ pay = true then some St.stateForbids else none
  | .locked => some St.locked
  | _ => some St.stateForbids

/-- Whether grants are stopped: by a tamper decision, a class L response, a Z transition, input loss, or the state
(R32, R461, R462, R557). -/
def grantsStopped (s : State) : Bool :=
  s.tm.grantStop || s.lc.stopGrants || s.lc.stopAll || s.pin.shedding || !(lcState s).service

/-- No pair is in control: the mailbox waits (R504, R505). -/
def noController (s : State) : Bool := s.hc.active.isNone || s.hc.gap

/-- The version of the running firmware slot (R437). -/
def fwVersion (s : State) : Nat := if (lcRec s).activeSlot = 0 then (lcRec s).slotAVer else (lcRec s).slotBVer

/-- The version of the vendor programs that clusters load: the image on trial brings its programs when the trial ends (R448, R449). -/
def vendorVersion (s : State) : Nat :=
  let r := lcRec s
  if (r.activeSlot = 0) = (r.trial = false) then r.slotAVer else r.slotBVer

end Sys2Proof.Machine
end

