-- ==== Sys2Proof/Machine/Evidence.lean ====
section
/-!
DEFINITION. The evidence log and what the monitor shows of events (R453, R462, R467 to R470, R474).
-/
namespace Sys2Proof.Machine

/-! ### Noise sources (R371, R372) -/

/-- A noise source. -/
def noise (s : State) (k : Nat) : Noise := tget {} s.rn.src k

/-- Change a source. -/
def modNoise (k : Nat) (f : Noise → Noise) (s : State) : State := { s with rn.src := tset {} s.rn.src k (f (noise s k)) }

/-- Sources enabled. -/
def sourcesOn (s : State) : Nat := ((List.range 4).filter (fun k => decide ((noise s k).state = 0))).length

/-! ### Baselines -/

/-- A sensor instance's key. -/
def sensorKey (sensor inst : Nat) : Nat := sensor * 64 + inst

/-- Transport thresholds apply: in SHIPPED, and on battery (R453). -/
def transport (s : State) : Bool := decide (lcState s = .shipped) || !s.pin.mainPower

/-- The baseline of the band in force, when one is calibrated (R453). -/
def calibrated (s : State) (sensor inst : Nat) : Option Int :=
  if transport s then none else tblGet s.tm.baselines (s.tk.band * 1024 + sensorKey sensor inst)

/-- The baseline in force (R453). -/
def baselineOf (s : State) (sensor inst : Nat) : Int :=
  match calibrated s sensor inst with
  | some b => b
  | none =>
    if transport s && decide (sensor = 5) then Config.vibFloor
    else Config.factoryBaseline (if transport s then 0 else s.tk.band) sensor inst

/-- The tolerance in force (R453): percent for the meshes, 10 Pa for pressure, 1/16 dB for vibration. -/
def toleranceOf (s : State) (sensor inst : Nat) : Int :=
  let cal := (calibrated s sensor inst).isSome
  match sensor with
  | 0 | 1 => if cal then 8 else 20
  | 3 => if cal then 600 else 1500
  | 5 => if transport s then 480 else if cal then 192 else 288
  | _ => Config.dupTolerance sensor

/-- The sensor instances that have baselines (R451, R453, R454): two meshes of 8 segments, 2 gauges, 2 accelerometers. -/
def baselineKeys : List Nat :=
  (List.range 8).map (sensorKey 0) ++ (List.range 8).map (sensorKey 1) ++ (List.range 2).map (sensorKey 3) ++
  (List.range 2).map (sensorKey 5)

/-- A sample point has come since the power-on sequence handed the registers over (R12). -/
def handed (s : State) : Bool := s.lc.ready && decide (s.lc.readyTick < s.tick)

/-- The band in force lacks a calibrated baseline for some quantity (R453). -/
def lacksBaseline (s : State) : Bool := baselineKeys.any (fun k => (tblGet s.tm.baselines (s.tk.band * 1024 + k)).isNone)

/-- TM_SUMMARY.BASE_CONS (R453); it is handed over as 1 (R12). -/
def baseCons (s : State) : Bool := !handed s || lacksBaseline s

/-! ### Evidence -/

/-- The 56 octets of an evidence entry that its MAC covers (R467). -/
def Evid.body (e : Evid) : List Byte :=
  leBytes 8 e.seq ++ leBytes 8 e.tick ++ leBytes 8 e.utc ++ leBytes 1 e.kind ++ leBytes 1 e.cls ++ leBytes 1 e.source ++
  leBytes 1 e.lc ++ leBytes 1 (b2n e.batt + 2 * b2n e.split + 4 * b2n e.ring + 8 * b2n e.cons + 16 * (e.band % 4)) ++
  leBytes 3 0 ++ leBytes 8 e.valA ++ leBytes 8 e.valB ++ leBytes 8 e.detail

/-- An evidence entry as the TM window presents it (R467). -/
def Evid.bytes (e : Evid) : List Byte := e.body ++ leBytes 8 (Config.evidenceMac e.body)

/-- Slots of the main log and of the overflow ring (R470). -/
def mainSlots : Nat := 65536
/-- Slots of the overflow ring (R470). -/
def ringSlots : Nat := 512

/-- Program an entry at the append point, or in the overflow ring once the main log is full (R469, R470). -/
def evidProgram (e : Evid) (s : State) : State :=
  let e := { e with seq := s.tm.evidNext, ring := s.tm.full }
  let s := { s with tm.evidNext := s.tm.evidNext + 1 }
  if s.tm.full then
    { s with tm.ring := tblPut s.tm.ring (s.tm.ringCount % ringSlots) (.whole e true), tm.ringCount := s.tm.ringCount + 1 }
  else
    { s with tm.evid := tblPut s.tm.evid s.tm.append (.whole e true), tm.append := s.tm.append + 1
             tm.full := decide (mainSlots ≤ s.tm.append + 1) }

/-- An entry of the present moment; the monitor fills tick, UTC, state, band and CONS (R467). -/
def evidNow (kind cls source valA valB detail : Nat) (s : State) : Evid :=
  { seq := 0, tick := s.tick, utc := if s.tk.utcValid then s.tk.utcSec else 0, kind, cls, source, lc := (lcState s).code,
    cons := lacksBaseline s, band := s.tk.band, valA, valB, detail }

/-- Non-blank slots from a point on, up to a number of them: those an append must skip (R469). -/
def nonBlankFrom (t : Tbl EvidSlot) : Nat → Nat → List Nat
  | 0, _ => []
  | n + 1, k => match tblGet t k with | none => [] | some _ => k :: nonBlankFrom t n (k + 1)

/-- The slots an append would skip now. -/
def skipped (s : State) : List Nat :=
  if s.tm.full then [] else nonBlankFrom s.tm.evid s.tm.evid.length s.tm.append

/-- Append an entry (R469): skipped slots are named in KIND 8 entries first, and make a lock-class event due. -/
def evidAppend (e : Evid) (s : State) : State :=
  let bad := skipped s
  let ap := s.tm.append + bad.length
  let s := { s with tm.append := ap, tm.blankHit := s.tm.blankHit || !bad.isEmpty, tm.full := s.tm.full || decide (mainSlots ≤ ap) }
  evidProgram e (bad.foldl (fun s k => evidProgram (evidNow 8 2 0x27 k 0 0 s) s) s)

/-- Note the last event in the TM registers, and raise vector 2 (R462, R474). -/
def tmLast (cls source inst : Nat) (split : Bool) (s : State) : State :=
  let s := { s with
    tm.lastClass := cls, tm.lastSource := source, tm.lastInst := inst, tm.lastSplit := split, tm.lastTick := s.tick
    tm.nCount := if cls = 1 then satAdd 32 s.tm.nCount 1 else s.tm.nCount
    tm.lCount := if cls = 2 then satAdd 32 s.tm.lCount 1 else s.tm.lCount
    tm.zCount := if cls = 3 then satAdd 32 s.tm.zCount 1 else s.tm.zCount
    tm.splits := if split then satAdd 32 s.tm.splits 1 else s.tm.splits }
  vector 2 s

/-- The event record of a tamper event: source 0x06, ARG_A the evidence entry's SEQ (R477). -/
def tamperReport (cls : Nat) (split : Bool) (seq : Nat) (s : State) : State :=
  note (if split then 0x0604 else 0x0600 + cls) (if split then 2 else cls) 0xFFFF seq 0 s

end Sys2Proof.Machine
end

