-- ==== Sys2Proof/Machine/KeyStore.lean ====
section
/-!
DEFINITION. The key store as the hub holds it: key types, the octets of records, tree counters, journal entries, root slots,
and emptying (R203 to R206, R211 to R213, R236, R239, R243).
-/
namespace Sys2Proof.Machine

/-! ### The firebox root key and its descendants (R202, R203) -/

/-- The counter-mode KDF of SP 800-108 with HMAC-SHA-384: so many octets from a key, a label and a context. The counter and the length in
bits are 32 bits, big-endian (PRESUMED, log entry 95). -/
def kdf (key label context : List Byte) (n : Nat) : List Byte :=
  octets ((List.range ((n + 47) / 48)).flatMap (fun i =>
    octets (Config.hmac 48 key (beBytes 4 (i + 1) ++ label ++ [0#8] ++ context ++ beBytes 4 (8 * n))) 0 48)) 0 n

/-- The FRK: HMAC-SHA-384 under the ember (R202). -/
def rootKey (s : State) : List Byte :=
  octets (Config.hmac 48 (Config.emberOf s.tm.emberVal) (ascii "THIZEN-FRK" ++ octets Config.pufKey 0 32)) 0 32

/-- A key-store key of a store generation (R203). -/
def ksKey (s : State) (label : String) (gen n : Nat) : List Byte := kdf s.lc.frk (ascii label) (leBytes 4 gen) n

/-- A key of this start: HBM-BOOT or CTX-WRAP (R203). -/
def bootKey (s : State) (label : String) (n : Nat) : List Byte := kdf s.lc.frk (ascii label) (beBytes 32 s.lc.bootNonce) n

/-- CTX-WRAP (R203, R360). -/
def ctxWrap (s : State) : List Byte := bootKey s "CTX-WRAP" 32

/-- HBM-BOOT: what every HBM region but the key records is enciphered under (R23, R203). -/
def hbmBoot (s : State) : List Byte := bootKey s "HBM-BOOT" 64

/-- A MAC under KS-MAC: AES-256-CMAC cut to 64 bits (R203). -/
def ksMac (s : State) (gen : Nat) (d : List Byte) : List Byte := octets (Config.aesCmac (ksKey s "KS-MAC" gen 32) d) 0 8

/-- HMAC-SHA-384 under KS-IMG (R203). -/
def ksImgMac (s : State) (gen : Nat) (d : List Byte) : List Byte := octets (Config.hmac 48 (ksKey s "KS-IMG" gen 48) d) 0 48

/-! ### Types, usages, classes -/

/-- Material octets a type fixes; none for HMAC, whose length varies, and for what is no key type (R212). -/
def typeBytes (t : Nat) : Option Nat :=
  match t with
  | 1 | 3 => some 16 | 2 | 4 => some 24 | 5 => some 32
  | 7 => some 644 | 8 => some 964 | 9 => some 1284 | 10 => some 260 | 11 => some 388 | 12 => some 516
  | 13 => some 32 | 14 => some 48 | 15 => some 66 | 16 => some 65 | 17 => some 97 | 18 => some 133
  | 19 | 20 => some 32 | 21 => some 64 | 22 => some 1184 | 23 => some 32 | 24 => some 1952
  | _ => none

/-- A length a key of the type can have (R212). -/
def lengthFits (t n : Nat) : Bool := if t = 6 then decide (32 ≤ n ∧ n ≤ 128) else decide (typeBytes t = some n)

/-- Key types (R212). -/
def keyType (t : Nat) : Bool := decide (1 ≤ t ∧ t ≤ 24)

/-- TDES types. -/
def isTdes (t : Nat) : Bool := decide (t = 1 ∨ t = 2)
/-- AES types. -/
def isAes (t : Nat) : Bool := decide (3 ≤ t ∧ t ≤ 5)
/-- Private types. -/
def isPrivate (t : Nat) : Bool := decide (t ∈ [7, 8, 9, 13, 14, 15, 19, 21, 23])
/-- Public types. -/
def isPublic (t : Nat) : Bool := decide (t ∈ [10, 11, 12, 16, 17, 18, 20, 22, 24])

/-- Extension records a key of n material octets takes (R211). -/
def extCount (n : Nat) : Nat := (n - 128 + 231) / 232

/-- Two ASCII characters as a number. -/
def chars2 (a b : Char) : Nat := a.toNat * 256 + b.toNat

/-- The class, types and modes of a usage (R213). -/
def usageRow (u : Nat) : Option (Nat × List Nat × List Char) :=
  if u = chars2 'P' '0' then some (0, [1, 2, 3, 4, 5], ['B', 'D', 'E'])
  else if u = chars2 'V' '1' then some (1, [1, 2], ['C', 'G', 'V'])
  else if u = chars2 'V' '2' then some (1, [1], ['C', 'G', 'V'])
  else if u = chars2 'C' '0' then some (2, [1], ['C', 'G', 'V'])
  else if u = chars2 'B' '0' then some (3, [1, 3, 4, 5], ['X'])
  else if u = chars2 'B' '1' then some (4, [1, 3, 4, 5], ['X'])
  else if u = chars2 'K' '0' ∨ u = chars2 'K' '1' then some (5, [1, 2, 3, 4, 5], ['B', 'D', 'E'])
  else if u = chars2 'E' '0' then some (6, [1, 3, 4, 5], ['C', 'X'])
  else if u = chars2 'E' '1' ∨ u = chars2 'E' '2' then some (7, [1, 3, 4, 5], ['C', 'X'])
  else if u = chars2 'M' '1' then some (8, [1, 2], ['C', 'G', 'V'])
  else if u = chars2 'M' '3' then some (8, [1], ['C', 'G', 'V'])
  else if u = chars2 'M' '6' then some (8, [3, 4, 5], ['C', 'G', 'V'])
  else if u = chars2 'M' '7' then some (8, [6], ['C', 'G', 'V'])
  else if u = chars2 'D' '0' then some (9, [1, 2, 3, 4, 5], ['B', 'D', 'E'])
  else if u = chars2 '6' '1' then some (10, [5], ['B', 'D', 'E'])
  else if u = chars2 'S' '0' then some (11, [7, 8, 9, 13, 14, 15, 23, 10, 11, 12, 16, 17, 18, 24], ['S', 'V'])
  else if u = chars2 'K' '3' then some (12, [7, 8, 9, 13, 14, 15, 19, 21, 10, 11, 12, 16, 17, 18, 20, 22], ['D', 'E'])
  else if u = chars2 'D' '1' then some (13, [7, 8, 9, 10, 11, 12], ['D', 'E'])
  else none

/-- The class of a usage; 32 when the usage is none of R213. -/
def usageClass (u : Nat) : Nat := match usageRow u with | some r => r.1 | none => 32

/-- A usage fits a type. -/
def usageFits (u t : Nat) : Bool := match usageRow u with | some r => decide (t ∈ r.2.1) | none => false

/-- A mode fits a usage and a type: the private half signs or deciphers, the public half verifies or enciphers (R213). -/
def modeFits (u t m : Nat) : Bool :=
  match usageRow u with
  | none => false
  | some r => r.2.2.any (fun c => decide (c.toNat = m)) &&
    (!isPrivate t || decide (m = 'S'.toNat ∨ m = 'D'.toNat)) && (!isPublic t || decide (m = 'V'.toNat ∨ m = 'E'.toNat))

/-- Exportability is E, N or S (R211). -/
def expFits (e : Nat) : Bool := decide (e = 'E'.toNat ∨ e = 'N'.toNat ∨ e = 'S'.toNat)

/-- ALGPARAM fits the type (R211). -/
def algFits (t a : Nat) : Bool := if t = 6 then decide (1 ≤ a ∧ a ≤ 3) else decide (a = 0)

/-! ### Records -/

/-- The index of a handle (R214). -/
def handleIndex (h : Nat) : Nat := h % 2 ^ 27

/-- The format of records at an index: that being written, in a segment switched to it (R244). -/
def formatAt (s : State) (i : Nat) : Nat :=
  match s.ks.mig with
  | some m => if i / 2 ^ 20 ∈ m.done then m.target else s.ks.format
  | none => s.ks.format

/-- A key record; an empty one that was never written has the format of its segment (R244). -/
def krec (s : State) (i : Nat) : KRec := (tblGet s.ks.recs i).getD { format := formatAt s i }

/-- The record is empty, or an extension record. -/
def KRec.noKey (r : KRec) : Bool := decide (r.type = 0 ∨ r.type = 31)

/-- Plaintext octets 0x00 to 0xF7 of a base or empty record (R211). -/
def KRec.plain (r : KRec) (i : Nat) : List Byte :=
  leBytes 4 (r.gen * 2 ^ 27 + i) ++ leBytes 1 r.format ++ leBytes 1 r.type ++ beBytes 2 r.usage ++ leBytes 1 r.mode ++
  leBytes 1 r.exp ++ leBytes 1 r.alg ++ leBytes 1 r.lim ++ leBytes 2 r.owner ++ leBytes 2 r.peer ++ leBytes 1 r.scope ++
  leBytes 1 r.flags ++ leBytes 2 r.epoch ++ beBytes 2 r.kvn ++ leBytes 1 r.ext.length ++ leBytes 1 0 ++
  leBytes 4 (r.ext.headD 0) ++ leBytes 1 r.kcvLen ++ leBytes 3 0 ++ octets r.kcv 0 8 ++ leBytes 8 r.created ++
  leBytes 8 r.notAfter ++ leBytes 8 r.uses ++ octets r.material 0 128 ++ octets r.label 0 32 ++ leBytes 24 0

/-- Plaintext octets 0x00 to 0xF7 of the j-th extension record (from 1) of a base record at index i (R211). -/
def KRec.extPlain (r : KRec) (i j : Nat) : List Byte :=
  leBytes 4 i ++ leBytes 1 r.format ++ leBytes 1 31 ++ leBytes 1 j ++ leBytes 1 0 ++ leBytes 4 (r.ext.getD j 0) ++
  leBytes 4 0 ++ octets r.material (128 + 232 * (j - 1)) 232

/-- Tree counters: the key of a child of a level (R206). -/
def treeKey (level child : Nat) : Nat := level * 2 ^ 28 + child

/-- Raise the counter of a child; a minor that would pass 2^24 − 1 raises MAJOR and zeroes the node's minors (R206). True
when that happened. -/
def bump (level child : Nat) (s : State) : Bool × State :=
  let m := tget 0 s.ks.minors (treeKey level child)
  let node := child / 64
  if m + 1 < 2 ^ 24 then (false, { s with ks.minors := tset 0 s.ks.minors (treeKey level child) (m + 1) })
  else (true, { s with
    ks.majors := tset 0 s.ks.majors (treeKey level node) (tget 0 s.ks.majors (treeKey level node) + 1)
    ks.minors := (List.range 64).foldl (fun t k => tblDel t (treeKey level (64 * node + k))) s.ks.minors })

/-- A record is written: its counter rises, and that of each node above it (R206). True when its level-1 node overflowed. -/
def bumpTree (i : Nat) (s : State) : Bool × State :=
  let q := bump 1 i s
  let s := (bump 2 (i / 64) q.2).2
  let s := (bump 3 (i / 4096) s).2
  let s := (bump 4 (i / 262144) s).2
  (q.1, { s with ks.minors := tset 0 s.ks.minors (treeKey 5 (i / 2 ^ 24)) (tget 0 s.ks.minors (treeKey 5 (i / 2 ^ 24)) + 1) })

/-- The octets of a tree node, its MAC among them: MAJOR, 64 MINOR counters, and over them with the node's number and its own counter in
its parent the MAC under KS-MAC (R206). -/
def nodeBytes (s : State) (level node : Nat) : List Byte :=
  let b := leBytes 8 (tget 0 s.ks.majors (treeKey level node)) ++
    (List.range 64).flatMap (fun k => leBytes 3 (tget 0 s.ks.minors (treeKey level (64 * node + k)))) ++ leBytes 48 0
  b ++ ksMac s s.ks.storeGen (leBytes 8 (treeKey level node) ++ leBytes 8 (tget 0 s.ks.minors (treeKey (level + 1) node)) ++ b)

/-- A record enciphered under KS-XTS at its logical address, its MAC over index, counters and plaintext at its end (R205). -/
def sealRec (s : State) (i : Nat) (plain : List Byte) : List Byte :=
  let mac := ksMac s s.ks.storeGen (leBytes 4 i ++ leBytes 8 (tget 0 s.ks.majors (treeKey 1 (i / 64))) ++
    leBytes 3 (tget 0 s.ks.minors (treeKey 1 i)) ++ plain)
  octets (Config.xtsUnit true (ksKey s "KS-XTS" s.ks.storeGen 64) (256 * i) (plain ++ mac)) 0 256

/-- The plaintext at an index: its own record, or an extension's part of its base. -/
def plainAt (s : State) (i : Nat) : List Byte :=
  let r := krec s i
  if r.type = 31 then (krec s r.base).extPlain r.base r.seq else r.plain i

/-- A base record and its extension records, enciphered, in order (R236). -/
def sealKey (s : State) (i : Nat) : List Byte :=
  sealRec s i (plainAt s i) ++ (krec s i).ext.flatMap (fun e => sealRec s e (plainAt s e))

/-! ### Journal and root slots -/

/-- Slots an entry takes (R236). -/
def entrySlots (nrec : Nat) : Nat := (64 + 256 * nrec + 511) / 512

/-- Octets 0x00 to 0x1F of an entry (R236). -/
def entryHead (seq tick kind nrec fmt index : Nat) : List Byte :=
  leBytes 8 seq ++ leBytes 8 tick ++ leBytes 2 kind ++ leBytes 2 nrec ++ leBytes 2 (entrySlots nrec) ++ leBytes 1 fmt ++
  leBytes 1 0 ++ leBytes 4 index ++ leBytes 4 0

/-- An entry and its chain value, after a chain value (R236). -/
def mkEntry (s : State) (seq tick kind nrec fmt index : Nat) (payload : List Byte) : List Byte × List Byte :=
  let head := entryHead seq tick kind nrec fmt index
  let chain := octets (ksImgMac s s.ks.storeGen (s.ks.chain ++ head ++ payload)) 0 32
  (octets (head ++ chain ++ payload) 0 (512 * entrySlots nrec), chain)

/-- One change more: its number, its journal entry (R236). -/
def journal (tick kind nrec fmt index : Nat) (payload : List Byte) (s : State) : State :=
  let seq := s.ks.changeSeq + 1
  let e := mkEntry s seq tick kind nrec fmt index payload
  { s with ks.changeSeq := seq, ks.chain := e.2, ks.entries := s.ks.entries ++ [{ seq, slots := entrySlots nrec, bytes := e.1 }] }

/-- A domain's entry in the network-order layout of DOMAIN_SET (R236, R414). -/
def domBytes (tick d : Nat) (e : Dom) : List Byte :=
  beBytes 8 tick ++ beBytes 2 d ++ beBytes 1 (b2n e.isOpen) ++ beBytes 1 e.limPin ++ beBytes 1 e.limTok ++ beBytes 3 0 ++
  beBytes 4 e.quota ++ beBytes 4 e.pinQuota ++ beBytes 4 e.tgtLo ++ beBytes 4 e.tgtN

/-- An epoch command in the network-order layout of EPOCH (R236, R413). -/
def epochBytes (c : EpochCmd) : List Byte :=
  beBytes 8 c.tick ++ beBytes 2 c.domain ++ beBytes 2 c.cur ++ beBytes 2 c.oldest ++ beBytes 2 0

/-- Staging units an entry takes (R237). -/
def JEntry.units (e : JEntry) : Nat := 2 * e.slots

/-- Staging units held and not yet transmitted (R225, R237). -/
def stagedUnits (s : State) : Nat := ((s.ks.entries.filter (fun e => !e.sent)).map JEntry.units).sum

/-- A root slot's 64 octets (R239). -/
def RootSlot.bytes (s : State) (r : RootSlot) : List Byte :=
  let b := leBytes 8 r.slotSeq ++ leBytes 8 r.changeSeq ++ octets r.chain 0 32 ++ leBytes 4 r.gen ++ leBytes 1 r.format ++ leBytes 3 0
  b ++ ksMac s r.gen b

/-- The newest record format in the store (R244, R247). -/
def newestFormat (s : State) : Nat :=
  match s.ks.mig with
  | some m => if m.done.isEmpty then s.ks.newest else max m.target s.ks.newest
  | none => s.ks.newest

/-- Write the next root slot (R239). -/
def writeSlot (changeSeq : Nat) (chain : List Byte) (s : State) : State :=
  let n := s.ks.slotSeq + 1
  { s with ks.slotSeq := n, ks.slots := tblPut s.ks.slots (n % 16384) ⟨n, changeSeq, chain, s.ks.storeGen, newestFormat s⟩ }

/-- The current root slot (R239). -/
def rootSlot (s : State) : Option RootSlot := tblGet s.ks.slots (s.ks.slotSeq % 16384)

/-- What a request waits for while its change is not yet committed: a number no change reaches. -/
def pendingSeq : Nat := 2 ^ 64

/-- Empty the store (R243): the KIND 5 entry, STORE_GEN, the empty root slot, and every index empty with generation 0. A
change not yet durable never becomes so. -/
def emptyStore (s : State) : State :=
  let old := s.ks.entries.map (fun e => { e with mark := true })
  let mark := match s.ks.ring with
    | none => []
    | some _ => [{ seq := s.ks.changeSeq + 1, slots := 1, bytes := (mkEntry s (s.ks.changeSeq + 1) s.tick 5 0 s.ks.format 0 []).1, mark := true }]
  let works := s.wk.works.map (fun p => if s.ks.durableSeq < p.2.changeSeq then (p.1, { p.2 with changeSeq := pendingSeq }) else p)
  let ks : KsSt := { s.ks with
    entries := old ++ mark, storeGen := (s.ks.storeGen + 1) % 2 ^ 32, recs := [], freed := [], quar := [], cache := [], fetching := []
    newest := s.ks.format, nodes := [], changes := [], changeSeq := 0, durableSeq := 0, chain := List.replicate 32 0, mig := none, loadOp := none
    scrubStart := s.tick, scrubSeen := []
    state := if s.ks.state = 3 then 3 else 2 }
  writeSlot 0 (List.replicate 32 0) (refreshRegime { s with ks, wk.works := works })

/-- What a class Z response takes from the store at once: cache and every readable record (R29, R204). -/
def loseStore (s : State) : State :=
  let ks : KsSt := { s.ks with state := 4, recs := [], cache := [], nodes := [], fetching := [], changes := [], quar := [], freed := [], held := []
                               cer := none, snap := none, loadOp := none, mig := none }
  refreshRegime { s with ks }

end Sys2Proof.Machine
end

