-- ==== Sys2Proof/Machine/Exits.lean ====
section
/-!
DEFINITION. The way out of a port: ports and their links, the egress lanes and buffers, and frames under a transmit association (R34, R250,
R255 to R261, R270, R287).
-/
namespace Sys2Proof.Machine

/-! ### Ports -/

/-- A port. -/
def port (s : State) (p : Nat) : Port := tget {} s.pt.ports p

/-- Change a port. -/
def modPort (p : Nat) (f : Port → Port) (s : State) : State := { s with pt.ports := tset {} s.pt.ports p (f (port s p)) }

/-- Change the event counters of a port. -/
def modCnt (p : Nat) (f : PortCnt → PortCnt) (s : State) : State := modPort p (fun x => { x with cnt := f x.cnt }) s

/-- A life-cycle state in which ports carry traffic (R431). -/
def Lc.traffic (l : Lc) : Bool := decide (l = .development ∨ l = .provisioned ∨ l = .operational ∨ l = .maintenance)

/-- A sub-port link carries traffic; none does once the module sheds load, or in a state without port traffic (R431, R557). -/
def linkUp (s : State) (p k : Nat) : Bool :=
  (lcState s).traffic && !s.pin.shedding && decide ((port s p).state = 3) && ((port s p).links[k]?).any (·.up)

/-- PROVISIONED, in which ports take and send PTP alone, and the way there from DEVELOPMENT once port traffic has stopped (R431, R434). -/
def onlyPtp (s : State) : Bool := decide (lcState s = .provisioned) || s.lc.stopAll

/-- What stops the lanes: a class L or Z response, or a state that does not serve (R270, R431). -/
def lanesDue (s : State) : Bool := s.tm.grantStop || s.lc.stopGrants || s.lc.stopAll || !(lcState s).service

/-- No lane takes a new frame: from the sample point after what stops them, and at once in a class Z response (R270). -/
def lanesStopped (s : State) : Bool := s.pt.stopped

/-- The sample point at which the lanes stop, or serve again (R270). -/
def lanesStopPoint (s : State) : State := { s with pt.stopped := lanesDue s }

/-- A sub-port takes and sends frames other than PTP (R270, R431). -/
def frameOk (s : State) (p k : Nat) : Bool := linkUp s p k && !onlyPtp s && !lanesStopped s

/-! ### Slots and lanes (R249, R261) -/

/-- The lane that serves a slot, or takes it at the next sample point. -/
def slotLane (s : State) (k : Nat) : Option Nat :=
  ((List.range 152).find? (fun n => decide ((lane s n).slot = some k))).or ((s.ln.slotDue.find? (fun q => decide (q.2 = k))).map (·.1))

/-- The lanes of a port's direction: 0 ingress, 1 egress. -/
def dirLanes (s : State) (p d : Nat) : List Nat := ([0, 1] : List Nat).filterMap (fun i => slotLane s (4 * p + 2 * d + i))

/-- The lanes of a direction in the order the port tries them: which of two comes first is the port's (log entry 26). -/
def laneOrder (p d : Nat) (s : State) : List Nat × State :=
  match dirLanes s p d with
  | n :: m :: _ => let q := draw s
                   (if q.1 % 2 = 0 then [n, m] else [m, n], q.2)
  | l => (l, s)

/-- Lane cycles a frame occupies (R259). -/
def occupancy (inB outB : Nat) : Nat := (max inB outB + 63) / 64

/-- The cap of a lane's replay set in lane cycles: ingress, egress (R259). -/
def laneCap (d : Nat) : Nat := if d = 0 then 288 else 3072

/-- Part of an amount has gone on since the last look: how much is timing within the tick, a free value (log entry 34). -/
def ebb (n : Nat) (s : State) : Nat × State :=
  if n = 0 then (0, s) else
  let q := draw s
  (n - q.1 % (n + 1), q.2)

/-- A lane's replay set grows by a frame; PEAK follows (R259, R272). -/
def addOcc (n c : Nat) (s : State) : State := modLane n (fun l => { l with occ := l.occ + c, peak := max l.peak (l.occ + c) }) s

/-- An ingress lane with room for a frame of c lane cycles takes it (R259). -/
def laneTakes (c : Nat) : List Nat → State → Option Nat × State
  | [], s => (none, s)
  | n :: t, s =>
    let q := ebb (lane s n).occ s
    let s := modLane n (fun l => { l with occ := q.1 }) q.2
    if q.1 + c ≤ laneCap 0 then (some n, addOcc n c s) else laneTakes c t s

/-- An egress lane takes a frame of c lane cycles, once its replay set has room: until then the frame waits in the egress buffer, in
order (R259, R260). -/
def egressLane (p c : Nat) (s : State) : Option Nat × State :=
  let o := laneOrder p 1 s
  match o.1 with
  | [] => (none, o.2)
  | n :: _ =>
    let q := ebb (lane o.2 n).occ o.2
    (some n, addOcc n c (modLane n (fun l => { l with occ := min q.1 (laneCap 1 - c) }) q.2))

/-- A frame passed a lane whole. -/
def laneFrame (n inB outB : Nat) (s : State) : State :=
  modLane n (fun l => { l with inBytes := wrapAdd 64 l.inBytes inB, outBytes := wrapAdd 64 l.outBytes outB, units := wrapAdd 64 l.units 1 }) s

/-- The port holds its output while a replay of an egress slot runs (R261). -/
def egressHeld (s : State) (p : Nat) : Bool := s.ln.replays.any (fun r => decide (r.slot / 2 = 2 * p + 1))

/-- Octets a port sends in a tick: its share of 1.6 Tbit/s that is up (R34, R274). -/
def egRate (x : Port) : Nat := 51200 * (8 / max 1 x.links.length) * (x.links.filter (·.up)).length

/-- Octets of frames in the egress buffer. -/
def egSizes (l : List EgItem) : Nat := (l.map (·.size)).sum

/-- Octets the egress buffer holds: the frame on the line and those that wait. -/
def egHeld (x : Port) : Nat := x.egFill + egSizes x.egq

/-- The egress buffer of 1 MiB has room (R34). -/
def egRoom (s : State) (p n : Nat) : Bool := decide (egHeld (port s p) + n ≤ 2 ^ 20)

/-- Send so many octets of the frame on the line and of those behind it; the next frame starts as soon as the line is free. What started, what
is left on the line, and what waits. -/
def egGo : Nat → Nat → List EgItem → List EgItem × Nat × List EgItem
  | b, fill, [] => ([], fill - b, [])
  | b, fill, x :: t =>
    if b < fill then ([], fill - b, x :: t)
    else let r := egGo (b - fill) x.size t
         (x :: r.1, r.2)

/-- The port sends so many octets, unless a replay holds its output (R261). -/
def egRun (p b : Nat) (s : State) : State :=
  if egressHeld s p then s else
  let r := egGo b (port s p).egFill (port s p).egq
  let s := modPort p (fun x => { x with
    egFill := r.2.1, egq := r.2.2, txBytes := wrapAdd 64 x.txBytes (egSizes r.1), txFrames := wrapAdd 64 x.txFrames r.1.length }) s
  sendAll (r.1.map (·.beat)) s

/-- Part of the egress buffer has gone since the last look: how much is a free value within the port's rate (R34, log entry 34). -/
def egLook (p : Nat) (s : State) : State :=
  let x := port s p
  let n := min (egHeld x) (egRate x - x.egUsed)
  if egressHeld s p || n = 0 then s else
  let q := draw s
  let b := q.1 % (n + 1)
  egRun p b (modPort p (fun x => { x with egUsed := x.egUsed + b }) q.2)

/-- A frame's place in the egress buffer: a response in top note goes ahead of every frame not yet started, but for others of its kind
(R260). -/
def egInsert (i : EgItem) (l : List EgItem) : List EgItem :=
  if i.top then l.takeWhile (·.top) ++ i :: l.dropWhile (·.top) else l ++ [i]

/-- A frame enters the egress buffer, and leaves at once if the line is free; without room it is dropped (R34, R278, R287). -/
def portOut (p sub bytes : Nat) (o : Output) (m : Option OutMsg) (s : State) : State :=
  let s := egLook p s
  if !egRoom s p bytes then modCnt p (fun c => { c with txDrop := satAdd 32 c.txDrop 1 }) s
  else
    let top := m.any (fun m => decide (m.type = 0x11 ∧ m.note = 0))
    egRun p 0 (modPort p (fun x => { x with egq := egInsert ⟨sub, bytes, o, m, top⟩ x.egq }) s)

/-- A frame leaves through an egress lane. -/
def laneOut (p sub inB bytes : Nat) (o : Output) (m : Option OutMsg) (s : State) : State :=
  let q := egressLane p (occupancy inB bytes) s
  match q.1 with
  | some n => portOut p sub bytes o m (laneFrame n inB bytes q.2)
  | none => s

/-! ### MACsec frames (R255, R257) -/

/-- The material of an association's key; an association without a handle is under the group SAK that came with JOIN_ACCEPT (R519, R524). -/
def sakKey (s : State) (a : Sa) : List Byte := if a.sak = 0 then s.gp.sak else (krec s (handleIndex a.sak)).material

/-- The last PN a suite allows, and the PN at which a notice is posted (R257). -/
def pnNear (suite : Nat) : Nat := if suite ≤ 2 then 0xFF000000 else 2 ^ 64 - 2 ^ 40

/-- An association's place: port, sub-port, direction, AN, SCI. -/
def Sa.place (a : Sa) : Nat × Nat × Nat × Nat × Nat := (a.port, a.subport, a.dir, a.an, a.sci)

/-- Change an association. -/
def modSa (a : Sa) (f : Sa → Sa) (s : State) : State :=
  { s with ln.sas := s.ln.sas.map (fun x => if x.place = a.place then f x else x) }

/-- The transmit association of a sub-port: the one installed last (R257). -/
def txSa (s : State) (p k : Nat) : Option Sa := (s.ln.sas.filter (fun a => decide (a.dir = 1 ∧ a.port = p ∧ a.subport = k))).getLast?

/-- A frame dropped on its way out (R257, R287). -/
def dropFrame (b : Nat) (s : State) : State := modCnt b (fun c => { c with txDrop := satAdd 32 c.txDrop 1 }) s

/-- A clear frame leaves sub-port `k` of port `b` under its transmit association: whether it left (R257, R258, R287). -/
def macsecOut (b k : Nat) (clear : List Byte) (s : State) : Bool × State :=
  if !frameOk s b k then (false, dropFrame b s) else
  match txSa s b k with
  | none => (false, dropFrame b s)
  | some a =>
    let size := clear.length + (if bitOf a.flags 1 then 32 else 24)
    let s := egLook b s
    if !egRoom s b size then (false, dropFrame b s) else
    let q := egressLane b (occupancy clear.length size) s
    match q.1 with
    | none => (false, dropFrame b q.2)
    | some n =>
      let s := q.2
      if 9216 < size then (false, modLane n (fun l => { l with lenDrop := satAdd 32 l.lenDrop 1 }) s)
      else if pnLast a.suite < a.nextPn then (false, dropFrame b s)
      else
        let out := Config.macsecSeal [a.suite, a.sci, a.ssci, a.nextPn, a.an, a.flags] (sakKey s a) a.salt clear
        let near := decide (pnNear a.suite ≤ a.nextPn + 1) && !a.near
        let s := modSa a (fun x => { x with nextPn := x.nextPn + 1, near := x.near || near }) s
        let s := if near then note 0x0C04 1 b k a.an s else s
        (true, portOut b k size (.frame b k out) none (laneFrame n clear.length size s))

end Sys2Proof.Machine
end

