-- ==== Sys2Proof/Machine/GroupBase.lean ====
section
/-!
DEFINITION. What the group unit sends, and the tables it sends it from (R519 to R521, R528, R531, R536). The layout of the payloads
is the model's own (log entry 30); what is deciphered arrives in the events taken apart.
-/
namespace Sys2Proof.Machine

/-- A member. -/
def member (s : State) (m : Nat) : Member := tget {} s.gp.members m

/-- Change a member. -/
def modMember (m : Nat) (f : Member → Member) (s : State) : State :=
  { s with gp.members := tset {} s.gp.members m (f (member s m)) }

/-- Cut octets into frame payloads of at most 8,192 octets (R520). -/
def framesOf : Nat → List Byte → List (List Byte)
  | 0, bs => [bs]
  | n + 1, bs => if bs.length ≤ 8192 then [bs] else bs.take 8192 :: framesOf n (bs.drop 8192)

/-- The 32-octet header of a group frame (R520). -/
def flueHead (s : State) (type dst len seq : Nat) : List Byte :=
  beBytes 1 1 ++ beBytes 1 type ++ beBytes 1 s.gp.member ++ beBytes 1 dst ++ beBytes 4 s.gp.groupId ++ beBytes 4 s.gp.mgen ++
  beBytes 4 len ++ beBytes 8 seq ++ beBytes 8 s.tick

/-- The sub-port toward a member: the manager's table names it; any other member reaches the group where it joined (R519, R522). -/
def linkOf (s : State) (m : Nat) : Nat × Nat :=
  if s.gp.role = 1 then ((member s m).port, (member s m).subport) else (s.gp.joinPort, s.gp.joinSub)

/-- A sub-port carries the flue network. -/
def flueOk (s : State) (p k : Nat) : Bool := frameOk s p k && decide ((port s p).role = 3)

/-- One group frame to a member: its SEQ rises by one on the link, and it leaves under the transmit association of the sub-port (R257, R519,
R520). -/
def gpFrame (m type : Nat) (payload : List Byte) (s : State) : State :=
  let seq := (member s m).txSeq + 1
  let s := modMember m (fun x => { x with txSeq := seq }) s
  let l := linkOf s m
  if (port s l.1).role ≠ 3 then s else
  (macsecOut l.1 l.2 (octets (Config.flueAddr s.gp.member m) 0 12 ++ beBytes 2 0x88B5 ++ flueHead s type m payload.length seq ++ payload) s).2

/-- A JOIN_HELLO or JOIN_ACCEPT leaves unprotected (R519, R521, R524). -/
def joinFrame (m type : Nat) (payload : List Byte) (s : State) : State :=
  let seq := (member s m).txSeq + 1
  let s := if m = 255 then s else modMember m (fun x => { x with txSeq := seq }) s
  let l := linkOf s m
  let f := octets (Config.flueAddr s.gp.member m) 0 12 ++ beBytes 2 0x88B6 ++ flueHead s type m payload.length seq ++ payload
  if flueOk s l.1 l.2 then portOut l.1 l.2 (f.length + 4) (.frame l.1 l.2 f) none s else s

/-- Send octets to a member, in as many frames as they take. -/
def gpSend (m type : Nat) (payload : List Byte) (s : State) : State :=
  (framesOf (payload.length / 8192) payload).foldl (fun s c => gpFrame m type c s) s

/-- A list of octets with its length before it. -/
def counted (bs : List Byte) : List Byte := beBytes 4 bs.length ++ bs

/-- The other members in contact: in resync or LIVE. -/
def contacts (s : State) : List Nat :=
  (s.gp.members.filter (fun p => decide (p.1 ≠ s.gp.member) && decide (p.2.state = 2 ∨ p.2.state = 3))).map (·.1)

/-- The manager's LIVE workers. -/
def liveWorkers (s : State) : List Nat :=
  (s.gp.members.filter (fun p => decide (p.1 ≠ s.gp.member) && decide (p.2.state = 3))).map (·.1)

/-- A tick of this module as a group tick (R527). -/
def groupTick (s : State) (k : Nat) : Nat := ((k : Int) + s.gp.offset).toNat

/-- A group tick as a tick of this module (R527). -/
def ownTick (s : State) (k : Nat) : Nat := ((k : Int) - s.gp.offset).toNat

/-- The flue identity is drawn on its first use (R523). -/
def drawIdentity (s : State) : State :=
  match s.gp.identity with
  | some _ => s
  | none => let q := draw s
            { q.2 with gp.identity := some q.1 }

/-- The digest of the flue identity (R523). -/
def identityDigest (s : State) : List Byte := octets ((s.gp.identity.map Config.flueDigest).getD []) 0 48

/-- A JOIN_HELLO to the manager (R524); it says whether the member has restarted. -/
def sendHello (restarted : Bool) (s : State) : State :=
  let q := draw (drawIdentity s)
  joinFrame q.2.gp.manager 0x01 (Config.flueJoin 1 q.2.gp.groupId (q.2.gp.identity.getD 0) q.1 [] ++ beBytes 1 (b2n restarted))
    { q.2 with gp.rejoining := true }

/-- A LOCKOUT payload (R531). -/
def lockoutBytes (i until_ : Nat) : List Byte := beBytes 4 i ++ beBytes 4 0 ++ beBytes 8 until_

/-- A confirmed lockout goes to the manager, or from it to every other member in contact (R531). -/
def sendLockout (i until_ : Nat) (s : State) : State :=
  let data := lockoutBytes i (groupTick s until_)
  if s.gp.role = 1 then (contacts s).foldl (fun s m => gpSend m 0x22 data s) s
  else if s.gp.role = 2 ∨ s.gp.role = 3 ∨ s.gp.role = 4 then gpSend s.gp.manager 0x22 data s
  else s

/-- A submission entry as its 128 octets (R88). -/
def subBytes (x : Sub) : List Byte :=
  leBytes 2 x.func ++ leBytes 2 (x.note * 2 ^ 14 + b2n x.inl * 2 ^ 13 + b2n x.atomic * 2 ^ 12) ++ leBytes 4 x.ctag ++ leBytes 2 x.slice ++
  leBytes 2 x.domain ++ leBytes 4 x.pasid ++ leBytes 4 x.key0 ++ leBytes 4 x.key1 ++ leBytes 4 x.key2 ++ leBytes 4 0 ++
  leBytes 8 x.inAddr ++ leBytes 4 x.inLen ++ leBytes 4 x.outMax ++ leBytes 8 x.outAddr ++ leBytes 8 x.aux ++ octets x.param 0 64

/-- One part as PART_REQ carries it (R532). -/
def partReqBytes (w : Work) (b idx : Nat) : List Byte :=
  beBytes 4 b ++ beBytes 2 idx ++ beBytes 2 w.input.length ++ subBytes w.sub ++ w.input

/-- Parts named to a member in a PART_CANCEL (R536). MODE: 0 cancel, 1 drain, 2 squash. -/
def sendStop (m b idx mode : Nat) (s : State) : State := gpSend m 0x32 (beBytes 4 b ++ beBytes 2 idx ++ beBytes 1 mode ++ beBytes 1 0) s

/-- The member that runs a part. -/
def awayAt (s : State) (b idx : Nat) : Option Nat :=
  (s.gp.away.find? (fun a => decide (a.batch = b ∧ a.idx = idx))).map (·.member)

/-- A part is no longer away. -/
def dropAway (b idx : Nat) (s : State) : State :=
  { s with gp.away := s.gp.away.filter (fun a => !decide (a.batch = b ∧ a.idx = idx)) }

end Sys2Proof.Machine
end

