-- ==== Sys2Proof/Machine/UnitBase.lean ====
section
/-!
DEFINITION. The public-key units, as far as the quorum gate needs them: context 0 and its operations (R377 to R379, R390, R391, R410),
and the checks of a public key (R382).
-/
namespace Sys2Proof.Machine

/-- A public-key unit. -/
def pkUnit (s : State) (u : Nat) : PkUnit := tget {} s.pk.units u

/-- Change a public-key unit. -/
def modPk (u : Nat) (f : PkUnit → PkUnit) (s : State) : State := { s with pk.units := tset {} s.pk.units u (f (pkUnit s u)) }

/-- Engine die of a unit (R377). -/
def pkDie (u : Nat) : Nat := u / 16

/-- Units in service. -/
def pkInService (s : State) : List Nat := (List.range 64).filter (fun u => !(pkUnit s u).retired)

/-- Score one failed check to a unit; the third within 2^20 ticks of the first of the last three retires it (R135, R390, R391). -/
def scorePk (u : Nat) (s : State) : State :=
  modPk u (fun k =>
    let l := (k.scores ++ [s.tick]).drop (k.scores.length - 2)
    { k with scores := l
             retireDue := k.retireDue || (!k.retired && decide (3 ≤ l.length) && decide (s.tick ≤ l.headD 0 + 2 ^ 20)) }) s

/-- The one of some units with the fewest operations at context 0, the first of them on a tie (DESIGN CHOICE, log entry 49). -/
def fewestCtl (s : State) : List Nat → Option Nat
  | [] => none
  | u :: t => match fewestCtl s t with
    | none => some u
    | some v => if (pkUnit s u).ctl.length ≤ (pkUnit s v).ctl.length then some u else some v

/-- Unit steps of one verification by the gate (R383): P-384 or ML-DSA-65. -/
def verifySteps (alg : Nat) : Nat := if alg = 1 then 21 else 3

/-- A control operation goes to context 0 of a unit; it runs from the next tick (R378, R417). -/
def giveCtl (u : Nat) (c : PkCtl) (s : State) : State := modPk u (fun k => { k with ctl := k.ctl ++ [{ c with from_ := s.tick + 1 }] }) s

/-- A signature goes to two units on different engine dies (R410). DESIGN CHOICE (log entry 49): where only one die has units in service,
to two of that die, or to the one there is. -/
def giveBlock (b : SigBlock) (s : State) : State :=
  let c : PkCtl := ⟨verifySteps b.alg, verifySteps b.alg, 0, none⟩
  match fewestCtl s (pkInService s) with
  | none => s
  | some u =>
    let rest := (pkInService s).filter (fun v => decide (v ≠ u))
    let v := ((fewestCtl s (rest.filter (fun v => decide (pkDie v ≠ pkDie u)))).or (fewestCtl s rest)).getD u
    giveCtl v c (giveCtl u c s)

/-- Some unit still works for the gate. -/
def gateBusy (s : State) : Bool := s.pk.units.any (fun p => !p.2.ctl.isEmpty)

/-- Modulus octets of an RSA type. -/
def rsaLen (t : Nat) : Nat := match t with | 7 | 10 => 256 | 8 | 11 => 384 | 9 | 12 => 512 | _ => 0

/-- A public key of a type passes the checks of R382: RSA as n and e (R212, R381), ML-DSA by its length, points and encapsulation keys by
the standards cited. -/
def pubKeyValid (t : Nat) (m : List Byte) : Bool :=
  if 10 ≤ t ∧ t ≤ 12 then
    let n := be m 0 (rsaLen t)
    let e := be m (rsaLen t) 4
    decide (m.length = rsaLen t + 4) && decide (2 ^ (8 * rsaLen t - 1) ≤ n) && decide (n % 2 = 1) && decide (e % 2 = 1) && decide (65537 ≤ e)
  else if t = 24 then decide (m.length = 1952)
  else Config.pubKeyOk t m

end Sys2Proof.Machine
end

