-- ==== Sys2Proof/Machine/FenceBase.lean ====
section
/-!
DEFINITION. How a fence decides an access, its reports, and the fence on a controller's DMA (R424 to R429).
-/
namespace Sys2Proof.Machine

/-- A region contains an address (R426). -/
def Region.holds (r : Region) (addr : Nat) : Bool := r.en && decide (r.base ≤ addr / 4096) && decide (addr / 4096 ≤ r.limit)

/-- A region's master range includes a master (R426). -/
def Region.admits (r : Region) (m : Nat) : Bool := decide (r.mLo ≤ m) && decide (m ≤ r.mHi)

/-- The eighth of a region's pages an address lies in (R426). -/
def Region.sub (r : Region) (addr : Nat) : Nat := (addr / 4096 - r.base) * 8 / (r.limit - r.base + 1)

/-- The debug port (R424). -/
def debugMaster : Nat := 0x7FF

/-- A fence on which no master's access passes (R425). -/
def noMaster (f : Nat) : Bool := decide (59 ≤ f ∧ f ≤ 71) || decide (83 ≤ f ∧ f ≤ 95)

/-- Why an access is blocked (R426, R428): REASON, the deciding region and its sub-region, the address of the granule. -/
structure Blocked where
  reason : Nat
  region : Nat
  sub    : Nat
  addr   : Nat
  deriving DecidableEq, Repr

/-- Why a granule at an address is blocked, by a fence's regions in the order of their numbers; none when it passes (R425, R426). -/
def granuleBlocks (rs : List (Nat × Region)) (a : Access) (master addr : Nat) : Option Blocked :=
  let rs := rs.filter (fun p => p.2.holds addr)
  match if noMaster a.fence then none else rs.find? (fun p => p.2.admits master) with
  | none => some ⟨if rs.isEmpty then 0 else 1, 0, 0, addr⟩
  | some (k, r) =>
    if (a.kind = 0 ∧ r.rd = false) ∨ (a.kind ≠ 0 ∧ r.wr = false) then some ⟨2, k, 0, addr⟩
    else if bitOf r.subOff (r.sub addr) then some ⟨3, k, r.sub addr, addr⟩
    else if 48 ≤ a.fence ∧ r.pv = true ∧ a.pasid ≠ some r.pasid then some ⟨4, k, 0, addr⟩
    else none

/-- The addresses an access is checked at: one in each granule of 64 octets it touches (R426). -/
def accessGranules (a : Access) : List Nat :=
  (List.range ((a.addr % 64 + max 1 a.len + 63) / 64)).map (fun j => max a.addr (64 * (a.addr / 64 + j)))

/-- Why an access is blocked, by the first granule that is; none when it passes (R426). -/
def accessBlocks (s : State) (rs : List (Nat × Region)) (a : Access) (master : Nat) : Option Blocked :=
  if master = debugMaster ∧ lcState s ≠ .development then some ⟨5, 0, 0, a.addr⟩
  else (accessGranules a).findSome? (granuleBlocks rs a master)

/-- The blocked access is one of a locked or vendor-locked region, a lock-class event (R429). -/
def lockedStop (r : Region) (b : Blocked) : Bool := (r.lock || r.vlock) && decide (2 ≤ b.reason ∧ b.reason ≤ 4)

/-- A violation is reported (R428, R429): the fence's registers, and a record with its notice. -/
def fenceReport (a : Access) (master : Nat) (b : Blocked) (locked : Bool) (s : State) : State :=
  let info : FenceInfo := ⟨true, master, a.kind, b.reason, b.region, b.sub, b.addr, s.tick⟩
  let r := tget {} s.fn.reports a.fence
  let r : FenceRep := { viol := satAdd 32 r.viol 1, last := info, first := if r.first.valid then r.first else info }
  note 0x0801 (if locked then 2 else 1) a.fence b.addr master { s with fn.reports := tset {} s.fn.reports a.fence r }

/-- The pair in control, whose DMA a fence of host link 0 checks: 56 for HC-A, 57 for HC-B (R424, R425). -/
def hcPair (s : State) : Nat := s.hc.active.getD 0

/-- A controller's DMA of the mailbox passes its fence (R425 to R427): whether it is blocked. What a locked region's violation brings with it
comes at the next sample point (log entry 23). -/
def hcFence (kind addr len : Nat) (s : State) : Bool × State :=
  if len = 0 then (false, s) else
  let p := hcPair s
  let a : Access := ⟨56 + p, addr, len, kind, none⟩
  let rs := (List.range 32).map (fun k => (k, tget ({} : Region) s.fn.regions (32 * a.fence + k)))
  match accessBlocks s rs a (0x600 + p) with
  | none => (false, s)
  | some b =>
    let locked := lockedStop (tget {} s.fn.regions (32 * a.fence + b.region)) b
    let s := fenceReport a (0x600 + p) b locked s
    (true, if locked then { s with fn.owed := s.fn.owed ++ [(0x600 + p, b.reason)] } else s)

end Sys2Proof.Machine
end

