-- ==== Sys2Proof/Machine/Mailbox.lean ====
section
/-!
DEFINITION. The mailbox, the frame grate, the nonces and the quorum gate (R394 to R411, R416 to R419), and how a command
is taken up and answered.
-/
namespace Sys2Proof.Machine

/-! ### Responses -/

/-- The response frame of the held command (R402). -/
def responseBytes (f : Frame) (status detail tick outLen : Nat) (payload : List Byte) : List Byte :=
  beBytes 2 0x464C ++ beBytes 1 1 ++ beBytes 1 2 ++ beBytes 2 f.code ++ beBytes 2 0 ++ beBytes 4 f.tag ++ beBytes 4 0 ++
  beBytes 4 payload.length ++ beBytes 4 0 ++ beBytes 4 payload.length ++ beBytes 4 0 ++ beBytes 8 0 ++ beBytes 8 0 ++
  beBytes 4 outLen ++ beBytes 2 status ++ beBytes 2 detail ++ beBytes 8 tick ++ payload

/-- Raise a vector of PF0, or owe it while host link 0 is away (R37, R396). -/
def mbVector (s : State) : State := if s.hl.link0.up then vector 0 s else { s with mb.vecOwed := true }

/-- Write output of a command to host memory, or hold it while host link 0 is away (R37). -/
def outWrite (addr : Nat) (d : List Byte) (s : State) : State :=
  let os := writeBeats 0 none false addr d
  if s.hl.link0.up then sendAll os s else { s with mb.outHeld := os.reverse ++ s.mb.outHeld }

/-- A relayed command's response goes back to the manager; the mailbox is free again (R526). -/
def respondRelayed (f : Frame) (status detail tick : Nat) (payload : List Byte) (s : State) : State :=
  gpSend s.gp.manager 0x12 (responseBytes f status detail tick 0 payload)
    { s with mb.held := none, mb.inner := none, mb.busy := false, mb.ledger := .empty }

/-- Answer the held command: write any output at OUT_ADDR, then the response, then VALID and vector 0 (R396, R402). While a Z decision
stops the exits, a response that carries more than its header waits (R461). Output that the controller's fence blocks is discarded, and the
command ends with FENCE_VIOLATION (R429). -/
def respond (status detail tick : Nat) (payload : List Byte) (s : State) : State :=
  match s.mb.held with
  | none => s
  | some h =>
    if s.tm.exitStop && !payload.isEmpty then { s with mb.held := some { h with stage := .answered status detail tick payload } } else
    if h.relay then respondRelayed h.frame status detail tick payload s else
    let toOut := decide (3968 < payload.length)
    let q := hcFence 1 h.frame.outAddr (if toOut then payload.length else 0) s
    let s := if toOut && !q.1 then outWrite h.frame.outAddr payload q.2 else q.2
    let bytes := if q.1 then responseBytes h.frame St.fenceViolation 0 0 0 []
      else responseBytes h.frame status detail tick (if toOut then payload.length else 0) (if toOut then [] else payload)
    mbVector { s with
      mb.rspBuf := bytes, mb.rspValid := true, mb.rspStale := false, mb.rspTag := h.frame.tag
      mb.rspCount := wrapAdd 64 s.mb.rspCount 1, mb.held := none, mb.inner := none, mb.ledger := .done }

/-- Refuse the held command. -/
def refuse (status detail : Nat) (s : State) : State := respond status detail 0 [] s

/-- The change the held command makes is armed for a tick (R416). -/
def arm (k : Nat) (s : State) : State := { s with mb.ledger := .armed k }

/-- Change how far the held command has come. -/
def setStage (g : CmdStage) (s : State) : State := { s with mb.held := s.mb.held.map (fun h => { h with stage := g }) }

/-- The held command has armed a change for tick `k`: its response, OK with that tick, is written at the sample point that follows; until
then the ledger is ARMED (R416, R417 worked case). -/
def respondAt (k : Nat) (payload : List Byte) (s : State) : State := setStage (.answered St.ok 0 k payload) (arm k s)

/-- At a sample point a response that waits is written, unless it waits for the exits or for a controller (R416, R461). -/
def answerPoint (s : State) : State :=
  match s.mb.held.map (fun (h : Held) => h.stage) with
  | some (.answered st d t p) => if noController s then s else respond st d t p s
  | _ => s

/-! ### Quorum -/

/-- Signers by role among a set of credentials given as a bitmap. -/
def roleCount (creds : List Cred) (bitmap role : Nat) : Nat :=
  ((creds.zipIdx).filter (fun p => bitOf bitmap p.2 && decide (p.1.role = role))).length

/-- Signers fill a class's rule; a Security Officer may fill an Operator's place (R410). -/
def fills (r : Rule) (so kc au op : Nat) : Bool :=
  decide (r.so ≤ so) && decide (r.kc ≤ kc) && decide (r.au ≤ au) && decide (r.op ≤ op + (so - r.so))

/-- As `fills`, where a Security Officer may also fill a Key Custodian's place (CER_ABORT, R413). -/
def fillsAbort (r : Rule) (so kc au op : Nat) : Bool :=
  decide (r.so ≤ so) && decide (r.kc ≤ kc + (so - r.so)) && decide (r.au ≤ au) && decide (r.op ≤ op + (so - r.so) - (r.kc - kc))

/-- The bitmap of the active credentials. -/
def activeMap (creds : List Cred) : Nat :=
  (creds.zipIdx).foldl (fun a p => if p.1.state = 1 then a + 2 ^ p.2 else a) 0

/-- The active credentials could satisfy every class (R407). -/
def canSatisfy (rules : List Rule) (creds : List Cred) : Bool :=
  let m := activeMap creds
  rules.all (fun r => fills r (roleCount creds m 1) (roleCount creds m 2) (roleCount creds m 3) (roleCount creds m 4))

/-- The class a frame is held to (R406, R413, R432, R434). -/
def effClass (s : State) (f : Frame) : Nat :=
  let base := (cmdClass f.code).getD 0
  let lc := lcState s
  if lc = .development ∧ s.prov.isSealed = false then 0
  else if lc = .provisioned ∧ s.prov.isSealed = false ∧ f.code ∈ [0x0101, 0x0102, 0x0104] then 0
  else if lc = .development ∧ f.code = 0x0A02 then 0
  else if f.code = 0x0201 then
    if lc = .shipped ∨ lc = .zeroized then 0 else if be f.payload 0 1 = 7 then 1 else 12
  else if f.code = 0x0401 ∧ bitOf (be f.payload 12 1) 0 = true then 9
  else if f.code = 0x0901 ∧ bitOf (be f.payload 15 1) 1 = true then 9
  else base

/-- The message a signature covers, made for the module of a serial number (R409). -/
def messageFor (serial : Nat) (f : Frame) (nonce : List Byte) (cls : Nat) : List Byte :=
  let digest := Config.sha384 (beBytes 2 f.code ++ beBytes 4 f.nonceId ++ beBytes 4 f.payload.length ++ f.payload)
  ascii "FOLARN-QUORUM" ++ beBytes 8 serial ++ nonce ++ beBytes 1 cls ++ digest

/-- The message a signature covers (R409). -/
def signedMessage (f : Frame) (nonce : List Byte) (cls : Nat) : List Byte := messageFor Config.serial f nonce cls

/-- The number of blocks that count toward the quorum: all but the proof of possession of CRED_ENROL (R405). -/
def quorumBlocks (f : Frame) : List SigBlock := if f.code = 0x0101 then f.sigs.dropLast else f.sigs

/-- Check 2 of R410: each block names an active credential of its ALG, none twice. The first failing CRED. -/
def credCheck (creds : List Cred) : List Nat → List SigBlock → Option Nat
  | _, [] => none
  | seen, b :: t =>
    match creds[b.cred]? with
    | none => some b.cred
    | some c => if c.state ≠ 1 ∨ c.alg ≠ b.alg ∨ b.cred ∈ seen then some b.cred else credCheck creds (b.cred :: seen) t

/-- The proof-of-possession block of CRED_ENROL names the new id and algorithm (R405). -/
def popShapeOk (f : Frame) : Bool :=
  match f.sigs.getLast? with
  | some b => decide (b.cred = be f.payload 0 1) && decide (b.alg = be f.payload 2 1)
  | none => false

/-- The key a block is verified under: the credential's, or for the proof of possession the new key (R405). -/
def blockKey (s : State) (f : Frame) (i : Nat) (b : SigBlock) : List Byte :=
  if f.code = 0x0101 ∧ i + 1 = f.sigs.length then octets f.payload 40 (be f.payload 4 2) else (s.prov.creds.getD b.cred {}).key

/-- One unit's evaluation of block i: the algorithm's verdict, turned over when the unit is at fault (R410). -/
def evaluation (s : State) (h : Held) (i : Nat) (fault : Bool) : Bool :=
  match h.frame.sigs[i]? with
  | none => fault
  | some b => Config.sigOk b.alg (blockKey s h.frame i b)
      (signedMessage h.frame ((h.nonce.map (·.value)).getD (List.replicate 32 0)) h.cls) b.sig != fault

/-- The bitmap of the credentials whose signatures count. -/
def signerMap (f : Frame) : Nat := (quorumBlocks f).foldl (fun a b => a ||| 2 ^ b.cred) 0

/-- Check 4 of R410. -/
def ruleFilled (s : State) (h : Held) : Bool :=
  let c := s.prov.creds
  let m := signerMap h.frame
  let r := s.prov.rules.getD h.cls ⟨0, 0, 0, 0⟩
  let so := roleCount c m 1; let kc := roleCount c m 2; let au := roleCount c m 3; let op := roleCount c m 4
  if h.frame.code = 0x060A then fillsAbort r so kc au op else fills r so kc au op

/-- Checks 1 and 2 of R410, with the proof of possession of CRED_ENROL (R405): the refusal if one fails, the frame with its class, its nonce,
which is spent, and the stage it is at then (R408, R418). -/
def gateEntry (h : Held) (s : State) : Option (Nat × Nat) × Held × State :=
  let f := h.frame
  let cls := effClass s f
  let pop := decide (f.code = 0x0101)
  let bad := if pop && !popShapeOk f then some (St.credentialInvalid, be f.payload 0 1) else none
  if cls = 0 then (bad, { h with cls := 0, stage := if pop then .quorum else .ready }, s)
  else
    match s.mb.nonces.find? (fun n => decide (n.id = f.nonceId) && decide (s.tick < n.expires)) with
    | none => (some (St.nonceInvalid, 0), { h with cls }, s)
    | some n =>
      let s := { s with mb.nonces := s.mb.nonces.filter (fun m => decide (m.id ≠ f.nonceId)) }
      let h := { h with cls, nonce := some n, signers := signerMap f, stage := .quorum }
      match credCheck s.prov.creds [] (quorumBlocks f) with
      | some c => (some (St.credentialInvalid, c), h, s)
      | none => (bad, h, s)

/-- The signatures of a frame go to the units (R410). -/
def giveBlocks (f : Frame) (s : State) : State := f.sigs.foldl (fun s b => giveBlock b s) s

/-- The quorum gate takes up a frame whose body passed the frame grate (R410, R418). -/
def enterGate (h : Held) (s : State) : State :=
  match gateEntry h s with
  | (some e, h, s) => refuse e.1 e.2 { s with mb.held := some h }
  | (none, h, s) =>
    let s := { s with mb.held := some h }
    if h.stage = .quorum then giveBlocks h.frame s else s

/-- A nonce that was consumed stands again, in the order of issue (R408, R416). -/
def restoreNonce (n : Nonce) : List Nonce → List Nonce
  | [] => [n]
  | m :: t => if n.id < m.id then n :: m :: t else m :: restoreNonce n t

/-- The body is there: the rest of the frame grate, then the gate (R403). -/
def takeBody (h : Held) (body : List Byte) (s : State) : State :=
  match bodyCheck h.frame body with
  | some (st, d) => refuse st d { s with mb.held := some h }
  | none => enterGate { h with frame := h.frame.withBody body } s

/-- The octets of MB_CMD_BUF. -/
def cmdBufBytes (s : State) (n : Nat) : List Byte := (List.range n).map (fun j => tget 0 s.mb.cmdBuf j)

/-- The frame grate on the copied frame (R403); a body that the controller's fence blocks ends the command (R429). -/
def runFrame (h : Held) (s : State) : State :=
  let raw := cmdBufBytes s h.len
  match headerCheck (octets raw 0 64) h.len with
  | some (st, d) => refuse st d { s with mb.held := some h }
  | none =>
    if h.frame.ext then
      let q := hcFence 0 h.frame.extAddr h.frame.bodyLen s
      if q.1 then refuse St.fenceViolation 0 { q.2 with mb.held := some h }
      else readHost 0 none h.frame.extAddr h.frame.bodyLen { s with mb.held := some { h with stage := .body, since := s.tick } }
    else takeBody h (raw.drop 64) s

/-- The mailbox is served: stage 6 is over and a pair is in control, or the recovery mailbox serves (R442, R444, R504). -/
def mailboxServed (s : State) : Bool :=
  match s.lc.startFail with
  | some p => decide (p ≠ (2, 1))
  | none => decide (6 ≤ s.lc.stage) && !noController s && s.hc.planned.isNone && s.hc.handing.isNone

/-- MB_CMD_SUBMIT (R396, R403, R410): a write of MB_CMD_SUBMIT. -/
def execMbCmdSubmit (value : Nat) (s : State) : Res := viaPf0 s <|
  if s.mb.busy then .next { s with mb.overrun := true } else
  let len := bits value 12 0
  let s := { s with mb.busy := true, mb.cmdCount := wrapAdd 64 s.mb.cmdCount 1, mb.ledger := .received }
  let h : Held := { frame := parseHeader (cmdBufBytes s 64), stage := .waiting, cls := 0, since := s.tick, nonce := none,
                    signers := 0, len }
  .next (if mailboxServed s then runFrame h s else { s with mb.held := some h })

/-- A frame that waited is taken up (R442, R504, R511). -/
def resumeWaiting (s : State) : State :=
  match s.mb.held with
  | some h => if h.stage = .waiting ∧ mailboxServed s = true then runFrame h s else s
  | none => s

/-- MB_BODY_READ_DONE (R401, R403 check 6). -/
def execMbBodyReadDone (r : ReadResult) (s : State) : Res :=
  match s.mb.held with
  | some h =>
    if h.stage ≠ .body then noEvent s else
    match r with
    | .data bs => .next (takeBody h (octets bs 0 h.frame.bodyLen) s)
    | .error => .next (refuse St.hostDmaError 32 s)
  | none => noEvent s

/-- MB_RSP_ACK (R396): a write of MB_RSP_ACK. -/
def execMbRspAck (tag : Nat) (s : State) : Res := viaPf0 s <|
  .next (if s.mb.rspValid && decide (s.mb.rspTag = tag) then
      { s with mb.rspValid := false, mb.busy := false, mb.rspStale := false, mb.ledger := .empty }
    else note 0x0101 0 0xFFFF tag 0 s)

/-- What refuses a command before its own chapter looks at it: a stopped start, the state (R415, R431, R444). -/
def refusedFirst (code : Nat) (p : List Byte) (s : State) : Option (Nat × Nat) :=
  match s.lc.startFail with
  | some (stage, cause) =>
    if code = 0x0003 then some (St.startFailed, stage * 256 + cause)
    else if code ∈ [0x0001, 0x0103, 0x0203, 0x0204] ∨ (code = 0x0201 ∧ (be p 0 1 = 8 ∨ be p 0 1 = 9)) then none
    else some (St.startFailed, stage * 256 + cause)
  | none => (lcRefuses (lcState s) code).map (fun st => (st, 0))

/-- The commands of R528, which only the manager of a group carries out. -/
def managerOnly : List Nat := [0x0601, 0x0602, 0x0607, 0x0608, 0x0609, 0x060A, 0x0701, 0x0703]

/-- The codes a role's own mailbox takes (R518). -/
def roleTakes (role code : Nat) : Bool :=
  decide (role ≤ 1) || decide (code < 0x0100) || decide (code = 0x0D06) ||
  (decide (4 ≤ role) && decide (code = 0x0D01 ∨ code = 0x0103)) || (decide (role = 5) && decide (code = 0x0D03))

/-- What the group refuses (R518, R528, R530). -/
def groupRefuses (s : State) (relay : Bool) (code : Nat) : Option Nat :=
  if !relay && !roleTakes s.gp.role code then some St.groupRole
  else if code ∈ managerOnly ∧ 2 ≤ s.gp.role then some St.groupRole
  else if code ∈ managerOnly ∧ s.gp.role = 1 ∧ s.gp.frozen = true then some St.groupDegraded
  else none

/-- Carry out the held command: it must have passed the frame grate and the gate, and a pair must be in control. -/
def withCmd (code : Nat) (s : State) (f : Held → List Byte → State → State) : Res :=
  match s.mb.held with
  | none => noEvent s
  | some h =>
    if h.stage ≠ .ready ∨ h.frame.code ≠ code ∨ (noController s = true ∧ s.lc.startFail = none) then noEvent s else
    match refusedFirst code h.frame.payload s with
    | some (st, d) => .next (refuse st d s)
    | none => match groupRefuses s h.relay code with
      | some st => .next (refuse st 0 s)
      | none => .next (f h h.frame.payload s)

/-! ### Group 0x00 -/

/-- ECHO (R402, R413): a payload above 3,968 octets needs OUT. -/
def echoCmd (h : Held) (p : List Byte) (s : State) : State :=
  if 3968 < p.length ∧ (h.frame.out = false ∨ h.frame.outLen < p.length) then refuse St.lengthInvalid 48 s
  else respond St.ok 0 s.tick p s

/-- ECHO (R413). -/
def execEcho (s : State) : Res := withCmd 0x0002 s echoCmd

/-- CMD_STATUS (R398, R413). An OP_ID that names no long command is refused with GRATE_RANGE (log entry 12). -/
def cmdStatusCmd (_ : Held) (p : List Byte) (s : State) : State :=
  match s.mb.longs.find? (fun l => decide (l.opId = be p 0 8)) with
  | none => refuse St.grateRange 64 s
  | some l => respond St.ok 0 s.tick (beBytes 8 l.opId ++ beBytes 2 l.code ++ beBytes 1 l.state ++ beBytes 1 0 ++
      beBytes 2 l.status ++ beBytes 2 l.detail ++ beBytes 8 l.doneTick) s

/-- CMD_STATUS (R398). -/
def execCmdStatus (s : State) : Res := withCmd 0x0004 s cmdStatusCmd

/-- Long commands now running (R398). -/
def longsRunning (s : State) : Nat := (s.mb.longs.filter (fun l => decide (l.state = 0))).length

/-- Begin a long command; its OP_ID is the answer (R398). -/
def beginLong (code : Nat) (data : List Byte) (s : State) : Nat × State :=
  let id := s.mb.nextOp
  (id, { s with mb.nextOp := id + 1, mb.longs := s.mb.longs ++ [⟨id, code, 0, 0, 0, 0, data⟩] })

/-- Set what a long command will end with. -/
def setLong (id status detail : Nat) (s : State) : State :=
  { s with mb.longs := s.mb.longs.map (fun l => if l.opId = id then { l with status, detail } else l) }

/-! ### Credentials and quorum rules -/

/-- CRED_ENROL (R405, R406): the id must be free and the key valid (R382). -/
def credEnrolCmd (_ : Held) (p : List Byte) (s : State) : State :=
  let id := be p 0 1
  let alg := be p 2 1
  let key := octets p 40 (be p 4 2)
  if (s.prov.creds.getD id {}).state ≠ 0 then refuse St.grateRange 64 s
  else if !pubKeyValid (if alg = 1 then 17 else 24) key then refuse St.publicKeyInvalid 0 s
  else respond St.ok 0 s.tick []
    { s with prov.creds := s.prov.creds.set id { role := be p 1 1, alg, state := 1, label := octets p 8 32, key, enrolled := s.tick } }

/-- CRED_ENROL (R405). -/
def execCredEnrol (s : State) : Res := withCmd 0x0101 s credEnrolCmd

/-- CRED_REVOKE (R407). -/
def credRevokeCmd (_ : Held) (p : List Byte) (s : State) : State :=
  let id := be p 0 1
  let after := listMod s.prov.creds id (fun c => { c with state := 2 })
  if (s.prov.creds.getD id {}).state ≠ 1 then refuse St.grateRange 64 s
  else if !canSatisfy s.prov.rules after then refuse St.grateRange 64 s
  else respond St.ok 0 s.tick [] { s with prov.creds := after }

/-- CRED_REVOKE (R407). -/
def execCredRevoke (s : State) : Res := withCmd 0x0102 s credRevokeCmd

/-- One entry of CRED_LIST (R413). -/
def credEntry (id : Nat) (c : Cred) : List Byte :=
  beBytes 1 id ++ beBytes 1 c.role ++ beBytes 1 c.alg ++ beBytes 1 c.state ++ beBytes 4 0 ++ beBytes 8 c.enrolled ++
  octets c.label 0 32 ++ octets (if c.state = 0 then [] else Config.sha384 c.key) 0 48

/-- CRED_LIST (R413). -/
def credListCmd (_ : Held) (_ : List Byte) (s : State) : State :=
  respond St.ok 0 s.tick ((s.prov.creds.zipIdx).flatMap (fun q => credEntry q.2 q.1)) s

/-- CRED_LIST (R413). -/
def execCredList (s : State) : Res := withCmd 0x0103 s credListCmd

/-- A rule's four counts (R412). -/
def Rule.total (r : Rule) : Nat := r.so + r.kc + r.au + r.op

/-- The rules a QUORUM_SET payload spells (R412). -/
def parseRules (p : List Byte) : List Rule :=
  (List.range 16).map (fun c => ⟨be p (4 * c) 1, be p (4 * c + 1) 1, be p (4 * c + 2) 1, be p (4 * c + 3) 1⟩)

/-- The rules meet R412, for one class. -/
def ruleShapeOk (c : Nat) (r : Rule) : Bool :=
  if c = 0 ∨ 13 ≤ c then decide (r.total = 0)
  else if c ≤ 3 then decide (1 ≤ r.total ∧ r.total ≤ 8)
  else if c = 5 then decide (r.so = 0 ∧ r.au = 0 ∧ r.op = 0 ∧ 2 ≤ r.kc ∧ r.kc ≤ 8)
  else decide (2 ≤ r.total ∧ r.total ≤ 8) && (!(decide (c = 4 ∨ c = 8)) || decide (2 ≤ r.so))

/-- QUORUM_GET (R413). -/
def quorumGetCmd (_ : Held) (_ : List Byte) (s : State) : State :=
  respond St.ok 0 s.tick (s.prov.rules.flatMap (fun r => beBytes 1 r.so ++ beBytes 1 r.kc ++ beBytes 1 r.au ++ beBytes 1 r.op)) s

/-- QUORUM_GET (R413). -/
def execQuorumGet (s : State) : Res := withCmd 0x0105 s quorumGetCmd

/-- CRED_SEAL (R406). -/
def credSealCmd (_ : Held) (_ : List Byte) (s : State) : State :=
  respond St.ok 0 s.tick [] { s with prov.isSealed := true }

/-- CRED_SEAL (R406). -/
def execCredSeal (s : State) : Res := withCmd 0x0106 s credSealCmd

end Sys2Proof.Machine
end

