-- ==== Sys2Proof/Machine/Erase.lean ====
section
/-!
DEFINITION. What the life cycle erases, and trace as the responses close it (R435, R436, R441, R462, R498).
-/
namespace Sys2Proof.Machine

/-! ### Whether the costs in force are calibrated (R67, R68) -/

/-- A cost entry's calibration. -/
def calOf (s : State) (func band : Nat) : Cal := tget {} s.tk.cal (func * 4 + band)

/-- Whether an entry is calibrated in a band (R67). -/
def calibratedIn (s : State) (func band : Nat) : Bool := (calOf s func band).stepCu.isSome

/-- The entries Ehras marks as reference entries (R67). DESIGN CHOICE (log entry 20): the spec does not list them; the model takes the
reference operation of R44, the PIN translation 0x0101, alone. -/
def refFuncs : List Nat := [0x0101]

/-- A band's CAL state (R67, R74): 0 uncalibrated, 1 collecting, 2 calibrated. -/
def bandCal (s : State) (band : Nat) : Nat :=
  if refFuncs.all (fun f => calibratedIn s f band) then 2 else if band ∈ s.tk.calSeen then 1 else 0

/-- TK_BAND.CONS (R68). -/
def consNow (s : State) : Bool := s.tk.pwrFault || decide (bandCal s s.tk.band ≠ 2)

/-- Refresh CONS; each change posts a notice (R68). -/
def refreshCons (s : State) : State :=
  let c := consNow s
  if c = s.tk.cons then s else note 0x0301 1 0xFFFF (b2n c) s.tk.band { s with tk.cons := c }

/-- Trace closes (R494). -/
def closeTrace (s : State) : State := { s with tr.isOpen := false, tr.dev := false }

/-- The trace buffer is erased (R498). -/
def eraseTrace (s : State) : State := { s with tr.buf := [], tr.read := s.tr.write }

/-- The shipped content of the provisioning block (R435). -/
def restoreProv (s : State) : State := { s with
  prov := {}
  gp := {}
  lim.ceilings := {}, lim.nextCeilings := none, lim.tables := List.replicate 8 {}, lim.armedTables := none
  fn.regions := s.fn.regions.foldl (fun t p => tset {} t p.1 { p.2 with lock := false }) s.fn.regions, fn.locks := []
  en.progs := [] }

/-- The store generation rises with an empty root slot, as a first operating start or a new ember does (R243, R434). -/
def raiseStoreGen (s : State) : State := emptyStore { s with lc.frk := rootKey s }

/-- Erase the key store root region (R436). -/
def eraseRoot (s : State) : State := { s with ks.slots := [], ks.state := 4 }

/-- A lane without its retirement data. -/
def Lane.forgotten (n : Nat) (l : Lane) : Lane :=
  { l with state := if l.state ≠ 4 then l.state else if n < 152 then 1 else 0, readmit := false, back := false, faults := [] }

/-- Erase the limiter's saved state, the calibration region and the retirement data (R436). -/
def eraseLimits (s : State) : State :=
  refreshCons { s with
    pt.ports := s.pt.ports.map (fun p => (p.1, { p.2 with cal := 0 }))
    lim.locks := [], tk.cal := [], tk.calSeen := [], tk.calDue := [], tm.baselines := []
    en.engines := s.en.engines.map (fun p => (p.1, { p.2 with estate := 0, readmit := false, back := false, scores := [], retireDue := false }))
    ln.lanes := s.ln.lanes.map (fun p => (p.1, p.2.forgotten p.1))
    pk.units := s.pk.units.map (fun p => (p.1, { p.2 with retired := false, readmit := false, scores := [], retireDue := false })) }

/-- A digest unit erased: idle, its claim kept (R353, R363). -/
def DgUnit.erased (u : DgUnit) : DgUnit := { claimed := u.claimed, pend := u.pend }

/-- The contexts, keys and work of ports, lanes, digest units, accords and spread batches (R307, R347, R363, R462). -/
def eraseEdges (s : State) : State :=
  { s with
    pt.eps := []
    pt.held := [], pt.ready := [], pt.staging := [], pt.stopped := true
    pt.ports := s.pt.ports.map (fun p => (p.1, { p.2 with egq := [], inq := [], egFill := 0 }))
    ln.lanes := (s.ln.lanes.map (·.1)).foldl (fun (t : Tbl Lane) n => tset (laneInit n) t n { tget (laneInit n) t n with occ := 0 }) s.ln.lanes
    ln.sas := [], ln.saArmed := [], ln.replays := []
    ad.forwards := [], ad.referrals := [], ad.msgs := [], ad.verdicts := []
    dg.units := s.dg.units.map (fun p => (p.1, p.2.erased)), dg.wrap := false
    gp.journal := [], gp.away := [] }

/-- Every change armed for a tick that has not come is dropped: after a class Z response only an effect whose tick has passed stands (R31,
R417). A gating the module itself began goes on. -/
def disarm (s : State) : State :=
  { s with
    fn.armed := [], fn.locks := [], lim.clears := [], lim.nextCeilings := none, lim.armedTables := none
    tk.cfgArmed := [], tk.acctArmed := [], ks.domArmed := [], ks.epochs := [], ac.pending := none
    ad.armed := [], ad.routeArmed := [], ln.saArmed := [], ln.saGone := []
    en.clusters := s.en.clusters.map (fun p => (p.1, if p.2.gateAfter then p.2 else { p.2 with drainAt := none, returnAt := none })) }

/-- What a class Z response destroys at once (R29, R32, R392, R417, R436 action 1, R462). -/
def eraseAtOnce (s : State) : State :=
  disarm (eraseEdges (loseStore { s with
    tm.ember := false, lc.frk := [], wk := {}, mb.nonces := [], mb.inner := none
    pk.units := s.pk.units.map (fun p => (p.1, { p.2 with ctl := [] })) }))

end Sys2Proof.Machine
end

