-- ==== Sys2Proof/Machine/Transition.lean ====
section
/-!
DEFINITION. Life-cycle transitions: their rows, intent, actions, commit, and undo (R434 to R441).
-/
namespace Sys2Proof.Machine

/-- The actions of zeroisation that follow the monitor's own (R436, actions 2 to 5). -/
def zeroActions : List LcAction := [.destroyEmber, .eraseHelper, .eraseRoot, .restoreProv, .eraseLimits]

/-- The actions of a transition's row, in order (R434). -/
def rowActions (origin target : Lc) : List LcAction :=
  match target with
  | .zeroized => zeroActions
  | .locked => [.stopGrants, .recordFrom]
  | .decommissioned => (if origin = .zeroized then [] else zeroActions) ++ [.eraseSlots, .markTerminal]
  | _ =>
    match origin, target with
    | .shipped, _ => [.armOperating, .raiseStoreGen, .openService]
    | .zeroized, _ => [.drawEmber, .enrolPuf, .raiseStoreGen, .openService]
    | .development, .provisioned => [.stopAll, .emptyStore, .restoreProv, .closeTrace]
    | .provisioned, .operational => [.requireSealed, .openService]
    | .operational, .maintenance => [.stopPay]
    | .maintenance, .operational => [.resumePay]
    | .locked, _ => [.resumeFrom]
    | _, _ => []

/-- The direction of a transition (R434): 1 securing, 2 opening. -/
def rowDir (origin target : Lc) : Nat :=
  match origin, target with
  | .shipped, .zeroized => 1
  | .shipped, _ => 2
  | .zeroized, .decommissioned => 1
  | .zeroized, _ => 2
  | .provisioned, .operational => 2
  | .maintenance, .operational => 2
  | .locked, .zeroized => 1
  | .locked, .decommissioned => 1
  | .locked, _ => 2
  | _, _ => 1

/-- Carry one action out; running it again changes nothing further (R438). -/
def doAction (a : LcAction) (s : State) : State :=
  match a with
  | .armOperating => { s with tm.arm := 2 }
  | .raiseStoreGen => raiseStoreGen s
  | .openService => s
  | .stopAll => { s with lc.stopAll := true }
  | .emptyStore => emptyStore s
  | .restoreProv => restoreProv s
  | .closeTrace => { closeTrace s with lc.debugBlocked := true }
  | .requireSealed => s
  | .stopPay => { s with lc.stopPay := true }
  | .resumePay => { s with lc.stopPay := false }
  | .stopGrants => { s with lc.stopGrants := true }
  | .recordFrom => s
  | .resumeFrom => { s with lc.stopGrants := false, tm.grantStop := s.tm.pending.isSome }
  | .destroyEmber => eraseAtOnce s
  | .eraseHelper => { s with lc.puf := false }
  | .eraseRoot => eraseRoot s
  | .eraseLimits => eraseLimits s
  | .drawEmber =>
    if s.tm.ember then { s with tm.emberLost := false }
    else let q := draw s; { q.2 with tm.ember := true, tm.emberVal := q.1, tm.emberLost := false }
  | .enrolPuf => { s with lc.puf := true }
  | .eraseSlots =>
    if (lcRec s).activeSlot = 0 then { s with lc.slotB := {} } else { s with lc.slotA := {} }
  | .markTerminal => s

/-- The undo of an opening action (R439). -/
def undoAction (a : LcAction) (s : State) : State :=
  match a with
  | .drawEmber => { s with tm.ember := false, lc.frk := [] }
  | .enrolPuf => { s with lc.puf := false }
  | .armOperating => { s with tm.arm := 1 }
  | _ => s

/-- Write the intent (R438 step 2). -/
def writeIntent (target : Lc) (causeKind cause : Nat) (s : State) : State :=
  let r := lcRec s
  writeLc { r with intent := true, target := some target, dir := rowDir r.state target, causeKind, done := 0, cause
                   intentTick := s.tick } s

/-- The first action not yet done. -/
def nextAction (r : LcRec) : Option (Nat × LcAction) :=
  match r.intent, r.target with
  | true, some t => ((rowActions r.state t).zipIdx.find? (fun p => !bitOf r.done p.2)).map (fun p => (p.2, p.1))
  | _, _ => none

/-- Carry out the next action and write its DONE bit; the record keeps FROM with the action that records it (R438). -/
def runAction (s : State) : State :=
  match nextAction (lcRec s) with
  | none => s
  | some (i, a) =>
    let s := doAction a s
    let r := lcRec s
    let r := { r with done := r.done + 2 ^ i }
    let r := match a with
      | .recordFrom => { r with origin := some r.state }
      | .eraseSlots => if r.activeSlot = 0 then { r with slotBVer := 0 } else { r with slotAVer := 0 }
      | _ => r
    writeLc r s

/-- Stops that a state reached by commit leaves in force (R431, R434): a response that is decided or owed keeps grants stopped (R461). -/
def afterCommit (t : Lc) (s : State) : State :=
  let opened := { s with tm.grantStop := s.tm.pending.isSome || s.lc.lockAfter.isSome }
  match t with
  | .locked => { s with tm.railsDue := if s.tm.thermalLock then some (s.tick + 64) else s.tm.railsDue }
  | .development => { opened with lc.stopAll := false, lc.stopGrants := false, lc.debugBlocked := false }
  | .maintenance => opened
  | .zeroized | .decommissioned => { s with lc.stopAll := false, lc.stopPay := false, lc.stopGrants := true, tm.arm := 2 }
  | _ => { opened with lc.stopAll := false, lc.stopPay := false, lc.stopGrants := false }

/-- Write the commit, and its KIND 3 entry (R438 step 4, R468); trace closes with the state it was opened in (R494). A transition a command asked for is answered OK. -/
def commitTransition (s : State) : State :=
  let r := lcRec s
  match r.intent, r.target with
  | true, some t =>
    let s := writeLc { r with state := t, origin := if t = .locked then r.origin else none, intent := false, target := none
                              dir := 0, commitTick := s.tick, terminal := decide (t = .decommissioned) } s
    let s := afterCommit t (closeTrace s)
    let s := evidAppend (evidNow 3 0 0 r.state.code t.code r.cause s) s
    let s := if r.state = .locked then { s with tm.thermalLock := false } else s
    if r.causeKind = 1 then respond St.ok 0 s.tick (beBytes 1 t.code ++ beBytes 7 0 ++ beBytes 8 s.tick) s else s
  | _, _ => s

/-- Begin a transition already decided: the intent is written, and the actions follow (R438). -/
def beginTransition (target : Lc) (causeKind cause : Nat) (s : State) : State := writeIntent target causeKind cause s

/-- Undo an opening transition (R439): every action done, in reverse order; the state stays the origin. -/
def undoOpening (s : State) : State :=
  let r := lcRec s
  match r.intent, r.target with
  | true, some t =>
    let done := ((rowActions r.state t).zipIdx.filter (fun p => bitOf r.done p.2)).map (·.1)
    let s := done.reverse.foldl (fun s a => undoAction a s) s
    writeLc { r with intent := false, target := none, dir := 0, done := 0 } s
  | _, _ => s

/-- A class L response that waited for a securing transition to complete, or for a pair in control: LOCKED, where the state reached answers
class L (R441, R465). -/
def lockDue (s : State) : State :=
  match s.lc.lockAfter with
  | none => s
  | some c => if (lcState s).service then beginTransition .locked 2 c { s with lc.lockAfter := none } else { s with lc.lockAfter := none }

/-- A transition in progress goes one action further at a sample point, then commits; it waits while no pair is in
control (R438, R504; log entry 22). -/
def stepTransition (s : State) : State :=
  if noController s && s.lc.startFail.isNone then s else
  match (lcRec s).intent with
  | false => lockDue s
  | true => if (nextAction (lcRec s)).isSome then runAction s else commitTransition s

end Sys2Proof.Machine
end

