-- ==== Sys2Proof/Machine/Responses.lean ====
section
/-!
DEFINITION. The class L and class Z responses, and lock-class events of other blocks (R422, R434, R436, R441, R461 to R465).
-/
namespace Sys2Proof.Machine

/-- Whether an event of a class is raised, or recorded only, in the life-cycle state (R465). -/
def responds (s : State) (cls : Nat) : Bool :=
  match lcState s with
  | .manufacture => false
  | .shipped => decide (cls = 3)
  | .zeroized | .decommissioned => false
  | .locked => decide (cls = 3)
  | _ => true

/-- Release or drop the beats held at the exits, and a response that waits there (R461). -/
def releaseExits (keep : Bool) (s : State) : State :=
  let s : State := { s with tm.exitStop := false, out := (if keep then s.exitHeld else []) ++ s.out, exitHeld := [] }
  match keep, s.mb.ledger, s.mb.held.map (fun (h : Held) => h.stage) with
  | true, .received, some (.answered st d t p) => respond st d t p s
  | _, _, _ => s

/-- A held command at a class L response: one not yet armed, and not of R415, ends with LOCKED (R417, R441). -/
def lockHeld (s : State) : State :=
  match s.mb.held, s.mb.ledger with
  | some h, .received =>
    if h.stage ≠ .waiting ∧ lcRefuses .locked h.frame.code = some St.locked then refuse St.locked 0 s else s
  | _, _ => s

/-- The class L response (R434, R441, R462, R465). `cause` is the evidence entry's SEQ. -/
def lockResponse (cause : Nat) (s : State) : State :=
  if !responds s 2 then { s with tm.grantStop := false } else
  let s := { s with tm.grantStop := true }
  let s := closeTrace s
  let r := lcRec s
  if noController s then { s with lc.lockAfter := some cause }
  else if r.intent then
    if r.dir = 1 then { s with lc.lockAfter := some cause }
    else
      let s := undoOpening s
      let s := if s.mb.held.any (fun h => decide (h.frame.code = 0x0201 ∨ h.frame.code = 0x0202)) then refuse St.locked 0 s else s
      beginTransition .locked 2 cause s
  else
    let s := lockHeld s
    beginTransition .locked 2 cause { s with lc.decision := none, lc.activation := none }

/-- The enabled queue pairs of some slices start anew after a reset; one homed on a down link stays LINKDOWN (R112). -/
def restartQps (which : Nat → Bool) (s : State) : State :=
  { s with hl.qps := s.hl.qps.map (fun (p : Nat × Qp) => if which p.2.slice && p.2.en then
    (p.1, { p.2 with state := if (hostLink s p.2.link).up then 1 else 3, cause := 0, tail := 0, announced := 0, fetched := 0
                     written := 0, head := 0, entries := [], fetch := none, failRun := 0, badTails := [], cancels := []
                     inflight := 0, unsig := 0, lostFirst := none }) else p) }

/-- A SLICE_RESET is answered, with the tick its slice became READY; in a gap the response is held (R112, R113). -/
def resetAnswer (s : State) : State :=
  let p := beBytes 8 s.tick
  if noController s then setStage (.answered St.ok 0 s.tick p) s else respond St.ok 0 s.tick p s

/-- A class Z response ends every slice reset: the slices are READY, and a SLICE_RESET is reported complete (R113). -/
def endResets (s : State) : State :=
  let s := restartQps (fun i => (slice s i).resetAt.isSome) s
  let s : State := { s with hl.orphans := [], hl.slices := s.hl.slices.map (fun p => if p.2.resetAt.isSome then
    (p.1, { p.2 with state := 1, resetTick := s.tick, resetAt := none, applied := false, flushing := false, flushAt := [] }) else p) }
  if s.mb.held.any (fun (h : Held) => decide (h.stage = .running ∧ h.frame.code = 0x0403)) then resetAnswer s else s

/-- Every record of the staging is programmed (R487, R497). -/
def flushStaging (s : State) : State := s.rc.staging.foldl (fun s r => programRec r s) s

/-- The class Z response (R436, R441, R462, R465). -/
def zeroResponse (cause : Nat) (s : State) : State :=
  if !responds s 3 then s else
  let s := releaseExits false s
  let s := eraseAtOnce { s with tm.grantStop := true }
  let s := flushStaging (closeWhere (fun _ => true) s)
  let s := eraseTrace (closeTrace s)
  let s := endResets s
  let s := match s.mb.held with
    | some _ => refuse St.stateForbids 0 s
    | none => s
  let s := { s with lc.decision := none, lc.activation := none, lc.lockAfter := none }
  if !s.pin.mainPower then s else if noController s then { s with lc.zeroAfter := some cause } else beginTransition .zeroized 3 cause s

/-- The monitor's part of a class L event another block already decided: KIND 9, then the L response (R464); MANUFACTURE knows source 0x27
alone (R465). -/
def lockClass (source detail : Nat) (s : State) : State :=
  if lcState s = .manufacture ∧ source ≠ 0x27 then s else
  let seq := s.tm.evidNext
  let s := evidAppend (evidNow 9 2 source 0 0 detail s) s
  let s := tamperReport 2 false seq (tmLast 2 source 0 false s)
  if lcState s = .manufacture then s else lockResponse seq s

/-- An exit stopped a beat: KIND 5, and more than 4 stops within 2^19 ticks are a lock-class event (R422). -/
def egressStop (func version exit_ : Nat) (s : State) : State :=
  let recent := (s.mb.egressStops.filter (fun t => decide (s.tick < t + 2 ^ 19))) ++ [s.tick]
  let s := evidAppend (evidNow 5 0 0x24 func version exit_ s) { s with mb.egressStops := recent }
  if 4 < recent.length then lockClass 0x24 St.egressBlocked { s with mb.egressStops := [] } else s

end Sys2Proof.Machine
end

