-- ==== Sys2Proof/Machine/AccordLoad.lean ====
section
/-!
DEFINITION. Accords: their encoding, and every check the load command makes of it (R316 to R324, R334).
-/
namespace Sys2Proof.Machine

/-! ### Taking an accord apart (R317) -/

/-- A field definition (R318). -/
def parseField (b : List Byte) (o : Nat) : FieldDef :=
  ⟨be b o 2, be b (o + 2) 1, be b (o + 3) 1, be b (o + 4) 1, bitOf (be b (o + 5) 1) 7, be b (o + 5) 1 % 8, be b (o + 6) 2⟩

/-- A chain step (R322). -/
def parseStep (b : List Byte) (o : Nat) : AStep :=
  ⟨be b o 2, [be b (o + 2) 1, be b (o + 3) 1, be b (o + 4) 1], be b (o + 5) 1, be b (o + 6) 1, be b (o + 7) 1, be b (o + 8) 2⟩

/-- A map (R321). -/
def parseMap (b : List Byte) (o : Nat) : AMap := ⟨be b o 1, be b (o + 1) 1, be b (o + 2) 2, be b (o + 4) 2, be b (o + 6) 2⟩

/-- A build entry (R323). -/
def parseBuild (b : List Byte) (o : Nat) : ABuild := ⟨be b o 2, be b (o + 2) 1, be b (o + 3) 1⟩

/-- A header entry (R324). -/
def parseHead (b : List Byte) (o : Nat) : AHead := ⟨be b o 2, be b (o + 2) 1, be b (o + 3) 1⟩

/-- Where each table of an accord begins: input fields, output fields, steps, maps, builds, headers, and the end (R317). -/
structure AOffsets where
  ins    : Nat
  outs   : Nat
  steps  : Nat
  maps   : Nat
  builds : Nat
  heads  : Nat
  last   : Nat
  deriving DecidableEq, Repr

/-- The offsets the counts of an accord header give. -/
def offsetsOf (b : List Byte) : AOffsets :=
  let o := 96 + 8 * be b 34 1
  let st := o + 8 * be b 35 1
  let m := st + 16 * be b 36 1
  let bu := m + 8 * be b 37 1
  let h := bu + 4 * be b 38 1
  ⟨96, o, st, m, bu, h, h + 4 * be b 39 1⟩

/-- n entries of a size from an offset. -/
def entries {α : Type} (f : List Byte → Nat → α) (b : List Byte) (from_ size n : Nat) : List α :=
  (List.range n).map (fun j => f b (from_ + size * j))

/-- An accord from its octets (R317). -/
def parseAccord (b : List Byte) : Accord :=
  let o := offsetsOf b
  { num := be b 2 2, syn := be b 4 1, coding := be b 5 1, dir := be b 6 1
    topReq := bitOf (be b 7 1) 0, detok := bitOf (be b 7 1) 1
    mtiIn := (List.range 4).map (fun j => be b (8 + 2 * j) 2), mtiOut := be b 16 2, domLo := be b 18 2, domN := be b 20 2
    hdrQp := be b 22 2, action := be b 24 1, routeDigits := be b 25 1, routeField := be b 26 2, routeBase := be b 28 4
    replyLog := be b 32 1, verdictLog := be b 33 1
    ins := entries parseField b o.ins 8 (be b 34 1), outs := entries parseField b o.outs 8 (be b 35 1)
    steps := entries parseStep b o.steps 16 (be b 36 1), maps := entries parseMap b o.maps 8 (be b 37 1)
    builds := entries parseBuild b o.builds 4 (be b 38 1), heads := entries parseHead b o.heads 4 (be b 39 1)
    consts := (List.range 8).map (fun j => be b (40 + 4 * j) 4) }

/-! ### Definitions and classes (R318, R320) -/

/-- A field's definition. -/
def defOf (ds : List FieldDef) (f : Nat) : Option FieldDef := ds.find? (fun d => decide (d.field = f))

/-- Octets of a value of a length in its units (R318, R319). -/
def encOctets (enc len : Nat) : Nat := match enc with | 1 => (len + 1) / 2 | 5 => 2 * len | _ => len

/-- Octets of its source that a map reads (R321): CONV 5 reads the length alone. -/
def readOctets (m : AMap) : Nat :=
  match m.conv with | 0 => m.len | 1 | 2 => 2 * m.len | 3 | 4 => (m.len + 1) / 2 | _ => 0

/-- The class of part of a step's result (R320): the PAN of 0x0602, which no header may carry (R198), counts as class 8. DIGITS_OUT and that
PAN are the first ten octets (R195). -/
def resultClass (func off n : Nat) : Nat :=
  if 10 < off + n ∨ 10 ≤ off then 6 else if func ∈ [0x0601, 0x0603, 0x0311] then 7 else if func = 0x0602 then 8 else 6

/-- The classes of what a map writes (R320): of an input field, of a step result, of an output field already built. -/
def mapClasses (a : Accord) (built : List (Nat × List Nat)) (m : AMap) : List Nat :=
  match m.kind with
  | 1 => ((defOf a.ins m.src).map (fun d => [d.cls])).getD []
  | 2 => match a.steps[m.src / 4096]? with
    | some t => [resultClass t.func (m.src % 4096) (readOctets m)]
    | none => [6]
  | 4 => ((built.find? (fun p => decide (p.1 = m.src))).map (·.2)).getD []
  | _ => []

/-- The maps of an entry. -/
def mapsFrom (a : Accord) (first n : Nat) : List AMap := (a.maps.drop first).take n

/-- Every class that flows into each output field: its own, and those of its sources (R320). -/
def outClasses (a : Accord) : List (Nat × List Nat) :=
  a.builds.foldl (fun acc b =>
    acc ++ [(b.field, ((defOf a.outs b.field).map (fun d => [d.cls])).getD [] ++
      (mapsFrom a b.first b.n).flatMap (mapClasses a acc))]) []

/-- A class may stand in the plain header under a treatment (R320). -/
def classShown (treat cls : Nat) : Bool := decide (cls = 0 ∨ cls = 7) || (decide (treat = 1) && decide (cls = 1))

/-- A header entry keeps R320. A masked entry holds a PAN. -/
def headAllowed (a : Accord) (h : AHead) : Bool :=
  match h.src with
  | 0 => (defOf a.ins h.field).any (fun d => classShown h.treat d.cls && decide (h.treat = 1 → d.cls = 1))
  | 1 => (defOf a.outs h.field).any (fun d => classShown h.treat d.cls && decide (h.treat = 1 → d.cls = 1)) &&
      ((((outClasses a).find? (fun p => decide (p.1 = h.field))).map (·.2)).getD []).all (classShown h.treat)
  | _ => (a.steps[h.field]?).any (fun t => decide (t.func ∈ [0x0601, 0x0603, 0x0311])) && decide (h.treat = 0)

/-- The most octets a header entry's data can have (R334, R335). -/
def headMax (a : Accord) (h : AHead) : Nat :=
  if h.treat = 1 ∨ h.src = 2 then 10 else
  match defOf (if h.src = 0 then a.ins else a.outs) h.field with
  | some d => encOctets d.enc d.maxLen
  | none => 0

/-- A header entry with so many octets of data (R335). -/
def entrySize (n : Nat) : Nat := 4 + (n + 3) / 4 * 4

/-- Granules of a completion entry (R91). -/
def hdrGranules (rbytes : Nat) : Nat := if rbytes ≤ 192 then 1 else 1 + (rbytes - 192 + 247) / 248

/-- HDR_NGRAN (R334). -/
def hdrNgran (a : Accord) : Nat := hdrGranules (64 + (a.heads.map (fun h => entrySize (headMax a h))).sum)

/-! ### The load checks (R316) -/

/-- Two octets of BCD. -/
def bcd16 (v : Nat) : Bool := (List.range 4).all (fun k => decide (v / 16 ^ k % 16 < 10))

/-- A check of the load: offset of the entry, whether a failure is structural, and whether it holds. -/
abbrev LoadCheck := Nat × Bool × Bool

/-- The checks of the accord header (R317). -/
def headerChecks (b : List Byte) (a : Accord) : List LoadCheck :=
  let list := decide (a.syn = 4)
  let routed := decide (a.routeField ≠ 0)
  [(0, true, decide (be b 0 2 = 1)), (2, false, decide (a.num < 1024)), (4, false, decide (1 ≤ a.syn ∧ a.syn ≤ 4)),
   (5, true, decide (a.coding / 16 = 0)),
   (5, false, decide (a.coding / 4 % 4 ≤ 1) && decide (a.coding % 4 ≤ 1) && (!list || decide (a.coding = 0))),
   (6, false, decide (a.dir ≤ 1)), (7, true, decide (be b 7 1 < 4)),
   (8, false, if list then decide (be b 8 8 = 0) else a.mtiIn.all (fun m => bcd16 m || decide (m = 0xFFFF))),
   (16, false, if list then decide (a.mtiOut = 0) else bcd16 a.mtiOut),
   (20, false, if a.domN = 0 then decide (a.domLo = 0) else decide (a.domN ≤ 65536 - a.domLo)),
   (22, false, decide (a.hdrQp < 8192)),
   (24, false, if a.dir = 1 then decide (a.action = 3) else if routed then decide (a.action = 0) else decide (a.action = 2 ∨ a.action = 3)),
   (25, false, if routed then decide (1 ≤ a.routeDigits ∧ a.routeDigits ≤ 6) else decide (a.routeDigits = 0)),
   (26, false, !routed || ((defOf a.ins a.routeField).any (fun d => decide (d.enc ≤ 3)) && decide (a.dir = 0))),
   (28, false, decide (a.routeBase + 10 ^ a.routeDigits - 1 < 2 ^ 20)),
   (32, false, decide (10 ≤ a.replyLog ∧ a.replyLog ≤ 20)), (33, false, decide (10 ≤ a.verdictLog ∧ a.verdictLog ≤ 24)),
   (34, false, decide (1 ≤ a.ins.length)), (36, false, decide (a.steps.length ≤ 8)),
   (38, false, decide (a.builds.length ≤ a.outs.length)), (39, false, decide (a.heads.length ≤ 64)),
   (72, true, allZero (octets b 72 24)),
   (min b.length (offsetsOf b).last, true, decide (b.length = (offsetsOf b).last ∧ b.length ≤ 65536))]

/-- The largest FIELD of a SYNTAX and the least (R318). -/
def fieldRange (syn : Nat) : Nat × Nat := match syn with | 3 => (2, 192) | 4 => (1, 4095) | _ => (2, 128)

/-- The checks of a table of field definitions from an offset (R318). -/
def fieldChecks (b : List Byte) (syn off : Nat) (ds : List FieldDef) : List LoadCheck :=
  (ds.zipIdx).flatMap (fun q =>
    let d := q.1
    let o := off + 8 * q.2
    let before := if q.2 = 0 then 0 else (ds.getD (q.2 - 1) ⟨0, 0, 0, 0, false, 0, 0⟩).field
    [(o, false, decide ((fieldRange syn).1 ≤ d.field ∧ d.field ≤ (fieldRange syn).2)), (o, true, decide (before < d.field)),
     (o, false, decide (d.form ≤ 3 ∧ (d.form = 3 → syn = 4) ∧ d.enc ≤ 5 ∧ d.lenEnc ≤ 2 ∧ (d.form = 0 ∨ d.form = 3 → d.lenEnc = 0))),
     (o, true, decide (be b (o + 5) 1 / 8 % 16 = 0)),
     (o, false, decide (1 ≤ d.maxLen ∧ d.maxLen ≤ if syn = 4 then 8192 else 999))])

/-- The checks of a map that stand whatever uses it (R321). -/
def mapChecks (a : Accord) (off : Nat) : List LoadCheck :=
  (a.maps.zipIdx).map (fun q =>
    let m := q.1
    let srcOk := match m.kind with
      | 1 => (defOf a.ins m.src).isSome
      | 2 => decide (m.src / 4096 < a.steps.length)
      | 3 => true
      | 4 => (defOf a.outs m.src).isSome
      | _ => false
    (off + 8 * q.2, false, srcOk && decide (m.conv ≤ 5) && decide (m.len ≤ 4096) &&
      decide (1 ≤ m.len ∨ ((m.kind = 1 ∨ m.kind = 4) ∧ m.conv = 0))))

/-- The checks of the chain steps (R322): their own, then those of their maps. `fnOk` says that a function of a step's
length is defined. -/
def stepChecks (b : List Byte) (a : Accord) (o : AOffsets) (fnOk : AStep → Bool) : List LoadCheck :=
  (a.steps.zipIdx).flatMap (fun q =>
    let t := q.1
    let e := o.steps + 16 * q.2
    [(e, false, decide (1 ≤ t.func / 256 ∧ t.func / 256 ≤ 6) && fnOk t), (e, false, t.ksrc.all (fun k => decide (k ≤ 10))),
     (e, false, decide (t.onFail ≤ 2)), (e, false, decide (t.first + t.n ≤ a.maps.length)),
     (e, true, allZero (octets b (e + 10) 6)), (e, false, decide (t.func = 0x0602 → a.detok = true))] ++
    ((mapsFrom a t.first t.n).zipIdx).map (fun r =>
      (o.maps + 8 * (t.first + r.2), false, decide (r.1.kind ≠ 4) && decide (r.1.kind = 2 → r.1.src / 4096 < q.2) &&
        (if 0xFF00 ≤ r.1.dst then decide (r.1.dst - 0xFF00 + r.1.len ≤ 8) else decide (r.1.dst + r.1.len ≤ t.inLen)))))

/-- The checks of the build entries (R323). -/
def buildChecks (a : Accord) (o : AOffsets) : List LoadCheck :=
  (a.builds.zipIdx).flatMap (fun q =>
    let e := q.1
    let room := ((defOf a.outs e.field).map (fun d => encOctets d.enc d.maxLen)).getD 0
    [(o.builds + 4 * q.2, false, (defOf a.outs e.field).isSome), (o.builds + 4 * q.2, false, decide (e.first + e.n ≤ a.maps.length))] ++
    ((mapsFrom a e.first e.n).zipIdx).map (fun r =>
      (o.maps + 8 * (e.first + r.2), false, decide (r.1.dst + r.1.len ≤ room) &&
        decide (r.1.kind = 4 → ((a.builds.take q.2).any (fun x => decide (x.field = r.1.src))) = true))))

/-- The checks of the header entries (R320, R324). -/
def headChecks (a : Accord) (o : AOffsets) : List LoadCheck :=
  (a.heads.zipIdx).map (fun q => (o.heads + 4 * q.2, false, decide (q.1.src ≤ 2) && decide (q.1.treat ≤ 1) && headAllowed a q.1))

/-- Every check of the load, in the order of the accord's octets; the first that fails gives the refusal (R316). -/
def accordCheck (b : List Byte) (fnOk : AStep → Bool) : Option (Nat × Nat) :=
  let a := parseAccord b
  let o := offsetsOf b
  let all := headerChecks b a ++ fieldChecks b a.syn o.ins a.ins ++ fieldChecks b a.syn o.outs a.outs ++ stepChecks b a o fnOk ++
    mapChecks a o.maps ++ buildChecks a o ++ headChecks a o ++ [(39, false, decide (hdrNgran a ≤ 32))]
  (all.find? (fun c => !c.2.2)).map (fun c => (if c.2.1 then St.grateFormat else St.grateRange, c.1))

/-! ### Cycles (R328) -/

/-- Issue cycles of the parse and of the build. -/
def parseCycles (a : Accord) : Nat := 192 + 8 * a.ins.length
def buildCycles (a : Accord) : Nat := 128 + 8 * (a.builds.length + a.heads.length)

end Sys2Proof.Machine
end

