-- ==== Sys2Proof/Machine/Egress.lean ====
section
/-!
DEFINITION. The host path's way out: disposition words, statuses, completion rings, batch records, MSI-X (R57, R58, R91 to
R98, R101, R102, R145), and the accessors of queue pairs, slices, links and requests.
-/
namespace Sys2Proof.Machine

/-! ### Accessors -/

/-- A request. -/
def work (s : State) (id : Nat) : Option Work := tblGet s.wk.works id

/-- Change a request. -/
def modWork (id : Nat) (f : Work → Work) (s : State) : State :=
  match work s id with
  | some w => { s with wk.works := tblPut s.wk.works id (f w) }
  | none => s

/-- Forget a request: its saved-state slot and thread areas are zeroed with it (R118). A host read outstanding for it ends on its own
(R77, R112). -/
def dropWork (id : Nat) (s : State) : State :=
  let s : State := match work s id with
    | some w =>
      let part := match w.src with | .part b j => some (b, j) | _ => none
      if w.asked then { s with hl.orphans := s.hl.orphans ++ [⟨id, part, w.acct, w.link, w.readTick, w.reads⟩] } else s
    | none => s
  { s with wk.works := tblDel s.wk.works id }

/-- Add a request; its number is the next in arrival order. -/
def addWork (w : Work) (s : State) : State :=
  { s with wk.works := tblPut s.wk.works s.wk.next w, wk.next := s.wk.next + 1 }

/-- A batch. -/
def batch (s : State) (id : Nat) : Option Batch := tblGet s.wk.batches id

/-- Change a batch. -/
def modBatch (id : Nat) (f : Batch → Batch) (s : State) : State :=
  match batch s id with
  | some b => { s with wk.batches := tblPut s.wk.batches id (f b) }
  | none => s

/-- The PASID a queue pair's DMA carries (R81). -/
def qpPasid (s : State) (q : Qp) : Option Nat :=
  let l := slice s q.slice
  if l.pv then some l.pasid else none

/-! ### Disposition and status -/

/-- The disposition word (R57). -/
def dispWord (req run : Nat) (dem age rty late cons : Bool) (band ticks : Nat) : Nat :=
  (req % 4) * 2 ^ 30 + (run % 4) * 2 ^ 28 + b2n dem * 2 ^ 27 + b2n age * 2 ^ 26 + b2n rty * 2 ^ 25 + b2n late * 2 ^ 24 +
  b2n cons * 2 ^ 23 + (band % 4) * 2 ^ 21 + min ticks 65535

/-- TICKS of granted work (R57). -/
def grantTicks (w : Work) : Nat := match w.grant with | some g => g - w.elig | none => 0

/-- Rules 3 to 7 of R58. -/
def lateStatus (late dem age : Bool) (ticks : Nat) : Nat :=
  if late then St.cancelLate else if dem then St.demoted else if age then St.aged
  else if 1 ≤ ticks then St.delayed else St.ok

/-- The status of a completion (R58); `raised` is the function's or the module's own. -/
def finalStatus (w : Work) (raised : Nat) : Nat :=
  if raised ≠ 0 then raised else lateStatus w.late w.dem w.age (grantTicks w)

/-- The disposition word of a request: granted work names its run note and its wait. Work the limiter refused has RUN_NOTE 0b11 and its
retry-after, a continuation too (R57, R173). -/
def workDisp (s : State) (w : Work) (ticks : Nat) : Nat :=
  match w.grant with
  | some _ =>
    if w.res.any (fun r => decide (r.status = St.refusedLimit)) then dispWord w.reqNote 3 w.dem w.age w.rty w.late w.cons w.band w.endTicks
    else dispWord w.reqNote w.runNote w.dem w.age w.rty w.late w.cons w.band (grantTicks w)
  | none => dispWord w.reqNote 3 w.dem w.age w.rty w.late (w.cons || s.tk.pwrFault) s.tk.band ticks

/-- Status classes 0x00 and 0x01. -/
def statusGood (st : Nat) : Bool := decide (st / 256 ≤ 1)

/-- The disposition counters of TK_N_* that a completion's status moves (R74). -/
def countStatus (st : Nat) (s : State) : State :=
  if st = St.ok then { s with tk.nServed := satAdd 32 s.tk.nServed 1 }
  else if st = St.delayed then { s with tk.nDelayed := satAdd 32 s.tk.nDelayed 1 }
  else if st = St.refusedLoad then { s with tk.nRefused := satAdd 32 s.tk.nRefused 1 }
  else if st = St.cancelled then { s with tk.nCancelled := satAdd 32 s.tk.nCancelled 1 }
  else if st = St.cancelLate then { s with tk.nCancelLate := satAdd 32 s.tk.nCancelLate 1 }
  else s

/-! ### The completion ring -/

/-- Granules an entry of n inline result octets takes (R91). -/
def granules (n : Nat) : Nat := if n ≤ 192 then 1 else 1 + (n - 192 + 247) / 248

/-- The length word (R92). -/
def lenWord (phase : Bool) (ngran rbytes : Nat) : Nat := b2n phase * 2 ^ 31 + ngran * 2 ^ 24 + rbytes

/-- The continuation word (R92). -/
def contWord (phase : Bool) (index : Nat) : Nat := b2n phase * 2 ^ 63 + 2 ^ 62 + index * 2 ^ 56

/-- PHASE at a count of granules written (R92): 1 on the first pass. -/
def phaseAt (q : Qp) (written : Nat) : Bool := decide ((written / 2 ^ q.cqLog) % 2 = 0)

/-- The address of a granule. -/
def granAddr (q : Qp) (written : Nat) : Nat := q.cqBase + (written % 2 ^ q.cqLog) * 256

/-- What a completion entry says besides its place (R91). -/
structure Cpl where
  status : Nat
  func   : Nat
  ctag   : Nat
  disp   : Nat
  seq    : Nat
  detail : Nat := 0
  tElig  : Nat
  outBytes : Nat := 0
  info   : Nat := 0
  inline : List Byte := []
  deriving DecidableEq, Repr

/-- Header octets 0x04 to 0x3F (R91). -/
def cplHeader (q : Qp) (c : Cpl) (now : Nat) : List Byte :=
  leBytes 2 c.status ++ leBytes 2 c.func ++ leBytes 4 c.ctag ++ leBytes 4 c.disp ++ leBytes 4 c.seq ++
  leBytes 2 (if c.func = 0xFFFE then 0 else q.fetched % 2 ^ q.sqLog) ++ leBytes 2 c.detail ++ leBytes 8 c.tElig ++ leBytes 8 now ++ leBytes 4 c.outBytes ++
  leBytes 4 c.info ++ leBytes 16 0

/-- The continuation granules of an entry: index and write (R92, R93). -/
def contWrites (s : State) (q : Qp) (start n : Nat) (inline : List Byte) : List Output :=
  (List.range (n - 1)).map (fun j =>
    .hostWrite q.link (qpPasid s q) false (granAddr q (start + j + 1))
      (leBytes 8 (contWord (phaseAt q start) (j + 1)) ++ (inline.drop (192 + 248 * j)).take 248))

/-- Raise the queue pair's vector (R98). -/
def qpVector (n : Nat) (s : State) : State :=
  raiseMsix send ((qp s n).link + 1) (qpPasid s (qp s n)) (qp s n).vector (modQp n (fun q => { q with unsig := 0 }) s)

/-- Write one entry at the write position: continuation granules, header and result, then LENWORD (R93). -/
def writeEntry (n : Nat) (c : Cpl) (ngran : Nat) (s : State) : State :=
  let q := qp s n
  let at_ := q.written
  let head := cplHeader q c s.tick
  let s := sendAll (contWrites s q at_ ngran c.inline) s
  let s := send (.hostWrite q.link (qpPasid s q) false (granAddr q at_ + 4) (head ++ c.inline.take 192)) s
  let s := send (.hostWrite q.link (qpPasid s q) false (granAddr q at_)
    (leBytes 4 (lenWord (phaseAt q at_) ngran c.inline.length))) s
  modQp n (fun q => { q with written := at_ + ngran, entries := q.entries ++ [at_] }) s

/-- Granules left before the end of the ring (R95). -/
def ringLeft (q : Qp) : Nat := 2 ^ q.cqLog - q.written % 2 ^ q.cqLog

/-- The pad that keeps an entry from wrapping (R95). -/
def padCpl : Cpl := { status := 0, func := 0, ctag := 0, disp := 0, seq := 0, tElig := 0 }

/-- Write a completion: pad when needed, entry, interrupt (R93, R95, R98). -/
def writeCpl (n : Nat) (c : Cpl) (s : State) : State :=
  let g := granules c.inline.length
  let s := if ringLeft (qp s n) < g then writeEntry n padCpl (ringLeft (qp s n)) s else s
  let s := writeEntry n c g s
  let s := modQp n (fun q => { q with unsig := q.unsig + 1, unsigSince := if q.unsig = 0 then s.tick else q.unsigSince }) s
  let q := qp s n
  if q.cqThresh = 0 ∨ q.cqWait = 0 ∨ q.cqThresh ≤ q.unsig then qpVector n s else s

/-- A completion of a queue pair in LINKDOWN is discarded: a record keeps the first and the last SEQ (R79). -/
def discardCpl (n seq : Nat) (s : State) : State :=
  let first := ((qp s n).lostFirst).getD seq
  report { event := 0x0905, unit := n, argA := first, argB := seq } (modQp n (fun q => { q with lostFirst := some first }) s)

/-- A completion leaves for its queue pair (R79, R93). -/
def deliver (n : Nat) (c : Cpl) (s : State) : State :=
  if (qp s n).state = 3 then discardCpl n c.seq s else writeCpl n c (countStatus c.status s)

/-! ### Where the function's result goes -/

/-- The functions that write their result at OUT_ADDR (R88). -/
def usesOut (func : Nat) : Bool :=
  decide (func / 256 = 0x08 ∨ func / 256 = 0x0B) || decide (func ∈ [0x0702, 0x070B, 0x0A01, 0x0A03, 0x0A04])

/-- INFO with EFFECTS (R91, R583). -/
def infoWord (effects : Bool) (info : Nat) : Nat := b2n effects * 2 ^ 31 + info % 2 ^ 31

/-- The completion of queue work with a result. Output at OUT_ADDR is written first; a bulk function has written its own
output chunk by chunk and gives its count in `wrote` (R93, R116). -/
def completeQueue (w : Work) (n seq : Nat) (raised ticks : Nat) (r : FnRes) (wrote : Option Nat) (s : State) : State :=
  let st := finalStatus w raised
  let toOut := usesOut w.sub.func && wrote.isNone && !r.out.isEmpty
  let q := qp s n
  let s := if toOut && decide (q.state ≠ 3) then writeHost q.link (qpPasid s q) false w.sub.outAddr r.out s else s
  let eff := r.effects || w.eff || toOut || wrote.any (fun k => decide (k ≠ 0))
  deliver n { status := st, func := w.sub.func, ctag := w.sub.ctag, disp := workDisp s w ticks, seq, detail := r.detail,
              tElig := w.elig, outBytes := wrote.getD r.out.length, info := infoWord (eff && w.grant.isSome) r.info,
              inline := if toOut then [] else r.out } s

/-! ### Batches -/

/-- A part record's 64 octets (R101). -/
def PartRec.bytes (p : PartRec) : List Byte :=
  leBytes 2 p.status ++ leBytes 2 p.detail ++ leBytes 4 p.disp ++ leBytes 4 p.outBytes ++ leBytes 4 p.info ++ octets p.result 0 48

/-- The records of a batch in part order. -/
def Batch.records (b : Batch) : List PartRec := (List.range b.parts.length).map (fun j => tget {} b.recs j)

/-- The bitmap of the parts that ended well (R102), octet by octet. -/
def batchBitmap (rs : List PartRec) : List Byte :=
  (List.range 512).map (fun i => BitVec.ofNat 8 ((List.range 8).foldl (fun a k =>
    match rs[8 * i + k]? with
    | some r => if statusGood r.status then a + 2 ^ k else a
    | none => a) 0))

/-- A part withdrawn (R102). A cancelled part counts there and not as failed. -/
def PartRec.withdrawn (r : PartRec) : Bool := decide (r.status = St.cancelled)

/-- The part ended well (R102): class 0x00 or 0x01, but not withdrawn. -/
def PartRec.okEnd (r : PartRec) : Bool := statusGood r.status && !r.withdrawn

/-- The part failed. -/
def PartRec.failed (r : PartRec) : Bool := !r.okEnd && !r.withdrawn

/-- The index of the first failed part (R102). -/
def firstFail (rs : List PartRec) : Option Nat := rs.findIdx? (·.failed)

/-- The status of a batch completion (R145). -/
def batchStatus (b : Batch) (w : Work) : Nat :=
  let rs := b.records
  let nOk := (rs.filter (·.okEnd)).length
  let nWd := (rs.filter (·.withdrawn)).length
  let ticks := (b.firstGrant.getD w.elig) - w.elig
  if b.atomic ∧ b.committed = false ∧ (b.begun ∨ b.checkFailed) then (if b.reset then St.squashed else St.rolledBack)
  else if nWd = rs.length then St.cancelled
  else if nOk = 0 then (match firstFail rs with | some j => (rs.getD j {}).status | none => St.cancelled)
  else if nOk ≠ rs.length then St.partialRun
  else lateStatus b.late false b.age ticks

/-- The 544 result octets of a batch completion (R102). -/
def batchResult (b : Batch) : List Byte :=
  let rs := b.records
  leBytes 2 rs.length ++ leBytes 2 (rs.filter (·.okEnd)).length ++ leBytes 2 (rs.filter (·.failed)).length ++
  leBytes 2 (rs.filter (·.withdrawn)).length ++ leBytes 2 ((firstFail rs).getD 0xFFFF) ++
  leBytes 2 (b2n b.atomic + 2 * b2n b.committed) ++ leBytes 4 0 ++ leBytes 8 b.commitTick ++ leBytes 8 0 ++
  batchBitmap (rs.map (fun r => if r.withdrawn then { r with status := St.partNotRun } else r))

/-- The disposition word of a batch completion (R145). -/
def batchDisp (b : Batch) (w : Work) (now band : Nat) : Nat :=
  let rs := b.records
  let ticks := match b.firstGrant with
    | some g => g - w.elig
    | none =>
      let st := batchStatus b w
      if st = St.cancelled ∨ st = St.squashed then now - w.elig
      else match firstFail rs with | some j => (rs.getD j {}).disp % 65536 | none => 0
  dispWord w.reqNote b.firstNote false b.age b.rty b.late b.cons (if b.firstGrant.isSome then b.band else band) ticks

/-- A batch ends: part records at OUT_ADDR, then the completion (R101, R102). -/
def completeBatch (id : Nat) (n seq : Nat) (w : Work) (b : Batch) (s : State) : State :=
  let q := qp s n
  let rs := b.records
  let s := if q.state = 3 then s else
    sendAll ((rs.zipIdx).map (fun p => .hostWrite q.link (qpPasid s q) q.roData (w.sub.outAddr + 64 * p.2) p.1.bytes)) s
  let eff := rs.any (fun r => bitOf r.info 31)
  let s := deliver n { status := batchStatus b w, func := w.sub.func, ctag := w.sub.ctag, disp := batchDisp b w s.tick s.tk.band, seq,
                       tElig := w.elig, outBytes := 64 * rs.length, info := infoWord eff 0, inline := batchResult b } s
  { s with wk.batches := tblDel s.wk.batches id }

end Sys2Proof.Machine
end

