-- ==== Sys2Proof/Machine/KeyBase.lean ====
section
/-!
DEFINITION. What the key store does for requests: the key tests, fetches and the cache, placement, commits (R207 to R223,
R225, R226).
-/
namespace Sys2Proof.Machine

/-! ### Domains and tests -/

/-- A domain's entry. -/
def dom (s : State) (d : Nat) : Dom := tget {} s.ks.doms d

/-- Change a domain's entry. -/
def setDom (d : Nat) (e : Dom) (s : State) : State := { s with ks.doms := tset {} s.ks.doms d e }

/-- A record serves a domain (R218). -/
def KRec.serves (r : KRec) (d : Nat) : Bool :=
  match r.scope with
  | 0 => decide (r.owner = d)
  | 1 => decide (r.owner / 16 = d / 16)
  | _ => decide (d = r.owner ∨ d = r.peer)

/-- How an epoch stands in a domain (R220): 0 open, 1 closed, 2 staged. -/
def epochState (e : Dom) (epoch : Nat) : Nat := if e.cur < epoch then 2 else if epoch < e.oldest then 1 else 0

/-- What a grant finds at a handle (R208, R217): a key one of whose records is quarantined is no use. -/
def keyRead (s : State) (h : Nat) : KeyRead :=
  let r := krec s (handleIndex h)
  { handle := h, bad := decide (handleIndex h ∈ s.ks.quar) || r.ext.any (fun i => decide (i ∈ s.ks.quar)) || decide (s.ks.state = 3), rec_ := r
    epoch := epochState (dom s r.owner) r.epoch, expired := decide (r.notAfter ≠ 0) && decide (r.notAfter < s.tick)
    ownerOpen := (dom s r.owner).isOpen }

/-- The tests of R216 on one key field, in order: 0, or the status of the first that fails. `closedOk` lets a closed epoch
serve (R200); `role` is the test of type, usage, mode and class. -/
def keyTest (d : Nat) (k : KeyRead) (closedOk role : Bool) : Nat :=
  if k.handle = 0 then St.keyAbsent
  else if k.bad then St.keyIntegrity
  else if k.rec_.noKey || !k.rec_.serves d then St.keyAbsent
  else if k.rec_.gen ≠ k.handle / 2 ^ 27 then St.keyGenerationStale
  else if decide (k.epoch = 2) || (decide (k.epoch = 1) && !closedOk) then St.keyEpochClosed
  else if k.expired then St.keyExpired
  else if !role then St.usageForbidden
  else 0

/-- The tests over the fields a function names: field number, what was found, closed epochs allowed, role (R216). -/
def keyTests (d : Nat) : List (Nat × KeyRead × Bool × Bool) → Option (Nat × Nat)
  | [] => none
  | (f, k, c, r) :: t => match keyTest d k c r with
    | 0 => keyTests d t
    | st => some (st, f)

/-- What was found at key field j of a granted request. -/
def Work.key (w : Work) (j : Nat) : KeyRead := w.keys.getD j {}

/-! ### The cache (R222, R223) -/

/-- A pinned record. -/
def KRec.pinned (r : KRec) : Bool := !r.noKey && bitOf r.flags 0

/-- The indexes a submission names. -/
def Sub.keyIndexes (x : Sub) : List Nat := (([x.key0, x.key1, x.key2].filter (· ≠ 0)).map handleIndex).eraseDups

/-- The indexes a request names: a chain's, every step's (R329, R330). -/
def Work.keyIndexes (w : Work) : List Nat :=
  match w.plan with
  | some p => (p.handles.map handleIndex).eraseDups
  | none => w.sub.keyIndexes

/-- A record that needs no fetch. -/
def cached (s : State) (i : Nat) : Bool := (tblGet s.ks.cache i).isSome || (krec s i).pinned

/-- Key records a request misses (R44, R222). -/
def missCount (s : State) (w : Work) : Nat := (w.keyIndexes.filter (fun i => !cached s i)).length

/-- A granted request holds the record until it completes, a handshake its SIGN_KEY (R222, R385). -/
def keyLocked (s : State) (i : Nat) : Bool :=
  s.pt.eps.any (fun p => p.2.hello.any (fun h => decide (h.sign.handle ≠ 0) && decide (handleIndex h.sign.handle = i))) ||
  s.wk.works.any (fun p => p.2.keys.any (fun k => decide (k.handle ≠ 0) && decide (handleIndex k.handle = i)))

/-- The least recently used of some cache entries. -/
def oldestUse : Tbl Nat → Option (Nat × Nat)
  | [] => none
  | p :: t => match oldestUse t with
    | none => some p
    | some q => if q.2 < p.2 then some q else some p

/-- Records the key cache holds (R222). -/
def cacheSize : Nat := 262144

/-- Make room for one record: the unlocked, unpinned one used least recently goes, its USES written back, which is a write of the record
(R206, R222). -/
def evict (s : State) : State :=
  if s.ks.cache.length < cacheSize then s else
  match oldestUse (s.ks.cache.filter (fun p => !keyLocked s p.1 && !(krec s p.1).pinned)) with
  | some p => (bumpTree p.1 { s with ks.cache := tblDel s.ks.cache p.1 }).2
  | none => s

/-- A record is used, or enters the cache if it finds room there. Extension records are never cached (R211, R222). -/
def touch (i : Nat) (s : State) : State :=
  if (krec s i).type = 31 then s else
  let s := if (tblGet s.ks.cache i).isSome then s else evict s
  if (tblGet s.ks.cache i).isSome ∨ s.ks.cache.length < cacheSize then { s with ks.cache := tblPut s.ks.cache i s.tick } else s

/-- Level-1 nodes the hub's node cache holds (R206). -/
def nodeCacheSize : Nat := 4096

/-- The level-1 node of an index stands in the node cache, so that a fetch needs the record alone (R206, R207). -/
def nodeCached (s : State) (i : Nat) : Bool := (tblGet s.ks.nodes (i / 64)).isSome

/-- The level-1 node of an index is used, or enters the node cache; the one used least recently goes (R206, R207; DESIGN CHOICE, log
entry 96). -/
def touchNode (i : Nat) (s : State) : State :=
  let t := if nodeCached s i ∨ s.ks.nodes.length < nodeCacheSize then s.ks.nodes else
    match oldestUse s.ks.nodes with
    | some p => tblDel s.ks.nodes p.1
    | none => s.ks.nodes
  { s with ks.nodes := tblPut t (i / 64) s.tick }

/-- One key field's record at a grant: a hit, or a fetch (R222). -/
def lookUp (i : Nat) (s : State) : State :=
  let r := krec s i
  let s := if r.noKey then s else { s with ks.recs := tset {} s.ks.recs i { r with uses := wrapAdd 64 r.uses 1 } }
  if cached s i then touch i { s with ks.hits := wrapAdd 64 s.ks.hits 1 }
  else { s with ks.misses := wrapAdd 64 s.ks.misses 1, ks.fetching := if i ∈ s.ks.fetching then s.ks.fetching else s.ks.fetching ++ [i] }

/-- A request's first grant: its key fields' records are locked and counted as used, missing ones are fetched, and what they hold
is fixed (R211, R217, R222). -/
def lockKeys (id : Nat) (s : State) : State :=
  match work s id with
  | none => s
  | some w =>
    if !w.keys.isEmpty ∨ w.stepsDone ≠ 0 then s else
    let n := missCount s w
    let names := match w.plan with
      | some p => p.handles
      | none => [w.sub.key0, w.sub.key1, w.sub.key2]
    let s := modWork id (fun w => { w with keys := names.map (keyRead s), missed := n }) s
    let s := if n ≠ 0 ∧ w.note ≠ 0 then { s with ks.missGrants := s.ks.missGrants + 1 } else s
    let s := w.keyIndexes.foldl (fun s i => lookUp i s) s
    modWork id (fun w => { w with keys := names.map (keyRead s) }) s

/-- A request still waits for a record. -/
def fetchOpen (s : State) (w : Work) : Bool := w.keyIndexes.any (fun i => decide (i ∈ s.ks.fetching)) && !w.keys.isEmpty

/-! ### Integrity (R207 to R210) -/

/-- Every request whose key fields satisfy a test finds those reads failed. -/
def failWhere (p : Nat → Bool) (s : State) : State :=
  { s with wk.works := s.wk.works.map (fun q => (q.1, { q.2 with
      keys := q.2.keys.map (fun k => if decide (k.handle ≠ 0) && p (handleIndex k.handle) then { k with bad := true } else k) })) }

/-- Every request that reads one of these indexes, or a key with an extension record there, finds its read failed (R208, R211). -/
def failReads (is : List Nat) (s : State) : State :=
  failWhere (fun i => decide (i ∈ is) || (krec s i).ext.any (fun e => decide (e ∈ is))) s

/-- The store enters FAILED, where every key read ends with KEY_INTEGRITY, those of granted work too: a lock-class event (R209, R464). -/
def storeFailed (s : State) : State :=
  if s.ks.state = 3 then s
  else lockClass 0x21 St.keyIntegrity (note 0x0D02 2 0xFFFF 0 0 (failWhere (fun _ => true) { s with ks.state := 3 }))

/-- A second read failed: quarantine (R208, R209). -/
def quarantine (i : Nat) (node : Bool) (s : State) : State :=
  let is := if node then (List.range 64).map (64 * (i / 64) + ·) else [i]
  let new := is.filter (fun j => decide (j ∉ s.ks.quar))
  let fits := decide (s.ks.quar.length + new.length ≤ 4096)
  let ticks := (s.ks.quarTicks.filter (fun t => decide (s.tick < t + 2 ^ 19))) ++ [s.tick]
  let s := { s with ks.integ := satAdd 32 s.ks.integ 1, ks.quarTicks := ticks
                    ks.quar := s.ks.quar ++ new.take (4096 - s.ks.quar.length) }
  let s := failReads is (note 0x0D01 1 0xFFFF i (b2n node) s)
  if !fits || decide (16 < ticks.length) then storeFailed s else s

/-- A record whose ECC corrected an error is written again, which raises its minor counter (R206, R210). -/
def rewriteRecord (i : Nat) (s : State) : State := (bumpTree i s).2

/-- What a read of a record by the scrub leaves: nothing, a rewrite, a quarantine, or a failed store (R208 to R210). -/
def recordRead (i : Nat) (e : FetchEnd) (s : State) : State :=
  match e with
  | .good => s
  | .corrected => rewriteRecord i s
  | .badRecord => quarantine i false s
  | .badNode => quarantine i true s
  | .hubError => storeFailed (failReads [i] s)

/-- KEY_FETCH_DONE (R207, R208): a missing record is there, checked, and its level-1 node with it. A node on the hub does not fail. -/
def execKeyFetchDone (i : Nat) (e : FetchEnd) (s : State) : Res :=
  if i ∉ s.ks.fetching ∨ (e = .badNode ∧ nodeCached s i = true) then noEvent s else
  let s := { s with ks.fetching := s.ks.fetching.erase i }
  match e with
  | .good | .corrected => .next (touch i (touchNode i s))
  | _ => .next (recordRead i e s)

/-- KEYSTORE_SCRUB (R59, R210): four records in a tick in which the housekeeping pass granted the task. -/
def execKeystoreScrub (a b c d : FetchEnd) (s : State) : Res :=
  if s.ks.state ≠ 2 ∨ s.ks.scrubGrant ≠ some s.tick ∨ (nodeCached s s.ks.scrubPos = true ∧ FetchEnd.badNode ∈ [a, b, c, d]) then noEvent s else
  let p := s.ks.scrubPos
  let s := { s with ks.scrubGrant := none, ks.scrubPos := (p + 4) % 2 ^ 27
                    ks.scrubSeen := tblPut s.ks.scrubSeen (p / 4) s.tick
                    ks.scrubs := if p + 4 = 2 ^ 27 then wrapAdd 32 s.ks.scrubs 1 else s.ks.scrubs }
  .next (recordRead (p + 3) d (recordRead (p + 2) c (recordRead (p + 1) b (recordRead p a s))))

/-! ### Placement (R215, R219, R220, R226) -/

/-- The indexes a change takes. -/
def Change.indexes (c : Change) : List Nat := match c.kind with | .place i r => i :: r.ext | _ => []

/-- Indexes promised to changes not yet committed. -/
def promised (s : State) : List Nat := s.ks.changes.flatMap Change.indexes

/-- An index is not free. -/
def taken (s : State) (i : Nat) : Bool :=
  decide ((krec s i).type ≠ 0) || (tblGet s.ks.held i).isSome || decide (i ∈ s.ks.quar) || decide (i ∈ promised s)

/-- An index lies in a target range (R219). -/
def Dom.targets (e : Dom) (i : Nat) : Bool := decide (e.tgtLo ≤ i) && decide (i < e.tgtLo + e.tgtN)

/-- The target ranges in force and armed, each with its domain (R219). -/
def targetRanges (s : State) : List (Nat × Dom) :=
  s.ks.doms.map (fun p => (p.1, p.2)) ++ s.ks.domArmed.map (fun a => (a.domain, a.entry))

/-- An index lies in some domain's target range, or in one armed (R215, R219). -/
def inTargets (s : State) (i : Nat) : Bool := (targetRanges s).any (fun p => p.2.targets i)

/-- Indexes next to something that is not free: the first index free since the store began is among them. -/
def freeSites (s : State) (avoid : List Nat) : List Nat :=
  0 :: ((s.ks.recs.map (·.1) ++ s.ks.held.map (·.1) ++ s.ks.freed.map (·.1) ++ s.ks.quar ++ promised s ++ avoid).map (· + 1) ++
    (targetRanges s).map (fun p => p.2.tgtLo + p.2.tgtN))

/-- The least of some numbers. -/
def leastOf : List Nat → Option Nat
  | [] => none
  | x :: t => match leastOf t with
    | none => some x
    | some y => some (min x y)

/-- The index free longest outside every target range (R215): one never used before one freed, lowest first. -/
def chooseFree (s : State) (avoid : List Nat) : Option Nat :=
  let free := fun i => decide (i < 2 ^ 27) && !taken s i && !inTargets s i && decide (i ∉ avoid)
  match leastOf ((freeSites s avoid).filter (fun i => free i && (tblGet s.ks.freed i).isNone)) with
  | some i => some i
  | none => (oldestUse (s.ks.freed.filter (fun p => free p.1))).map (·.1)

/-- Several free indexes. -/
def chooseMany (s : State) : Nat → List Nat → Option (List Nat)
  | 0, got => some got
  | n + 1, got => match chooseFree s got with
    | some i => chooseMany s n (got ++ [i])
    | none => none

/-- Records a domain owns, those promised included (R219). -/
def usedBy (s : State) (d : Nat) : Nat :=
  (s.ks.recs.filter (fun p => decide (p.2.type ≠ 0) && decide (p.2.owner = d))).length +
  (s.ks.changes.map (fun c => match c.kind with | .place _ r => if r.owner = d then 1 + r.ext.length else 0 | _ => 0)).sum

/-- Pins promised by changes not yet committed, of a domain or of all. -/
def pinsPromised (s : State) (d : Option Nat) : Nat :=
  (s.ks.changes.filter (fun c => match c.kind with
    | .place _ r => bitOf r.flags 0 && d.all (fun d => decide (r.owner = d))
    | .pin i on => on && !(krec s i).pinned && d.all (fun d => decide ((krec s i).owner = d))
    | _ => false)).length

/-- Pinned records. -/
def pinCount (s : State) (d : Option Nat) : Nat :=
  (s.ks.recs.filter (fun p => p.2.pinned && d.all (fun d => decide (p.2.owner = d)))).length + pinsPromised s d

/-- One more pin of a domain fits (R223). -/
def pinFits (s : State) (d : Nat) : Bool :=
  decide (pinCount s none < s.tk.cfg.pinLimit) && decide (pinCount s (some d) < (dom s d).pinQuota)

/-- The epoch a placement record names (R220, R226). -/
def placeEpoch (e : Dom) (field : Nat) : Option Nat :=
  let n := if field = 0xFFFF then e.cur else field
  if e.oldest ≤ n ∧ n ≤ e.cur + 1 then some n else none

/-- Where a key of so many records goes, or the refusal: R215, then R219, then R220. -/
def placeAt (s : State) (d target nrec epoch : Nat) : (Nat × Nat) ⊕ List Nat :=
  let e := dom s d
  if target ≠ 0 ∧ (e.targets target = false ∨ taken s target = true) then .inl (St.keyStoreFull, 0)
  else if !e.isOpen then .inl (St.keyStoreFull, 1)
  else if e.quota < usedBy s d + nrec then .inl (St.keyStoreFull, 0)
  else match placeEpoch e epoch with
  | none => .inl (St.keyEpochClosed, 0)
  | some _ =>
    match (if target = 0 then chooseMany s nrec [] else chooseMany s (nrec - 1) [target]) with
    | some is => .inr is
    | none => .inl (St.keyStoreFull, 0)

/-- The generation the next record at an index takes (R214). -/
def nextGen (s : State) (i : Nat) : Nat := (krec s i).gen % 31 + 1

/-- KCV_LEN of a type (R211). -/
def kcvLenOf (t : Nat) : Nat := if isTdes t then 3 else if isAes t then 5 else 8

/-- The check value of material (R211). -/
def kcvOf (t : Nat) (m : List Byte) : List Byte :=
  octets (octets (if isTdes t then Config.kcvTdes m else if isAes t then Config.kcvAes m else Config.sha256 m) 0 (kcvLenOf t)) 0 8

/-- LIMCLASS of a new record (R219). -/
def limClassOf (e : Dom) (usage : Nat) : Nat :=
  let c := usageClass usage
  if c ≤ 3 then e.limPin else if c = 10 then e.limTok else 0

/-- What a placed key is, besides its place. -/
structure NewKey where
  type     : Nat
  usage    : Nat
  mode     : Nat
  exp      : Nat
  alg      : Nat
  kvn      : Nat
  flag     : Nat
  material : List Byte
  deriving DecidableEq, Repr

/-- The record a placement record and a key make (R211, R226). -/
def newRec (s : State) (d : Nat) (p : List Byte) (k : NewKey) : KRec :=
  let e := dom s d
  { type := k.type, usage := k.usage, mode := k.mode, exp := k.exp, alg := k.alg, kvn := k.kvn, lim := limClassOf e k.usage
    owner := d, peer := le p 0x0C 2, scope := le p 0x0A 1, flags := k.flag + b2n (decide (le p 0x0B 1 = 1))
    epoch := (placeEpoch e (le p 0x0E 2)).getD 0, kcvLen := kcvLenOf k.type, kcv := kcvOf k.type k.material
    notAfter := le p 0x10 8, material := k.material, label := octets p 0x20 32, format := s.ks.format }

/-- The attribute record (R226). -/
def KRec.attr (r : KRec) (i : Nat) : List Byte :=
  leBytes 4 (r.gen * 2 ^ 27 + i) ++ leBytes 1 r.type ++ leBytes 1 r.alg ++ beBytes 2 r.usage ++ leBytes 1 r.mode ++
  leBytes 1 r.exp ++ leBytes 1 r.scope ++ leBytes 1 r.flags ++ leBytes 2 r.owner ++ leBytes 2 r.peer ++ leBytes 2 r.epoch ++
  beBytes 2 r.kvn ++ leBytes 1 r.lim ++ leBytes 1 r.kcvLen ++ leBytes 2 (1 + r.ext.length) ++ octets r.kcv 0 8 ++
  leBytes 8 r.created ++ leBytes 8 r.notAfter ++ leBytes 8 r.uses ++ leBytes 8 0

/-- The atomic batch a request belongs to, if it does. -/
def atomicOf (s : State) (w : Work) : Option Nat :=
  match w.src with
  | .part b _ => if (batch s b).any (·.atomic) then some b else none
  | _ => none

/-- A request hands a change to the controller (R33): its completion waits for it, unless its batch commits it (R143). -/
def handOver (id : Nat) (k : ChangeKind) (s : State) : State :=
  match work s id with
  | none => s
  | some w =>
    let b := atomicOf s w
    let s := { s with ks.changes := s.ks.changes ++ [{ kind := k, work := some id, batch := b, out := w.sub.outAddr }] }
    if b.isSome then s else modWork id (fun w => { w with changeSeq := pendingSeq }) s

/-- Where a key goes and the record it becomes, or the refusal (R215, R219, R220, R223). -/
def placement (s : State) (d : Nat) (p : List Byte) (k : NewKey) : (Nat × Nat) ⊕ (Nat × KRec) :=
  match placeAt s d (le p 0 4) (1 + extCount k.material.length) (le p 0x0E 2) with
  | .inl e => .inl e
  | .inr is =>
    if le p 0x0B 1 = 1 ∧ pinFits s d = false then .inl (St.keyPinFull, 0) else
    let i := is.headD 0
    .inr (i, { newRec s d p k with gen := nextGen s i, ext := is.tail })

/-- Place a key for a request: the refusal, or the handle's attribute record with the change handed over. -/
def placeKey (id d : Nat) (p : List Byte) (k : NewKey) (s : State) : FnRes × State :=
  match placement s d p k with
  | .inl e => ({ status := e.1, detail := e.2 }, s)
  | .inr (i, r) => ({ out := r.attr i, effects := true }, handOver id (.place i r) s)

/-! ### Commits (R31, R33, R143, R206, R236) -/

/-- The segments in copy: the first 32 not yet switched (R244). -/
def copying (m : Migration) : List Nat := ((List.range 128).filter (fun g => decide (g ∉ m.done))).take 32

/-- Put a record in its place; its index is no longer free or held. -/
def putRec (i : Nat) (r : KRec) (s : State) : State :=
  { s with ks.recs := tset {} s.ks.recs i r, ks.freed := tblDel s.ks.freed i
           ks.cache := if r.type = 31 then tblDel s.ks.cache i else s.ks.cache }

/-- The extension records of a base record (R211). -/
def putExts (i : Nat) (r : KRec) (s : State) : State :=
  (r.ext.zipIdx).foldl (fun s p => (bumpTree p.1 (putRec p.1 { gen := nextGen s p.1, type := 31, owner := r.owner, base := i
                                                               seq := p.2 + 1, format := formatAt s p.1 } s)).2) s

/-- An index is erased: it keeps its generation and enters hold-down (R214, R215). -/
def eraseIndex (s : State) (i : Nat) : State :=
  let s := (bumpTree i { s with ks.recs := tset {} s.ks.recs i { gen := (krec s i).gen, format := formatAt s i } }).2
  { s with ks.held := tblPut s.ks.held i (s.tick + 2 ^ 24), ks.cache := tblDel s.ks.cache i, ks.quar := s.ks.quar.filter (· ≠ i) }

/-- The indexes a delete erases: the base, and the extension records whose BASE names it (R216). -/
def eraseSet (s : State) (i : Nat) : List Nat :=
  i :: ((s.ks.recs.filter (fun p => decide (p.2.type = 31) && decide (p.2.base = i))).map (·.1))

/-- A record committed while its segment is copied is copied again (R244). -/
def copyAgain (i : Nat) (s : State) : State :=
  { s with ks.mig := s.ks.mig.map (fun m => if i / 2 ^ 20 ∈ copying m ∧ i ∉ m.again then { m with again := m.again ++ [i] } else m) }

/-- The record an index is written with by a change, in the format of its segment. -/
def writeRec (i : Nat) (r : KRec) (s : State) : State :=
  let s := (bumpTree i (putRec i { r with format := formatAt s i } s)).2
  journal s.tick 1 1 (formatAt s i) i (sealRec s i (plainAt s i)) s

/-- A change takes force, with its number and its journal entry. -/
def commitKind (k : ChangeKind) (s : State) : State :=
  match k with
  | .place i r =>
    let r := { r with created := s.tick, format := formatAt s i }
    let s := putExts i r ((bumpTree i (putRec i r s)).2)
    journal s.tick 1 (1 + r.ext.length) (formatAt s i) i (sealKey s i) s
  | .erase i => journal s.tick 2 0 (formatAt s i) i [] ((eraseSet s i).foldl eraseIndex s)
  | .replace i r => writeRec i { r with uses := (krec s i).uses } s
  | .pin i on =>
    let r := krec s i
    writeRec i { r with flags := 2 * (r.flags / 2) + b2n on } s

/-- The index a change writes. -/
def ChangeKind.index : ChangeKind → Nat
  | .place i _ | .erase i | .replace i _ | .pin i _ => i

/-- Every index a change writes, whose tree nodes may be waiting (R206). -/
def changeIndexes (s : State) : ChangeKind → List Nat
  | .place i r => i :: r.ext
  | .erase i => eraseSet s i
  | .replace i _ | .pin i _ => [i]

/-- The nodes above an index, by level (R206). -/
def nodesOver (i : Nat) : List (Nat × Nat) := [(1, i / 64), (2, i / 4096), (3, i / 262144), (4, i / 16777216)]

/-- The nodes above an index whose counter for it stands at its largest, so that the next write zeroes their minors (R206). -/
def fullNodes (s : State) (i : Nat) : List (Nat × Nat) :=
  (nodesOver i).filter (fun n => decide (tget 0 s.ks.minors (treeKey n.1 (i / 64 ^ (n.1 - 1))) + 1 = 2 ^ 24))

/-- A request's change has its number; an attribute record shows the tick of the commit. -/
def stampWork (c : Change) (s : State) : State :=
  let patch := fun (out : List Byte) => match c.kind with
    | .place _ _ => overwrite out 0x20 (leBytes 8 s.tick)
    | _ => out
  match c.batch with
  | some b => modBatch b (fun b => { b with outs := b.outs.map (fun o => if o.1 = c.out then (o.1, patch o.2) else o) }) s
  | none =>
    match c.work with
    | some id => modWork id (fun w => { w with changeSeq := s.ks.changeSeq, res := w.res.map (fun r => { r with out := patch r.out }) }) s
    | none => s

/-- A change commits, and the nodes it overflows join those whose records wait for the next sample point (R206). -/
def commitOne (c : Change) (full : List (Nat × Nat)) (s : State) : List (Nat × Nat) × State :=
  let is := changeIndexes s c.kind
  (is.flatMap (fullNodes s) ++ full, stampWork c (is.foldl (fun s i => copyAgain i s) (commitKind c.kind s)))

/-- A change writes a record under a node that overflowed at this sample point (R206). -/
def nodeWaits (full : List (Nat × Nat)) (s : State) (c : Change) : Bool :=
  (changeIndexes s c.kind).any (fun i => (nodesOver i).any (fun n => decide (n ∈ full)))

/-- Commit changes; those under a node that overflowed at this sample point wait (R206): the waiting ones, the nodes, the state. -/
def commitAll (cs : List Change) (s : State) : List Change × List (Nat × Nat) × State :=
  cs.foldl (fun acc c =>
    if nodeWaits acc.2.1 acc.2.2 c then (acc.1 ++ [c], acc.2) else (acc.1, commitOne c acc.2.1 acc.2.2)) ([], [], s)

/-- An atomic batch all of whose parts succeeded, and which has not committed (R143). -/
def Batch.ready (b : Batch) : Bool :=
  b.atomic && b.begun && !b.failed && !b.checkFailed && !b.committed && decide (b.recs.length = b.parts.length)

/-- An atomic batch commits all its changes as one switch, unless one of them waits for its node (R143, R206). -/
def commitBatch (bid : Nat) (q : List (Nat × Nat) × State) : List (Nat × Nat) × State :=
  let s := q.2
  let mine := s.ks.changes.filter (fun c => decide (c.batch = some bid))
  if mine.any (nodeWaits q.1 s) then q else
  let s := { s with ks.changes := s.ks.changes.filter (fun c => decide (c.batch ≠ some bid)) }
  let q := mine.foldl (fun acc c => commitOne c acc.1 acc.2) (q.1, s)
  let s := modBatch bid (fun b => { b with committed := true, commitTick := q.2.tick }) q.2
  (q.1, if mine.isEmpty then s else modWork bid (fun w => { w with changeSeq := s.ks.changeSeq }) s)

/-- The commits of a sample point: single changes, then atomic batches; changes of batches that failed are dropped. -/
def commitChanges (s : State) : State :=
  let live := s.ks.changes.filter (fun c => match c.batch with
    | some b => (batch s b).any (fun b => !b.failed)
    | none => true)
  let single := live.filter (fun c => decide (c.batch = none))
  let s := { s with ks.changes := live.filter (fun c => decide (c.batch ≠ none)) }
  let q := commitAll single s
  let s := { q.2.2 with ks.changes := q.1 ++ q.2.2.ks.changes }
  ((s.wk.batches.filter (fun p => p.2.ready)).foldl (fun q p => commitBatch p.1 q) (q.2.1, s)).2

/-- Domain entries and epoch commands whose tick has come (R219, R221). -/
def applyDomains (s : State) : State :=
  let due := s.ks.domArmed.filter (fun a => decide (a.tick ≤ s.tick))
  let s := { s with ks.domArmed := s.ks.domArmed.filter (fun a => decide (s.tick < a.tick)) }
  let s := due.foldl (fun s a =>
    let old := dom s a.domain
    let e := { a.entry with cur := old.cur, oldest := old.oldest }
    journal s.tick 3 1 s.ks.format a.domain (octets (domBytes s.tick a.domain e) 0 256) (setDom a.domain e s)) s
  let now := s.ks.epochs.filter (fun c => decide (c.tick ≤ s.tick))
  let s := { s with ks.epochs := s.ks.epochs.filter (fun c => decide (s.tick < c.tick)) }
  now.foldl (fun s c => setDom c.domain { dom s c.domain with cur := c.cur, oldest := c.oldest } s) s

end Sys2Proof.Machine
end

