-- ==== Sys2Proof/Machine/FnTable.lean ====
section
/-!
DEFINITION. What a function answers at the end of a step, and the checks every function chapter shares (R88, R89, R154,
R156, R182).
-/
namespace Sys2Proof.Machine

/-- The end of an engine step: another step follows, the public-key unit runs so many steps first (R384), or it is the
last. -/
inductive StepRes where
  | more
  | toUnit
  | done (r : FnRes)

/-- One row of the function tables. `keys` says which key fields some option names, `inl` what INL must be, `inLen` and `out`
IN_LEN's bounds and the least OUT_MAX. -/
structure FnRow where
  unit   : UnitKind := .engine
  cycles : Nat
  twin   : Bool
  top    : Bool := false
  steps  : Nat := 1
  keys   : List Nat
  inl    : Option Bool := none
  inMin  : Nat
  inMax  : Nat
  out    : Nat
  deriving DecidableEq, Repr

/-- A value in an engine, with its PIN tag (R421). -/
structure Tag (α : Type) where
  val : α
  pin : Bool

/-- A value computed from a value carries its tag. -/
def Tag.map {α β : Type} (f : α → β) (t : Tag α) : Tag β := ⟨f t.val, t.pin⟩

/-- A value computed from two. -/
def Tag.map2 {α β γ : Type} (f : α → β → γ) (t : Tag α) (u : Tag β) : Tag γ := ⟨f t.val u.val, t.pin || u.pin⟩

/-- The result of an operation that R421 lists: the tag is removed. -/
def Tag.release {α : Type} (t : Tag α) : Tag α := ⟨t.val, false⟩

/-- A step ends well with an output and its tag. -/
def doneTag (t : Tag (List Byte)) : StepRes := .done { out := t.val, pin := t.pin }

/-- End with a status. -/
def fail (status detail : Nat) : StepRes := .done { status, detail }

/-- End as the key tests say, or go on. -/
def withKeys (d : Nat) (ks : List (Nat × KeyRead × Bool × Bool)) (s : State) (k : Unit → StepRes × State) : StepRes × State :=
  match keyTests d ks with
  | some (st, f) => (fail st f, s)
  | none => k ()

/-- The first of some fields that fails: GRATE_RANGE with DETAIL 0x8000 plus its offset (R156, R182). -/
def firstBad (fields : List (Nat × Bool)) : Option (Nat × Nat) :=
  (fields.find? (fun f => !f.2)).map (fun f => (St.grateRange, 0x8000 + f.1))

/-- A mode is one of some characters. -/
def modeIn (r : KRec) (cs : List Char) : Bool := cs.any (fun c => decide (c.toNat = r.mode))

/-- A usage is one of some. -/
def usageIs (r : KRec) (a b : Char) : Bool := decide (r.usage = chars2 a b)

/-- A free value as octets of a random generator (R154). -/
def drawBytes (n : Nat) (s : State) : List Byte × State :=
  let q := draw s
  (octets (Config.randomBytes q.1 n) 0 n, q.2)

/-- The number of ones of an octet is odd. -/
def oddByte (b : Byte) : Bool := decide (((List.range 8).filter (fun k => b.toNat.testBit k)).length % 2 = 1)

/-- Set odd parity in the lowest bit of every octet. -/
def setParity (bs : List Byte) : List Byte := bs.map (fun b => if oddByte b then b else b ^^^ 1#8)

/-- The eight-octet parts of a TDES key. -/
def desParts (m : List Byte) : List (List Byte) := (List.range (m.length / 8)).map (fun j => octets m (8 * j) 8)

/-- Neighbouring parts differ. -/
def partsDiffer : List (List Byte) → Bool
  | a :: b :: t => decide (a ≠ b) && partsDiffer (b :: t)
  | _ => true

/-- TDES material with odd parity and halves that differ (R228). -/
def tdesOk (m : List Byte) : Bool := m.all oddByte && partsDiffer (desParts m)

/-- TDES material that also has no weak half (R231, R235). -/
def tdesStrong (m : List Byte) : Bool := tdesOk m && !(desParts m).any Config.weakDes

/-- The strength of a key in bits (R229). -/
def strength (t n : Nat) : Nat :=
  match t with
  | 1 => 80
  | 2 | 7 | 10 => 112
  | 3 | 8 | 11 | 13 | 16 | 19 | 20 => 128
  | 9 | 12 => 152
  | 4 | 14 | 17 | 21 | 22 | 23 | 24 => 192
  | 5 | 15 | 18 => 256
  | 6 => min (8 * n) 256
  | _ => 0

/-- A wrapping key is strong enough (R229). -/
def mayWrap (kbpk : KRec) (t n : Nat) : Bool :=
  decide (strength t n ≤ strength kbpk.type kbpk.material.length) && !(isTdes kbpk.type && isPrivate t)

end Sys2Proof.Machine
end

