-- ==== Sys2Proof/Machine/KeyFns.lean ====
section
/-!
DEFINITION. The key-management functions 0x0701 to 0x070B (R216, R224 to R235).
-/
namespace Sys2Proof.Machine

/-- The rows of R224 and of the table after it. 0x0704 and 0x0705 carry STEPS 0: the unit works between their two engine steps (R384,
R385). -/
def keyFnRow (f : Nat) : Option FnRow :=
  match f with
  | 0x0701 => some { cycles := 2400, twin := true, keys := [0], inl := some false, inMin := 65, inMax := 4096, out := 64 }
  | 0x0702 => some { cycles := 2600, twin := true, keys := [0, 1], inl := some true, inMin := 16, inMax := 16, out := 4032 }
  | 0x0703 => some { cycles := 1200, twin := true, keys := [], inl := some true, inMin := 64, inMax := 64, out := 64 }
  | 0x0704 => some { cycles := 400, twin := false, steps := 0, keys := [], inl := some true, inMin := 64, inMax := 64, out := 64 }
  | 0x0705 => some { cycles := 2400, twin := true, steps := 0, keys := [0, 1], inl := some false, inMin := 80, inMax := 4096, out := 64 }
  | 0x0706 => some { cycles := 300, twin := false, keys := [0], inl := some true, inMin := 0, inMax := 0, out := 0 }
  | 0x0707 => some { cycles := 400, twin := false, keys := [0], inl := some true, inMin := 0, inMax := 0, out := 96 }
  | 0x0708 => some { cycles := 500, twin := false, keys := [0], inl := some true, inMin := 16, inMax := 16, out := 64 }
  | 0x0709 => some { cycles := 300, twin := false, keys := [0], inl := some true, inMin := 0, inMax := 0, out := 64 }
  | 0x070A => some { cycles := 1000, twin := true, keys := [], inl := some false, inMin := 80, inMax := 192, out := 64 }
  | 0x070B => some { cycles := 600, twin := false, keys := [0], inl := some true, inMin := 0, inMax := 0, out := 2048 }
  | _ => none

/-- Functions that change key records (R225). -/
def changesKeys (f : Nat) : Bool := decide (f ∈ [0x0701, 0x0703, 0x0704, 0x0705, 0x0706, 0x0708, 0x0709, 0x070A])

/-! ### Record checks (R226, R232, R233, R235) -/

/-- Fields of a placement record every user of it checks: SCOPE, PIN, PEER (R226). -/
def placeCommon (p : List Byte) : List (Nat × Bool) :=
  [(0x0A, decide (le p 0x0A 1 ≤ 2)), (0x0B, decide (le p 0x0B 1 ≤ 1)),
   (0x0C, decide (le p 0x0A 1 = 2) || decide (le p 0x0C 2 = 0))]

/-- The checks of a placement record for an import: the block gives what it would name (R226). -/
def placeImport (p : List Byte) : List (Nat × Bool) :=
  [(0, decide (le p 0 4 < 2 ^ 27)), (4, decide (le p 4 1 = 0)), (5, decide (le p 5 1 ≤ 3)), (6, decide (le p 6 2 = 0)),
   (8, decide (le p 8 1 = 0)), (9, decide (le p 9 1 = 0))] ++ placeCommon p ++ [(0x18, decide (le p 0x18 2 = 0)), (0x1A, allZero (octets p 0x1A 6))]

/-- The checks of a placement record that names the key, with the types it may name (R226). -/
def placeNew (types : List Nat) (p : List Byte) : List (Nat × Bool) :=
  let t := le p 4 1
  let u := be p 6 2
  [(0, decide (le p 0 4 < 2 ^ 27)), (4, decide (t ∈ types)), (6, usageFits u t), (8, modeFits u t (le p 8 1)),
   (9, expFits (le p 9 1)), (5, algFits t (le p 5 1))] ++ placeCommon p ++ [(0x1A, allZero (octets p 0x1A 6))]

/-- The private types 0x0704 accepts (R231). -/
def privateTypes : List Nat := [7, 8, 9, 13, 14, 15, 19, 21, 23]

/-- The record checks of group 0x07. -/
def keyFnCheck (s : State) (x : Sub) (p : List Byte) : Option (Nat × Nat) :=
  match x.func with
  | 0x0701 => firstBad (placeImport p)
  | 0x0702 => firstBad [(0, decide (le p 0 1 = 0x44 ∨ le p 0 1 = 0x42)),
      (1, decide (le p 1 1 = 0) || expFits (le p 1 1)),
      (2, decide (le p 2 1 < 8) && (!bitOf (le p 2 1) 1 || s.tk.utcValid)), (3, allZero (octets p 3 13))]
  | 0x0703 => firstBad (placeNew [1, 2, 3, 4, 5, 6] p)
  | 0x0704 => firstBad (placeNew privateTypes p)
  | 0x0705 =>
    if x.inLen ≠ 80 + le p 0x44 2 + le p 0x46 2 + le p 0x48 2 then some (St.lengthInvalid, 0)
    else match firstBad (placeImport p ++ [(0x40, decide (1 ≤ le p 0x40 1 ∧ le p 0x40 1 ≤ 4)), (0x41, allZero (octets p 0x41 3)),
      (0x46, decide (le p 0x46 2 ≤ 64)), (0x4A, allZero (octets p 0x4A 6))]) with
    | some e => some e
    | none => if le p 0x40 1 ≠ 3 ∧ x.key1 ≠ 0 then some (St.grateFormat, 0x14) else none
  | 0x0708 => firstBad [(2, decide (le p 2 1 ≤ 2 ∨ le p 2 1 = 0xFF)), (3, allZero (octets p 3 5))]
  | 0x070A =>
    if !(lengthFits (le p 4 1) (x.inLen - 64)) && decide (1 ≤ le p 4 1 ∧ le p 4 1 ≤ 6) then some (St.lengthInvalid, 0)
    else firstBad (placeNew [1, 2, 3, 4, 5, 6] p)
  | _ => none

/-! ### Key blocks (R227 to R230, R232) -/

/-- A KBPK's version of key block (R227). -/
def blockVersion (k : KRec) : Nat := if isAes k.type then 'D'.toNat else if isTdes k.type then 'B'.toNat else 0

/-- The optional blocks supported (R227). -/
def blockOpts : List Nat :=
  [chars2 'K' 'C', chars2 'K' 'P', chars2 'K' 'S', chars2 'I' 'K', chars2 'T' 'S', chars2 'P' 'B', chars2 '0' 'E']

/-- Check 1 of R228: the character offset of the first field that fails, in the order of the header; none when all hold. The offsets are
those of ANSI X9.143 (PRESUMED, log entry 94). -/
def headFault (kbpk : KRec) (h : Config.BlockHead) (length : Nat) : Option Nat :=
  let named := ['E', 'K', 'L'].any (fun c => decide (c.toNat = h.alg))
  if h.version ≠ blockVersion kbpk then some 0
  else if 4032 < length then some 1
  else if !(['A', 'T', 'H', 'E', 'R', 'K', 'L'].any (fun c => decide (c.toNat = h.alg))) then some 7
  else if !expFits h.exp then some 11
  else if named && h.type0E.isNone then some 12
  else if h.context ≠ 0 ∧ h.context ≠ 2 then some 14
  else (h.opts.find? (fun o => decide (o.1 ∉ blockOpts))).map (·.2)

/-- The type of the key in a block: its algorithm, its length, and for E, K and L the 0E block's TYPE (R227, R228). -/
def blockType (h : Config.BlockHead) (m : List Byte) : Option Nat :=
  let fit := fun (l : List Nat) => l.find? (fun t => lengthFits t m.length)
  let named := fun (l : List Nat) => h.type0E.filter (fun t => decide (t ∈ l) && lengthFits t m.length)
  if h.alg = 'A'.toNat then fit [3, 4, 5]
  else if h.alg = 'T'.toNat then fit [1, 2]
  else if h.alg = 'H'.toNat then fit [6]
  else if h.alg = 'R'.toNat then fit [7, 8, 9, 10, 11, 12]
  else if h.alg = 'E'.toNat then named [13, 14, 15, 16, 17, 18, 19, 20]
  else if h.alg = 'K'.toNat then named [21, 22]
  else named [23, 24]

/-- Import a block under a wrapping key (R228): the checks in order, then the placement. DETAIL of KEY_BLOCK_INVALID is the offset of the
field that fails: in the header, or the key itself for its length and its parity. -/
def importBlock (id d : Nat) (p : List Byte) (kbpk : KRec) (block : List Byte) (s : State) : StepRes × State :=
  match Config.blockHead block with
  | none => (fail St.keyBlockInvalid (Config.blockFault block), s)
  | some h =>
    match headFault kbpk h block.length with
    | some o => (fail St.keyBlockInvalid o, s)
    | none =>
    match Config.unwrapBlock kbpk.material block with
    | none => (fail St.keyBlockInvalid 0, s)
    | some m =>
      match blockType h m with
      | none => (fail St.keyBlockInvalid h.dataAt, s)
      | some t =>
        if isTdes t && !tdesOk m then (fail St.keyBlockInvalid h.dataAt, s)
        else if !usageFits h.usage t || !modeFits h.usage t h.mode || !algFits t (le p 5 1) then (fail St.usageForbidden 1, s)
        else if !mayWrap kbpk t m.length then (fail St.usageForbidden 1, s)
        else if h.kc.any (fun v => decide (v ≠ Config.blockKcv m)) || h.kp.any (fun v => decide (v ≠ Config.blockKcv kbpk.material)) then
          (fail St.keyCheckFailed 0, s)
        else
          let q := placeKey id d p { type := t, usage := h.usage, mode := h.mode, exp := h.exp, alg := le p 5 1, kvn := h.kvn
                                     flag := 16, material := m } s
          (.done q.1, q.2)

/-- A key-block protection key with one of some modes (R224). -/
def kbpkRole (r : KRec) (modes : List Char) : Bool := decide (usageClass r.usage = 5) && modeIn r modes

/-- Import key block (R228). -/
def runImport (id : Nat) (w : Work) (s : State) : StepRes × State :=
  withKeys w.sub.domain [(1, w.key 0, false, kbpkRole (w.key 0).rec_ ['D', 'B'])] s
    (fun _ => importBlock id w.sub.domain w.input (w.key 0).rec_ (w.input.drop 64) s)

/-- Width of an exportability (R230): S wider than E wider than N. -/
def expWidth (e : Nat) : Nat := if e = 'S'.toNat then 2 else if e = 'E'.toNat then 1 else 0

/-- The algorithm character of a type (R227). -/
def algChar (t : Nat) : Nat :=
  if isTdes t then 'T'.toNat else if isAes t then 'A'.toNat else if t = 6 then 'H'.toNat else if t ≤ 12 then 'R'.toNat
  else if t ≤ 20 then 'E'.toNat else if t ≤ 22 then 'K'.toNat else 'L'.toNat

/-- A number as so many hexadecimal characters. -/
def hexChars : Nat → Nat → List Byte
  | 0, _ => []
  | n + 1, v => hexChars n (v / 16) ++ [BitVec.ofNat 8 (if v % 16 < 10 then 0x30 + v % 16 else 0x37 + v % 16)]

/-- The content of the 0E block (R227): TYPE, SCOPE, OWNER, PEER and EPOCH in hexadecimal characters. -/
def block0E (r : KRec) : List Byte :=
  hexChars 2 r.type ++ hexChars 1 r.scope ++ hexChars 4 r.owner ++ hexChars 4 r.peer ++ hexChars 4 r.epoch

/-- The optional blocks of an export (R227, R230). -/
def exportOpts (s : State) (r : KRec) (opts : Nat) : List (Nat × List Byte) :=
  (if bitOf opts 0 then [(chars2 'K' 'C', Config.blockKcv r.material)] else []) ++
  (if bitOf opts 1 then [(chars2 'T' 'S', beBytes 8 s.tk.utcSec)] else []) ++
  (if bitOf opts 2 || decide (13 ≤ r.type) then [(chars2 '0' 'E', block0E r)] else [])

/-- Export key block (R229, R230). -/
def runExport (w : Work) (s : State) : StepRes × State :=
  let k := (w.key 0).rec_
  let wk := (w.key 1).rec_
  let ver := le w.input 0 1
  let out := le w.input 1 1
  withKeys w.sub.domain [(1, w.key 0, false, true), (2, w.key 1, false, kbpkRole wk ['E', 'B'] && decide (blockVersion wk = ver))] s
    (fun _ =>
      if k.exp = 'N'.toNat ∨ (out ≠ 0 ∧ expWidth k.exp < expWidth out) then (fail St.usageForbidden 1, s)
      else if !mayWrap wk k.type k.material.length then (fail St.usageForbidden 2, s)
      else (.done { out := (Config.wrapBlock wk.material [ver, k.usage, algChar k.type, k.mode, k.kvn, if out = 0 then k.exp else out, 2]
                      (exportOpts s k (le w.input 2 1)) k.material).take 4032 }, s))

/-! ### Generation and agreement (R231, R232) -/

/-- The key a placement record names, with its material. -/
def namedKey (p : List Byte) (flag : Nat) (m : List Byte) : NewKey :=
  { type := le p 4 1, usage := be p 6 2, mode := le p 8 1, exp := le p 9 1, alg := le p 5 1, kvn := be p 0x18 2, flag, material := m }

/-- Octets of a generated symmetric key (R231). -/
def genLength (t alg : Nat) : Nat := if t = 6 then 16 * (alg + 1) else (typeBytes t).getD 0

/-- Draw symmetric material (R154, R231). A TDES key gets odd parity and is redrawn while it is not strong: what the redraws end with is
a free strong key, the drawn octets with each part altered by as little as makes them strong (log entry 47). -/
def drawKey (t n : Nat) (s : State) : List Byte × State :=
  let q := drawBytes n s
  if !isTdes t then q else
  let redraw := fun (j : Nat) => setParity ((q.1.zipIdx).map (fun p => p.1 ^^^ BitVec.ofNat 8 (2 * j * (p.2 / 8 + 1))))
  (((List.range 16).map redraw).find? tdesStrong |>.getD (redraw 0), q.2)

/-- Generate key (R231). -/
def runGenerate (id : Nat) (w : Work) (s : State) : StepRes × State :=
  let t := le w.input 4 1
  let q := drawKey t (genLength t (le w.input 5 1)) s
  let r := placeKey id w.sub.domain w.input (namedKey w.input 8 q.1) q.2
  (.done r.1, r.2)

/-- Unit steps of the key-pair generation of a type; those of RSA depend on the data, and at 2^22 of them it gives up (R383, R388). -/
def genSteps (t : Nat) (s : State) : (Nat × Bool) × State :=
  match t with
  | 13 => ((8, false), s) | 14 => ((19, false), s) | 15 => ((41, false), s) | 19 => ((6, false), s) | 21 | 23 => ((2, false), s)
  | _ => let q := draw s
         ((q.1 % 2 ^ 22 + 1, decide (q.1 % 2 ^ 22 + 1 = 2 ^ 22)), q.2)

/-- Generate key pair: an engine step, the unit, which draws the candidates, an engine step (R231, R380, R384). -/
def runGenPair (id : Nat) (w : Work) (s : State) : StepRes × State :=
  let t := le w.input 4 1
  if w.stepsDone = 0 then (.toUnit, s) else
  let m := octets (Config.genPair t w.pkSeed) 0 ((typeBytes t).getD 0)
  let r := placeKey id w.sub.domain w.input (namedKey w.input 8 m) s
  (.done r.1, r.2)

/-- Own key types of each METHOD of R232. -/
def methodTypes (m : Nat) : List Nat :=
  match m with
  | 1 => [13, 14, 15] | 2 => [19] | 3 => [21] | _ => [7, 8, 9]

/-- Unit steps of an agreement (R383). -/
def agreeSteps (m t : Nat) : Nat :=
  match m, t with
  | 1, 13 => 8 | 1, 14 => 19 | 1, _ => 41 | 2, _ => 6 | 3, _ => 9 | _, 7 => 122 | _, 8 => 366 | _, _ => 781

/-- The hybrid secret: the ML-KEM-768 shared secret and the X25519 value, of a ciphertext followed by a public value (R232). -/
def hybridSecret (dk sk peer : List Byte) : Option (List Byte) :=
  match Config.mlKemDecaps dk (octets peer 0 1088), Config.x25519 sk (peer.drop 1088) with
  | some a, some b => some (octets a 0 32 ++ octets b 0 32)
  | _, _ => none

/-- The shared secret of a METHOD; none when a decapsulation or a decoding fails (R232). -/
def agreeSecret (m : Nat) (k0 k1 : KRec) (peer : List Byte) : Option (List Byte) :=
  match m with
  | 1 => Config.ecdh k0.type k0.material peer
  | 2 => Config.x25519 k0.material peer
  | 3 => hybridSecret k0.material k1.material peer
  | _ => (Config.oaepOpen k0.material peer).filter (fun b => decide (b.length = 32))

/-- The one-time KBPK: 256 bits of the KDF of R203 with the label THIZEN-KBPK (R232). -/
def agreedKbpk (secret ctx : List Byte) : List Byte := kdf secret (ascii "THIZEN-KBPK") ctx 32

/-- PEER of the agreement header (R232). -/
def agreePeer (p : List Byte) : List Byte := octets p 0x50 (le p 0x44 2)

/-- The public key PEER carries fails the checks of R382; an OAEP ciphertext carries none. -/
def peerBad (m t : Nat) (peer : List Byte) : Bool :=
  match m with
  | 1 => !pubKeyValid (t + 3) peer
  | 2 => !pubKeyValid 20 peer
  | 3 => !pubKeyValid 20 (peer.drop 1088)
  | _ => false

/-- Import by key agreement (R232). -/
def runAgree (id : Nat) (w : Work) (s : State) : StepRes × State :=
  let p := w.input
  let m := le p 0x40 1
  let k0 := (w.key 0).rec_
  let k1 := (w.key 1).rec_
  let own := fun (r : KRec) (ts : List Nat) => decide (usageClass r.usage = 12) && modeIn r ['D'] && decide (r.type ∈ ts)
  let named := [(1, w.key 0, false, own k0 (methodTypes m))] ++ (if m = 3 then [(2, w.key 1, false, own k1 [19])] else [])
  withKeys w.sub.domain named s (fun _ =>
    if w.stepsDone = 0 then (.toUnit, s) else
    let peer := agreePeer p
    let ctx := octets p (0x50 + le p 0x44 2) (le p 0x46 2)
    let block := octets p (0x50 + le p 0x44 2 + le p 0x46 2) (le p 0x48 2)
    match agreeSecret m k0 k1 peer with
    | none => (fail St.keyBlockInvalid 0, s)
    | some z => importBlock id w.sub.domain p { type := 5, material := agreedKbpk z ctx } block s)

/-! ### Delete, query, restrict, pin, clear load, public key (R216, R231, R233, R235) -/

/-- The tests delete, query and restrict apply (R216): neither epoch nor expiry, and no usage. -/
def looseTest (d : Nat) (k : KeyRead) (trustBad : Bool) : Nat :=
  keyTest d { k with bad := k.bad && !trustBad, epoch := 0, expired := false } false true

/-- Delete key (R215, R216). -/
def runDelete (id : Nat) (w : Work) (s : State) : StepRes × State :=
  match looseTest w.sub.domain (w.key 0) true with
  | 0 => if !(w.key 0).ownerOpen then (fail St.usageForbidden 1, s)
         else (.done { effects := true }, handOver id (.erase (handleIndex w.sub.key0)) s)
  | st => (fail st 1, s)

/-- Query key (R216, R226). -/
def runQuery (w : Work) (s : State) : StepRes × State :=
  match looseTest w.sub.domain (w.key 0) false with
  | 0 => (.done { out := (w.key 0).rec_.attr (handleIndex w.sub.key0) ++ octets (w.key 0).rec_.label 0 32 }, s)
  | st => (fail st 1, s)

/-- A new mode narrows the old one (R233). -/
def narrowsMode (old new : Nat) : Bool :=
  (decide (old = 'B'.toNat) && decide (new = 'D'.toNat ∨ new = 'E'.toNat)) ||
  (decide (old = 'C'.toNat) && decide (new = 'G'.toNat ∨ new = 'V'.toNat))

/-- Restrict key: only narrowing (R233). -/
def runRestrict (id : Nat) (w : Work) (s : State) : StepRes × State :=
  let r := (w.key 0).rec_
  let m := le w.input 0 1
  let e := le w.input 1 1
  let sc := le w.input 2 1
  let na := le w.input 8 8
  let ok := (decide (m = 0) || narrowsMode r.mode m) && (decide (e = 0) || (expFits e && decide (expWidth e < expWidth r.exp))) &&
    (decide (sc = 0xFF) || (decide (sc = 0) && decide (r.scope ≠ 0))) &&
    (decide (na = 0) || decide (r.notAfter = 0) || decide (na < r.notAfter))
  match looseTest w.sub.domain (w.key 0) false with
  | 0 =>
    if !(w.key 0).ownerOpen || !ok then (fail St.usageForbidden 1, s) else
    let r' := { r with
      mode := if m = 0 then r.mode else m, exp := if e = 0 then r.exp else e, scope := if sc = 0xFF then r.scope else sc
      peer := if sc = 0 then 0 else r.peer, notAfter := if na = 0 then r.notAfter else na }
    let i := handleIndex w.sub.key0
    (.done { out := r'.attr i, effects := true }, handOver id (.replace i r') s)
  | st => (fail st 1, s)

/-- Pin or unpin (R216, R223). -/
def runPin (id : Nat) (w : Work) (s : State) : StepRes × State :=
  let r := (w.key 0).rec_
  let on := bitOf w.sub.aux 0
  withKeys w.sub.domain [(1, w.key 0, false, true)] s (fun _ =>
    if !(w.key 0).ownerOpen then (fail St.usageForbidden 1, s)
    else if on && !r.pinned && !pinFits s r.owner then (fail St.keyPinFull 0, s)
    else
      let i := handleIndex w.sub.key0
      let r' := { r with flags := 2 * (r.flags / 2) + b2n on }
      (.done { out := r'.attr i, effects := true }, handOver id (.pin i on) s))

/-- Clear key load (R235). -/
def runClearLoad (id : Nat) (w : Work) (s : State) : StepRes × State :=
  let t := le w.input 4 1
  let m := w.input.drop 64
  if isTdes t && !tdesStrong m then (fail St.keyCheckFailed 0, s) else
  let r := placeKey id w.sub.domain w.input (namedKey w.input 2 m) s
  (.done r.1, r.2)

/-- Export public key (R224, R231). -/
def runPublic (w : Work) (s : State) : StepRes × State :=
  let r := (w.key 0).rec_
  withKeys w.sub.domain [(1, w.key 0, false, decide (usageClass r.usage ∈ [11, 12, 13]))] s
    (fun _ => (.done { out := if isPublic r.type then r.material else Config.publicHalf r.type r.material }, s))

/-- The step of a key-management function. In FAILED every function that changes keys ends with KEY_INTEGRITY (R209). -/
def runKeyFn (id : Nat) (w : Work) (s : State) : StepRes × State :=
  if changesKeys w.sub.func && decide (s.ks.state = 3) then (fail St.keyIntegrity 0, s) else
  match w.sub.func with
  | 0x0701 => runImport id w s
  | 0x0702 => runExport w s
  | 0x0703 => runGenerate id w s
  | 0x0704 => runGenPair id w s
  | 0x0705 => runAgree id w s
  | 0x0706 => runDelete id w s
  | 0x0707 => runQuery w s
  | 0x0708 => runRestrict id w s
  | 0x0709 => runPin id w s
  | 0x070A => runClearLoad id w s
  | _ => runPublic w s

end Sys2Proof.Machine
end

