-- ==== Sys2Proof/Machine/Limiter.lean ====
section
/-!
DEFINITION. The PIN-function limiter: counts, ceilings, lockouts, guards, and its commands and events (R172 to R179).
-/
namespace Sys2Proof.Machine

/-- The window of a tick (R172). -/
def windowOf (t : Nat) : Nat := t / 2 ^ 19

/-- The first tick of a window. -/
def windowStart (w : Nat) : Nat := w * 2 ^ 19

/-- The record index that stands for the PIN guard (R179). -/
def pinGuard : Nat := 0x08000000
/-- The record index that stands for the card guard (R179). -/
def cardGuard : Nat := 0x08000001

/-- The limited handle of a function: 0 for KEY0, 1 for KEY1 (R153, R181). -/
def limitedField (f : Nat) : Option Nat :=
  match f with
  | 0x0101 | 0x0103 | 0x0202 | 0x0301 | 0x0602 => some 0
  | 0x0102 | 0x0104 | 0x0105 | 0x0302 | 0x0404 => some 1
  | _ => none

/-- The guard a function falls under (R175). -/
def guardOf (f : Nat) : Option Nat :=
  match f with
  | 0x0102 | 0x0105 | 0x0302 => some pinGuard
  | 0x0202 => some cardGuard
  | _ => none

/-- A function number of customer programs (R124). -/
def isCustomer (f : Nat) : Bool := decide (0xC0 ≤ f % 256) && decide (1 ≤ f / 256 ∧ f / 256 ≤ 6)

/-- The index a customer program is limited by: that of the first handle it names whose key is of a class that carries the PIN limiter
class (R127, R219; DEDUCED, log entry 91). -/
def customerIndex (s : State) (x : Sub) : Option Nat :=
  (([x.key0, x.key1, x.key2].filter (fun h => decide (h ≠ 0))).map handleIndex).find? (fun i =>
    decide (usageClass (krec s i).usage ≤ 3))

/-- The index a request is limited by; none when its limited handle is 0 (R127, R172). -/
def limitedIndex (s : State) (x : Sub) : Option Nat :=
  if isCustomer x.func then customerIndex s x else
  match limitedField x.func with
  | some 0 => if x.key0 = 0 then none else some (handleIndex x.key0)
  | some _ => if x.key1 = 0 then none else some (handleIndex x.key1)
  | none => none

/-- An index's counts. -/
def limCount (s : State) (i : Nat) : LimCount := (tblGet s.lim.counts i).getD { place := false, window := s.lim.window }

/-- An index's class (R172). -/
def limClass (s : State) (i : Nat) : LimClass := s.lim.ceilings.classes.getD (krec s i).lim {}

/-- A guard's parameters. -/
def guardCfg (s : State) (g : Nat) : GuardCfg := if g = pinGuard then s.lim.ceilings.pin else s.lim.ceilings.card

/-- Places for counts in one window (R176). -/
def limPlaces : Nat := 524288

/-- All places are taken (R176). -/
def limFull (s : State) : Bool := decide (limPlaces ≤ (s.lim.counts.filter (fun p => p.2.place)).length)

/-- Ticks to the next window. -/
def toNextWindow (s : State) : Nat := windowStart (windowOf s.tick + 1) - s.tick

/-- A lock of an index or guard now in force. -/
def lockOf (s : State) (i : Nat) : Option LimLock := (tblGet s.lim.locks i).filter (fun l => decide (s.tick < l.until_))

/-- The reasons to refuse a request, in the order in which DETAIL names them, with their retry-afters (R173). -/
def limReasons (s : State) (f i : Nat) : List (Nat × Nat) :=
  (if s.lim.starting || !s.lim.running then [(6, toNextWindow s)] else []) ++
  (match lockOf s i with
    | some l => [(if l.confirmed then 2 else 3, l.until_ - s.tick)]
    | none => []) ++
  (match (guardOf f).bind (lockOf s) with
    | some l => [(4, l.until_ - s.tick)]
    | none => []) ++
  (if limFull s && !(limCount s i).place then [(5, toNextWindow s)] else []) ++
  (if (limClass s i).useCeil ≤ (limCount s i).uses then [(1, toNextWindow s)] else [])

/-- A use is counted at the grant (R172). -/
def limUse (w : Work) (s : State) : State :=
  match limitedIndex s w.sub with
  | some i => { s with lim.counts := tblPut s.lim.counts i { limCount s i with uses := satAdd 32 (limCount s i).uses 1, place := true } }
  | none => s

/-- The reasons against the functions of one step, asked in order: each counts its use before the next is asked, so that a ceiling is never
exceeded (R173). -/
def limAsk (s : State) (w : Work) (xs : List Sub) : List (Nat × Nat) :=
  (xs.foldl (fun (a : List (Nat × Nat) × State) x => match limitedIndex a.2 x with
    | none => a
    | some i => (a.1 ++ limReasons a.2 x.func i, limUse { w with sub := x } a.2)) (([], s) : List (Nat × Nat) × State)).1

/-- What the limiter refuses at the moment of the grant: DETAIL is the first reason that holds, the retry-after the longest (R173). -/
def limRefuses (s : State) (w : Work) (xs : List Sub) : Option FnRes :=
  let rs := limAsk s w xs
  (([6, 2, 3, 4, 5, 1] : List Nat).find? (fun d => rs.any (fun r => decide (r.1 = d)))).map (fun d =>
    let ra := rs.foldl (fun a r => max a r.2) 0
    { status := St.refusedLimit, detail := d, info := ra, ticks := ra })

/-- A refusal for want of a place posts a notice, once a window (R176). -/
def limFullNotice (w : Work) (s : State) : State :=
  match limitedIndex s w.sub with
  | some i => if limFull s && !(limCount s i).place && !s.lim.fullNoted then
      note 0x1203 1 0xFFFF i 0 { s with lim.fullNoted := true } else s
  | none => s

/-- Suspend an index or guard until the end of a window, its second decision due after a random delay of at most 32 ticks, in the same tick
at the earliest (R174). -/
def suspend (i windows : Nat) (s : State) : State :=
  if (lockOf s i).isSome then s else
  let q := draw s
  { q.2 with lim.locks := tblPut q.2.lim.locks i ⟨false, windowStart (windowOf s.tick + windows + 1), some (s.tick + q.1 % 33)⟩ }

/-- A failure is counted; at FAIL_CEIL the index is suspended (R172, R174, R176). -/
def limFail (i : Nat) (s : State) : State :=
  let c := limCount s i
  let c := { c with fails := satAdd 32 c.fails 1, place := c.place || !limFull s }
  let s := { s with lim.counts := tblPut s.lim.counts i c }
  if (limClass s i).failCeil ≤ c.fails then suspend i (limClass s i).lockWindows s else s

/-- A guard counts a completed verification (R175). -/
def guardCount (g : Nat) (failed : Bool) (s : State) : State :=
  let s := if g = pinGuard then { s with lim.pinV := s.lim.pinV + 1, lim.pinF := s.lim.pinF + b2n failed }
    else { s with lim.cardV := s.lim.cardV + 1, lim.cardF := s.lim.cardF + b2n failed }
  let v := if g = pinGuard then s.lim.pinV else s.lim.cardV
  let f := if g = pinGuard then s.lim.pinF else s.lim.cardF
  let c := guardCfg s g
  if failed && decide (c.min ≤ f) && decide (c.ratio * v ≤ f * 1024) then suspend g c.windows s else s

/-- A result the limiter counts as a failure (R172, R182). -/
def limFailure (st : Nat) : Bool := decide (st ∈ [St.pinNotVerified, St.cvcNotVerified, St.pinBlockInvalid, St.tokenInvalid])

/-- The end of a limited step: its failure, and its guard (R172, R175). A verification completed when its keys passed. -/
def limResult (w : Work) (st : Nat) (s : State) : State :=
  let s := match limitedIndex s w.sub with
    | some i => if limFailure st then limFail i s else s
    | none => s
  match guardOf w.sub.func with
  | some g => if limFailure st || decide (st = 0) || decide (st = St.pinPolicy) then guardCount g (limFailure st) s else s
  | none => s

/-! ### Events -/

/-- LIMITER_SECOND_DECISION (R174, R175, R179): `fault` says the second evaluation is disturbed. -/
def execLimiterSecondDecision (i : Nat) (fault : Bool) (s : State) : Res :=
  match tblGet s.lim.locks i with
  | none => noEvent s
  | some l =>
    match l.due with
    | none => noEvent s
    | some d =>
      if s.tick < d then noEvent s else
      let s := { s with lim.locks := tblPut s.lim.locks i { l with confirmed := !fault, due := none } }
      if fault then .next (lockClass 0x20 St.refusedLimit s)
      else if i < 2 ^ 27 then .next (sendLockout i l.until_ (note 0x1201 1 0xFFFF i l.until_ s))
      else
        let f := if i = pinGuard then s.lim.pinF else s.lim.cardF
        let v := if i = pinGuard then s.lim.pinV else s.lim.cardV
        .next (note 0x1202 1 0xFFFF i l.until_ (evidAppend (evidNow 6 0 0x20 f v i s) s))

/-- A window begins: counts of indexes not locked out are released (R172, R173, R176, R178). -/
def windowBoundary (s : State) : State :=
  if s.lim.window = windowOf s.tick then s else { s with
    lim.window := windowOf s.tick
    lim.counts := s.lim.counts.filter (fun p => (lockOf s p.1).any (·.confirmed))
    lim.pinV := 0, lim.pinF := 0, lim.cardV := 0, lim.cardF := 0, lim.fullNoted := false
    lim.starting := s.lim.starting && !s.lim.running
    lim.ceilings := s.lim.nextCeilings.getD s.lim.ceilings, lim.nextCeilings := none }

/-- LIMITER_WINDOW_BOUNDARY (R172): the boundary of this tick, or one not taken yet; the sample point takes it before it grants. -/
def execLimiterWindowBoundary (s : State) : Res :=
  whenOk (decide (s.lim.window ≠ windowOf s.tick) || decide (s.tick % 2 ^ 19 = 0)) s (windowBoundary s)

/-- A lock ends (R174). The index starts with counts of zero: the window boundary at the lock's end has released them. -/
def endLock (i : Nat) (s : State) : State := { s with lim.locks := tblDel s.lim.locks i }

/-- LIMITER_LOCKOUT_END (R174). -/
def execLimiterLockoutEnd (i : Nat) (s : State) : Res :=
  match tblGet s.lim.locks i with
  | none => noEvent s
  | some l => whenOk (decide (l.until_ ≤ s.tick)) s (endLock i s)

/-! ### Commands -/

/-- STATE of a status record (R179). -/
def limState (s : State) (i : Nat) : Nat :=
  match lockOf s i with
  | some l => if l.confirmed then 3 else 2
  | none => if i < 2 ^ 27 ∧ (limClass s i).useCeil ≤ (limCount s i).uses then 1 else 0

/-- The limiter status record (R179). -/
def limStatus (s : State) (i : Nat) : List Byte :=
  let guard := decide (2 ^ 27 ≤ i)
  let uses := if i = pinGuard then s.lim.pinV else if guard then s.lim.cardV else (limCount s i).uses
  let fails := if i = pinGuard then s.lim.pinF else if guard then s.lim.cardF else (limCount s i).fails
  beBytes 4 i ++ beBytes 1 (if guard then 0 else (krec s i).lim) ++ beBytes 1 (limState s i) ++ beBytes 2 0 ++
  beBytes 8 (if guard then s.lim.window else (limCount s i).window) ++ beBytes 4 uses ++ beBytes 4 fails ++ beBytes 8 ((lockOf s i).elim 0 (·.until_))

/-- An index a limiter command may name (R179). -/
def limIndexOk (i : Nat) : Bool := decide (i ≤ cardGuard)

/-- LIMIT_QUERY (R179). -/
def limitQueryCmd (_ : Held) (p : List Byte) (s : State) : State :=
  if !limIndexOk (be p 0 4) then refuse St.grateRange 64 s else respond St.ok 0 s.tick (limStatus s (be p 0 4)) s

/-- LIMIT_QUERY (R179). -/
def execLimitQuery (s : State) : Res := withCmd 0x0702 s limitQueryCmd

/-- LIMIT_CLEAR (R179): the lock ends at the next sample point; a second decision still due is not taken. -/
def limitClearCmd (_ : Held) (p : List Byte) (s : State) : State :=
  let i := be p 0 4
  if !limIndexOk i then refuse St.grateRange 64 s
  else match lockOf s i with
  | none => respond St.ok 0 s.tick (limStatus s i) s
  | some l =>
    let after := { s with lim.locks := tblDel s.lim.locks i }
    respondAt (s.tick + 1) (limStatus after i) { s with
      lim.clears := s.lim.clears ++ [i], lim.locks := tblPut s.lim.locks i { l with due := none } }

/-- LIMIT_CLEAR (R179). -/
def execLimitClear (s : State) : Res := withCmd 0x0703 s limitClearCmd

/-- PIN_POLICY_SET (R178): ceilings at the next window boundary, tables at the next sample point. -/
def pinPolicySetCmd (_ : Held) (p : List Byte) (s : State) : State :=
  let c : Ceilings := { classes := (List.range 16).map (parseClass p), pin := parseGuard p 0x108, card := parseGuard p 0x110 }
  let k := s.tick + 1
  respondAt k [] { s with lim.nextCeilings := some c, lim.armedTables := some (k, (List.range 8).map (parseTable p)) }

/-- PIN_POLICY_SET (R178). -/
def execPinPolicySet (s : State) : Res := withCmd 0x0701 s pinPolicySetCmd

/-- Tables and clears whose sample point has come (R178, R179). A clear leaves the counts. -/
def limiterPoint (s : State) : State :=
  let s := match s.lim.armedTables with
    | some (k, t) => if k ≤ s.tick then { s with lim.tables := t, lim.armedTables := none } else s
    | none => s
  { s with lim.locks := s.lim.clears.foldl (fun t i => tblDel t i) s.lim.locks, lim.clears := [] }

end Sys2Proof.Machine
end

