-- ==== Sys2Proof/Machine/PinFns.lean ====
section
/-!
DEFINITION. The PIN, DUKPT and card-code functions 0x0101 to 0x0105, 0x0201, 0x0202, 0x0301 to 0x0303 (R153 to R171).
-/
namespace Sys2Proof.Machine

/-- The rows of R153 and R155. -/
def pinFnRow (f : Nat) : Option FnRow :=
  match f with
  | 0x0101 => some { cycles := 1600, twin := true, top := true, keys := [0, 1], inMin := 48, inMax := 48, out := 16 }
  | 0x0102 => some { cycles := 1900, twin := true, top := true, keys := [0, 1], inMin := 64, inMax := 64, out := 0 }
  | 0x0103 => some { cycles := 2200, twin := true, keys := [0, 1], inMin := 32, inMax := 32, out := 32 }
  | 0x0104 => some { cycles := 1900, twin := true, keys := [0, 1], inMin := 48, inMax := 48, out := 32 }
  | 0x0105 => some { cycles := 2500, twin := true, keys := [0, 1], inl := some false, inMin := 80, inMax := 80, out := 32 }
  | 0x0201 => some { cycles := 700, twin := true, keys := [0], inMin := 32, inMax := 32, out := 4 }
  | 0x0202 => some { cycles := 720, twin := true, top := true, keys := [0], inMin := 32, inMax := 32, out := 0 }
  | 0x0301 => some { cycles := 2480, twin := true, top := true, keys := [0, 1], inMin := 48, inMax := 48, out := 16 }
  | 0x0302 => some { cycles := 3000, twin := true, keys := [0, 1], inMin := 64, inMax := 64, out := 0 }
  | 0x0303 => some { cycles := 3400, twin := true, keys := [0, 1], inMin := 16, inMax := 16, out := 192 }
  | _ => none

/-! ### Digits and records (R155, R156) -/

/-- Digits packed two an octet. -/
def packNibs : List Nat → List Byte
  | a :: b :: t => BitVec.ofNat 8 (a * 16 + b) :: packNibs t
  | [a] => [BitVec.ofNat 8 (a * 16 + 15)]
  | [] => []

/-- A digit string in n octets, filled with 0xF. -/
def bcdBytes (ds : List Nat) (n : Nat) : List Byte := packNibs (ds ++ List.replicate (2 * n - ds.length) 15)

/-- n digits, and 0xF in every further nibble of a field (R156). -/
def digitsOk (bs : List Byte) (n : Nat) : Bool := ((nibs bs).take n).all (fun d => decide (d < 10)) && ((nibs bs).drop n).all (fun d => decide (d = 15))

/-- The PAN's digits. -/
def panOf (p : List Byte) (at_ len : Nat) : List Nat := (nibs (octets p at_ 10)).take len

/-- A format bound to the PAN (R159). -/
def panFormat (f : Nat) : Bool := decide (f = 0 ∨ f = 3 ∨ f = 4)

/-- Bits set in the low n bits of a number. -/
def onesIn (v n : Nat) : Nat := ((List.range n).filter (fun k => v.testBit k)).length

/-- The KSN meets DUKPT (R167); for 0x0303 its counter is zero. -/
def ksnOk (f scheme : Nat) (ksn : List Byte) : Bool :=
  match scheme with
  | 0 => allZero ksn
  | 1 =>
    let c := be ksn 0 10 % 2 ^ 21
    allZero (octets ksn 10 2) && (if f = 0x0303 then decide (c = 0) else decide (c ≠ 0) && decide (onesIn c 21 ≤ 10))
  | _ =>
    let c := be ksn 8 4
    if f = 0x0303 then decide (c = 0) else decide (c ≠ 0) && decide (onesIn c 32 ≤ 16)

/-- The functions whose record names a PIN block to decipher. -/
def hasBlock (f : Nat) : Bool := decide (f ∈ [0x0101, 0x0102, 0x0104, 0x0105, 0x0301, 0x0302])
/-- The functions that encipher a PIN block. -/
def hasOutFmt (f : Nat) : Bool := decide (f ∈ [0x0101, 0x0301, 0x0103])
/-- The functions that verify against REFERENCE. -/
def hasReference (f : Nat) : Bool := decide (f ∈ [0x0102, 0x0105, 0x0302])

/-- METHOD is one the function allows (R155). -/
def methodOk (f m : Nat) : Bool :=
  match f with
  | 0x0101 | 0x0301 | 0x0303 => decide (m = 0)
  | 0x0103 => decide (m ≤ 2)
  | _ => decide (m = 1 ∨ m = 2)

/-- A PIN block format fits the scheme (R156, R167). -/
def fmtOk (scheme fmt : Nat) : Bool :=
  match scheme with
  | 0 => decide (fmt ∈ [0, 1, 3, 4])
  | 1 => decide (fmt ∈ [0, 1, 3])
  | _ => decide (fmt = 4)

/-- A decimalisation table may serve a PAN of a length (R156, R161). -/
def tableOk (s : State) (t panLen : Nat) : Bool :=
  match s.lim.tables[t]? with
  | some d => d.valid && decide (d.start + d.len ≤ panLen + 1)
  | none => false

/-- REF_LEN is one the function and METHOD allow (R155). -/
def refLenOk (f m n : Nat) : Bool :=
  if f = 0x0103 then decide (4 ≤ n ∧ n ≤ 12)
  else match m with
  | 0 => decide (n = 0)
  | 1 => if f = 0x0104 then decide (n = 0) else decide (4 ≤ n ∧ n ≤ 12)
  | _ => decide (n = 4)

/-- A PIN block's unused octets are zero (R155). -/
def blockOk (fmt : Nat) (b : List Byte) : Bool := decide (fmt = 4) || allZero (octets b 8 8)

/-- The checks of the PIN input record (R155, R156), field by field. Under SCHEME 2, 0x0303 too names IN_FMT 4 (DESIGN CHOICE, log
entry 92: R156 against the text before R155). -/
def pinRecord (s : State) (f : Nat) (p : List Byte) : List (Nat × Bool) :=
  let scheme := le p 0 1
  let fmt := le p 1 1
  let m := le p 3 1
  let len := le p 0x10 1
  let out := le p 0x1D 1
  let table := le p 0x1B 1
  let refLen := le p 0x1C 1
  let bound := (hasBlock f && panFormat fmt) || (hasOutFmt f && panFormat out) || decide (m ≠ 0)
  [(0, if f / 256 = 3 then decide (scheme = 1 ∨ scheme = 2) else decide (scheme = 0)),
   (1, if hasBlock f then fmtOk scheme fmt else if f = 0x0303 ∧ scheme = 2 then decide (fmt = 4) else decide (fmt = 0)),
   (2, if scheme = 2 then decide (2 ≤ le p 2 1 ∧ le p 2 1 ≤ 4) else decide (le p 2 1 = 0)),
   (3, methodOk f m), (4, ksnOk f scheme (octets p 4 12))] ++
  (if f = 0x0303 then [] else
  [(0x10, decide (12 ≤ len ∧ len ≤ 19) || (decide (len = 0) && !bound)), (0x11, digitsOk (octets p 0x11 10) len),
   (0x1B, if m = 1 then tableOk s table len else if m = 2 then decide (table ≤ 9) else decide (table = 0)),
   (0x1C, refLenOk f m refLen), (0x1D, if hasOutFmt f then decide (out ∈ [0, 1, 3, 4]) else decide (out = 0)),
   (0x1E, allZero (octets p 0x1E 2)),
   (0x20, if hasBlock f then blockOk fmt (octets p 0x20 16) else true),
   (0x30, if hasReference f then digitsOk (octets p 0x30 6) refLen else true), (0x36, allZero (octets p 0x36 10)),
   (0x40, if f = 0x0105 then blockOk fmt (octets p 0x40 16) else true)])

/-- The checks of the card-code record (R171). -/
def cardRecord (f : Nat) (p : List Byte) : List (Nat × Bool) :=
  let d := le p 1 1
  let mm := (nibs (octets p 0x0E 2)).drop 2
  let month := mm.headD 0 * 10 + mm.getD 1 0
  [(0, decide (12 ≤ le p 0 1 ∧ le p 0 1 ≤ 19)), (1, decide (3 ≤ d ∧ d ≤ 5)), (2, allZero (octets p 2 2)),
   (4, digitsOk (octets p 4 10) (le p 0 1)), (0x0E, digitsOk (octets p 0x0E 2) 4 && decide (1 ≤ month ∧ month ≤ 12)),
   (0x10, digitsOk (octets p 0x10 2) 3),
   (0x12, if f = 0x0202 then digitsOk (octets p 0x12 3) d else allZero (octets p 0x12 3)), (0x15, allZero (octets p 0x15 11))]

/-- The record checks of groups 0x01, 0x02 and 0x03's DUKPT functions: fields, then the key field METHOD leaves unnamed,
then the downgrade (R89, R156, R159). -/
def pinFnCheck (s : State) (x : Sub) (p : List Byte) : Option (Nat × Nat) :=
  if x.func / 256 = 2 then firstBad (cardRecord x.func p)
  else match firstBad (pinRecord s x.func p) with
  | some e => some e
  | none =>
    if x.func = 0x0103 ∧ le p 3 1 = 0 ∧ x.key1 ≠ 0 then some (St.grateFormat, 0x14)
    else if (x.func = 0x0101 ∨ x.func = 0x0301) ∧ panFormat (le p 1 1) = true ∧ le p 0x1D 1 = 1 then
      some (St.pinFormatDowngrade, 0)
    else none

/-! ### PIN blocks (R158) -/

/-- Exclusive or of nibble strings. -/
def xorNibs (a b : List Nat) : List Nat := List.zipWith (· ^^^ ·) a b

/-- The PAN field of formats 0 and 3: the rightmost 12 digits but for the check digit. -/
def panField (pan : List Nat) : List Nat :=
  let d := pan.dropLast
  let t := d.drop (d.length - 12)
  List.replicate (16 - t.length) 0 ++ t

/-- The PAN field of format 4. -/
def panField4 (pan : List Nat) : List Nat := ((pan.length - 12) :: pan) ++ List.replicate (31 - pan.length) 0

/-- The PIN of a clear PIN field, when the checks of R158 pass. -/
def readPinField (fmt : Nat) (field : List Nat) : Option (List Nat) :=
  let len := field.getD 1 0
  let pin := (field.drop 2).take len
  let fill := (field.take 16).drop (2 + len)
  let fillOk := match fmt with
    | 0 => fill.all (fun d => decide (d = 15))
    | 3 => fill.all (fun d => decide (10 ≤ d))
    | 4 => fill.all (fun d => decide (d = 10))
    | _ => true
  if field.headD 16 = fmt ∧ 4 ≤ len ∧ len ≤ 12 ∧ pin.all (fun d => decide (d < 10)) = true ∧ fillOk = true then some pin else none

/-- Decipher a PIN block and check it (R158). -/
def openDigits (key : List Byte) (fmt : Nat) (pan : List Nat) (block : List Byte) : Option (List Nat) :=
  match fmt with
  | 4 =>
    let x := packNibs (xorNibs (nibs (octets (Config.aesDec key block) 0 16)) (panField4 pan))
    readPinField 4 (nibs (octets (Config.aesDec key x) 0 16))
  | 1 => readPinField 1 (nibs (octets (Config.tdesDec key (octets block 0 8)) 0 8))
  | _ => readPinField fmt (xorNibs (nibs (octets (Config.tdesDec key (octets block 0 8)) 0 8)) (panField pan))

/-- The PIN of a block deciphered under a class 0 key: its PIN tag is set, and the checks of R158 are one bit (R158, R421). -/
def openBlock (key : List Byte) (fmt : Nat) (pan : List Nat) (block : List Byte) : Option (Tag (List Nat)) :=
  (openDigits key fmt pan block).map (fun d => ⟨d, true⟩)

/-- Encipher a PIN in a format, with fresh fill and random fields from octets of the generator (R154, R158). -/
def sealPin (key : List Byte) (fmt : Nat) (pan pin : List Nat) (rnd : List Byte) : List Byte :=
  let r := nibs rnd
  let head := fmt :: pin.length :: pin
  match fmt with
  | 4 =>
    let field := packNibs (head ++ List.replicate (14 - pin.length) 10) ++ octets rnd 0 8
    octets (Config.aesEnc key (packNibs (xorNibs (nibs (octets (Config.aesEnc key field) 0 16)) (panField4 pan)))) 0 16
  | 1 => octets (Config.tdesEnc key (packNibs (head ++ r.take (14 - pin.length)))) 0 8 ++ List.replicate 8 0
  | 3 => octets (Config.tdesEnc key (packNibs (xorNibs (head ++ (r.take (14 - pin.length)).map (fun d => 10 + d % 6)) (panField pan)))) 0 8 ++
      List.replicate 8 0
  | _ => octets (Config.tdesEnc key (packNibs (xorNibs (head ++ List.replicate (14 - pin.length) 15) (panField pan)))) 0 8 ++
      List.replicate 8 0

/-! ### Reference methods (R161 to R163, R165) -/

/-- decimalise (R161). -/
def decimalise (x : List Nat) : List Nat := x.filter (fun d => decide (d < 10)) ++ ((x.filter (fun d => decide (10 ≤ d))).map (· - 10))

/-- The validation data of a table (R161). -/
def validation (d : DecTab) (pan : List Nat) : List Nat :=
  let v := (pan.drop (d.start - 1)).take d.len
  v ++ List.replicate (16 - v.length) d.pad

/-- The natural PIN of a length (R162). -/
def naturalPin (pvk : List Byte) (d : DecTab) (pan : List Nat) (n : Nat) : List Nat :=
  ((nibs (octets (Config.tdesEnc pvk (packNibs (validation d pan))) 0 8)).take n).map (fun x => d.digits.getD x 0)

/-- The offset of a PIN (R162). -/
def offsetOf (pvk : List Byte) (d : DecTab) (pan pin : List Nat) : List Nat :=
  List.zipWith (fun p n => (p + 10 - n) % 10) pin (naturalPin pvk d pan pin.length)

/-- The verification value of a PIN (R163). -/
def pvvOf (pvk : List Byte) (pvki : Nat) (pan pin : List Nat) : List Nat :=
  let d := pan.dropLast
  let tsp := (d.drop (d.length - 11)) ++ [pvki] ++ pin.take 4
  (decimalise (nibs (octets (Config.tdesEnc pvk (packNibs tsp)) 0 8))).take 4

/-- The reference of a PIN under a method. -/
def referenceOf (m : Nat) (pvk : List Byte) (d : DecTab) (table : Nat) (pan pin : List Nat) : List Nat :=
  if m = 1 then offsetOf pvk d pan pin else pvvOf pvk table pan pin

/-- The PIN matches REFERENCE (R162, R163). -/
def pinMatches (m : Nat) (pvk : List Byte) (d : DecTab) (table refLen : Nat) (pan pin reference : List Nat) : Bool :=
  if m = 1 then decide (pin.length = refLen) && decide (offsetOf pvk d pan pin = reference)
  else decide (pvvOf pvk table pan pin = reference)

/-- Each digit is the one before plus a step. -/
def stepsBy (up : Bool) : List Nat → Bool
  | a :: b :: t => (if up then decide (b = a + 1) else decide (a = b + 1)) && stepsBy up (b :: t)
  | _ => true

/-- A weak PIN (R165). -/
def weakPin (pin : List Nat) : Bool :=
  pin.all (fun d => decide (d = pin.headD 0)) || stepsBy true pin || stepsBy false pin

/-- The decimal digits of a number, n of them. -/
def digitsOf : Nat → Nat → List Nat
  | 0, _ => []
  | n + 1, v => digitsOf n (v / 10) ++ [v % 10]

/-- Draw a PIN, redrawn while it is weak (R154, R165): a free PIN that is not weak. Where the number drawn spells a weak PIN the redraw
gives another: two strings after one another are never both weak but for 99…9 and 00…0, so one of three is strong (log entry 47). -/
def drawPin (len : Nat) (s : State) : List Nat × State :=
  let q := draw s
  (((([0, 1, 2] : List Nat).map (fun k => digitsOf len (q.1 + k))).find? (fun p => !weakPin p)).getD [], q.2)

/-! ### Roles (R157) -/

/-- A PIN key for a format. -/
def pinKeyRole (r : KRec) (fmt : Nat) (modes : List Char) : Bool :=
  usageIs r 'P' '0' && modeIn r modes && (if fmt = 4 then isAes r.type else isTdes r.type)

/-- A verification key. -/
def verKeyRole (r : KRec) (m : Nat) (modes : List Char) : Bool :=
  modeIn r modes && (if m = 1 then usageIs r 'V' '1' && isTdes r.type else usageIs r 'V' '2' && decide (r.type = 1))

/-- A base derivation key. -/
def bdkRole (r : KRec) (scheme dk : Nat) : Bool :=
  usageIs r 'B' '0' && modeIn r ['X'] && (if scheme = 1 then decide (r.type = 1) else isAes r.type && decide (dk + 1 ≤ r.type))

/-- The modes a verification key needs. -/
def verModes (f : Nat) : List Char :=
  match f with
  | 0x0102 | 0x0302 => ['V', 'C']
  | 0x0103 | 0x0104 => ['G', 'C']
  | _ => ['C']

/-! ### The functions (R160, R164 to R168, R170) -/

/-- What the functions read of a PIN input record. -/
structure PinIn where
  fmt : Nat
  m : Nat
  pan : List Nat
  table : Nat
  refLen : Nat
  out : Nat
  block : List Byte
  reference : List Nat

/-- Take a PIN input record apart. -/
def pinIn (p : List Byte) : PinIn :=
  { fmt := le p 1 1, m := le p 3 1, pan := panOf p 0x11 (le p 0x10 1), table := le p 0x1B 1, refLen := le p 0x1C 1
    out := le p 0x1D 1, block := octets p 0x20 16, reference := (nibs (octets p 0x30 6)).take (le p 0x1C 1) }

/-- The PIN result record (R155). -/
def pinOut (block reference : List Byte) : List Byte := octets block 0 16 ++ octets reference 0 6 ++ List.replicate 10 0

/-- Translate: decipher under a working key, encipher in OUT_FMT under KEY1 (R160). -/
def translate (i : PinIn) (key key1 : List Byte) (s : State) : StepRes × State :=
  match openBlock key i.fmt i.pan i.block with
  | none => (fail St.pinBlockInvalid 0, s)
  | some pin =>
    let q := drawBytes 8 s
    (doneTag (pin.map (fun d => sealPin key1 i.out i.pan d q.1)).release, q.2)

/-- Verify a PIN block against the reference (R164). -/
def verifyPin (i : PinIn) (key pvk : List Byte) (d : DecTab) : Bool :=
  match openBlock key i.fmt i.pan i.block with
  | some pin => (pin.map (fun x => pinMatches i.m pvk d i.table i.refLen i.pan x i.reference)).release.val
  | none => false

/-- The reference for a PIN block, and the weak-PIN check (R166). -/
def refFor (i : PinIn) (key pvk : List Byte) (d : DecTab) (block : List Byte) (weak : Bool) : StepRes :=
  match openBlock key i.fmt i.pan block with
  | none => fail St.pinBlockInvalid 0
  | some pin =>
    if weak && (pin.map weakPin).release.val then fail St.pinPolicy 0
    else doneTag ((pin.map (referenceOf i.m pvk d i.table i.pan)).release.map (fun x => pinOut [] (bcdBytes x 6)))

/-- PIN generate (R165). -/
def generatePin (i : PinIn) (key pvk : List Byte) (d : DecTab) (s : State) : StepRes × State :=
  let p := drawPin i.refLen s
  let q := drawBytes 8 p.2
  let reference := if i.m = 0 then [] else bcdBytes (referenceOf i.m pvk d i.table i.pan p.1) 6
  (.done { out := pinOut (sealPin key i.out i.pan p.1 q.1) reference }, q.2)

/-- DUKPT initial key export (R168, R230). -/
def initialKey (scheme dk : Nat) (bdk ksn : List Byte) (kek : KRec) : StepRes :=
  let n := if scheme = 1 then 16 else 8 * dk
  let k := octets (Config.dukptInitial scheme bdk ksn dk) 0 n
  let t := if scheme = 1 then 1 else dk + 1
  if !mayWrap kek t n then fail St.usageForbidden 2
  else .done { out := (Config.wrapBlock kek.material
    [blockVersion kek, chars2 'B' '1', algChar t, 'X'.toNat, chars2 '0' '0', 'N'.toNat, 2]
    [if scheme = 1 then (chars2 'K' 'S', octets ksn 0 10) else (chars2 'I' 'K', octets ksn 0 8)] k).take 192 }

/-- The step of a PIN or DUKPT function. -/
def runPinFn (w : Work) (s : State) : StepRes × State :=
  let f := w.sub.func
  let p := w.input
  let i := pinIn p
  let d := w.tables.getD i.table {}
  let k0 := (w.key 0).rec_
  let k1 := (w.key 1).rec_
  let scheme := le p 0 1
  let ksn := octets p 4 (if scheme = 1 then 10 else 12)
  let pinModes := ['D', 'B']
  let role0 := match f with
    | 0x0103 => pinKeyRole k0 i.out ['E', 'B']
    | 0x0301 | 0x0302 | 0x0303 => bdkRole k0 scheme (le p 2 1)
    | _ => pinKeyRole k0 i.fmt pinModes
  let role1 := match f with
    | 0x0101 | 0x0301 => pinKeyRole k1 i.out ['E', 'B']
    | 0x0303 => usageIs k1 'K' '0' && modeIn k1 ['E', 'B'] && decide (k1.type = 5 ∨ k1.type = 2)
    | _ => verKeyRole k1 i.m (verModes f)
  let fields := (1, w.key 0, false, role0) :: (if f = 0x0103 ∧ i.m = 0 then [] else [(2, w.key 1, false, role1)])
  withKeys w.sub.domain fields s (fun _ =>
    let key := if f / 256 = 3 then Config.dukptKey scheme k0.material ksn (le p 2 1) 0 else k0.material
    match f with
    | 0x0101 | 0x0301 => translate i key k1.material s
    | 0x0102 | 0x0302 => (if verifyPin i key k1.material d then .done {} else fail St.pinNotVerified 0, s)
    | 0x0103 => generatePin i key k1.material d s
    | 0x0104 => (refFor i key k1.material d i.block (bitOf w.sub.aux 0), s)
    | 0x0105 =>
      if !verifyPin i key k1.material d then (fail St.pinNotVerified 0, s)
      else (refFor i key k1.material d (octets p 0x40 16) (bitOf w.sub.aux 0), s)
    | _ => (initialKey scheme (le p 2 1) k0.material (octets p 4 12) k1, s))

/-- The card code (R170). -/
def cardCode (cvk : List Byte) (p : List Byte) : List Nat :=
  let d := panOf p 4 (le p 0 1) ++ nibs (octets p 0x0E 2) ++ (nibs (octets p 0x10 2)).take 3
  let d := d ++ List.replicate (32 - d.length) 0
  let a := octets cvk 0 8
  let b := octets cvk 8 8
  let x := octets (Config.tdesEnc a (packNibs (d.take 16))) 0 8
  let x := octets (Config.tdesEnc a (packNibs (xorNibs (nibs x) ((d.drop 16).take 16)))) 0 8
  let x := octets (Config.tdesDec b x) 0 8
  let x := octets (Config.tdesEnc a x) 0 8
  (decimalise (nibs x)).take (le p 1 1)

/-- The step of a card-code function (R157, R170, R171). -/
def runCardFn (w : Work) (s : State) : StepRes × State :=
  let k := (w.key 0).rec_
  let gen := decide (w.sub.func = 0x0201)
  let role := usageIs k 'C' '0' && decide (k.type = 1) && modeIn k (if gen then ['G', 'C'] else ['V', 'C'])
  let p := w.input
  withKeys w.sub.domain [(1, w.key 0, false, role)] s (fun _ =>
    let code := cardCode k.material p
    if gen then (.done { out := bcdBytes code 3 ++ [0] }, s)
    else if (nibs (octets p 0x12 3)).take (le p 1 1) = code then (.done {}, s) else (fail St.cvcNotVerified 0, s))

end Sys2Proof.Machine
end

