-- ==== Sys2Proof/Machine/AccordMsg.lean ====
section
/-!
DEFINITION. Messages under accords: reading them, the maps, building them, and their fields in the plain header (R319 to R324,
R335, R336).
-/
namespace Sys2Proof.Machine

/-! ### Reading a message (R319, R325 checks 3 to 6) -/

/-- An octet's place among the ASCII digits, the hexadecimal digits, the letters and digits, the printable characters. -/
def isDigit (b : Byte) : Bool := decide (0x30 ≤ b.toNat ∧ b.toNat ≤ 0x39)
def isHex (b : Byte) : Bool := isDigit b || decide ((0x41 ≤ b.toNat ∧ b.toNat ≤ 0x46) ∨ (0x61 ≤ b.toNat ∧ b.toNat ≤ 0x66))
def isAlnum (b : Byte) : Bool :=
  isDigit b || decide ((0x41 ≤ b.toNat ∧ b.toNat ≤ 0x5A) ∨ (0x61 ≤ b.toNat ∧ b.toNat ≤ 0x7A))
def isPrint (b : Byte) : Bool := decide (0x20 ≤ b.toNat ∧ b.toNat ≤ 0x7E)

/-- The value of a hexadecimal digit. -/
def hexVal (b : Byte) : Nat := if b.toNat ≤ 0x39 then b.toNat - 0x30 else b.toNat % 32 + 9

/-- Octets of hexadecimal text, both digits of each. -/
def unhex (bs : List Byte) : List Byte :=
  (List.range (bs.length / 2)).map (fun j => BitVec.ofNat 8 (hexVal (bs.getD (2 * j) 0) * 16 + hexVal (bs.getD (2 * j + 1) 0)))

/-- A nibble as an upper-case hexadecimal digit. -/
def hexChar (n : Nat) : Byte := BitVec.ofNat 8 (if n < 10 then 0x30 + n else 0x37 + n)

/-- Octets as hexadecimal text. -/
def hexText (bs : List Byte) : List Byte := (nibs bs).map hexChar

/-- A number as n ASCII digits. -/
def asciiNum : Nat → Nat → List Byte
  | 0, _ => []
  | n + 1, v => asciiNum n (v / 10) ++ [BitVec.ofNat 8 (0x30 + v % 10)]

/-- A value fits its encoding (R318, R319); `len` is its length in units. -/
def contentOk (enc len : Nat) (v : List Byte) : Bool :=
  match enc with
  | 0 => v.all isDigit
  | 1 => (nibs v).all (fun d => decide (d < 10)) && decide (len % 2 = 1 → (nibs v).headD 0 = 0)
  | 2 => v.all isAlnum
  | 3 => v.all isPrint
  | 4 => true
  | _ => v.all isHex

/-- What reading ended with: the offset that DETAIL gives, or the rest. -/
abbrev Read (α : Type) := Nat ⊕ α

/-- The octets of a length prefix (R318). -/
def prefixLen (form lenEnc : Nat) : Nat :=
  if form = 1 then (if lenEnc = 0 then 2 else 1) else if form = 2 then (if lenEnc = 0 then 3 else 2) else 0

/-- The length a prefix spells, if it is well formed. -/
def prefixVal (lenEnc : Nat) (p : List Byte) : Option Nat :=
  match lenEnc with
  | 0 => if p.all isDigit then some (p.foldl (fun a b => a * 10 + (b.toNat - 0x30)) 0) else none
  | 1 => if (nibs p).all (fun d => decide (d < 10)) then some ((nibs p).foldl (fun a d => a * 10 + d) 0) else none
  | _ => some (beNat p)

/-- Read one field at an offset: its value and the offset after it (R319). A field that runs past the end fails there. -/
def readField (d : FieldDef) (b : List Byte) (o : Nat) : Read (MField × Nat) :=
  let pl := prefixLen d.form d.lenEnc
  if b.length < o + pl then .inl b.length else
  match if pl = 0 then some d.maxLen else prefixVal d.lenEnc (octets b o pl) with
  | none => .inl o
  | some len =>
    let n := encOctets d.enc len
    if d.maxLen < len then .inl o
    else if b.length < o + pl + n then .inl b.length
    else
      let v := octets b (o + pl) n
      if contentOk d.enc len v then .inr (⟨d.field, v, len⟩, o + pl + n) else .inl o

/-- Read fields one after another. -/
def readFields (defs : List FieldDef) (b : List Byte) : List Nat → Nat → Read (List MField × Nat)
  | [], o => .inr ([], o)
  | f :: t, o =>
    match defOf defs f with
    | none => .inl o
    | some d => match readField d b o with
      | .inl e => .inl e
      | .inr (x, o1) => match readFields defs b t o1 with
        | .inl e => .inl e
        | .inr (xs, o2) => .inr (x :: xs, o2)

/-- The bits set in a bitmap's octets, numbered from `first`. -/
def bitsSet (first : Nat) (bs : List Byte) : List Nat :=
  (List.range (8 * bs.length)).filterMap (fun k =>
    if (bs.getD (k / 8) 0).toNat.testBit (7 - k % 8) then some (first + k) else none)

/-- One bitmap of eight octets at an offset, binary or hexadecimal: its octets and the offset after it. -/
def readBitmap (hex : Bool) (b : List Byte) (o : Nat) : Read (List Byte × Nat) :=
  let n := if hex then 16 else 8
  if b.length < o + n then .inl b.length
  else if hex then (if (octets b o 16).all isHex then .inr (unhex (octets b o 16), o + 16) else .inl o)
  else .inr (octets b o 8, o + 8)

/-- A bitmap that was read: the number of its first bit, its offset, its fields. -/
structure BitmapRead where
  first  : Nat
  off    : Nat
  fields : List Nat
  deriving DecidableEq, Repr

/-- The bitmaps of a message from one on, as far as they can be read, and where reading failed or the offset after them (R319); `n` bitmaps
are left under the syntax. The first bit announces the next, which the last bitmap of a syntax cannot. -/
def bitmapsFrom : Nat → Bool → List Byte → Nat → Nat → List BitmapRead × Read Nat
  | 0, _, _, o, _ => ([], .inr o)
  | n + 1, hex, b, o, first =>
    match readBitmap hex b o with
    | .inl e => ([], .inl e)
    | .inr (p, o1) =>
      let all := bitsSet first p
      if n = 0 ∨ first ∉ all then ([⟨first, o, all⟩], .inr o1)
      else
        let q := bitmapsFrom n hex b o1 (first + 64)
        (⟨first, o, all.filter (· ≠ first)⟩ :: q.1, q.2)

/-- Every bitmap of a message (R319). -/
def readBitmaps (syn : Nat) (hex : Bool) (b : List Byte) (o : Nat) : List BitmapRead × Read Nat :=
  bitmapsFrom (if syn = 3 then 3 else 2) hex b o 1

/-- The MTI: its value in BCD and the offset after it (R319, R325 check 3). -/
def readMti (a : Accord) (b : List Byte) : Read (Nat × Nat) :=
  let n := if a.coding % 4 = 0 then 4 else 2
  if b.length < n then .inl b.length else
  let ds := if a.coding % 4 = 0 then (octets b 0 4).map (fun x => if isDigit x then x.toNat - 0x30 else 15) else nibs (octets b 0 2)
  match ds.findIdx? (fun d => decide (9 < d)) with
  | some k => .inl (k * n / 4)
  | none =>
    let v := ds.foldl (fun x d => x * 16 + d) 0
    if v / 4096 ≠ a.syn - 1 ∨ v ∉ a.mtiIn then .inl 0 else .inr (v, n)

/-- The fields required and not there (R318, R325 check 4). -/
def missing (a : Accord) (present : List Nat) : List Nat :=
  (a.ins.filter (fun d => d.req && decide (d.field ∉ present))).map (·.field)

/-- A bitmap fails check 4: it sets a bit of no defined field, or not that of a required one (R325). -/
def bitmapBad (a : Accord) (lost : List Nat) (m : BitmapRead) : Bool :=
  m.fields.any (fun f => (defOf a.ins f).isNone) || lost.any (fun f => decide (m.first ≤ f ∧ f < m.first + 64))

/-- Check 4 over the bitmaps that were read: the offset of the first that fails it. A required field of a bitmap that no bit announces is
the fault of the last one; one of a bitmap that the payload cuts off is not yet missing (R325). -/
def bitmapFault (a : Accord) (q : List BitmapRead × Read Nat) : Option Nat :=
  let lost := missing a (q.1.flatMap (·.fields))
  let next := (q.1.map (fun m => m.first + 64)).foldl max 0
  let beyond := match q.2 with | .inr _ => lost.any (fun f => decide (next ≤ f)) | .inl _ => false
  ((q.1.find? (bitmapBad a lost)).map (·.off)).or (if beyond then q.1.getLast?.map (·.off) else none)

/-- Why reading a field list stopped: an entry out of order or without an id, or a payload cut short. -/
inductive ListStop where
  | done
  | bad (o : Nat)
  | short
  deriving DecidableEq, Repr

/-- The entries of a field list whose ids can be read, id, offset of the entry, octets, and why reading stopped; the value of the last is cut
short where it did for that. The fuel bounds their number. -/
def listEntries : Nat → List Byte → Nat → Nat → List (Nat × Nat × Nat) × ListStop
  | 0, _, o, _ => ([], .bad o)
  | n + 1, b, o, before =>
    if b.length ≤ o then ([], .done) else
    if b.length < o + 4 then ([], .short) else
    let id := be b o 2
    let len := be b (o + 2) 2
    if id ≤ before ∨ 4095 < id then ([], .bad o)
    else if b.length < o + 4 + len then ([(id, o, len)], .short)
    else
      let q := listEntries n b (o + 4 + len) id
      ((id, o, len) :: q.1, q.2)

/-- One field of a field list (R319): its value fills the entry. -/
def listField (a : Accord) (b : List Byte) (e : Nat × Nat × Nat) : Read MField :=
  match defOf a.ins e.1 with
  | none => .inl e.2.1
  | some d =>
    let v := octets b (e.2.1 + 4) e.2.2
    let d' : FieldDef := if d.form = 3 then { d with form := 0, maxLen := if d.enc = 1 then 2 * e.2.2 else if d.enc = 5 then e.2.2 / 2 else e.2.2 } else d
    if d.form = 3 ∧ d.maxLen < d'.maxLen then .inl e.2.1 else
    match readField d' v 0 with
    | .inr (x, n) => if n = v.length then .inr x else .inl e.2.1
    | .inl _ => .inl e.2.1

/-- Read every field of a field list. -/
def listFields (a : Accord) (b : List Byte) : List (Nat × Nat × Nat) → Read (List MField)
  | [] => .inr []
  | e :: t => match listField a b e with
    | .inl o => .inl o
    | .inr x => match listFields a b t with
      | .inl o => .inl o
      | .inr xs => .inr (x :: xs)

/-- Checks 3 to 6 of R325: the MTI and the fields of a payload, or the offset DETAIL gives. -/
def readMessage (a : Accord) (b : List Byte) : Read (Nat × List MField) :=
  if a.syn = 4 then
    let q := listEntries (b.length + 1) b 0 0
    let bad := match q.2 with | .bad o => some o | _ => none
    match ((q.1.find? (fun e => (defOf a.ins e.1).isNone)).map (·.2.1)).or bad with
    | some o => .inl o
    | none =>
      if missing a (q.1.map (·.1)) ≠ [] then .inl b.length else
      match listFields a b (q.1.filter (fun e => decide (e.2.1 + 4 + e.2.2 ≤ b.length))) with
      | .inl o => .inl o
      | .inr fs => if q.2 = .done then .inr (0, fs) else .inl b.length
  else
    match readMti a b with
    | .inl o => .inl o
    | .inr (mti, o) =>
      let q := readBitmaps a.syn (decide (a.coding / 4 % 4 = 1)) b o
      match (bitmapFault a q).map Sum.inl |>.getD q.2 with
      | .inl e => .inl e
      | .inr o1 =>
        match readFields a.ins b (q.1.flatMap (·.fields)) o1 with
        | .inl e => .inl e
        | .inr (xs, o2) => if o2 < b.length then .inl o2 else .inr (mti, xs)

/-! ### Maps (R321) -/

/-- A digit that a character spells, where it spells one. -/
def charDigit (conv : Nat) (b : Byte) : Nat := if isDigit b then b.toNat - 0x30 else Config.convOctet conv b.toNat % 16

/-- The digits of a value (R319): those of BCD are its nibbles. -/
def valDigits (conv enc : Nat) (v : List Byte) (len : Nat) : List Nat :=
  if enc = 1 then ((nibs v).drop ((nibs v).length - len)) else v.map (charDigit conv)

/-- What a map reads: the octets, the length in units, the encoding. -/
def mapSource (a : Accord) (ins outs : List MField) (rs : List StepRec) (m : AMap) : Option (List Byte × Nat × Nat) :=
  let of := fun (fs : List MField) (ds : List FieldDef) =>
    (fs.find? (fun x => decide (x.field = m.src))).map (fun x => (x.val, x.len, ((defOf ds m.src).map (·.enc)).getD 4))
  match m.kind with
  | 1 => of ins a.ins
  | 4 => of outs a.outs
  | 2 => (rs.find? (fun r => decide (r.step = m.src / 4096) && statusGood r.status)).map (fun r =>
      let v := r.out.drop (m.src % 4096)
      (v, v.length, 4))
  | _ => some (if readOctets m = 1 then (beBytes 1 (m.src % 256), 1, 4) else (beBytes 2 m.src, 2, 4))

/-- The octets a conversion writes (R321): `n` octets, or with 0 the whole source. -/
def convert (conv n : Nat) (src : List Byte × Nat × Nat) : List Byte :=
  let (v, len, enc) := src
  match conv with
  | 0 => if n = 0 then v else octets v 0 n
  | 1 => bcdBytes ((valDigits 1 enc v len).take (2 * n)) n
  | 2 => (List.range n).map (fun j =>
      let d := fun k => let c := v.getD k 0; if isHex c then hexVal c else Config.convOctet 2 c.toNat % 16
      BitVec.ofNat 8 (d (2 * j) * 16 + d (2 * j + 1)))
  | 3 => octets (hexText v) 0 n
  | 4 => let ds := if enc = 1 then valDigits 4 enc v len else nibs v
      (List.range n).map (fun j => let d := ds.getD j 0; BitVec.ofNat 8 (if d < 10 then 0x30 + d else Config.convOctet 4 d))
  | _ => octets (beBytes 1 len) 0 n

/-- What a map writes, and the length in units when it copies a whole field; none when its source is absent. -/
def mapWrite (a : Accord) (ins outs : List MField) (rs : List StepRec) (m : AMap) : Option (List Byte × Option Nat) :=
  (mapSource a ins outs rs m).map (fun src => (convert m.conv m.len src, if m.conv = 0 ∧ m.len = 0 then some src.2.1 else none))

/-- A step's input record and AUX (R321, R322). -/
def stepInput (a : Accord) (t : AStep) (ins : List MField) (rs : List StepRec) : List Byte × List Byte :=
  (mapsFrom a t.first t.n).foldl (fun acc m =>
    match mapWrite a ins [] rs m with
    | none => acc
    | some (v, _) =>
      if 0xFF00 ≤ m.dst then (acc.1, (overwrite acc.2 (m.dst - 0xFF00) v).take 8)
      else ((overwrite acc.1 m.dst v).take t.inLen, acc.2)) (List.replicate t.inLen 0, List.replicate 8 0)

/-- The handle a KSRC names (R322, R329). -/
def ksrcHandle (a : Accord) (route : Option Route) (k : Nat) : Nat :=
  if k = 0 then 0 else if k ≤ 8 then a.consts.getD (k - 1) 0
  else match route with | some r => if k = 9 then r.keyA else r.keyB | none => 0

/-! ### Building (R323) -/

/-- The length in units of a built value. -/
def builtLen (enc n : Nat) : Nat := match enc with | 1 => 2 * n | 5 => n / 2 | _ => n

/-- One output field from its maps; none when no map wrote (R323). -/
def buildField (a : Accord) (d : FieldDef) (ms : List AMap) (ins outs : List MField) (rs : List StepRec) : Option MField :=
  let room := encOctets d.enc d.maxLen
  let fixed := decide (d.form = 0)
  let blank : List Byte := if fixed then (List.range room).map (Config.fieldFill d.enc) else []
  let q := ms.foldl (fun (acc : List Byte × Option (Option Nat)) m =>
    match mapWrite a ins outs rs m with
    | none => acc
    | some (v, len) => ((overwrite acc.1 m.dst v).take room, some (if acc.2.isNone then len else none))) (blank, none)
  q.2.map (fun len => ⟨d.field, q.1, if fixed then d.maxLen else (len.filter (fun _ => decide (d.enc = 1))).getD (builtLen d.enc q.1.length)⟩)

/-- An output field that a verdict's values supply (R343). -/
def suppliedField (a : Accord) (values : List (Nat × List Byte)) (f : Nat) : Option MField :=
  match defOf a.outs f, values.find? (fun v => decide (v.1 = f)) with
  | some d, some v => some ⟨f, octets v.2 0 (encOctets d.enc d.maxLen), d.maxLen⟩
  | _, _ => none

/-- The output fields of a message, in build order; a verdict's values override their fields, and supply those without a build entry
(R323, R343). -/
def buildFields (a : Accord) (ins : List MField) (rs : List StepRec) (values : List (Nat × List Byte)) : List MField :=
  a.builds.foldl (fun outs b =>
    match defOf a.outs b.field with
    | none => outs
    | some d => outs ++ ((suppliedField a values b.field).or (buildField a d (mapsFrom a b.first b.n) ins outs rs)).toList) [] ++
  ((values.map (·.1)).eraseDups.filter (fun f => a.builds.all (fun b => decide (b.field ≠ f)))).filterMap (suppliedField a values)

/-- A field's length prefix. -/
def prefixBytes (d : FieldDef) (len : Nat) : List Byte :=
  let pl := prefixLen d.form d.lenEnc
  match d.lenEnc with
  | 0 => asciiNum pl len
  | 1 => packNibs ((asciiNum (2 * pl) len).map (fun b => b.toNat - 0x30))
  | _ => beBytes pl len

/-- A bitmap of eight octets with the bits of some fields, from a first number on. -/
def bitmapOf (first : Nat) (fs : List Nat) : List Byte :=
  beBytes 8 ((fs.filter (fun f => decide (first ≤ f ∧ f < first + 64))).foldl (fun a f => a + 2 ^ (63 - (f - first))) 0)

/-- The bitmaps of a message. -/
def bitmaps (syn : Nat) (fs : List Nat) : List Byte :=
  let third := decide (syn = 3) && fs.any (fun f => decide (128 < f))
  let second := third || fs.any (fun f => decide (64 < f))
  bitmapOf 1 (fs ++ (if second then [1] else [])) ++ (if second then bitmapOf 65 (fs ++ (if third then [65] else [])) else []) ++
  (if third then bitmapOf 129 fs else [])

/-- A built message (R323), its fields by number. -/
def encodeMessage (a : Accord) (mti : Nat) (outs : List MField) : List Byte :=
  let fs := a.outs.filterMap (fun d => (outs.find? (fun x => decide (x.field = d.field))).map (fun x => (d, x)))
  if a.syn = 4 then
    fs.flatMap (fun p => let v := prefixBytes p.1 p.2.len ++ p.2.val
                         beBytes 2 p.1.field ++ beBytes 2 v.length ++ v)
  else
    let m := beBytes 2 mti
    let bm := bitmaps a.syn (fs.map (·.1.field))
    (if a.coding % 4 = 0 then (nibs m).map (fun n => BitVec.ofNat 8 (0x30 + n)) else m) ++
    (if a.coding / 4 % 4 = 1 then hexText bm else bm) ++ fs.flatMap (fun p => prefixBytes p.1 p.2.len ++ p.2.val)

/-! ### Field entries of the plain header (R335) -/

/-- A PAN as MASK shows it. -/
def maskPan (ds : List Nat) : List Byte :=
  bcdBytes ((ds.zipIdx).map (fun p => if p.2 < 6 ∨ ds.length ≤ p.2 + 4 then p.1 else 10)) 10

/-- The data of a header entry; none when its source is absent. -/
def headData (a : Accord) (ins outs : List MField) (rs : List StepRec) (h : AHead) : Option (List Byte) :=
  let of := fun (fs : List MField) (ds : List FieldDef) => (fs.find? (fun x => decide (x.field = h.field))).map (fun x =>
    if h.treat = 1 then maskPan (valDigits 1 (((defOf ds h.field).map (·.enc)).getD 4) x.val x.len) else x.val)
  match h.src with
  | 0 => of ins a.ins
  | 1 => of outs a.outs
  | _ => (rs.find? (fun r => decide (r.step = h.field) && statusGood r.status)).map (fun r => octets r.out 0 10)

/-- The field entries of a plain header and their number (R335). The egress assembler writes none that R320 forbids. -/
def headEntries (a : Accord) (ins outs : List MField) (rs : List StepRec) : Nat × List Byte :=
  (a.heads.zipIdx).foldl (fun acc q =>
    match (headData a ins outs rs q.1).filter (fun _ => headAllowed a q.1) with
    | none => acc
    | some d =>
      let e := beBytes 1 q.2 ++ beBytes 1 q.1.treat ++ leBytes 2 d.length ++ octets d 0 ((d.length + 3) / 4 * 4)
      (acc.1 + 1, acc.2 ++ e)) (0, [])

/-! ### Routes (R336) -/

/-- The route value of a message: none when the field is absent or has too few digits. -/
def routeValue (a : Accord) (fs : List MField) : Option Nat :=
  (fs.find? (fun x => decide (x.field = a.routeField))).bind (fun x =>
    let enc := ((defOf a.ins a.routeField).map (·.enc)).getD 4
    let lead := if enc = 1 then (nibs x.val).drop ((nibs x.val).length - x.len) else
      (x.val.map (fun b => if isDigit b then b.toNat - 0x30 else 15))
    let ds := (lead.takeWhile (fun d => decide (d < 10))).take a.routeDigits
    if ds.length < a.routeDigits then none else some (ds.foldl (fun v d => v * 10 + d) 0))

end Sys2Proof.Machine
end

