-- ==== Sys2Proof/Machine/CryptoFns.lean ====
section
/-!
DEFINITION. Cryptograms, MACs, point-to-point encryption and tokens: functions 0x0310, 0x0311, 0x0401 to 0x0405, 0x0501 to
0x0504 and 0x0601 to 0x0603 (R181 to R201).
-/
namespace Sys2Proof.Machine

/-- The rows of R181, with the bounds of IN_LEN the records give. -/
def cryptoFnRow (f : Nat) : Option FnRow :=
  match f with
  | 0x0310 => some { cycles := 2900, twin := true, keys := [0, 1], inMin := 56, inMax := 224, out := 24 }
  | 0x0311 => some { cycles := 3700, twin := true, keys := [0, 1, 2], inMin := 56, inMax := 208, out := 40 }
  | 0x0401 => some { cycles := 1400, twin := false, top := true, keys := [0], inMin := 25, inMax := 279, out := 0 }
  | 0x0402 => some { cycles := 1700, twin := false, top := true, keys := [0], inMin := 25, inMax := 287, out := 8 }
  | 0x0403 => some { cycles := 1500, twin := false, keys := [0], inMin := 29, inMax := 279, out := 4 }
  | 0x0404 => some { cycles := 2600, twin := true, keys := [0, 1, 2], inMin := 40, inMax := 56, out := 16 }
  | 0x0405 => some { cycles := 1800, twin := false, keys := [0], inMin := 25, inMax := 184, out := 8 }
  | 0x0501 => some { cycles := 900, twin := false, top := true, keys := [0], inMin := 21, inMax := 64, out := 4 }
  | 0x0502 => some { cycles := 900, twin := false, top := true, keys := [0], inMin := 21, inMax := 64, out := 0 }
  | 0x0503 => some { cycles := 3600, twin := false, steps := 0, keys := [0], inMin := 73, inMax := 4096, out := 4 }
  | 0x0504 => some { cycles := 3600, twin := false, steps := 0, keys := [0], inMin := 73, inMax := 4096, out := 0 }
  | 0x0601 => some { cycles := 2000, twin := true, top := true, keys := [0], inMin := 32, inMax := 32, out := 16 }
  | 0x0602 => some { cycles := 2000, twin := true, top := true, keys := [0], inMin := 32, inMax := 32, out := 16 }
  | 0x0603 => some { cycles := 3800, twin := true, keys := [0, 1], inMin := 32, inMax := 32, out := 16 }
  | _ => none

/-- Steps of a MAC of a message (R191). -/
def macSteps (inLen : Nat) : Nat := max 1 ((inLen - 72 + 1023) / 1024)

/-! ### Records (R182, R184, R190, R192, R195) -/

/-- The checks of the EMV input record (R184). -/
def emvRecord (f inLen : Nat) (p : List Byte) : List (Nat × Bool) :=
  let m := le p 1 1
  let len := le p 2 1
  let pad := le p 0x15 1
  let n := le p 0x16 1
  let modeOk := match f with
    | 0x0402 => decide (m = 1 ∨ m = 2) | 0x0403 => decide (4 ≤ m ∧ m ≤ 8) | 0x0404 => decide (m ≤ 1) | _ => decide (m = 0)
  let arcOk := match f with
    | 0x0402 => decide (m = 2) || allZero (octets p 0x12 2)
    | 0x0404 => decide (le p 0x10 1 ∈ [0, 1, 3, 4]) && allZero (octets p 0x11 3)
    | _ => allZero (octets p 0x10 4)
  let dataOk := match f with
    | 0x0403 => decide (5 ≤ n) | 0x0404 => decide (n = 16 * (m + 1)) | 0x0405 => decide (1 ≤ n ∧ n ≤ 160) | _ => decide (1 ≤ n)
  let contentOk := match f with
    | 0x0403 => decide (le p 0x1C 1 + 5 = n + m)
    | 0x0404 => blockOk (le p 0x10 1) (octets p 0x18 16) && (decide (m = 0) || blockOk (le p 0x10 1) (octets p 0x28 16))
    | _ => true
  [(0, decide (le p 0 1 ≤ 2)), (1, modeOk), (2, decide (12 ≤ len ∧ len ≤ 19)),
   (3, (nibs (octets p 3 1)).all (fun d => decide (d < 10))), (4, digitsOk (octets p 4 10) len), (0x10, arcOk),
   (0x14, decide (le p 0x14 1 < 4) && (!bitOf (le p 0x14 1) 1 || decide (f = 0x0402 ∧ m = 1))),
   (0x15, decide (pad ≤ if f = 0x0402 ∧ m = 2 then 8 else 0)), (0x16, dataOk && decide (inLen = 24 + pad + n)),
   (0x17, decide (le p 0x17 1 = 0)), (0x18, contentOk)]

/-- Where DATA stands in a MAC record. -/
def macData (f : Nat) : Nat := if f ≤ 0x0502 then 0x14 else 0x48

/-- Octets of the full MAC of an ALG (R190). -/
def macFull (alg : Nat) : Nat := match alg with | 1 | 3 => 8 | 4 => 16 | 5 => 32 | 6 => 48 | _ => 64

/-- The checks of the MAC input record (R190). -/
def macRecord (f inLen : Nat) (p : List Byte) : List (Nat × Bool) :=
  let alg := le p 0 1
  let len := le p 2 1
  let n := le p 4 4
  let short := decide (f ≤ 0x0502)
  let verify := decide (f % 2 = 0)
  let lenOk := match alg with
    | 1 | 3 => decide (4 ≤ len ∧ len ≤ 8) | 4 => decide (8 ≤ len ∧ len ≤ 16) | a => decide (16 ≤ len ∧ len ≤ macFull a)
  let room := if short then 12 else 64
  [(0, if short then decide (alg ∈ [1, 3, 4]) else decide (alg ∈ [1, 3, 4, 5, 6, 7])),
   (1, if alg ≤ 3 then decide (le p 1 1 = 1 ∨ le p 1 1 = 2) else decide (le p 1 1 = 0)),
   (2, lenOk && decide (len ≤ room)), (3, decide (le p 3 1 = 0)),
   (4, decide (1 ≤ n ∧ n ≤ if short then 44 else 4024) && decide (inLen = macData f + n)),
   (8, let off := if verify then len else 0
       allZero (octets p (8 + off) (room - off)))]

/-- The fields CHECK, PRESERVE_LEFT, PRESERVE_RIGHT, TWEAK_LEN and TWEAK_EXT at their offsets (R195). -/
def tokenFields (c l r t e : Nat) (p : List Byte) : List (Nat × Bool) × List (Nat × Bool) :=
  ([(c, decide (le p c 1 ≤ 2)), (l, decide (le p l 1 ≤ 8)), (r, decide (le p r 1 ≤ if le p c 1 = 0 then 4 else 3)),
    (t, decide (le p t 1 ≤ 8))], [(e, allZero (octets p (e + le p t 1) (8 - le p t 1)))])

/-- Digits not enciphered of a token record (R195). -/
def keptDigits (check left right : Nat) : Nat := left + right + if check = 0 then 0 else 1

/-- The checks of the token input record (R195). -/
def tokenRecord (p : List Byte) : List (Nat × Bool) :=
  let q := tokenFields 0 1 2 3 0x18 p
  let len := le p 4 1
  q.1 ++ [(4, decide (12 ≤ len ∧ len ≤ 19) && decide (keptDigits (le p 0 1) (le p 1 1) (le p 2 1) + 6 ≤ len)),
    (5, allZero (octets p 5 3)), (8, digitsOk (octets p 8 10) len), (0x12, allZero (octets p 0x12 6))] ++ q.2

/-- The checks of the P2PE input record (R192). -/
def p2peRecord (f inLen : Nat) (p : List Byte) : List (Nat × Bool) :=
  let scheme := le p 0 1
  let token := decide (f = 0x0311)
  let n := le p 0x10 2
  let unit := if scheme = 1 then 8 else 16
  let q := tokenFields 0x12 0x13 0x14 0x15 0x18 p
  [(0, decide (scheme = 1 ∨ scheme = 2)),
   (1, if scheme = 2 then decide (2 ≤ le p 1 1 ∧ le p 1 1 ≤ 4) else decide (le p 1 1 = 0)),
   (2, decide (le p 2 1 = 1 ∨ le p 2 1 = 2)), (3, if token then decide (le p 3 1 = 1 ∨ le p 3 1 = 2) else decide (le p 3 1 = 0)),
   (4, ksnOk f scheme (octets p 4 12)),
   (0x10, decide (n % unit = 0) && decide (8 ≤ n ∧ n ≤ if token then 160 else 176) && decide (inLen = 48 + n))] ++
  (if token then q.1 else [(0x12, le p 0x12 1 = 0), (0x13, le p 0x13 1 = 0), (0x14, le p 0x14 1 = 0), (0x15, le p 0x15 1 = 0)]) ++
  [(0x16, allZero (octets p 0x16 2))] ++ (if token then q.2 else [(0x18, allZero (octets p 0x18 8))]) ++
  [(0x20, decide (scheme = 2) || allZero (octets p 0x28 8))]

/-- Octets of the enciphered data a P2PE function returns (R193). -/
def p2peOut (p : List Byte) : Nat := if le p 2 1 = 1 then (le p 0x10 2 + 15) / 16 * 16 else le p 0x10 2

/-- RBYTES where the record gives it. -/
def cryptoOut (f : Nat) (p : List Byte) : Nat :=
  match f with
  | 0x0310 => 16 + p2peOut p
  | 0x0311 => 32 + p2peOut p
  | 0x0403 => le p 1 1
  | 0x0501 | 0x0503 => le p 2 1
  | _ => 0

/-- The record checks of this chapter: the fields, then the room for the result (R89, R182). -/
def cryptoFnCheck (x : Sub) (p : List Byte) : Option (Nat × Nat) :=
  let fields := match x.func / 256 with
    | 3 => p2peRecord x.func x.inLen p
    | 4 => emvRecord x.func x.inLen p
    | 5 => macRecord x.func x.inLen p
    | _ => tokenRecord p
  match firstBad fields with
  | some e => some e
  | none => if x.outMax < cryptoOut x.func p then some (St.lengthInvalid, 0) else none

/-! ### Block chaining and MACs (R186, R189, R190) -/

/-- Padding method 1 or 2 of ISO 9797-1 to blocks of b octets. -/
def padIso (m b : Nat) (d : List Byte) : List Byte :=
  let d := if m = 2 then d ++ [0x80#8] else d
  d ++ List.replicate ((b - d.length % b) % b) 0

/-- Exclusive or of octet strings. -/
def xorBytes (a b : List Byte) : List Byte := List.zipWith (· ^^^ ·) a b

/-- The blocks of a string. -/
def blocksOf (b : Nat) (d : List Byte) : List (List Byte) := (List.range (d.length / b)).map (fun j => octets d (b * j) b)

/-- Encipher one block under a key of a type. -/
def encBlock (aes : Bool) (k x : List Byte) : List Byte :=
  if aes then octets (Config.aesEnc k x) 0 16 else octets (Config.tdesEnc k x) 0 8

/-- Decipher one block under a key of a type. -/
def decBlock (aes : Bool) (k x : List Byte) : List Byte :=
  if aes then octets (Config.aesDec k x) 0 16 else octets (Config.tdesDec k x) 0 8

/-- CBC encipherment of whole blocks. -/
def cbcEnc (aes : Bool) (k : List Byte) : List Byte → List (List Byte) → List Byte
  | _, [] => []
  | iv, x :: t => let y := encBlock aes k (xorBytes x iv)
                  y ++ cbcEnc aes k y t

/-- CBC decipherment of whole blocks. -/
def cbcDec (aes : Bool) (k : List Byte) : List Byte → List (List Byte) → List Byte
  | _, [] => []
  | iv, y :: t => xorBytes (decBlock aes k y) iv ++ cbcDec aes k y t

/-- ISO 9797-1 MAC algorithm 1 (the whole key) or 3 (single DES, then the right and the left half on the final block). -/
def isoMac (alg : Nat) (k : List Byte) (d : List Byte) : List Byte :=
  let key := if alg = 1 then k else octets k 0 8
  let h := (blocksOf 8 d).foldl (fun h x => encBlock false key (xorBytes x h)) (List.replicate 8 0)
  if alg = 1 then h else encBlock false (octets k 0 8) (decBlock false (octets k 8 8) h)

/-- The MAC of an ALG (R190). -/
def macOf (alg pad : Nat) (k d : List Byte) : List Byte :=
  match alg with
  | 1 | 3 => isoMac alg k (padIso pad 8 d)
  | 4 => octets (Config.aesCmac k d) 0 16
  | a => octets (Config.hmac (macFull a) k d) 0 (macFull a)

/-! ### Cryptograms and scripts (R185 to R189) -/

/-- The digits of PAN and PSN. -/
def panPsn (p : List Byte) : List Nat := panOf p 4 (le p 2 1) ++ nibs (octets p 3 1)

/-- Y: the rightmost 16 digits, zeros on the left (R185). -/
def emvY (p : List Byte) : List Byte :=
  let d := panPsn p
  packNibs (List.replicate (16 - d.length) 0 ++ d.drop (d.length - 16))

/-- The card master key (R185). -/
def emvMaster (p : List Byte) (k : KRec) : List Byte :=
  let derive := le p 0 1
  if derive = 0 then k.material
  else if derive = 2 ∧ 17 ≤ le p 2 1 then octets (Config.emvOptionB k.type k.material (packNibs (panPsn p))) 0 k.material.length
  else if isAes k.type then octets (Config.emvMasterAes k.material (emvY p)) 0 k.material.length
  else encBlock false k.material (emvY p) ++ encBlock false k.material ((emvY p).map (fun b => b ^^^ 0xFF#8))

/-- A session key from R, whose third octet the two halves of a TDES key replace (R185). -/
def emvSession (aes : Bool) (master r : List Byte) : List Byte :=
  if aes then octets (Config.emvSessionAes master r) 0 master.length
  else encBlock false master (overwrite r 2 [0xF0#8]) ++ encBlock false master (overwrite r 2 [0x0F#8])

/-- The application-cryptogram session key (R185). -/
def emvAcKey (p : List Byte) (k : KRec) : List Byte :=
  let aes := isAes k.type
  emvSession aes (emvMaster p k) (octets p 0x0E 2 ++ List.replicate (if aes then 14 else 6) 0)

/-- The MAC of R186: ISO 9797-1 algorithm 3 under TDES, AES-CMAC under AES, each over data padded by the method (DEDUCED, log entry 93:
the padding sentence of R186 names both families). -/
def emvMac (aes : Bool) (pad : Nat) (k d : List Byte) : List Byte :=
  if aes then octets (Config.aesCmac k (padIso pad 16 d)) 0 8 else octets (macOf 3 pad k d) 0 8

/-- The ARPC (R187). -/
def arpcOf (p : List Byte) (k : KRec) (arqc : List Byte) : List Byte :=
  let aes := isAes k.type
  let pad := if bitOf (le p 0x14 1) 0 then 1 else 2
  let sk := emvAcKey p k
  if le p 1 1 = 1 then
    let x := xorBytes arqc (octets p 0x10 2 ++ List.replicate 6 0)
    if aes then octets (encBlock true sk (x ++ List.replicate 8 0)) 0 8
    else encBlock false (if bitOf (le p 0x14 1) 1 then emvMaster p k else sk) x
  else octets (emvMac aes pad sk (arqc ++ octets p 0x10 4 ++ octets p 0x18 (le p 0x15 1))) 0 4 ++ List.replicate 4 0

/-- Script data encipher (R189). -/
def scriptEnc (aes : Bool) (sk d : List Byte) : List Byte :=
  let b := if aes then 16 else 8
  cbcEnc aes sk (List.replicate b 0) (blocksOf b (padIso 2 b d))

/-- A key of an EMV role (R183). -/
def emvRole (p : List Byte) (r : KRec) (u2 : Char) : Bool :=
  usageIs r 'E' u2 && (decide (r.type = 1) || isAes r.type) && modeIn r (if le p 0 1 = 0 then ['C'] else ['X'])

/-- Script PIN change (R189). -/
def scriptPin (p arqc : List Byte) (k0 k1 k2 : KRec) : StepRes :=
  let fmt := le p 0x10 1
  let pan := panOf p 4 (le p 2 1)
  let old := decide (le p 1 1 = 1)
  match openBlock k1.material fmt pan (octets p 0x18 16), openBlock k1.material fmt pan (octets p 0x28 16) with
  | none, _ => fail St.pinBlockInvalid 0
  | some new, none => if old then fail St.pinBlockInvalid 0 else go new ⟨[], false⟩
  | some new, some cur => go new (if old then cur else ⟨[], false⟩)
where
  go (new cur : Tag (List Nat)) : StepRes :=
    let data := Tag.map2 (fun n c => octets (Config.iccPinData k2.type (emvMaster p k2) n c) 0 8) new cur
    let aes := isAes k0.type
    doneTag (data.map (fun d => octets (scriptEnc aes (emvSession aes (emvMaster p k0) arqc) d) 0 16)).release

/-- The step of a function of group 0x04. -/
def runEmvFn (w : Work) (s : State) : StepRes × State :=
  let f := w.sub.func
  let p := w.input
  let k0 := (w.key 0).rec_
  let k1 := (w.key 1).rec_
  let k2 := (w.key 2).rec_
  let aes := isAes k0.type
  let arqc := leBytes 8 w.sub.aux
  let role0 := emvRole p k0 (match f with | 0x0401 | 0x0402 => '0' | 0x0403 => '2' | _ => '1') &&
    !(bitOf (le p 0x14 1) 1 && aes)
  let fields := (1, w.key 0, false, role0) :: (if f = 0x0404 then
    [(2, w.key 1, false, pinKeyRole k1 (le p 0x10 1) ['D', 'B']), (3, w.key 2, false, emvRole p k2 '0' && decide (isAes k2.type = aes))] else [])
  let data := octets p (0x18 + le p 0x15 1) (le p 0x16 1)
  withKeys w.sub.domain fields s (fun _ =>
    let sm := emvSession aes (emvMaster p k0) arqc
    match f with
    | 0x0401 | 0x0402 =>
      if emvMac aes (if bitOf (le p 0x14 1) 0 then 1 else 2) (emvAcKey p k0) data ≠ arqc then (fail St.arqcNotVerified 0, s)
      else (.done { out := if f = 0x0402 then arpcOf p k0 arqc else [] }, s)
    | 0x0403 =>
      let msg := octets data 0 5 ++ octets p 0x0E 2 ++ arqc ++ data.drop 5
      (.done { out := octets (emvMac aes 2 sm msg) 0 (le p 1 1) }, s)
    | 0x0404 => (scriptPin p arqc k0 k1 k2, s)
    | _ =>
      let out := scriptEnc aes sm data
      if w.sub.outMax < out.length then (fail St.lengthInvalid 0, s) else (.done { out }, s))

/-! ### MACs (R190, R191) -/

/-- A MAC key (R183). -/
def macRole (alg : Nat) (verify : Bool) (r : KRec) : Bool :=
  modeIn r (if verify then ['V', 'C'] else ['G', 'C']) &&
  (match alg with
    | 1 => usageIs r 'M' '1' && isTdes r.type
    | 3 => usageIs r 'M' '3' && decide (r.type = 1)
    | 4 => usageIs r 'M' '6' && isAes r.type
    | a => usageIs r 'M' '7' && decide (r.type = 6) && decide (r.alg + 4 = a) &&
        decide (32 ≤ r.material.length ∧ r.material.length ≤ 128))

/-- The step of a MAC function (R190, R191). -/
def runMacFn (w : Work) (s : State) : StepRes × State :=
  let f := w.sub.func
  let p := w.input
  let verify := decide (f % 2 = 0)
  let k := (w.key 0).rec_
  withKeys w.sub.domain [(1, w.key 0, false, macRole (le p 0 1) verify k)] s (fun _ =>
    if 0x0503 ≤ f ∧ w.stepsDone + 1 < macSteps w.sub.inLen then (.more, s) else
    let mac := octets (macOf (le p 0 1) (le p 1 1) k.material (octets p (macData f) (le p 4 4))) 0 (le p 2 1)
    if !verify then (.done { out := mac }, s)
    else if mac = octets p 8 (le p 2 1) then (.done {}, s) else (fail St.macNotVerified 0, s))

/-! ### Tokens (R195 to R200) -/

/-- The Luhn sum of digits, the last of them undoubled. -/
def luhnSum (ds : List Nat) : Nat :=
  (ds.reverse.zipIdx.map (fun p => if p.2 % 2 = 0 then p.1 else if p.1 < 5 then 2 * p.1 else 2 * p.1 - 9)).sum

/-- Digits pass the Luhn check. -/
def luhnOk (ds : List Nat) : Bool := decide (luhnSum ds % 10 = 0)

/-- The digit that makes a string pass the Luhn check. -/
def luhnDigit (ds : List Nat) : Nat := (10 - luhnSum (ds ++ [0]) % 10) % 10

/-- How digits are enciphered: CHECK, the preserved counts, and the tweak's last part. -/
structure TokenCfg where
  check : Nat
  left  : Nat
  right : Nat
  ext   : List Byte

/-- The token configuration at the offsets of a record. -/
def tokenCfg (c l r t e : Nat) (p : List Byte) : TokenCfg := ⟨le p c 1, le p l 1, le p r 1, octets p e (le p t 1)⟩

/-- The parts of a digit string: left, middle, right, the final check digit apart (R195). -/
def tokenParts (g : TokenCfg) (ds : List Nat) : List Nat × List Nat × List Nat :=
  let b := if g.check = 0 then ds else ds.dropLast
  (b.take g.left, (b.drop g.left).take (b.length - g.left - g.right), b.drop (b.length - g.right))

/-- The tweak (R196). -/
def tokenTweak (g : TokenCfg) (domain len : Nat) (left right : List Nat) : List Byte :=
  beBytes 2 domain ++ beBytes 1 len ++ bcdBytes left 4 ++ bcdBytes right 2 ++ g.ext

/-- The middle digits, enciphered or deciphered: as many decimal digits as before (R196). -/
def ff1 (dec : Bool) (k tweak : List Byte) (ds : List Nat) : List Nat :=
  let r := if dec then Config.ff1Dec k tweak ds else Config.ff1Enc k tweak ds
  ((r ++ List.replicate ds.length 0).take ds.length).map (· % 10)

/-- The check digit a token's other digits give (R197). -/
def tokenDigit (check : Nat) (ds : List Nat) : Nat := if check = 1 then luhnDigit ds else (luhnDigit ds + 1) % 10

/-- Tokenise digits; none when the PAN fails the Luhn check (R197). -/
def tokenise (g : TokenCfg) (domain : Nat) (k : List Byte) (ds : List Nat) : Option (List Nat) :=
  if g.check ≠ 0 ∧ luhnOk ds = false then none else
  let q := tokenParts g ds
  let body := q.1 ++ ff1 false k (tokenTweak g domain ds.length q.1 q.2.2) q.2.1 ++ q.2.2
  some (if g.check = 0 then body else body ++ [tokenDigit g.check body])

/-- Detokenise digits; none when the check digit is not the token's (R197). -/
def detokenise (g : TokenCfg) (domain : Nat) (k : List Byte) (ds : List Nat) : Option (List Nat) :=
  if g.check ≠ 0 ∧ ds.getLastD 0 ≠ tokenDigit g.check ds.dropLast then none else
  let q := tokenParts g ds
  let body := q.1 ++ ff1 true k (tokenTweak g domain ds.length q.1 q.2.2) q.2.1 ++ q.2.2
  some (if g.check = 0 then body else body ++ [luhnDigit body])

/-- A token key (R183). -/
def tokenRole (r : KRec) (modes : List Char) : Bool := usageIs r '6' '1' && decide (r.type = 5) && modeIn r modes

/-- The token result (R195). -/
def tokenOut (ds : List Nat) : List Byte := bcdBytes ds 10 ++ List.replicate 6 0

/-- The step of a token function. A closed epoch serves KEY0 of 0x0602 and 0x0603 (R200). -/
def runTokenFn (w : Work) (s : State) : StepRes × State :=
  let f := w.sub.func
  let p := w.input
  let k0 := (w.key 0).rec_
  let k1 := (w.key 1).rec_
  let dec := decide (f ≠ 0x0601)
  let fields := (1, w.key 0, dec, tokenRole k0 (if dec then ['D', 'B'] else ['E', 'B'])) ::
    (if f = 0x0603 then [(2, w.key 1, false, tokenRole k1 ['E', 'B'])] else [])
  let g := tokenCfg 0 1 2 3 0x18 p
  let ds := panOf p 8 (le p 4 1)
  withKeys w.sub.domain fields s (fun _ =>
    match if dec then detokenise g w.sub.domain k0.material ds else some ds with
    | none => (fail St.tokenInvalid 0, s)
    | some pan =>
      if f = 0x0602 then (.done { out := tokenOut pan }, s) else
      match tokenise g w.sub.domain (if f = 0x0601 then k0.material else k1.material) pan with
      | none => (fail St.panCheckFailed 0, s)
      | some t => (.done { out := tokenOut t }, s))

/-! ### Point-to-point encryption (R192 to R194) -/

/-- A zone data key (R183). -/
def zoneRole (r : KRec) (outAlg : Nat) : Bool :=
  usageIs r 'D' '0' && modeIn r ['E', 'B'] && (if outAlg = 1 then isAes r.type else isTdes r.type)

/-- The plaintext of ENC_DATA (R192, R193). -/
def p2peClear (p : List Byte) (bdk : List Byte) : List Byte :=
  let aes := decide (le p 0 1 = 2)
  let key := Config.dukptKey (le p 0 1) bdk (octets p 4 (if aes then 12 else 10)) (le p 1 1) 1
  let b := if aes then 16 else 8
  cbcDec aes key (octets p 0x20 b) (blocksOf b (octets p 0x30 (le p 0x10 2)))

/-- Encipher under the zone key with a fresh IV: the IV field and the ciphertext (R193). -/
def p2peSeal (p : List Byte) (zone : List Byte) (d : List Byte) (s : State) : (List Byte × List Byte) × State :=
  let aes := decide (le p 2 1 = 1)
  let b := if aes then 16 else 8
  let q := drawBytes b s
  ((octets q.1 0 16, cbcEnc aes zone q.1 (blocksOf b (padIso 1 b d))), q.2)

/-- The PAN of clear track data (R194). -/
def findPan (fmt : Nat) (d : List Byte) : Option (List Nat) :=
  if fmt = 1 then
    let run := (d.drop 1).takeWhile (fun b => decide (0x30 ≤ b.toNat ∧ b.toNat ≤ 0x39))
    if d.headD 0 = 0x3B#8 ∧ 12 ≤ run.length ∧ run.length ≤ 19 ∧ (d.drop (1 + run.length)).headD 0 = 0x3D#8 then
      some (run.map (fun b => b.toNat - 0x30)) else none
  else
    let run := (nibs d).takeWhile (fun n => decide (n < 10))
    if 12 ≤ run.length ∧ run.length ≤ 19 ∧ ((nibs d).drop run.length).headD 0 = 15 then some run else none

/-- The clear track data with the token in place of the PAN (R194). -/
def putToken (fmt : Nat) (t : List Nat) (d : List Byte) : List Byte :=
  if fmt = 1 then overwrite d 1 (t.map (fun n => BitVec.ofNat 8 (0x30 + n))) else packNibs (t ++ (nibs d).drop t.length)

/-- The step of a P2PE function. -/
def runP2peFn (w : Work) (s : State) : StepRes × State :=
  let f := w.sub.func
  let p := w.input
  let k0 := (w.key 0).rec_
  let k1 := (w.key 1).rec_
  let k2 := (w.key 2).rec_
  let fields := [(1, w.key 0, false, bdkRole k0 (le p 0 1) (le p 1 1)), (2, w.key 1, false, zoneRole k1 (le p 2 1))] ++
    (if f = 0x0311 then [(3, w.key 2, false, tokenRole k2 ['E', 'B'])] else [])
  withKeys w.sub.domain fields s (fun _ =>
    let d := p2peClear p k0.material
    if f = 0x0310 then
      let q := p2peSeal p k1.material d s
      (.done { out := q.1.1 ++ q.1.2 }, q.2)
    else match findPan (le p 3 1) d with
      | none => (fail St.p2peDataInvalid 0, s)
      | some pan =>
        let g := tokenCfg 0x12 0x13 0x14 0x15 0x18 p
        if pan.length < keptDigits g.check g.left g.right + 6 then (fail St.grateRange 0x8013, s) else
        match tokenise g w.sub.domain k2.material pan with
        | none => (fail St.panCheckFailed 0, s)
        | some t =>
          let q := p2peSeal p k1.material (putToken (le p 3 1) t d) s
          (.done { out := bcdBytes t 10 ++ beBytes 1 pan.length ++ List.replicate 5 0 ++ q.1.1 ++ q.1.2 }, q.2))

end Sys2Proof.Machine
end

