-- ==== Sys2Proof/Machine/DataFns.lean ====
section
/-!
DEFINITION. Bulk ciphers on host memory (group 0x08) and digest work (group 0x09): their tables, checks and computations
(R114 to R116, R250 to R254, R349, R364).
-/
namespace Sys2Proof.Machine

/-! ### Group 0x08 -/

/-- The rows of R114; STEP_CU is 2 (R252). -/
def laneFnRow (f : Nat) : Option FnRow :=
  if 0x0801 ≤ f ∧ f ≤ 0x0809 then
    some { unit := .hostLane, cycles := 100, twin := false, keys := [0], inl := some false, inMin := 0, inMax := 16777216, out := 0 }
  else none

/-- The octets of PARAM a function lists: offset and size (R115). -/
def laneParams (f : Nat) : List (Nat × Nat) :=
  match f with
  | 0x0801 | 0x0802 => [(0, 4)]
  | 0x0803 => [(0, 12), (0x10, 8), (0x18, 4)]
  | 0x0804 => [(0, 12), (0x10, 8), (0x18, 4), (0x20, 16)]
  | 0x0808 | 0x0809 => [(0, 8)]
  | _ => [(0, 16)]

/-- Octets outside some ranges are zero. -/
def zeroOutside (bs : List Byte) (rs : List (Nat × Nat)) : Bool :=
  (bs.zipIdx).all (fun p => decide (p.1 = 0) || rs.any (fun r => decide (r.1 ≤ p.2 ∧ p.2 < r.1 + r.2)))

/-- Reserved bits of AUX and PARAM (R115). -/
def laneRsvOk (x : Sub) : Bool := (decide (x.func ≤ 0x0802) || decide (x.aux = 0)) && zeroOutside x.param (laneParams x.func)

/-- A GCM function. -/
def isGcm (f : Nat) : Bool := decide (f = 0x0803 ∨ f = 0x0804)

/-- AAD octets of a GCM request, and where they lie. -/
def aadLen (x : Sub) : Nat := if isGcm x.func then le x.param 0x18 4 else 0
def aadAddr (x : Sub) : Nat := if isGcm x.func then le x.param 0x10 8 else 0

/-- Data-unit octets of an XTS request. -/
def duSize (x : Sub) : Nat := le x.param 0 4

/-- The length rules of R115 and R254. -/
def laneLengthOk (x : Sub) : Bool :=
  decide (x.inLen ≤ 16777216) && decide (x.inLen ≤ x.outMax) &&
  match x.func with
  | 0x0801 | 0x0802 =>
    decide (duSize x % 16 = 0 ∧ 512 ≤ duSize x ∧ duSize x ≤ 65536) && decide (x.inLen ≠ 0 ∧ x.inLen % duSize x = 0)
  | 0x0803 | 0x0804 => decide (aadLen x ≤ 65536)
  | 0x0805 => decide (1 ≤ x.inLen)
  | 0x0806 | 0x0807 => decide (x.inLen ≠ 0 ∧ x.inLen % 16 = 0)
  | _ => decide (x.inLen ≠ 0 ∧ x.inLen % 8 = 0)

/-- The AAD address is non-zero where used and zero where unused (R89 check 9). -/
def laneAddrOk (x : Sub) : Bool := decide (decide (aadLen x ≠ 0) = decide (aadAddr x ≠ 0))

/-- Octets of the largest chunk of a mode (R251). -/
def chunkSize (x : Sub) : Nat :=
  match x.func with
  | 0x0801 | 0x0802 => 65536 / max 1 (duSize x) * duSize x
  | 0x0806 => 2048
  | 0x0808 => 512
  | _ => 65536

/-- The next chunk of an operation: whether it is AAD, its address and its length. -/
def nextChunk (w : Work) : Bool × Nat × Nat :=
  if aadLen w.sub ≠ 0 ∧ w.aad = false then (true, aadAddr w.sub, aadLen w.sub)
  else (false, w.sub.inAddr + w.pos, min (chunkSize w.sub) (w.sub.inLen - w.pos))

/-- Octets an operation still has to do. -/
def outstanding (w : Work) : Nat := w.sub.inLen - w.pos

/-- K1 and K2 of an XTS operation, from the record's material (R253). -/
def xtsKeys (material : List Byte) : List Byte := kdf material (ascii "THIZEN-XTS") [] 64

/-- The role of KEY0 (R253). -/
def laneRole (f : Nat) (r : KRec) : Bool :=
  decide (usageClass r.usage = 9) && usageIs r 'D' '0' && modeIn r (if f % 2 = 1 ∧ f ≠ 0x0807 ∧ f ≠ 0x0809 ∨ f = 0x0806 ∨ f = 0x0808 then ['E', 'B'] else ['D', 'B']) &&
  (match f with
    | 0x0801 | 0x0802 => decide (r.type = 5) &&
        decide (octets (xtsKeys r.material) 0 32 ≠ octets (xtsKeys r.material) 32 32)
    | 0x0808 | 0x0809 => isTdes r.type
    | _ => isAes r.type)

/-- Octets of CTR key stream from a block count on. -/
def ctrStream (key : List Byte) (counter : Nat → Nat) (from_ n : Nat) : List Byte :=
  ((List.range ((n + 15) / 16)).flatMap (fun j => encBlock true key (beBytes 16 (counter (from_ + j))))).take n

/-- The counter block of GCM text block j (SP 800-38D): the IV and a 32-bit count from 2. -/
def gcmCounter (iv : List Byte) (j : Nat) : Nat := beNat iv * 2 ^ 32 + (2 + j) % 2 ^ 32

/-- One chunk: its output and the running state after it (R251). The state is the last ciphertext block for CBC and the GHASH
accumulator for GCM. -/
def runChunk (w : Work) (key d : List Byte) : List Byte × List Byte :=
  let x := w.sub
  let p := x.param
  match x.func with
  | 0x0801 | 0x0802 =>
    let du := duSize x
    let keys := xtsKeys key
    ((List.range (d.length / max 1 du)).flatMap (fun j =>
      octets (Config.xtsUnit (decide (x.func = 0x0801)) keys (x.aux + w.pos / max 1 du + j) (octets d (du * j) du)) 0 du), [])
  | 0x0803 | 0x0804 =>
    if aadLen x ≠ 0 ∧ w.aad = false then ([], octets (Config.ghash key w.ckpt d) 0 16) else
    let y := xorBytes d (ctrStream key (gcmCounter (octets p 0 12)) (w.pos / 16) d.length)
    (y, octets (Config.ghash key w.ckpt (if x.func = 0x0803 then y else d)) 0 16)
  | 0x0805 => (xorBytes d (ctrStream key (fun j => (be p 0 16 + j) % 2 ^ 128) (w.pos / 16) d.length), [])
  | f =>
    let aes := decide (f = 0x0806 ∨ f = 0x0807)
    let b := if aes then 16 else 8
    let iv := if w.pos = 0 then octets p 0 b else w.ckpt
    if f % 2 = 0 then
      let y := cbcEnc aes key iv (blocksOf b d)
      (y, octets y (y.length - b) b)
    else (cbcDec aes key iv (blocksOf b d), octets d (d.length - b) b)

/-- The end of an operation whose every chunk is done (R116). -/
def laneResult (w : Work) : FnRes :=
  let x := w.sub
  let tag := octets (Config.gcmTag (w.key 0).rec_.material (octets x.param 0 12) w.ckpt (aadLen x) x.inLen) 0 16
  match x.func with
  | 0x0803 => { out := tag, wrote := some w.pos }
  | 0x0804 => { status := if tag = octets x.param 0x20 16 then 0 else St.tagMismatch, wrote := some w.pos }
  | _ => { wrote := some w.pos }

/-! ### Group 0x09 -/

/-- The rows of R364; STEP_CU is 2. -/
def digestFnRow (f : Nat) : Option FnRow :=
  match f with
  | 0x0901 => some { unit := .digest, cycles := 100, twin := false, keys := [], inMin := 0, inMax := 4096, out := 0 }
  | 0x0902 => some { unit := .digest, cycles := 100, twin := false, keys := [0], inMin := 0, inMax := 4096, out := 0 }
  | 0x0903 => some { unit := .digest, cycles := 100, twin := false, keys := [0], inl := some false, inMin := 0, inMax := 4096, out := 0 }
  | 0x0904 => some { unit := .random, cycles := 100, twin := false, keys := [], inl := some true, inMin := 0, inMax := 0, out := 0 }
  | _ => none

/-- ALG, MAC_LEN and COUNT of AUX. -/
def dgAlg (x : Sub) : Nat := x.aux % 256
def dgMacLen (x : Sub) : Nat := x.aux / 256 % 256
def dgCount (x : Sub) : Nat := x.aux / 2 ^ 16 % 2 ^ 16

/-- Digest octets and block octets of an ALG (R349). -/
def dgLen (alg : Nat) : Nat := match alg with | 1 | 4 => 32 | 2 => 48 | _ => 64
def dgBlockLen (alg : Nat) : Nat := match alg with | 1 => 64 | 4 => 136 | _ => 128
/-- Octets of the saved state (R349). -/
def dgStateLen (alg : Nat) : Nat := match alg with | 1 => 32 | 4 => 200 | _ => 64

/-- Reserved bits of AUX and PARAM (R364). -/
def digestRsvOk (x : Sub) : Bool :=
  if x.func = 0x0904 then decide (x.aux % 2 ^ 16 = 0) && decide (x.aux / 2 ^ 32 = 0) && allZero x.param
  else decide (x.aux / 2 ^ 16 = 0) &&
    (if x.func = 0x0903 then true else allZero (x.param.drop (if x.inl then min x.inLen 64 else 0)))

/-- ALG is one the function allows (R89 check 3, R364). -/
def digestAlgOk (x : Sub) : Bool :=
  match x.func with
  | 0x0901 => decide (1 ≤ dgAlg x ∧ dgAlg x ≤ 4)
  | 0x0902 | 0x0903 => decide (1 ≤ dgAlg x ∧ dgAlg x ≤ 3)
  | _ => true

/-- RBYTES of digest work. -/
def digestOut (x : Sub) : Nat :=
  match x.func with
  | 0x0901 => dgLen (dgAlg x)
  | 0x0902 => dgMacLen x
  | 0x0904 => dgCount x
  | _ => 0

/-- The length rules of R364. -/
def digestLengthOk (x : Sub) : Bool :=
  decide (digestOut x ≤ x.outMax) &&
  match x.func with
  | 0x0901 => decide (dgMacLen x = 0)
  | 0x0904 => decide (1 ≤ dgCount x ∧ dgCount x ≤ 192)
  | _ => decide (16 ≤ dgMacLen x ∧ dgMacLen x ≤ dgLen (dgAlg x)) &&
      (decide (x.func = 0x0902) || allZero (x.param.drop (dgMacLen x)))

/-- The role of KEY0 (R358, R364). -/
def hmacRole (alg : Nat) (modes : List Char) (r : KRec) : Bool :=
  decide (usageClass r.usage = 8) && usageIs r 'M' '7' && modeIn r modes && decide (r.alg = alg)

/-- The role a digest function needs. -/
def digestRole (x : Sub) (r : KRec) : Bool := hmacRole (dgAlg x) (if x.func = 0x0903 then ['V', 'C'] else ['G', 'C']) r

/-- The chaining value after whole blocks. -/
def dgRun (alg : Nat) (chain d : List Byte) : List Byte :=
  (blocksOf (dgBlockLen alg) d).foldl (fun c b => octets (Config.dgBlock alg c b) 0 (dgStateLen alg)) chain

/-- A digest ended: a chaining value, the octets of the message from a block boundary on, and those before it. -/
def dgEnd (alg : Nat) (chain d : List Byte) (before : Nat) : List Byte :=
  let n := d.length / dgBlockLen alg * dgBlockLen alg
  octets (Config.dgFinal alg (dgRun alg chain d) (d.drop n) (before + d.length)) 0 (dgLen alg)

/-- The digest of a message. -/
def digestOf (alg : Nat) (m : List Byte) : List Byte := dgEnd alg (octets (Config.dgInit alg) 0 (dgStateLen alg)) m 0

/-- The key block of HMAC: a longer key is digested first (R358). -/
def hmacKey (alg : Nat) (k : List Byte) : List Byte :=
  octets (if dgBlockLen alg < k.length then digestOf alg k else k) 0 (dgBlockLen alg)

/-- The chaining value after a pad block of HMAC. -/
def hmacPad (alg : Nat) (k : List Byte) (pad : Byte) : List Byte :=
  dgRun alg (octets (Config.dgInit alg) 0 (dgStateLen alg)) ((hmacKey alg k).map (fun b => b ^^^ pad))

/-- The outer pass. -/
def hmacOuter (alg : Nat) (outer inner : List Byte) : List Byte := dgEnd alg outer inner (dgBlockLen alg)

/-- HMAC of a message (FIPS 198-1). -/
def hmacOf (alg : Nat) (k m : List Byte) : List Byte :=
  hmacOuter alg (hmacPad alg k 0x5C) (dgEnd alg (hmacPad alg k 0x36) m (dgBlockLen alg))

/-- The result of digest work. -/
def digestResult (w : Work) : FnRes :=
  let x := w.sub
  let alg := dgAlg x
  let k := (w.key 0).rec_.material
  match x.func with
  | 0x0901 => { out := digestOf alg w.input }
  | 0x0902 => { out := octets (hmacOf alg k w.input) 0 (dgMacLen x) }
  | _ => { status := if octets (hmacOf alg k w.input) 0 (dgMacLen x) = octets x.param 0 (dgMacLen x) then 0 else St.macNotVerified }

/-- Octets of one digest chunk: 16 blocks (R365). -/
def digestChunk (x : Sub) : Nat := 16 * dgBlockLen (dgAlg x)

end Sys2Proof.Machine
end

