-- ==== Sys2Proof/Machine/PkBase.lean ====
section
/-!
DEFINITION. Public-key work: contexts of the units, the functions of group 0x0A, and their record checks (R378 to R388).
-/
namespace Sys2Proof.Machine

/-- The requests that hold a context of a unit: context and request number. -/
def pkHeld (s : State) (u : Nat) : List (Nat × Nat × Work) :=
  s.wk.works.filterMap (fun p => match p.2.pkUnit with
    | some (v, c) => if v = u ∧ p.2.phase ≠ .ended then some (c, p.1, p.2) else none
    | none => none)

/-- A key type's operation is long: more than 256 unit steps, or as many as the data say (R378, R383). -/
def longType (t : Nat) : Bool := decide (t = 8 ∨ t = 9 ∨ t = 23)

/-- The unit operation of a request not yet granted would be long (R378); one that is granted keeps what it was in `Work.long`. -/
def pkLong (s : State) (w : Work) : Bool :=
  let t := (krec s (handleIndex w.sub.key0)).type
  match w.sub.func with
  | 0x0A01 => longType t
  | 0x0A04 => longType t
  | 0x0704 => decide (7 ≤ le w.input 4 1 ∧ le w.input 4 1 ≤ 9)
  | 0x0705 => decide (le w.input 0x40 1 = 4) && longType t
  | _ => match w.src with
    | .handshake e => ((tblGet s.pt.eps e).bind (·.hello)).any (fun h =>
        longType (krec s (handleIndex (tget {} s.pt.ports h.port).signKey)).type)
    | _ => false

/-- The test of a key a port signs with, as it was read (R216, R276, R301). -/
def signTest (owner : Nat) (k : KeyRead) : Option (Nat × Nat) :=
  let r := k.rec_
  keyTests owner [(1, k, false, decide (usageClass r.usage = 11) && usageIs r 'S' '0' && modeIn r ['S'] && decide (r.type = 14 ∨ r.type = 23))]

/-- The request needs a context when it is granted (R384). -/
def pkNeeds (w : Work) : Bool :=
  decide (w.sub.func / 256 = 0x0A) || (decide (w.sub.func = 0x0704 ∨ w.sub.func = 0x0705) && decide (w.stepsDone = 0)) ||
    (match w.src with | .handshake _ => true | _ => false)

/-- Base-note or long, which share four contexts of a unit (R378). -/
def pkLimited (s : State) (w : Work) : Bool := decide (w.note = 2) || pkLong s w

/-- The same of an operation that stands in a context. -/
def heldLimited (w : Work) : Bool := decide (w.note = 2) || w.long

/-- The lowest free data context of a unit. -/
def pkFree (s : State) (u : Nat) : Option Nat :=
  ([1, 2, 3, 4, 5, 6, 7] : List Nat).find? (fun c => !(pkHeld s u).any (fun h => decide (h.1 = c)))

/-- A unit can take the request: a data context is free, and R378 lets it in. -/
def pkTakes (s : State) (w : Work) (u : Nat) : Bool :=
  !(pkUnit s u).retired && (pkFree s u).isSome &&
    (!pkLimited s w || decide (((pkHeld s u).filter (fun h => heldLimited h.2.2)).length < 4))

/-- The unit with the fewest occupied contexts, the lower number on a tie (R384). -/
def fewest (s : State) : List Nat → Option Nat
  | [] => none
  | u :: t => match fewest s t with
    | none => some u
    | some v => if (pkHeld s u).length ≤ (pkHeld s v).length then some u else some v

/-- The unit a granted request goes to. -/
def pkChoose (s : State) (w : Work) : Option Nat := fewest s ((List.range 64).filter (pkTakes s w))

/-- Give a request a context of a unit. -/
def pkAssign (id u : Nat) (s : State) : State :=
  match pkFree s u with
  | some c => modWork id (fun w => { w with pkUnit := some (u, c), pkDone := 0 }) s
  | none => s

/-- A granted request takes its context; work of the units alone begins there (R384). -/
def pkGrant (id : Nat) (s : State) : State :=
  match work s id with
  | none => s
  | some w =>
    if !pkNeeds w ∨ w.pkUnit.isSome then s else
    match pkChoose s w with
    | some u => modWork id (fun x => { x with phase := if x.unit = .pk then .unit else x.phase, long := pkLong s w }) (pkAssign id u s)
    | none => s

/-! ### Group 0x0A (R386 to R388) -/

/-- Hash octets of a HASH field. -/
def hashLen (h : Nat) : Nat := match h with | 1 => 32 | 2 => 48 | 3 => 64 | _ => 0

/-- Signature octets of a type (R386). -/
def sigOctets (t : Nat) : Nat :=
  match t with
  | 13 | 16 => 64 | 14 | 17 => 96 | 15 | 18 => 132 | 23 | 24 => 3309 | _ => rsaLen t

/-- The rows of R386. The charge is 4 CU (R385). -/
def pkFnRow (f : Nat) : Option FnRow :=
  match f with
  | 0x0A01 | 0x0A03 | 0x0A04 =>
    some { unit := .pk, cycles := 200, twin := false, keys := [0], inMin := 17, inMax := 4096, out := 1 }
  | 0x0A02 => some { unit := .pk, cycles := 200, twin := false, keys := [0], inMin := 17, inMax := 4096, out := 0 }
  | _ => none

/-- The lengths that no key decides: DATA_LEN, SIG_LEN and OUT_MAX (R386, R387). Where HASH names none, its own check refuses it. -/
def pkPlainLengths (x : Sub) (p : List Byte) : Bool :=
  let data := le p 4 2
  let h := hashLen (le p 1 1)
  let signs := decide (x.func = 0x0A01 ∨ x.func = 0x0A02)
  let exact := if le p 0 1 = 4 then 64 else h
  decide (1 ≤ data) && (!signs || decide (le p 2 1 ≠ 1) || decide (exact = 0) || decide (data = exact)) &&
  decide (x.func = 0x0A02 ∨ le p 6 2 = 0) && decide (x.func ≠ 0x0A02 ∨ x.outMax = 0)

/-- The record checks of group 0x0A (R89 check 8, R387): the length sum and the lengths that no key decides, then the fields. -/
def pkFnCheck (x : Sub) (p : List Byte) : Option (Nat × Nat) :=
  let sc := le p 0 1
  let h := le p 1 1
  if x.inLen ≠ 16 + le p 8 1 + le p 4 2 + le p 6 2 ∨ pkPlainLengths x p = false then some (St.lengthInvalid, 0) else
  firstBad [(0, decide (if x.func = 0x0A03 ∨ x.func = 0x0A04 then sc = 2 else sc ∈ [1, 3, 4])),
    (1, decide (if sc = 4 then h = 0 else 1 ≤ h ∧ h ≤ 3)), (2, decide (le p 2 1 ≤ if sc = 2 then 0 else 1)),
    (3, decide (le p 3 1 ≤ if sc = 1 then hashLen h else 0)),
    (8, decide (le p 8 1 ≤ if sc = 4 then 255 else if sc = 2 then 64 else 0)), (9, allZero (octets p 9 7))]

/-- A SCHEME fits a key's type (R386). -/
def schemeFits (sc t : Nat) : Bool :=
  match sc with
  | 1 | 2 => decide (rsaLen t ≠ 0)
  | 3 => decide (t ∈ [13, 14, 15, 16, 17, 18])
  | _ => decide (t = 23 ∨ t = 24)

/-- The role of KEY0 (R386). -/
def pkRole (f : Nat) (r : KRec) : Bool :=
  match f with
  | 0x0A01 => decide (usageClass r.usage = 11) && modeIn r ['S'] && isPrivate r.type
  | 0x0A02 => decide (usageClass r.usage = 11) && modeIn r ['V'] && isPublic r.type
  | 0x0A03 => decide (usageClass r.usage = 13) && modeIn r ['E'] && isPublic r.type
  | _ => decide (usageClass r.usage = 13) && modeIn r ['D'] && isPrivate r.type

/-- The lengths of R386 and R387 that depend on the key. -/
def pkLengths (x : Sub) (p : List Byte) (t : Nat) : Bool :=
  let h := hashLen (le p 1 1)
  let data := le p 4 2
  let formOk := if le p 2 1 = 1 then decide (data = if le p 0 1 = 4 then 64 else h) else decide (1 ≤ data)
  match x.func with
  | 0x0A01 => formOk && decide (le p 6 2 = 0) && decide (sigOctets t ≤ x.outMax)
  | 0x0A02 => formOk && decide (le p 6 2 = sigOctets t) && decide (x.outMax = 0)
  | 0x0A03 => decide (1 ≤ data ∧ data + 2 * h + 2 ≤ rsaLen t) && decide (le p 6 2 = 0) && decide (rsaLen t ≤ x.outMax)
  | _ => decide (data = rsaLen t) && decide (le p 6 2 = 0) && decide (rsaLen t ≤ x.outMax + 2 * h + 2)

/-- Attempts of an ML-DSA-65 signature, from a free value, and whether none of the 814 was accepted (R383, R388). -/
def dsaAttempts (v : Nat) : Nat × Bool := (min 814 (1 + v % 815), decide (v % 815 = 814))

/-- Unit steps of an operation of group 0x0A, those of an ML-DSA signature being 5 and one for each attempt (R383), and whether the attempts
are used up. -/
def pkSteps (f t : Nat) (s : State) : (Nat × Bool) × State :=
  match f, t with
  | 0x0A01, 23 => let q := draw s
                  ((5 + (dsaAttempts q.1).1, (dsaAttempts q.1).2), q.2)
  | 0x0A01, 13 => ((13, false), s) | 0x0A01, 14 => ((30, false), s) | 0x0A01, 15 => ((64, false), s)
  | 0x0A02, 16 => ((9, false), s) | 0x0A02, 17 => ((21, false), s) | 0x0A02, 18 => ((45, false), s) | 0x0A02, 24 => ((3, false), s)
  | _, 7 => ((122, false), s) | _, 8 => ((366, false), s) | _, 9 => ((781, false), s)
  | _, 10 => ((2, false), s) | _, 11 => ((3, false), s) | _, _ => ((4, false), s)

/-- The checks of an operation's first unit step: the refusal, or how many steps it takes (R216, R382, R386, R387). -/
def pkStart (w : Work) (s : State) : ((Nat × Nat) ⊕ (Nat × Bool)) × State :=
  let r := (w.key 0).rec_
  match keyTests w.sub.domain [(1, w.key 0, false, pkRole w.sub.func r)] with
  | some e => (.inl e, s)
  | none =>
    if !schemeFits (le w.input 0 1) r.type then (.inl (St.usageForbidden, 1), s)
    else if !pkLengths w.sub w.input r.type then (.inl (St.lengthInvalid, 0), s)
    else if isPublic r.type && !pubKeyValid r.type r.material then (.inl (St.publicKeyInvalid, 1), s)
    else let q := pkSteps w.sub.func r.type s
         (.inr q.1, q.2)

/-- An operation draws random values (R380): ECDSA and ML-DSA signatures, a PSS salt that is not empty, OAEP encryption, key pairs and
handshakes. -/
def pkDraws (w : Work) : Bool :=
  match w.src with
  | .handshake _ => true
  | _ => match w.sub.func with
    | 0x0A01 => decide (rsaLen (w.key 0).rec_.type = 0 ∨ le w.input 3 1 ≠ 0)
    | 0x0A03 | 0x0704 => true
    | _ => false

/-- What an operation of group 0x0A ends with (R386, R388). -/
def pkResult (w : Work) : FnRes :=
  let r := (w.key 0).rec_
  match w.sub.func with
  | 0x0A01 =>
    if w.pkSpent then { status := St.pkAttemptsExhausted } else
    { out := octets (Config.pkSign r.type r.material w.input w.pkSeed) 0 (sigOctets r.type) }
  | 0x0A02 => if Config.pkVerify r.type r.material w.input then {} else { status := St.signatureNotVerified }
  | 0x0A03 => { out := octets (Config.pkEncrypt r.material w.input w.pkSeed) 0 (rsaLen r.type) }
  | _ => match Config.pkDecrypt r.material w.input with
    | some m => { out := m }
    | none => { status := St.decryptFailed }

end Sys2Proof.Machine
end

