-- ==== Sys2Proof/Machine/Functions.lean ====
section
/-!
DEFINITION. The functions as one table: what each declares, its checks, and the run of its steps; customer programs and accord
chains among them (R88, R89, R114, R122 to R127, R153 to R156, R181, R182, R224, R328, R364, R386).
-/
namespace Sys2Proof.Machine

/-! ### The table -/

/-- The installed customer program of a function at a set version (R123, R148). -/
def progAt (s : State) (f v : Nat) : Option Prog :=
  s.en.progs.find? (fun p => decide (p.func = f ∧ p.added ≤ v) && !(p.gone.any (fun g => decide (g ≤ v))))

/-- The customer program the grate knows. -/
def progNow (s : State) (f : Nat) : Option Prog := progAt s f s.en.setVer

/-- Octets of a customer program's output record (R122). -/
def Prog.record (p : Prog) : Nat := p.fields.foldl (fun m f => max m (f.1 + f.2)) 0

/-- The row of a customer program. -/
def progRow (p : Prog) : FnRow :=
  { cycles := p.cycles, twin := p.twin, top := p.topok, steps := p.steps, keys := [0, 1, 2], inMin := 0, inMax := 4096
    out := p.record }

/-- The row of a batch entry (R99). -/
def batchRow (f : Nat) : Option FnRow :=
  if f = 0x0B01 ∨ f = 0x0B02 then
    some { cycles := 0, twin := false, keys := [], inl := some false, inMin := 0, inMax := 524288, out := 0 } else none

/-- The row of a vendor function. -/
def vendorRow (f : Nat) : Option FnRow :=
  (pinFnRow f).or ((cryptoFnRow f).or ((keyFnRow f).or ((laneFnRow f).or ((digestFnRow f).or ((pkFnRow f).or (batchRow f))))))

/-- The row of a function; none when it is undefined (R18, R123). -/
def fnRow (s : State) (f : Nat) : Option FnRow := if isCustomer f then (progNow s f).map progRow else vendorRow f

/-- A function is defined (R89 check 1). -/
def fnDefined (s : State) (f : Nat) : Bool := (fnRow s f).isSome

/-- What runs a function's steps. -/
def fnUnit (f : Nat) : UnitKind := ((vendorRow f).map (·.unit)).getD .engine

/-- STEP_CYCLES. -/
def fnCycles (s : State) (f : Nat) : Nat := ((fnRow s f).map (·.cycles)).getD 0

/-- TWIN (R128). -/
def fnTwin (s : State) (f : Nat) : Bool := (fnRow s f).any (·.twin)

/-- TOPOK (R43). -/
def fnTopOk (s : State) (f : Nat) : Bool := (fnRow s f).any (·.top)

/-- The program a request runs whose first step ran in a cluster with set `v`: the one that set held, or the newest where it is gone
(R148, log entry 39). -/
def progFor (s : State) (f v : Nat) : Option Prog := (progAt s f v).or (progNow s f)

/-- The row of a function in a customer program set. -/
def fnRowAt (s : State) (v f : Nat) : Option FnRow :=
  if isCustomer f then (progFor s f v).map progRow else vendorRow f

/-- The steps of a request in a customer program set; a row with 0 says that they depend on the data (R122, R191). -/
def fnStepsAt (s : State) (v : Nat) (x : Sub) (input : List Byte) : Nat :=
  match (fnRowAt s v x.func).map (·.steps) with
  | some 0 =>
    if isCustomer x.func then
      min 15 (max 1 (Config.progSteps (((progFor s x.func v).map (·.code)).getD []) input))
    else if x.func = 0x0704 ∨ x.func = 0x0705 then 2
    else macSteps x.inLen
  | some n => n
  | none => 1

/-- The steps of a request in the newest set. -/
def fnSteps (s : State) (x : Sub) (input : List Byte) : Nat := fnStepsAt s s.en.setVer x input

/-- The versions of a customer program in the program store, two during a rollout (R123, R148). -/
def versionsOf (s : State) (f : Nat) : List Prog := s.en.progs.filter (fun p => decide (p.func = f))

/-- The version of a function's program that a cluster with a vendor image and a customer program set holds, if it holds one (R148). -/
def heldVersion (s : State) (vend set_ f : Nat) : Option Nat :=
  if isCustomer f then (progAt s f set_).map (·.version) else some vend

/-- The version of a function's program that a request runs (R134, R148). -/
def progVersion (s : State) (vend set_ f : Nat) : Nat :=
  if isCustomer f then ((progFor s f set_).map (·.version)).getD 0 else vend

/-! ### The checks of the grate that each function gives (R88, R89, R115, R364) -/

/-- Reserved bits of AUX. -/
def auxOk (x : Sub) : Bool :=
  if isCustomer x.func ∨ x.func / 256 = 4 ∨ x.func / 256 = 8 ∨ x.func / 256 = 9 then true
  else if x.func ∈ [0x0104, 0x0105, 0x0709] then decide (x.aux ≤ 1) else decide (x.aux = 0)

/-- Check 2's part of a function: key fields no option names, AUX and PARAM. -/
def fnKeysOk (s : State) (x : Sub) : Bool :=
  let ks := ((fnRow s x.func).map (·.keys)).getD []
  (decide (0 ∈ ks) || decide (x.key0 = 0)) && (decide (1 ∈ ks) || decide (x.key1 = 0)) && (decide (2 ∈ ks) || decide (x.key2 = 0)) &&
  auxOk x &&
  (if x.func / 256 = 8 then laneRsvOk x else if x.func / 256 = 9 then digestRsvOk x
   else allZero (x.param.drop (if x.inl then min x.inLen 64 else 0)))

/-- Check 3's part of a function. -/
def fnRangeOk (x : Sub) : Bool := decide (x.func / 256 ≠ 9) || digestAlgOk x

/-- Check 7: INL. -/
def fnInlOk (s : State) (x : Sub) : Bool := ((fnRow s x.func).bind (·.inl)).all (fun b => decide (x.inl = b))

/-- Check 8's part of a function. -/
def fnLengthOk (s : State) (x : Sub) : Bool :=
  match fnRow s x.func with
  | none => false
  | some r => decide (r.inMin ≤ x.inLen ∧ x.inLen ≤ r.inMax ∧ r.out ≤ x.outMax) &&
      (if x.func / 256 = 8 then laneLengthOk x else if x.func / 256 = 9 then digestLengthOk x else true)

/-- Check 9's part of a function. -/
def fnAddrOk (x : Sub) : Bool := decide (x.func / 256 ≠ 8) || laneAddrOk x

/-- The most output octets a customer function has. -/
def fnMaxOut (s : State) (x : Sub) : Nat := ((progNow s x.func).map Prog.record).getD 0

/-- The record checks of a function's chapter (R156, R182, R387). -/
def recordCheck (s : State) (x : Sub) (input : List Byte) : Option (Nat × Nat) :=
  if isCustomer x.func then none else
  match x.func / 256 with
  | 1 | 2 => pinFnCheck s x input
  | 3 => if x.func = 0x0310 ∨ x.func = 0x0311 then cryptoFnCheck x input else pinFnCheck s x input
  | 4 | 5 | 6 => cryptoFnCheck x input
  | 7 => keyFnCheck s x input
  | 10 => pkFnCheck x input
  | _ => none

/-! ### Running a function -/

/-- The tests of a customer program's keys: each field it names, of a class in KEYTYPES (R127, R213, R216). -/
def progKeys (p : Prog) (w : Work) : List (Nat × KeyRead × Bool × Bool) :=
  (([(1, w.sub.key0), (2, w.sub.key1), (3, w.sub.key2)].zipIdx).filter (fun q => decide (q.1.2 ≠ 0))).map (fun q =>
    let k := w.key q.2
    (q.1.1, k, false, bitOf p.keyTypes (usageClass k.rec_.usage)))

/-- A status a program may end with (R16, R17): OK, or a code of classes 0x02 to 0x08 that is not 0x00. A program's own status is a
free value inside those bounds. -/
def progStatus (raw : Nat) : Nat := if 2 ≤ raw / 256 ∧ raw / 256 ≤ 8 ∧ raw % 256 ≠ 0 then raw else St.ok

/-- A key register of an engine: its material and the class of the key it came from (R420). -/
structure KeyReg where
  key : List Byte
  cls : Nat

/-- An operation removes the PIN tag under a key of a class (R421). -/
def releases (op : Config.CipherOp) (cls : Nat) : Bool :=
  match op with
  | .sealPin => decide (cls = 0)
  | .sealIcc => decide (cls = 7)
  | .verification => decide (cls = 1)
  | .test => true
  | _ => false

/-- What a customer program ended with: status, output record, whether that carries a PIN tag or is marked. -/
structure ProgEnd where
  status : Nat
  out    : List Byte
  pin    : Bool

/-- Run a customer program (R420, R421): its instructions see the results of cipher operations and never a key register. A value is computed
from tagged ones when without them it would be another. The fuel bounds its operations by its issue cycles; without any left it has
overrun (R134). -/
def progRun : Nat → List Byte → Nat → List Byte → List KeyReg → List (List Byte × Bool) → ProgEnd
  | 0, _, _, _, _, _ => ⟨St.programFault, [], false⟩
  | n + 1, code, aux, input, regs, rs =>
    let op := Config.progNext code aux input (rs.map (·.1))
    let tagged := decide (op ≠ Config.progNext code aux input (rs.map (fun r => if r.2 then [] else r.1)))
    match op with
    | .finish st out marked => ⟨st, out, tagged || marked⟩
    | .cipher c r data =>
      let k := regs.getD r ⟨[], 0⟩
      let tag := (decide (c = .openPin) && decide (k.cls = 0)) || (tagged && !releases c k.cls)
      progRun n code aux input regs (rs ++ [(Config.cipherUnit c k.key data, tag)])
    | .derive o r dst data =>
      let k := regs.getD r ⟨[], 0⟩
      progRun n code aux input (regs.set dst ⟨Config.keyDerive o k.key data, k.cls⟩) rs

/-- The key registers a customer program begins with: its three keys, and as many more to derive into (R420, log entry 103). -/
def progRegs (w : Work) : List KeyReg :=
  ([0, 1, 2].map (fun j => let r := (w.key j).rec_
                           ⟨r.material, usageClass r.usage⟩)) ++ List.replicate 29 ⟨[], 0⟩

/-- The step of a customer program (R122, R127): the version of its cluster, or where that holds none the newest in the program
store. -/
def runProg (w : Work) (s : State) : StepRes × State :=
  match progFor s w.sub.func w.version with
  | none => (fail St.programFault 0, s)
  | some p =>
    withKeys w.sub.domain (progKeys p w) s (fun _ =>
      if w.stepsDone + 1 < fnStepsAt s w.version w.sub w.input then (.more, s) else
      let r := progRun (p.cycles * (w.stepsDone + 1)) p.code w.sub.aux w.input (progRegs w) []
      let st := progStatus r.status
      (.done { status := st, out := if statusGood st then octets r.out 0 p.record else [], pin := r.pin }, s))

/-- A part of the batch that stands before `idx` changes the record at index `i`: it names it for a change, or has handed one over. -/
def earlierChange (s : State) (b : Nat) (idx i : Nat) : Bool :=
  match batch s b with
  | none => false
  | some y =>
    (y.parts.take idx).any (fun x => decide (x.func ∈ [0x0706, 0x0708, 0x0709]) && decide (x.key0 ≠ 0 ∧ handleIndex x.key0 = i)) ||
    (y.works.filter (fun q => decide (q.1 < idx))).any (fun q =>
      s.ks.changes.any (fun c => decide (c.work = some q.2) && decide (c.kind.index = i)))

/-- The field of a part that names a record which an earlier part of its own atomic batch creates or changes (R142). -/
def ownChange (s : State) (w : Work) : Option Nat :=
  match atomicOf s w, w.src with
  | some b, .part _ idx => ([w.sub.key0, w.sub.key1, w.sub.key2].findIdx? (fun h => decide (h ≠ 0) &&
      earlierChange s b idx (handleIndex h))).map (· + 1)
  | _, _ => none

/-- The step of a function, before the limiter counts its result. -/
def runBody (id : Nat) (w : Work) (s : State) : StepRes × State :=
  if isCustomer w.sub.func then runProg w s else
  match w.sub.func / 256 with
  | 1 => runPinFn w s
  | 2 => runCardFn w s
  | 3 => if w.sub.func = 0x0310 ∨ w.sub.func = 0x0311 then runP2peFn w s else runPinFn w s
  | 4 => runEmvFn w s
  | 5 => runMacFn w s
  | 6 => runTokenFn w s
  | 7 => runKeyFn id w s
  | _ => (fail St.grateRange 0, s)

/-- One step of a function, its result counted by the limiter (R172, R175). -/
def runFn (id : Nat) (w : Work) (s : State) : StepRes × State :=
  match ownChange s w with
  | some k => (fail St.usageForbidden k, s)
  | none =>
    let q := runBody id w s
    match q.1 with
    | .done r => (q.1, limResult w r.status q.2)
    | _ => q

/-! ### Chains (R328 to R332) -/

/-- The request that stands for one chain step: its keys, AUX and input from the maps (R321, R322, R329). -/
def chainWork (s : State) (w : Work) (m : Msg) (plan : ChainPlan) (k : Nat) : Work × AStep :=
  let t := m.accord.steps.getD k ⟨0, [], 0, 0, 0, 0⟩
  let q := stepInput m.accord t m.fields m.results
  let x := { plan.subs.getD k { func := 0 } with aux := leNat q.2 }
  let reads := [x.key0, x.key1, x.key2].map (fun h => (w.keys.find? (fun r => decide (r.handle = h))).getD (keyRead s h))
  ({ w with sub := x, input := q.1, keys := reads, stepsDone := fnSteps s x q.1 - 1, plan := none }, t)

/-- A status that ends a chain whatever ON_FAIL says (R332). -/
def forcesRefusal (st : Nat) : Bool := decide (st / 256 = 4 ∨ st = St.twinRetried ∨ st = St.programFault)

/-- What a chain's results say so far (R332). -/
inductive ChainEnd where
  /-- every step that ran lets the next run; the status is that of the first failure that continued -/
  | go (status detail : Nat) (step : Option Nat)
  | refused (status detail step : Nat)
  | referred (status detail step : Nat)
  deriving DecidableEq, Repr

/-- One more result. -/
def ChainEnd.add (a : Accord) (e : ChainEnd) (r : StepRec) : ChainEnd :=
  match e with
  | .go st d k =>
    if statusGood r.status then e
    else
      let onFail := ((a.steps[r.step]?).map (·.onFail)).getD 0
      if forcesRefusal r.status || decide (onFail = 0) then .refused r.status r.detail r.step
      else if onFail = 1 then .referred r.status r.detail r.step
      else if st = 0 then .go r.status r.detail (some r.step) else .go st d k
  | _ => e

/-- What a chain's results say. -/
def chainEndOf (a : Accord) (rs : List StepRec) : ChainEnd := rs.foldl (ChainEnd.add a) (.go 0 0 none)

/-- Change a message in flight. -/
def modMsg (m : Nat) (f : Msg → Msg) (s : State) : State :=
  match tblGet s.ad.msgs m with
  | some x => { s with ad.msgs := tblPut s.ad.msgs m (f x) }
  | none => s

/-- Run one function of a chain and keep its result. -/
def runChainFn (id mid : Nat) (w : Work) (plan : ChainPlan) (k : Nat) (s : State) : State :=
  match tblGet s.ad.msgs mid with
  | none => s
  | some m =>
    let (x, t) := chainWork s w m plan k
    let q := match recordCheck { s with lim.tables := w.tables } x.sub x.input with
      | some (st, d) => (StepRes.done { status := st, detail := d }, s)
      | none => runFn id x s
    match q.1 with
    | .done r => modMsg mid (fun m => { m with results := m.results ++ [⟨k, t.func, r.status, r.detail, r.out, r.pin⟩] }) q.2
    | _ => q.2

/-- An accord step ended (R328, R332): its functions run in order until one stops the chain. -/
def runChainStep (id mid : Nat) (w : Work) (plan : ChainPlan) (s : State) : StepRes × State :=
  match plan.steps[w.stepsDone]?, tblGet s.ad.msgs mid with
  | some p, some m0 =>
    if m0.refId.isSome then (.done {}, s) else
    let goes := fun (s : State) => match tblGet s.ad.msgs mid with
      | some m => match chainEndOf m.accord m.results with | .go _ _ _ => true | _ => false
      | none => false
    let later := (plan.steps[w.stepsDone + 1]?).any (fun n => decide (p.funcs ≠ [] ∧ n.funcs = p.funcs))
    let s := if later then s else p.funcs.foldl (fun s k => if goes s then runChainFn id mid w plan k s else s) s
    if goes s && decide (w.stepsDone + 1 < plan.steps.length) then (.more, s)
    else match (tblGet s.ad.msgs mid).map (fun m => chainEndOf m.accord m.results) with
      | some (.go st d _) => (.done { status := st, detail := d }, s)
      | some (.refused st d _) => (.done { status := st, detail := d }, s)
      | some (.referred st d _) => (.done { status := st, detail := d }, s)
      | none => (.done {}, s)
  | _, _ => (.done {}, s)

/-- The step of a request on its engines ended and its result is used. -/
def runStep (id : Nat) (s : State) : StepRes × State :=
  match work s id with
  | none => (.done {}, s)
  | some w =>
    match w.src, w.plan with
    | .chain m, some plan => runChainStep id m w plan s
    | _, _ => runFn id w s

/-- The issue cycles an accord step may have on an engine (R122, R328). -/
def stepRoom : Nat := 3840

/-- One more accord step after the last: merged with it where `share` says so and the cycles fit (R328). -/
def joinStep (share : Bool) (done : List PlanStep) (x : PlanStep) : List PlanStep :=
  match done.getLast? with
  | some c =>
    if share && decide (c.cycles + x.cycles ≤ stepRoom) then
      done.dropLast ++ [⟨c.funcs ++ x.funcs, c.cycles + x.cycles, c.parse || x.parse, c.build || x.build⟩]
    else done ++ [x]
  | none => [x]

/-- Pack a chain into accord steps (R328). `fns` are the functions in order: cycles and steps. The parse shares the first accord step with
whatever function begins it and the build the last with whatever ends it, where they fit; single-step functions share among themselves;
the steps of a function of several are its own beside those two. -/
def packSteps (parse build : Nat) (fns : List (Nat × Nat)) : List PlanStep :=
  let q := (fns.zipIdx).foldl (fun (acc : List PlanStep × Bool) f =>
    let x : PlanStep := ⟨[f.2], f.1.1, false, false⟩
    let bare := acc.1.getLast?.any (fun c => decide (c.funcs = []))
    if f.1.2 = 1 then (joinStep (acc.2 || bare) acc.1 x, true)
    else (joinStep bare acc.1 x ++ List.replicate (f.1.2 - 1) x, false)) ([⟨[], parse, true, false⟩], false)
  joinStep true q.1 ⟨[], build, false, true⟩

/-- The plan of a chain (R328 to R331): the endpoint's domain, the note, the routing entry's keys. -/
def planOf (s : State) (a : Accord) (domain note : Nat) (route : Option Route) : ChainPlan :=
  let subs := a.steps.map (fun t =>
    let h := fun (j : Nat) => ksrcHandle a route (t.ksrc.getD j 0)
    ({ func := t.func, note, domain, key0 := h 0, key1 := h 1, key2 := h 2, inLen := t.inLen, outMax := 8192 } : Sub))
  let twin := subs.any (fun x => fnTwin s x.func)
  let runs := if twin then 2 else 1
  let steps := packSteps (parseCycles a) (buildCycles a) (subs.map (fun x => (fnCycles s x.func, fnSteps s x [])))
  { subs, steps, twin
    topOk := a.topReq && (subs.isEmpty || (decide (steps.length = 1) && subs.all (fun x => fnTopOk s x.func) &&
      steps.all (fun p => decide (p.cycles ≤ 2560))))
    parse := (runs * parseCycles a + 49) / 50, build := (runs * buildCycles a + 49) / 50
    handles := (subs.flatMap (fun x => [x.key0, x.key1, x.key2])).filter (· ≠ 0) |>.eraseDups }

/-- What a request is limited by in the step to be granted: the functions the limiter is asked about, in continuations too (R54, R173). -/
def limitedSubs (w : Work) : List Sub :=
  match w.plan with
  | none => [w.sub]
  | some p => ((p.steps[w.stepsDone]?).map (fun q => q.funcs.filterMap (fun k => p.subs[k]?))).getD []

/-- The functions that begin with the step to be granted: a function of several steps is one use (R172). -/
def newSubs (w : Work) : List Sub :=
  match w.plan with
  | none => if w.stepsDone = 0 then [w.sub] else []
  | some p =>
    let before := (p.steps.take w.stepsDone).flatMap (·.funcs)
    ((p.steps[w.stepsDone]?).map (fun q => (q.funcs.filter (fun k => decide (k ∉ before))).filterMap (fun k => p.subs[k]?))).getD []

end Sys2Proof.Machine
end

