-- ==== Sys2Proof/Machine/Costs.lean ====
section
/-!
DEFINITION. Capacity and cost: engines in service, the pool, cost entries and their calibration, load bands (R44, R45,
R63 to R68).
-/
namespace Sys2Proof.Machine

/-! ### Engines and clusters in service -/

/-- An engine. -/
def engine (s : State) (e : Nat) : Eng := tget {} s.en.engines e

/-- Change an engine. -/
def modEng (e : Nat) (f : Eng → Eng) (s : State) : State := { s with en.engines := tset {} s.en.engines e (f (engine s e)) }

/-- A cluster. -/
def cluster (s : State) (c : Nat) : Cluster := tget {} s.en.clusters c

/-- Change a cluster. -/
def modCluster (c : Nat) (f : Cluster → Cluster) (s : State) : State :=
  { s with en.clusters := tset {} s.en.clusters c (f (cluster s c)) }

/-- Move a cluster to another state (R152). -/
def setClusterState (c st : Nat) (s : State) : State := modCluster c (fun x => { x with state := st, stTick := s.tick }) s

/-- Engines of a cluster that are not retired (R152 ACTIVE). -/
def clusterActive (s : State) (c : Nat) : Nat :=
  if (cluster s c).state = 5 then 0 else ((List.range 16).filter (fun i => decide ((engine s (16 * c + i)).estate ≠ 2) && !(engine s (16 * c + i)).back)).length

/-- A cluster's drain has begun: no grant goes to it and E excludes it (R146). -/
def draining (s : State) (c : Nat) : Bool := (cluster s c).drainAt.any (fun d => decide (d ≤ s.tick))

/-- The clusters in service. -/
def inService (s : State) : List Nat := (List.range 64).filter (fun c => decide ((cluster s c).state = 0) && !(draining s c))

/-- E, the engines in service (R45). -/
def enginesIn (s : State) : Nat := (inService s).foldl (fun a c => a + clusterActive s c) 0

/-- P for a number of engines (R45). -/
def poolOf (e : Nat) : Nat := e * 4096 / 50 - 1677 - 1024

/-- The housekeeping slice (R45). -/
def hkSlice : Nat := 1677
/-- The retry reserve (R45). -/
def retryReserve : Nat := 1024

/-- CU a cluster takes at one sample point (R120). -/
def clusterCap (s : State) (c : Nat) : Nat := clusterActive s c * 4096 / 50

/-- Ask for a wake, when a cluster is gated or drains to be (R149). -/
def askWake (s : State) : State :=
  if s.en.gating && s.en.clusters.any (fun p => decide (p.2.state = 3) || p.2.gateAfter) then { s with en.wakeAsk := true } else s

/-- Recompute P after a change of E (R45); below 2 × T_top the module posts a notice (R63). -/
def refreshPool (s : State) : State :=
  let p := poolOf (enginesIn s)
  let low := decide (p < 2 * s.tk.cfg.tTop)
  let s' := { s with tk.pool := p, tk.lowPool := low }
  if low && !s.tk.lowPool then note 0x0304 1 0xFFFF p s.tk.cfg.tTop s' else s'

/-! ### Cost entries -/

/-- Issue cycles as CU, rounded up; a twin run counts both engines (R44, R128). -/
def cyclesCu (cycles : Nat) (twin : Bool) : Nat := ((if twin then 2 else 1) * cycles + 49) / 50

/-- The factory STEP_CU (R66). -/
def factoryStep (s : State) (func : Nat) : Nat := cyclesCu (fnCycles s func) (fnTwin s func)

/-- The factory STEP_CU of a version that a rollout replaces (R148); none when no rollout concerns the function. -/
def oldFactory (s : State) (func : Nat) : Option Nat :=
  if isCustomer func then ((versionsOf s func).find? (fun p => p.gone.isSome)).map (fun p => cyclesCu p.cycles p.twin)
  else if (inService s).any (fun c => decide ((cluster s c).vendVer ≠ vendorVersion s)) then some (factoryStep s func) else none

/-- The factory FETCH of a band (R66): 0, 1 and 2 CU. -/
def factoryFetch (band : Nat) : Nat := min band 2

/-- The value of an entry: STEP_CU and CU per miss as calibrated in the band, or conservative (R65 to R67). -/
def entryCu (s : State) (factory : Nat) (c : Cal) : Nat × Nat :=
  if s.tk.pwrFault then (factory, factoryFetch 2) else
  match c.stepCu with
  | some v => (v, c.fetch.getD (factoryFetch s.tk.band))
  | none => (factory, factoryFetch 2)

/-- The entry in force; during a rollout the larger of the old version's and the new one's (R148). -/
def entryNow (s : State) (func : Nat) : Nat × Nat :=
  let n := entryCu s (factoryStep s func) (calOf s func s.tk.band)
  match oldFactory s func with
  | none => n
  | some f => let o := entryCu s f (tget {} s.tk.calOld (func * 4 + s.tk.band)); (max n.1 o.1, max n.2 o.2)

/-- STEP_CU in force (R65, R66). -/
def stepCu (s : State) (func : Nat) : Nat := (entryNow s func).1

/-- CU per miss in force (R65, R66, R67). -/
def fetchCu (s : State) (func : Nat) : Nat := (entryNow s func).2

/-- The cost charged is conservative: CONS of the disposition word (R57, R65, R66). -/
def entryCons (s : State) (func : Nat) : Bool := s.tk.pwrFault || !calibratedIn s func s.tk.band

/-- Key records a step misses: those of its first grant (R44, R222). -/
def keyMisses (s : State) (w : Work) : Nat := if w.keys.isEmpty then missCount s w else 0

/-- The versions a request's next step may meet: that of its cluster once it is granted, any in the program store before (R148). -/
def Work.sets (s : State) (w : Work) : List Nat :=
  if w.grant.isSome then [w.version] else s.en.setVer :: (versionsOf s w.sub.func).map (·.added)

/-- A request's steps: a chain's are its accord steps (R328); public-key work on a unit is one (R385). Before the grant they are the most
that a version in the store takes. -/
def workSteps (s : State) (w : Work) : Nat :=
  match w.plan with
  | some p => p.steps.length
  | none => if w.unit = .engine then ((w.sets s).map (fun v => fnStepsAt s v w.sub w.input)).foldl max 0 else 1

/-- The issue cycles of a request's next step on each engine. -/
def workCycles (s : State) (w : Work) : Nat :=
  match w.plan with
  | some p => ((p.steps[w.stepsDone]?).map (·.cycles)).getD 0
  | none => ((w.sets s).map (fun v => ((fnRowAt s v w.sub.func).map (·.cycles)).getD 0)).foldl max 0

/-- A request runs twin (R128, R328). -/
def workTwin (s : State) (w : Work) : Bool :=
  match w.plan with
  | some p => p.twin
  | none => (w.sets s).any (fun v => (fnRowAt s v w.sub.func).any (·.twin))

/-- A request is top-eligible (R43, R331). -/
def workTopOk (s : State) (w : Work) : Bool := match w.plan with | some p => p.topOk | none => fnTopOk s w.sub.func

/-- The CU of a function in a chain's step (R330). -/
def chainFnCu (s : State) (p : ChainPlan) (func : Nat) : Nat :=
  stepCu s func * (if p.twin && !fnTwin s func then 2 else 1)

/-- The functions of an accord step. -/
def planFuncs (p : ChainPlan) (j : Nat) : List Nat :=
  ((p.steps[j]?).map (fun q => q.funcs.filterMap (fun k => (p.subs[k]?).map (·.func)))).getD []

/-- The parse and build CU of an accord step (R330). -/
def planFrame (p : ChainPlan) (j : Nat) : Nat :=
  match p.steps[j]? with
  | some q => (if q.parse then p.parse else 0) + (if q.build then p.build else 0)
  | none => 0

/-- The CU of step j of a request, misses aside (R44, R301, R330). -/
def stepBare (s : State) (w : Work) (j : Nat) : Nat :=
  match w.plan, w.src with
  | some p, _ => planFrame p j + ((planFuncs p j).map (chainFnCu s p)).sum
  | none, .handshake _ => 4
  | none, _ => stepCu s w.sub.func

/-- CU per miss of a request (R44, R330). -/
def missCu (s : State) (w : Work) : Nat :=
  match w.plan with
  | some p => (p.subs.map (fun x => fetchCu s x.func)).foldl max 0
  | none => fetchCu s w.sub.func

/-- The cost of one step (R44). -/
def stepCost (s : State) (w : Work) : Nat := stepBare s w w.stepsDone + keyMisses s w * missCu s w

/-- The full cost of a base request, every step included (R44, R52): each step is charged with the request's misses (R191), a message once
(R330). -/
def fullCost (s : State) (w : Work) : Nat :=
  let n := workSteps s w
  ((List.range n).map (stepBare s w)).sum + (if w.plan.isSome then 1 else n) * (keyMisses s w * missCu s w)

/-- Some cost a request is charged is conservative (R57, R330). -/
def workCons (s : State) (w : Work) : Bool :=
  match w.plan with
  | some p => p.subs.any (fun x => entryCons s x.func)
  | none => entryCons s w.sub.func

/-- Insert a number into a rising list. -/
def insertUp (v : Nat) : List Nat → List Nat
  | [] => [v]
  | x :: t => if x < v then x :: insertUp v t else v :: x :: t

/-- The 99.99th percentile of a rising list of samples: the nearest rank (log entry 20). -/
def percentile (l : List Nat) : Nat := l.getD ((l.length * 9999 + 9999) / 10000 - 1) 0

/-- Step samples that calibrate an entry (R67). -/
def calSamples : Nat := 65536

/-- A cost entry with what its samples give (R67): never below the factory STEP_CU; FETCH once enough miss samples are there. -/
def Cal.committed (c : Cal) (factory : Nat) (twin : Bool) : Cal :=
  let c : Cal := if c.stepCu.isNone ∧ calSamples ≤ c.cycles.length then
      { c with stepCu := some (max factory (cyclesCu (percentile c.cycles) twin)) } else c
  if c.stepCu.isSome ∧ c.fetch.isNone ∧ calSamples ≤ c.waits.length then { c with fetch := some (percentile c.waits) } else c

/-- Commit an entry whose samples suffice (R67). A value above the conservative one is used, with a notice. -/
def commitCal (key : Nat) (s : State) : State :=
  let func := key / 4
  let c := tget {} s.tk.cal key
  let c2 := c.committed (factoryStep s func) (fnTwin s func)
  if c2 = c then s else
    let above := c2.stepCu.any (fun v => decide (factoryStep s func < v)) || c2.fetch.any (fun v => decide (factoryFetch 2 < v))
    let s : State := { s with tk.cal := tset {} s.tk.cal key c2 }
    if above then note 0x0305 1 0xFFFF func (c2.stepCu.getD 0) s else s

/-- The hearth controller commits entries at a sample point (R31, R67); in a gap it commits none, and they wait. -/
def calPoint (s : State) : State :=
  if s.hc.gap then s else s.tk.calDue.foldl (fun s k => commitCal k s) { s with tk.calDue := [] }

/-- A new version of a program returns its entries to uncalibrated in every band; the old version's values stand aside until the
rollout ends (R67, R148). -/
def uncalibrate (hit : Nat → Bool) (s : State) : State :=
  let old := s.tk.cal.filter (fun p => hit (p.1 / 4))
  { s with
    tk.cal := s.tk.cal.filter (fun p => !hit (p.1 / 4))
    tk.calDue := s.tk.calDue.filter (fun k => !hit (k / 4))
    tk.calOld := old.foldl (fun t p => tblPut t p.1 { p.2 with cycles := [], waits := [] }) s.tk.calOld }

/-- The vendor image the clusters are to carry has changed: its entries are uncalibrated, and its rollout begins (R67, R148). -/
def vendorPoint (s : State) : State :=
  let v := vendorVersion s
  if v = s.tk.calVend then s
  else uncalibrate (fun f => !isCustomer f) { s with tk.calVend := v, en.rollout := true }

/-- One step sample of a function: its issue cycles and its exposed fetch wait, both in engine cycles, with the misses it had (R67).
Samples reported in a gap are discarded (R72), and so are those of a band that has not stood for 2^16 ticks. -/
def calibrate (func cycles misses wait : Nat) (s : State) : State :=
  let band := s.tk.band
  if s.hc.gap ∨ s.tick < s.tk.bandTick + 2 ^ 16 then s else
  let key := func * 4 + band
  let c := tget {} s.tk.cal key
  let c := { c with
    cycles := if c.stepCu.isSome then c.cycles else insertUp cycles c.cycles
    waits := if misses = 0 ∨ c.fetch.isSome then c.waits else insertUp ((wait + 50 * misses - 1) / (50 * misses)) c.waits }
  let due := decide (c.committed (factoryStep s func) (fnTwin s func) ≠ c)
  { s with
    tk.cal := tset {} s.tk.cal key c
    tk.calSeen := if band ∈ s.tk.calSeen then s.tk.calSeen else s.tk.calSeen ++ [band]
    tk.calDue := if due && decide (key ∉ s.tk.calDue) then s.tk.calDue ++ [key] else s.tk.calDue }

/-! ### Load bands -/

/-- The band that n samples with a sum in µW give, from the band in force (R64): the mean is compared exactly. -/
def bandFor (band : Nat) (sum : Int) (n : Nat) : Nat :=
  let above := fun (w : Int) => decide (w * 1000000 * n < sum)
  let below := fun (w : Int) => decide (sum < w * 1000000 * n)
  match band with
  | 0 => if above 900 then 2 else if above 400 then 1 else 0
  | 1 => if above 900 then 2 else if below 375 then 0 else 1
  | _ => if below 375 then 0 else if below 875 then 1 else 2

/-- The load band at a sample point (R64, R65): Full while the measurement is faulty, otherwise what the samples held give; the
costs in force follow it (R68). DESIGN CHOICE (log entry 89): with fewer than 256 samples the mean is that of the samples there are,
and on return from a fault the thresholds are those that leave the forced Full band. -/
def loadBandPoint (s : State) : State :=
  let b := if s.tk.pwrFault then 2
    else if s.tk.samples.isEmpty then s.tk.band else bandFor s.tk.band s.tk.samples.sum s.tk.samples.length
  refreshCons (if b = s.tk.band then s
    else { s with tk.band := b, tk.bandTick := s.tick, tk.bandChanges := satAdd 32 s.tk.bandChanges 1 })

/-- The power measurement is faulty: every cost is conservative from now on, and the band is Full from the next sample point (R65). -/
def powerFault (s : State) : State :=
  if s.tk.pwrFault then { s with tk.validRun := 0 }
  else refreshCons (note 0x0302 1 0xFFFF s.tk.band 0 { s with tk.pwrFault := true, tk.validRun := 0, tk.samples := [] })

/-- TK_BAND.POWER_W of the samples held (R64, R74): whole watts, and 0 for a mean below zero (DESIGN CHOICE, log entry 89). -/
def meanWatts (samples : List Int) : Nat := (samples.sum / (1000000 * samples.length : Int)).toNat

/-- POWER_SAMPLE (R64, R65): one sample of the input in mV and mA; equal codes are equal values. The band follows at the next sample
point. -/
def execPowerSample (mv ma : Int) (s : State) : Res :=
  let same := if s.tk.lastV = mv ∧ s.tk.lastI = ma then s.tk.sameRun + 1 else 1
  let s := { s with tk.lastV := mv, tk.lastI := ma, tk.sameRun := same, tk.sampleTick := s.tick }
  let ranged := decide (-500 ≤ mv ∧ mv ≤ 65000 ∧ 0 ≤ ma ∧ ma ≤ 40000)
  if !ranged || decide (2 ^ 16 ≤ same) then .next (powerFault s) else
  let samples := (mv * ma :: s.tk.samples).take 256
  let run := s.tk.validRun + 1
  let s := { s with tk.samples := samples, tk.validRun := run }
  if s.tk.pwrFault && decide (run < 256) then .next s
  else .next (refreshCons { s with tk.powerW := meanWatts samples, tk.pwrFault := false })

/-- No sample for 16 consecutive ticks (R65). -/
def powerAbsent (s : State) : State := if s.tk.sampleTick + 17 ≤ s.tick then powerFault s else s

end Sys2Proof.Machine
end

