-- ==== Sys2Proof/Machine/RandomBase.lean ====
section
/-!
DEFINITION. The random generators: calls, stretch limit, reseeds (R366 to R369).
-/
namespace Sys2Proof.Machine

/-- An instance of the generator. -/
def drbg (s : State) (i : Nat) : Drbg := tget {} s.rn.inst i

/-- Change an instance. -/
def modDrbg (i : Nat) (f : Drbg → Drbg) (s : State) : State := { s with rn.inst := tset {} s.rn.inst i (f (drbg s i)) }

/-- The stretch limit in calls, and the calls at which a reseed is asked for and is overdue (R369). -/
def stretchLimit : Nat := 65536
def reseedAsk : Nat := 4096
def reseedOverdue : Nat := 57856

/-- k generate calls of an instance; at the limit it serves granted steps alone, a lock-class event (R369, R464). -/
def drbgCall (i k : Nat) (s : State) : State :=
  let d := drbg s i
  let c := min stretchLimit (d.calls + k)
  let s := modDrbg i (fun d => { d with calls := c, pend := d.pend || decide (reseedAsk ≤ c), limit := d.limit || decide (stretchLimit ≤ c) }) s
  if !d.limit && decide (stretchLimit ≤ c) then lockClass 0x22 5 (note 0x0505 2 i 0 0 s) else s

/-- An instance is instantiated: from two pool blocks, with the module serial and its number as personalisation string. A block that the pool
does not hold yet comes from the conditioners and passes through it (R366, R368). -/
def instantiate (i : Nat) (s : State) : State :=
  let s := modDrbg i (fun _ => { pers := leBytes 8 Config.serial ++ leBytes 1 i }) s
  { s with rn.blocks := s.rn.blocks - 2 }

/-- Every instance is instantiated (R368). -/
def instantiateAll (s : State) : State := (List.range 66).foldl (fun s i => instantiate i s) s

/-- Blocks an instance's reseed finds: the host instance's reserve comes first, then the pool (R367, R369). -/
def reseedBlocks (s : State) (i : Nat) : Nat := if i = 65 ∧ 2 ≤ s.rn.reserve then s.rn.reserve else s.rn.blocks

/-- One reseed: two blocks, and the count of calls starts again (R369, R374). -/
def reseed (i : Nat) (s : State) : State :=
  if reseedBlocks s i < 2 then s else
  let host := decide (i = 65 ∧ 2 ≤ s.rn.reserve)
  let late := decide (reseedAsk < (drbg s i).calls) && !host
  let s := modDrbg i (fun d => { pers := d.pers }) s
  let s := if host then { s with rn.reserve := s.rn.reserve - 2 } else { s with rn.blocks := s.rn.blocks - 2 }
  { s with rn.reseeds := wrapAdd 64 s.rn.reseeds 1, rn.stretch := if late then satAdd 32 s.rn.stretch 1 else s.rn.stretch }

/-- Put an instance before those with fewer calls. -/
def insertCalls (p : Nat × Drbg) : List (Nat × Drbg) → List (Nat × Drbg)
  | [] => [p]
  | q :: t => if q.2.calls ≤ p.2.calls then p :: q :: t else q :: insertCalls p t

/-- The instances that ask for a reseed, in the order blocks go to them: the controller's, the clusters' by their calls, the host's
(R367). -/
def reseedOrder (s : State) : List Nat :=
  let ask := s.rn.inst.filter (·.2.pend)
  ((ask.filter (fun p => decide (p.1 = 64))) ++ (ask.filter (fun p => decide (p.1 < 64))).foldr insertCalls [] ++
    (ask.filter (fun p => decide (p.1 = 65)))).map (·.1)

end Sys2Proof.Machine
end

