-- ==== Sys2Proof/Machine/House.lean ====
section
/-!
DEFINITION. Housekeeping: its slice, its tasks, and what is overdue (R45, R59, R139, R369).
-/
namespace Sys2Proof.Machine

/-! ### Retests (R139) -/

/-- A retest of an engine is raised as a housekeeping task (R59, R139). -/
def raiseRetest (e : Nat) (s : State) : State :=
  if s.tk.tasks.any (fun t => decide (t.kind = 3 ∧ t.arg = e)) ∨ (engine s e).retest.isSome then s
  else { s with tk.tasks := s.tk.tasks ++ [⟨3, e, s.tick, 2 ^ 16, 128⟩] }

/-- An engine serves as the reference of a retest of its cluster (R139). -/
def isReference (s : State) (e : Nat) : Bool :=
  (List.range 16).any (fun i => let g := engine s (16 * (e / 16) + i); g.retest.isSome && decide (g.refEng = some e))

/-- An engine takes part in pairing: in service, and in no retest (R119, R139). -/
def pairs (s : State) (e : Nat) : Bool :=
  decide ((engine s e).estate = 0) && (engine s e).retest.isNone && !isReference s e

/-- Start a retest that was granted: a reference engine of the same cluster joins when there is one in service that is not itself
under a retest or due for one (R139). -/
def startRetest (e : Nat) (s : State) : State :=
  let c := e / 16
  let due := fun (r : Nat) => s.tk.tasks.any (fun t => decide (t.kind = 3 ∧ t.arg = r))
  let ref := ((List.range 16).map (16 * c + ·)).find? (fun r => decide (r ≠ e) && pairs s r && !due r)
  modEng e (fun g => { g with estate := 1, back := decide (g.estate = 2), retest := some s.tick, refEng := ref }) s

/-- A retest can start now: it does not run yet, its cluster has power and program, and the engine is no other retest's reference (R139,
R147, R149). -/
def retestRuns (s : State) (t : HkTask) : Bool :=
  decide (t.kind ≠ 3) || ((engine s t.arg).retest.isNone && decide ((cluster s (t.arg / 16)).state ∈ [0, 1, 5]) && !isReference s t.arg)

/-! ### The tasks -/

/-- The reseeds asked for, one task each, at 1 CU (R59, R369). -/
def reseedTasks (s : State) : List HkTask :=
  ((reseedOrder s).filter (fun i => decide (2 ≤ reseedBlocks s i))).map (fun i => ⟨0, i, 0, 0, 1⟩)

/-- The last check of the record group that the scrub takes next: four records (R59, R210). -/
def scrubLast (s : State) : Nat := (tblGet s.ks.scrubSeen (s.ks.scrubPos / 4)).getD s.ks.scrubStart

/-- The scrub's task of this tick, while the store is READY (R59, R210). -/
def scrubTask (s : State) : List HkTask := if s.ks.state = 2 then [⟨1, s.ks.scrubPos / 4, scrubLast s, 2 ^ 25, 1⟩] else []

/-- One flush task for each new record (R59, R480). -/
def flushTasks (s : State) : List HkTask :=
  (s.rc.staging.filter (fun r => r.progTick.isNone)).map (fun r => ⟨2, r.seq, r.tick, 64, 1⟩)

/-- The tasks that can be granted now. A scrub step and a record flush take 1 CU each (DESIGN CHOICE, log entry 90). -/
def hkTasks (s : State) : List HkTask := reseedTasks s ++ scrubTask s ++ flushTasks s ++ s.tk.tasks.filter (retestRuns s)

/-- Some task is overdue: 7/8 of its window has passed (R59, R369). -/
def hkTaskOverdue (s : State) (t : HkTask) : Bool :=
  if t.kind = 0 then decide (reseedOverdue ≤ (drbg s t.arg).calls) else decide (t.since + t.window * 7 / 8 ≤ s.tick)

/-- Any task is overdue. -/
def anyOverdue (s : State) : Bool :=
  s.rn.inst.any (fun p => p.2.pend && decide (reseedOverdue ≤ p.2.calls)) || (hkTasks s ++ s.tk.tasks).any (hkTaskOverdue s)

/-- Carry out one task: a reseed and a record's programming at once; a scrub step and a retest are started, and their own events end
them. -/
def runTask (t : HkTask) (s : State) : State :=
  match t.kind with
  | 0 => reseed t.arg s
  | 1 => { s with ks.scrubGrant := some s.tick }
  | 2 => match s.rc.staging.find? (fun r => decide (r.seq = t.arg)) with
    | some r => programRec r s
    | none => s
  | _ => startRetest t.arg s

/-- Grant tasks from a budget: the state and the CU used. -/
def grantTasks (ts : List HkTask) (budget : Nat) (s : State) : State × Nat :=
  ts.foldl (fun acc t => if budget < acc.2 + t.cu then acc else (runTask t acc.1, acc.2 + t.cu)) (s, 0)

/-- The housekeeping slice of a tick, for the tasks that are not overdue (R45, R59): the state and the CU used. A record's flush inside its
time comes with RECORD_FLUSH, between sample points; its CU are taken from the slice of the sample point that follows (log entry 90). -/
def hkPass (s : State) : State × Nat :=
  let c := min hkSlice s.tk.flushCu
  let q := grantTasks ((hkTasks s).filter (fun t => !hkTaskOverdue s t && decide (t.kind ≠ 2))) (hkSlice - c) { s with tk.flushCu := 0 }
  (q.1, c + q.2)

/-- Overdue tasks are granted from the pool ahead of heart work; each such sample point is counted, and the first after one with
none posts a notice (R59). -/
def grantOverdue (od : Bool) (pool : Nat) (s : State) : State × Nat :=
  let q := grantTasks ((hkTasks s).filter (hkTaskOverdue s)) pool s
  if od then
    let t : State := { q.1 with tk.nOverdue := satAdd 32 q.1.tk.nOverdue 1, tk.hkOverdue := true }
    (if q.1.tk.hkOverdue then t else note 0x0303 1 0xFFFF 0 0 t, q.2)
  else ({ q.1 with tk.hkOverdue := false }, q.2)

end Sys2Proof.Machine
end

