-- ==== Sys2Proof/Machine/Usage.lean ====
section
/-!
DEFINITION. Usage counts: cells, their tariff, the dirty set and what it holds back (R547, R548, R549, R556).
-/
namespace Sys2Proof.Machine

/-- The function class of a function (R547). -/
def fnClass (f : Nat) : Nat := if isCustomer f then 11 else f / 256

/-- The cell of a domain and a class (R547). -/
def cellIndex (d cls : Nat) : Nat := d * 15 + (cls - 1)

/-- A cell. -/
def cell (s : State) (i : Nat) : Cell := tget {} s.ac.cells i

/-- Count into a cell: its tariff is taken at its first change in an interval (R547 to R549). -/
def addUsage (d cls ops cu bytes : Nat) (s : State) : State :=
  if ops = 0 ∧ cu = 0 ∧ bytes = 0 then s else
  let i := cellIndex d cls
  let c := cell s i
  let n := s.ac.interval % 2 ^ 32
  let fresh := decide (c = {}) || decide (c.interval ≠ n)
  let c : Cell := { ops := wrapAdd 64 c.ops ops, cu := wrapAdd 64 c.cu cu, bytes := wrapAdd 64 c.bytes bytes, interval := n
                    tariff := if fresh then tget 0xFF s.ac.rates i else c.tariff }
  { s with ac.cells := tset {} s.ac.cells i c, ac.dirty := if i ∈ s.ac.dirty then s.ac.dirty else s.ac.dirty ++ [i] }

/-- The charge of a step that ended counts in its function's class; a chain's parse and build count in class 12 (R548). -/
def countUsage (id : Nat) (s : State) : State :=
  match work s id with
  | none => s
  | some w =>
    let d := w.sub.domain
    match w.plan, w.src with
    | some p, _ =>
      let frame := planFrame p w.stepsDone
      let fs := planFuncs p w.stepsDone
      let cus := fs.map (chainFnCu s p)
      let s := addUsage d 12 0 (if fs.isEmpty then w.cost else frame) 0 s
      ((fs.zip cus).zipIdx).foldl (fun s q =>
        addUsage d (fnClass q.1.1) 0 (if q.2 = 0 then q.1.2 + (w.cost - frame - cus.sum) else q.1.2) 0 s) s
    | none, .handshake _ => addUsage d 13 0 w.cost 0 s
    | none, _ => addUsage d (fnClass w.sub.func) 0 w.cost 0 s

/-- A request completed with a status: one operation when it is of class 0x00 or 0x01 (R548). Withdrawn work counts nothing. -/
def countOps (w : Work) (status : Nat) (s : State) : State :=
  if statusGood status && w.grant.isSome && decide (w.sub.func / 256 ≠ 0x0B) then addUsage w.sub.domain (fnClass w.sub.func) 1 0 0 s else s

/-- Entries of the dirty set (R556). -/
def dirtyEntries (s : State) : Nat := s.ac.dirty.length + s.ac.closeDirty.length

/-- The classes a request counts in. -/
def workClasses (w : Work) : List Nat :=
  match w.plan, w.src with
  | some p, _ => 12 :: p.subs.map (fun x => fnClass x.func)
  | none, .handshake _ => [13]
  | none, _ => [fnClass w.sub.func]

/-- A request would change a clean cell (R556). -/
def wouldDirty (s : State) (w : Work) : Bool := (workClasses w).any (fun c => decide (cellIndex w.sub.domain c ∉ s.ac.dirty))

/-- The dirty set holds heart or base work back (R556). -/
def dirtyHolds (s : State) (w : Work) : Bool := decide (32768 ≤ dirtyEntries s) && w.grant.isNone && wouldDirty s w

/-- The dirty set demotes top work (R556). -/
def topBarred (s : State) (w : Work) : Bool := decide (49152 ≤ dirtyEntries s) && wouldDirty s w

end Sys2Proof.Machine
end

