-- ==== Sys2Proof/Machine/Grants.lean ====
section
/-!
DEFINITION. What a grant asks and does: refusals at the eligible tick, the resources a step needs, the limiter, the key locks, and
the placing of bulk, digest and random work (R156, R173, R222, R225, R252, R365, R369, R384, R528, R530).
-/
namespace Sys2Proof.Machine

/-! ### Lanes and digest units, as far as requests need them -/

/-- The host lanes (R19, R249). -/
def hostLanes : List Nat := (List.range 8).map (152 + ·)

/-- A digest unit. -/
def dgUnit (s : State) (u : Nat) : DgUnit := tget {} s.dg.units u

/-- The requests a host lane or digest unit holds. -/
def placed (s : State) (k : UnitKind) (n : Nat) : List (Nat × Work) :=
  s.wk.works.filter (fun p => decide (p.2.unit = k ∧ p.2.place = some n ∧ p.2.phase = .unit))

/-- The request whose turn it is on a host lane or digest unit: round robin at chunk boundaries (R252, R365). -/
def unitHead (s : State) (k : UnitKind) (n : Nat) : Option Nat :=
  ((placed s k n).foldl (fun (m : Option (Nat × Nat)) p => match m with
    | none => some (p.2.turn, p.1)
    | some q => if p.2.turn < q.1 then some (p.2.turn, p.1) else m) none).map (·.2)

/-- The request whose turn it is where this one is placed. -/
def laneHead (s : State) (w : Work) : Option Nat := w.place.bind (unitHead s w.unit)

/-- A request goes to the end of its unit's round. -/
def toBack (id : Nat) (s : State) : State :=
  let top := (s.wk.works.map (fun p => p.2.turn)).foldl max 0
  modWork id (fun w => { w with turn := top + 1 }) s

/-- The queue pair whose request this is, or whose batch it belongs to. -/
def workQp (s : State) (w : Work) : Option Nat :=
  match w.src with
  | .queue n _ => some n
  | .part b _ => (work s b).bind (fun h => match h.src with | .queue n _ => some n | _ => none)
  | _ => none

/-- The chunks a host lane holds: read, or to run again (R252, R272). -/
def hostChunks (s : State) (n : Nat) : Nat := min 2 ((placed s .hostLane n).filter (fun p => p.2.asked || p.2.rerun)).length

/-- The peak of a host lane follows what it holds (R272). -/
def hostPeak (n : Nat) (s : State) : State := modLane n (fun l => { l with peak := max l.peak (hostChunks s n) }) s

/-- Read the next chunk of a bulk operation, unless it is there or being read (R115, R252). -/
def readChunk (id : Nat) (s : State) : State :=
  match work s id with
  | none => s
  | some w =>
    if w.asked || w.rerun then s else
    let c := nextChunk w
    let s := modWork id (fun w => { w with asked := true, readTick := s.tick, reads := (readPieces c.2.1 c.2.2).length }) s
    let s := w.place.elim s (fun n => hostPeak n s)
    match workQp s w with
    | some n => readHost (qp s n).link (qpPasid s (qp s n)) c.2.1 c.2.2 s
    | none => s

/-- The two input chunk slots of a host lane's staging: the chunk of the operation whose turn it is, and that of the one that follows (R34,
R252). -/
def laneReads (n : Nat) (s : State) : State :=
  match unitHead s .hostLane n with
  | none => s
  | some i =>
    let s := readChunk i s
    let rest := (placed s .hostLane n).filter (fun p => decide (p.1 ≠ i))
    match (rest.foldl (fun (m : Option (Nat × Nat)) p => match m with
      | none => some (p.2.turn, p.1)
      | some q => if p.2.turn < q.1 then some (p.2.turn, p.1) else m) none) with
    | some q => readChunk q.2 s
    | none => s

/-- Octets outstanding at a host lane or digest unit. -/
def placedBytes (s : State) (k : UnitKind) (n : Nat) : Nat := ((placed s k n).map (fun p => outstanding p.2)).sum

/-- The one of some places with the fewest octets outstanding, the lower number on a tie (R252, R365). -/
def leastBytes (s : State) (k : UnitKind) : List Nat → Option Nat
  | [] => none
  | n :: t => match leastBytes s k t with
    | none => some n
    | some m => if placedBytes s k n ≤ placedBytes s k m then some n else some m

/-- The host lanes in service. -/
def hostInService (s : State) : List Nat := hostLanes.filter (fun n => decide ((lane s n).state = 0))

/-- The host lane a request goes to (R252). -/
def chooseHostLane (s : State) : Option Nat :=
  leastBytes s .hostLane ((hostInService s).filter (fun n => decide ((placed s .hostLane n).length < 4)))

/-- The digest unit a request goes to (R365). -/
def chooseDigest (s : State) : Option Nat :=
  leastBytes s .digest ((List.range 8).filter (fun n => !(dgUnit s n).claimed && !(dgUnit s n).pend && decide ((placed s .digest n).length < 4)))

/-! ### Refused at the eligible tick -/

/-- The group refuses work that changes key records (R528, R530). -/
def groupBars (s : State) (x : Sub) : Option Nat :=
  if !changesKeys x.func && decide (x.func ≠ 0x0B02) then none
  else if 2 ≤ s.gp.role then some St.groupRole
  else if s.gp.role = 1 ∧ s.gp.frozen = true then some St.groupDegraded
  else none

/-- What refuses a request at its eligible tick (R225, R252, R384, R528). -/
def eligCheck (s : State) (w : Work) : Option FnRes :=
  let x := w.sub
  let names := !w.keyIndexes.isEmpty
  let changes := changesKeys x.func || decide (x.func = 0x0B02)
  let staged := stagedUnits s
  match groupBars s x with
  | some st => some { status := st }
  | none =>
    if decide (s.ks.state ≠ 2) && (names || changes) then some { status := St.busy, ticks := 65535 }
    else if changes && s.ks.ring.isNone then some { status := St.busy, ticks := 65535 }
    else if changes && decide (8192 ≤ staged) then some { status := St.busy, ticks := max 1 ((staged + 127) / 128) }
    else if pkNeeds w && (pkInService s).isEmpty then some { status := St.noPkUnit, ticks := 65535 }
    else if w.unit = .hostLane ∧ (hostInService s).isEmpty = true then some { status := St.noLane, ticks := 65535 }
    else none

/-! ### At the grant -/

/-- The resources of the next step, engines and pool aside, are free (R222, R252, R365, R369, R384, R556). -/
def resourceFree (s : State) (w : Work) : Bool :=
  (decide (keyMisses s w = 0) || decide (w.note = 0) || decide (s.ks.missGrants < 4096)) &&
  (!pkNeeds w || w.pkUnit.isSome || (pkChoose s w).isSome) &&
  (match w.unit with
    | .hostLane => (chooseHostLane s).isSome
    | .digest => (chooseDigest s).isSome
    | .random => !(drbg s 65).limit
    | _ => true) &&
  (decide (w.note = 0) || !dirtyHolds s w)

/-- A METHOD 1 request whose decimalisation table is valid no longer (R156). -/
def tableGone (s : State) (x : Sub) (p : List Byte) : Bool :=
  decide (x.func ∈ [0x0102, 0x0103, 0x0104, 0x0105, 0x0302]) && decide (le p 3 1 = 1) && !tableOk s (le p 0x1B 1) (le p 0x10 1)

/-- The functions a request runs with their input records, as they stand at its grant: its own, or those of its chain (R156). -/
def records (s : State) (w : Work) : List (Sub × List Byte) :=
  match w.plan, w.src with
  | some plan, .chain mid => match tblGet s.ad.msgs mid with
    | some m => (List.range plan.subs.length).map (fun k => let v := (chainWork s w m plan k).1; (v.sub, v.input))
    | none => []
  | _, _ => [(w.sub, w.input)]

/-- What refuses the grant itself: the table at the first grant, then the limiter (R156, R173). -/
def preGrant (s : State) (w : Work) : Option FnRes :=
  if decide (w.stepsDone = 0) && (records s w).any (fun r => tableGone s r.1 r.2) then some { status := St.grateRange, detail := 0x801B }
  else limRefuses s w (limitedSubs w)

/-- Generate calls of 0x0904 (R370). -/
def randomCalls (x : Sub) : Nat := (dgCount x + 63) / 64

/-- Random octets for the host: done at the grant (R364, R370). -/
def grantRandom (id : Nat) (w : Work) (s : State) : State :=
  let q := draw (drbgCall 65 (randomCalls w.sub) s)
  let n := dgCount w.sub
  finish' id { out := octets (Config.randomBytes q.1 n) 0 n } (addUsage w.sub.domain 9 0 w.cost n q.2)
where
  finish' (id : Nat) (r : FnRes) (s : State) : State := modWork id (fun w => { w with phase := .ended, res := some r, slot := false }) s

/-- Bulk or digest work takes its place when its keys pass, and ends at once when they do not (R216, R252, R365). -/
def grantPlace (id : Nat) (w : Work) (place : Option Nat) (role : KRec → Bool) (s : State) : State :=
  let bad := if w.sub.key0 = 0 ∧ w.unit = .digest ∧ w.sub.func = 0x0901 then none
    else keyTests w.sub.domain [(1, w.key 0, false, role (w.key 0).rec_)]
  match bad with
  | some (st, d) => modWork id (fun w => { w with phase := .ended, res := some { status := st, detail := d } }) s
  | none =>
    let s := toBack id (modWork id (fun w => { w with place, phase := .unit }) s)
    match w.unit, place with
    | .hostLane, some n => laneReads n s
    | _, _ => s

/-- The limiter counts the uses of the functions that begin with a step (R172). -/
def grantUses (id : Nat) (w : Work) (s : State) : State :=
  (newSubs w).foldl (fun s x => if (limitedIndex s x).isSome then
    modWork id (fun w => { w with eff := true }) (limUse { w with sub := x } s) else s) s

/-- A handshake is granted: it signs with the key as it stands now (R31, R301). -/
def takeSignKey (e : Nat) (s : State) : State :=
  match tblGet s.pt.eps e with
  | some x => { s with pt.eps := tblPut s.pt.eps e { x with hello := x.hello.map (fun h => { h with sign := keyRead s (tget {} s.pt.ports h.port).signKey }) } }
  | none => s

/-- What a grant does beyond placing the step. -/
def onGrant (id : Nat) (s : State) : State :=
  let s := lockKeys id s
  match work s id with
  | none => s
  | some w =>
    let s := grantUses id w s
    let s := if w.stepsDone = 0 then modWork id (fun w => { w with tables := s.lim.tables }) s else s
    let s := match w.src with
      | .handshake e => takeSignKey e s
      | _ => s
    match w.unit with
    | .engine => pkGrant id s
    | .pk => pkGrant id s
    | .hostLane => grantPlace id w (chooseHostLane s) (laneRole w.sub.func) s
    | .digest => grantPlace id w (chooseDigest s) (digestRole w.sub) s
    | .random => grantRandom id w s

/-- PIN_LIMIT lies in its range (R223). -/
def pinLimitOk (n : Nat) : Bool := decide (n ≤ 65536)

/-- A port holds PTP lock (R311). -/
def ptpLocked (s : State) : Bool := s.pt.ports.any (fun p => p.2.ptp.lock)

end Sys2Proof.Machine
end

