-- ==== Sys2Proof/Machine/Requests.lean ====
section
/-!
DEFINITION. How a request ends: withdrawal, refusal, completion, and the outcome rules of batches (R52, R69 to R71, R110,
R111, R142 to R145).
-/
namespace Sys2Proof.Machine

/-- An account's budgets. -/
def acct (s : State) (a : Nat) : Acct := tget {} s.tk.accts a

/-- Change an account. -/
def modAcct (a : Nat) (f : Acct → Acct) (s : State) : State := { s with tk.accts := tset {} s.tk.accts a (f (acct s a)) }

/-- Give a base charge back, up to the depth (R52). -/
def refund (w : Work) (s : State) : State :=
  if w.charged = 0 then s else modAcct w.acct (fun a => { a with baseAllow := min a.baseDepth (a.baseAllow + w.charged) }) s

/-- A request ends with a status the module or the function raised (0 for none). Under a power fault every completion carries CONS
(R65). -/
def finish (id : Nat) (r : FnRes) (s : State) : State :=
  let s := match work s id with
    | some w => if w.unit = .hostLane then w.place.elim s (fun n => modLane n (fun l => { l with since := s.tick }) s) else s
    | none => s
  modWork id (fun w => { w with phase := .ended, res := some r, slot := false, onEng := false, cons := w.cons || s.tk.pwrFault }) s

/-- An operation on a host lane ended. -/
def laneEnd (id : Nat) (r : FnRes) (s : State) : State :=
  let s' := finish id r s
  match (work s id).bind (·.place) with
  | some n => laneReads n s'
  | none => s'

/-- A request that was never granted ends: its charge is returned and it leaves no trace (R52, R70). -/
def withdraw (id status detail ticks : Nat) (s : State) : State :=
  match work s id with
  | none => s
  | some w =>
    modWork id (fun w => { w with phase := .ended, res := some { status, detail }, endTicks := ticks, charged := 0,
                                   cons := w.cons || s.tk.pwrFault })
      (refund w s)

/-- The ticks a request has waited. -/
def waited (s : State) (w : Work) : Nat := s.tick - w.elig

/-- A request has been granted. -/
def Work.granted (w : Work) : Bool := w.grant.isSome

/-- Whether a request is at the head of an atomic batch, standing for the batch itself. -/
def isAtomicHead (s : State) (id : Nat) : Bool := (batch s id).any (·.atomic)

/-- The work numbers of a batch's parts. -/
def Batch.workIds (b : Batch) : List Nat := b.works.map (·.2)

/-- A part's record from its end (R101, R583). DESIGN CHOICE (log entry 88): the tag of a bulk part, whose output has been written chunk by
chunk, stands in RESULT, since R116 returns it inline. -/
def partRecord (s : State) (w : Work) (r : FnRes) (status : Nat) : PartRec :=
  let toOut := r.wrote.isNone && (decide (48 < w.sub.outMax) || usesOut w.sub.func)
  { status, detail := r.detail, disp := workDisp s w w.endTicks, outBytes := r.wrote.getD r.out.length
    info := infoWord (w.granted && (r.effects || w.eff || (toOut && !r.out.isEmpty) || r.wrote.any (fun k => decide (k ≠ 0)))) r.info
    result := if toOut then [] else r.out }

/-- The flags a part adds to its batch (R145). -/
def Batch.takeFlags (b : Batch) (w : Work) : Batch :=
  let b := { b with age := b.age || w.age, rty := b.rty || w.rty, late := b.late || w.late, cons := b.cons || w.cons }
  match w.grant with
  | none => b
  | some g => if b.firstGrant.any (fun f => decide (f ≤ g)) then b
    else { b with firstGrant := some g, firstNote := w.runNote, band := w.band }

/-- A part ran, or is running, when its atomic batch fails: its record says so, with no result and only the effects that stand (R144,
R583). -/
def PartRec.rolledBack (r : PartRec) (stands : Bool) : PartRec :=
  { r with status := St.rolledBack, detail := 0, outBytes := 0, result := [], info := infoWord stands 0 }

/-- An atomic batch fails: parts that succeeded take ROLLED_BACK, parts not run take PART_NOT_RUN, and no further part is granted
(R143). Parts whose steps still run, on engines or in a unit, end on their own. DESIGN CHOICE (log entry 83): a part between two of
its steps has run, and takes ROLLED_BACK. -/
def failAtomic (b : Batch) (s : State) : Batch × State :=
  let recs := b.recs.map (fun p => if statusGood p.2.status then
    (p.1, { p.2 with status := St.rolledBack, outBytes := 0, result := [], info := infoWord (decide (p.1 ∈ b.counted)) 0 }) else p)
  let b := { b with failed := true, recs, outs := [] }
  b.works.foldl (fun q p =>
    match work q.2 p.2 with
    | some w =>
      if w.phase = .ended ∨ w.phase = .running ∨ w.phase = .retrying ∨ w.phase = .retryDue ∨ w.phase = .unit then q
      else
        let rec_ := if w.granted then (partRecord s w {} St.rolledBack).rolledBack w.eff else partRecord s w {} St.partNotRun
        ({ q.1.takeFlags w with recs := tblPut q.1.recs p.1 rec_, works := tblDel q.1.works p.1 }, dropWork p.2 q.2)
    | none => q) (b, s)

/-- Write a part's output at its own OUT_ADDR (R101). -/
def writePart (head : Option Work) (addr : Nat) (out : List Byte) (s : State) : State :=
  match head with
  | none => s
  | some w =>
    match w.src with
    | .queue n _ =>
      let q := qp s n
      if q.state = 3 then s else writeHost q.link (qpPasid s q) q.roData addr out s
    | _ => s

/-- A part ended: its record stands in the batch (R101, R144). A part that ends well after its atomic batch failed takes ROLLED_BACK,
with nothing of its result. -/
def endPart (id bid idx : Nat) (w : Work) (r : FnRes) (s : State) : State :=
  match batch s bid with
  | none => dropWork id s
  | some b =>
    let st := finalStatus w r.status
    let back := b.atomic && b.failed && statusGood st
    let toOut := (decide (48 < w.sub.outMax) || usesOut w.sub.func) && r.wrote.isNone && statusGood st && !back && !r.out.isEmpty
    let s := if toOut && !b.atomic then writePart (work s bid) w.sub.outAddr r.out s else s
    let b := if toOut && b.atomic then { b with outs := b.outs ++ [(w.sub.outAddr, r.out)] } else b
    let rec_ := partRecord s w r st
    let stands := w.eff || r.wrote.any (fun k => decide (k ≠ 0))
    let b := { b.takeFlags w with
      recs := tblPut b.recs idx (if back then rec_.rolledBack stands else rec_), works := tblDel b.works idx
      counted := if stands then b.counted ++ [idx] else b.counted }
    let s := dropWork id s
    if b.atomic && !statusGood st && !b.failed && !b.committed then
      let p := failAtomic b s
      { p.2 with wk.batches := tblPut p.2.wk.batches bid p.1 }
    else { s with wk.batches := tblPut s.wk.batches bid b }

/-- Every part of a batch has its record. -/
def Batch.complete (b : Batch) : Bool := decide (b.recs.length = b.parts.length)

end Sys2Proof.Machine
end

