-- ==== Sys2Proof/Machine/Spread.lean ====
section
/-!
DEFINITION. The split of a batch of a marked slice across the hearth group (R532, R542).
-/
namespace Sys2Proof.Machine

/-- The worker shares of n parts: in proportion to P, none below 64 (R532). -/
def sharesOf (n total : Nat) (ws : List (Nat × Nat)) : List (Nat × Nat) :=
  (ws.map (fun w => (w.1, n * w.2 / total))).filter (fun w => decide (64 ≤ w.2))

/-- The manager keeps what the workers leave; a rest of fewer than 64 goes to the first worker (log entry 31). -/
def withRest (n : Nat) (sh : List (Nat × Nat)) : Nat × List (Nat × Nat) :=
  let rest := n - (sh.map (·.2)).sum
  match sh with
  | [] => (n, [])
  | (m, k) :: t => if 0 < rest ∧ rest < 64 then (0, (m, k + rest) :: t) else (rest, sh)

/-- LIVE workers that are not LOCKED, with the P each last reported. -/
def poolsOf (s : State) : List (Nat × Nat) :=
  ((liveWorkers s).map (fun m => (m, (member s m).pool))).filter (fun w => decide (w.2 ≠ 0))

/-- The parts of a batch that may go to workers now: index and work (R532). -/
def splitParts (s : State) (b : Batch) : List (Nat × Nat) :=
  b.works.filter (fun p => (work s p.2).any (fun w => decide (w.phase = .waiting ∨ w.phase = .unstaged) && w.grant.isNone &&
    decide (w.elig = s.tick) && decide (w.sub.func / 256 ≠ 7 ∧ w.sub.func / 256 ≠ 8)))

/-- IN_ADDR is used (R89 check 9). -/
def Sub.usesIn (x : Sub) : Bool := !x.inl && decide (x.inLen ≠ 0)

/-- Read the input of a part into the staging of cluster `c`; 64 names none, as the reads of a split do (R100, R532). -/
def readPart (bid id c : Nat) (s : State) : State :=
  match work s id with
  | none => s
  | some w =>
    let pas := match (work s bid).map (·.src) with | some (.queue n _) => qpPasid s (qp s n) | _ => none
    readHost w.link pas w.sub.inAddr w.sub.inLen (modWork id (fun w => { w with
      asked := true, stageCl := c, readTick := s.tick, reads := (readPieces w.sub.inAddr w.sub.inLen).length }) s)

/-- The inputs of sent parts that are neither there nor being read are read at the split, whatever room staging has (R532). -/
def readSent (bid : Nat) (ps : List (Nat × Nat)) (s : State) : State :=
  ps.foldl (fun s p => if (work s p.2).any (fun w => !w.staged && !w.asked && w.sub.usesIn) then readPart bid p.2 64 s else s) s

/-- Send one range of parts to a worker: parts whose input is there leave in one request, of the others it is read (R532). -/
def sendRange (bid m : Nat) (ps : List (Nat × Nat)) (s : State) : State :=
  let ready := ps.filterMap (fun p => (work s p.2).bind (fun w => if w.staged then some (p.1, p.2, w) else none))
  let s : State := { s with
    gp.away := s.gp.away ++ ps.map (fun p => ⟨bid, p.1, m⟩)
    gp.nSplit := satAdd 32 s.gp.nSplit ps.length }
  let s := ready.foldl (fun s r => modWork r.2.1 (fun w => { w with phase := .away, isNew := false }) s) s
  let s := readSent bid ps s
  if ready.isEmpty then s else gpSend m 0x30 (ready.flatMap (fun r => partReqBytes r.2.2 bid r.1)) s

/-- Hand contiguous ranges out, in the order of the members' numbers. -/
def sendRanges (bid : Nat) : List (Nat × Nat) → List (Nat × Nat) → State → State
  | [], _, s => s
  | (m, k) :: t, ps, s => sendRanges bid t (ps.drop k) (sendRange bid m (ps.take k) s)

/-- Split one batch: the manager's own range comes first. -/
def splitBatch (bid : Nat) (b : Batch) (s : State) : State :=
  let ps := splitParts s b
  let ws := poolsOf s
  let total := s.tk.pool + (ws.map (·.2)).sum
  let q := withRest ps.length (sharesOf ps.length total ws)
  sendRanges bid q.2 (ps.drop q.1) s

/-- A batch of a marked slice is to be split at this sample point. -/
def toSplit (s : State) (bid : Nat) (b : Batch) : Bool :=
  !b.atomic && (work s bid).any (fun w => decide (w.elig = s.tick) && decide (w.sub.func = 0x0B01) &&
    (match w.src with | .queue n _ => decide ((qp s n).slice ∈ s.gp.spread) | _ => false))

/-- Every batch that is eligible at this sample point; a manager under a class L response splits no more (R532, R542). -/
def splitBatches (s : State) : State :=
  if s.gp.role ≠ 1 ∨ grantsStopped s then s else
  (s.wk.batches.filter (fun p => toSplit s p.1 p.2)).foldl (fun s p => splitBatch p.1 p.2 s) s

end Sys2Proof.Machine
end

