-- ==== Sys2Proof/Machine/Dispatcher.lean ====
section
/-!
DEFINITION. The dispatcher's passes at the sample point: order, aging, base charges, top note, heart, base, retries, and
the placing of steps on clusters and engines (R47 to R56, R119 to R121, R131, R142).
-/
namespace Sys2Proof.Machine

/-! ### Order (R49) -/

/-- How far an account stands behind the one served last. -/
def acctDist (last a : Nat) : Nat := (a + 4128 - (last + 1) % 4128) % 4128

/-- A place in the order: eligible tick, turn within the account, account distance. -/
structure Place where
  elig : Nat
  turn : Nat
  dist : Nat
  id   : Nat
  deriving DecidableEq, Repr

/-- Whether one place comes before another. -/
def Place.before (a b : Place) : Bool :=
  decide (a.elig < b.elig) || (decide (a.elig = b.elig) && (decide (a.turn < b.turn) ||
    (decide (a.turn = b.turn) && decide (a.dist ≤ b.dist))))

/-- Put a place in order. -/
def insertPlace (p : Place) : List Place → List Place
  | [] => [p]
  | q :: t => if q.before p then q :: insertPlace p t else p :: q :: t

/-- The order of a list of requests given in arrival order: oldest eligible tick first, accounts round robin, arrival
order within an account (R49). -/
def orderWork (last : Nat) (ws : List (Nat × Work)) : List Nat :=
  let go := ws.foldl (fun (acc : List Place × List (Nat × Nat)) p =>
    let k := (p.2.acct, p.2.elig)
    (insertPlace ⟨p.2.elig, acc.2.count k, acctDist last p.2.acct, p.1⟩ acc.1, k :: acc.2)) ([], [])
  go.1.map (·.id)

/-- The requests a condition picks, in order. -/
def pick (s : State) (c : Work → Bool) : List Nat := orderWork s.tk.lastAcct (s.wk.works.filter (fun p => c p.2))

/-! ### Placing steps (R119 to R121) -/

/-- Issue cycles and threads placed on an engine in this tick. -/
def loadOf (s : State) (e : Nat) : Nat × Nat := tget (0, 0) s.en.load e



/-- Engines of a cluster with room for a step of so many cycles, least loaded first, but for those excluded. -/
def roomy (s : State) (c cycles : Nat) (not_ : List Nat) : List Nat :=
  let fits := (List.range 16).map (16 * c + ·) |>.filter (fun e =>
    pairs s e && decide (e ∉ not_) && decide ((loadOf s e).2 < 8) && decide ((loadOf s e).1 + cycles ≤ 4088))
  (fits.foldl (fun (acc : List Place) e => insertPlace ⟨(loadOf s e).1, e, 0, e⟩ acc) []).map (·.id)

/-- Load a step on an engine. -/
def loadEngine (e cycles : Nat) (s : State) : State :=
  { s with en.load := tset (0, 0) s.en.load e ((loadOf s e).1 + cycles, (loadOf s e).2 + 1) }

/-- The engines a step takes in a cluster: two for a twin run, one for a single run (R119). -/
def findPair (s : State) (c cycles : Nat) (twin : Bool) (not_ : List Nat) : Option (Nat × Nat) :=
  match roomy s c cycles not_ with
  | a :: b :: _ => some (a, if twin then b else a)
  | [a] => if twin then none else some (a, a)
  | [] => none

/-- Put a step on its engines. -/
def placeOn (id : Nat) (p : Nat × Nat) (cycles : Nat) (s : State) : State :=
  let s := loadEngine p.1 cycles s
  let s := if p.1 = p.2 then s else loadEngine p.2 cycles s
  modWork id (fun w => { w with e1 := p.1, e2 := p.2, onEng := true, spilled := false }) s

/-- The supervisor places a granted step, or spills one that finds no room (R120); a top step always finds it, since its grant asks
for it. -/
def placeStep (id : Nat) (c : Nat) (s : State) : State :=
  match work s id with
  | none => s
  | some w =>
    match findPair s c (workCycles s w) (workTwin s w) [] with
    | some p => placeOn id p (workCycles s w) s
    | none => modWork id (fun w => { w with spilled := true })
        (modCluster c (fun x => { x with spill := satAdd 32 x.spill 1 }) s)

/-- A step that was spilled starts now, before any step newly granted (R120). -/
def startSpilled (s : State) : State :=
  (s.wk.works.filter (fun p => p.2.spilled)).foldl (fun s p =>
    match findPair s p.2.cluster (workCycles s p.2) (workTwin s p.2) [] with
    | some e => placeOn p.1 e (workCycles s p.2) s
    | none => s) s

/-- Saved-state slots occupied in a cluster (R121, R152). -/
def slotsUsed (s : State) (c : Nat) : Nat := (s.wk.works.filter (fun p => p.2.slot && decide (p.2.cluster = c))).length

/-- A request keeps saved state between steps (R121). -/
def multiStep (s : State) (w : Work) : Bool := decide (workSteps s w ≠ 1)

/-- The functions whose programs a request runs. -/
def Work.funcs (w : Work) : List Nat := match w.plan with | some p => p.subs.map (fun x => x.func) | none => [w.sub.func]

/-- A cluster holds a version of every program that a request runs (R148). -/
def holdsProgs (s : State) (w : Work) (c : Nat) : Bool :=
  w.funcs.all (fun f => (heldVersion s (cluster s c).vendVer (cluster s c).custVer f).isSome)

/-- A step may draw random values from its cluster's instance: those of the functions that R154, R171, R182 and R231 let draw (log entry 102). -/
def workDraws (w : Work) : Bool :=
  let draws := fun (f : Nat) => decide (f ∈ [0x0101, 0x0103, 0x0105, 0x0301, 0x0310, 0x0311, 0x0701])
  match w.plan with
  | some p => p.subs.any (fun x => draws x.func)
  | none => draws w.sub.func

/-- A cluster has room for a step at this sample point; top work must find its engines there, since it is never spilled (R120, R121,
R146). A request begins only where its programs are (R148), and draws only from an
instance below its limit (R369). -/
def clusterTakes (s : State) (w : Work) (top : Bool) (cost c : Nat) : Bool :=
  decide ((cluster s c).state = 0) && !draining s c && decide (2 ≤ clusterActive s c) &&
  decide (tget 0 s.en.assigned c + cost ≤ clusterCap s c) &&
  (!top || (decide (tget 0 s.en.assignedTop c + cost ≤ clusterCap s c / 2) && (findPair s c (workCycles s w) (workTwin s w) []).isSome)) &&
  (w.slot || !multiStep s w || decide (slotsUsed s c < 64)) && (w.slot || holdsProgs s w c) &&
  !(workDraws w && (drbg s c).limit)

/-- The clusters that could take a step: the one that holds its slot, or any (R121). -/
def clustersFor (s : State) (w : Work) (top : Bool) (cost : Nat) : List Nat :=
  (if w.slot then [w.cluster] else inService s).filter (clusterTakes s w top cost)

/-- The step can be granted now, capacity of the pool aside (R49). -/
def grantable (s : State) (w : Work) (top : Bool) (cost : Nat) : Bool :=
  resourceFree s w && (decide (w.unit ≠ .engine) || !(clustersFor s w top cost).isEmpty)

/-- A step of an atomic batch's part is the batch's last step: its other parts wait from this tick on (R54, R142). -/
def touchBatch (w : Work) (s : State) : State :=
  match w.src with
  | .part b _ => match batch s b with
    | some x => if x.atomic then x.works.foldl (fun s p => modWork p.2 (fun w => { w with lastGrant := s.tick }) s) s else s
    | none => s
  | _ => s

/-- Grant one step: it is assigned to a cluster that has room, which one being open (log entry 21), and placed. -/
def grantStep (id note cost : Nat) (s : State) : State :=
  match work s id with
  | none => s
  | some w =>
    let first := w.grant.isNone
    let s := modWork id (fun w => { w with
      phase := .running, lastGrant := s.tick, cost, isNew := false, onEng := false, mc1 := false, mc2 := false, overruns := 0
      oldBad1 := false, oldBad2 := false
      grant := some (w.grant.getD s.tick), runNote := if first then note else w.runNote
      vend := if first then vendorVersion s else w.vend
      band := if first then s.tk.band else w.band
      cons := w.cons || workCons s w }) (touchBatch w s)
    let s := if w.unit = .engine then
        let cs := clustersFor s w (decide (note = 0)) cost
        let (v, s) := if cs.length ≤ 1 then (0, s) else draw s
        let c := cs.getD (v % max 1 cs.length) 0
        let s := { s with
          en.assigned := tset 0 s.en.assigned c (tget 0 s.en.assigned c + cost)
          en.assignedTop := if note = 0 then tset 0 s.en.assignedTop c (tget 0 s.en.assignedTop c + cost) else s.en.assignedTop }
        let s := modCluster c (fun x => { x with granted := wrapAdd 64 x.granted cost }) s
        let s := modWork id (fun w => { w with cluster := c, slot := w.slot || multiStep s w
                                               vend := if first then (cluster s c).vendVer else w.vend
                                               version := if first then (cluster s c).custVer else w.version }) s
        placeStep id c s
      else s
    onGrant id { s with tk.servedAcct := w.acct }

/-! ### Refill, aging, base charges -/

/-- Refill every allowance (R47). -/
def refill (s : State) : State :=
  { s with tk.accts := s.tk.accts.map (fun p => (p.1, { p.2 with
      topAllow := min p.2.topDepth (p.2.topAllow + p.2.topRate)
      baseAllow := min p.2.baseDepth (p.2.baseAllow + p.2.baseRate) })) }

/-- Waiting for a first grant, staged or not. -/
def Work.waits (w : Work) : Bool := decide (w.phase = .waiting ∨ w.phase = .unstaged) && w.grant.isNone

/-- A part of an atomic batch: the batch's head stands for it until the batch has begun. -/
def inAtomic (s : State) (w : Work) : Bool := match w.src with | .part b _ => (batch s b).any (·.atomic) | _ => false

/-- A request the admission rules look at: not a part that its atomic batch stands for. -/
def admits (s : State) (w : Work) : Bool := w.waits && !inAtomic s w

/-- Base work that has waited AGE_WAIT ticks becomes heart work (R53, R54). -/
def ageBase (s : State) : State :=
  let wait := s.tk.cfg.ageWait
  let old : Work → Bool := fun w => decide (w.note = 2) &&
    ((admits s w && decide (w.elig + wait ≤ s.tick)) || (decide (w.phase = .between) && decide (w.lastGrant + wait ≤ s.tick)))
  let n := (s.wk.works.filter (fun p => old p.2)).length
  { s with
    wk.works := s.wk.works.map (fun p => if old p.2 then
      (p.1, { p.2 with note := 1, age := true, since := if p.2.grant.isNone then p.2.elig + wait else s.tick }) else p)
    tk.nAged := satAdd 32 s.tk.nAged n }

/-- A refusal's retry-after (R56): at least 1, and 65,535 when none can be given. -/
def retryAfter (num den : Nat) : Nat :=
  if den = 0 then 65535 else
  let r := max 1 ((num + den - 1) / den)
  if 65535 < r then 65535 else r

/-- End a whole atomic batch that no grant has begun: its parts take the status; where one part alone is refused, by its index, the
others take PART_NOT_RUN (R142, R143, R145). -/
def endAtomicWhole (bid : Nat) (r : FnRes) (only : Option Nat) (s : State) : State :=
  match batch s bid, work s bid with
  | some b, some w =>
    let rec_ := fun (p : Sub) (hit : Bool) => partRecord s { src := w.src, sub := p, reqNote := w.reqNote, dem := w.dem, age := w.age,
                                                             cons := w.cons || s.tk.pwrFault, elig := w.elig,
                                                             endTicks := if hit then r.ticks else 0, grant := none }
      (if hit then { detail := r.detail, info := r.info } else {}) (if hit then r.status else St.partNotRun)
    let recs := (b.parts.zipIdx).foldl (fun t p => match tblGet t p.2 with
      | some _ => t
      | none => tblPut t p.2 (rec_ p.1 (only.all (fun j => decide (j = p.2))))) b.recs
    let s := b.works.foldl (fun s p => match work s p.2 with
      | some _ => dropWork p.2 s
      | none => s) s
    let s := refund w s
    { modWork bid (fun w => { w with phase := .ended, charged := 0, res := some {} }) s with
      wk.batches := tblPut s.wk.batches bid { b with
        recs, works := [], age := b.age || w.age, cons := b.cons || w.cons || s.tk.pwrFault, failed := true } }
  | _, _ => s

/-- A request not granted ends at the dispatcher: alone, or the atomic batch it stands for. -/
def endUngranted (id status detail ticks : Nat) (s : State) : State :=
  if isAtomicHead s id then endAtomicWhole id { status, detail, ticks } none s else withdraw id status detail ticks s

/-- The cost of an admission decision: an atomic batch costs its parts (R142). -/
def admitCost (s : State) (id : Nat) (w : Work) (full : Bool) : Nat :=
  match (batch s id).filter (·.atomic) with
  | none => if full then fullCost s w else stepCost s w
  | some b =>
    let parts := b.works.filterMap (fun p => work s p.2)
    if full then (parts.map (fullCost s)).sum else (parts.head?.map (stepCost s)).getD 0

/-- Some cost an admission decision charges is conservative (R57, R142). -/
def admitCons (s : State) (id : Nat) (w : Work) : Bool :=
  match (batch s id).filter (·.atomic) with
  | none => workCons s w
  | some b => (b.works.filterMap (fun p => work s p.2)).any (workCons s)

/-- One newly eligible base request: charge it, or put it on the list to refuse (R52). -/
def chargeOne (acc : State × List (Nat × Nat)) (id : Nat) : State × List (Nat × Nat) :=
  let s := acc.1
  match work s id with
  | none => acc
  | some w =>
    let cost := admitCost s id w true
    let s := modWork id (fun w => { w with isNew := false }) s
    if cost ≤ (acct s w.acct).baseAllow then
      (modWork id (fun v => { v with charged := cost, cons := v.cons || admitCons s id w }) (modAcct w.acct (fun a => { a with baseAllow := a.baseAllow - cost }) s), acc.2)
    else (s, acc.2 ++ [(id, cost)])

/-- Refuse the base requests that found no allowance, with their retry-afters (R56). -/
def refuseBase (refused : List (Nat × Nat)) (s : State) : State :=
  (refused.foldl (fun (acc : State × List (Nat × Nat)) r =>
    match work acc.1 r.1 with
    | none => acc
    | some w =>
      let sum := (acc.2.filter (fun p => decide (p.1 = w.acct))).map (·.2) |>.sum
      let sj := sum + r.2
      let a := acct acc.1 w.acct
      let ra := retryAfter (sj - a.baseAllow) a.baseRate
      (endUngranted r.1 St.refusedLoad 0 ra acc.1, (w.acct, r.2) :: acc.2)) (s, [])).1

/-- A newly eligible request of a note. -/
def newOf (s : State) (note : Nat) (w : Work) : Bool := w.isNew && decide (w.note = note) && decide (w.elig ≤ s.tick) && admits s w

/-- Base charges at the eligible tick (R52). -/
def chargeBase (s : State) : State :=
  let q := (pick s (newOf s 2)).foldl chargeOne (s, [])
  refuseBase q.2 q.1

/-- What refuses a request at its eligible tick: of an atomic batch, what refuses one of its parts refuses the whole (R145, R225). -/
def eligAny (s : State) (id : Nat) (w : Work) : Option FnRes :=
  match (batch s id).filter (·.atomic) with
  | none => eligCheck s w
  | some b => (b.works.filterMap (fun p => work s p.2)).findSome? (eligCheck s)

/-- What is refused at its eligible tick by the function's own chapter, BUSY for instance (R225). -/
def checkEligible (s : State) : State :=
  (s.wk.works.filter (fun p => p.2.isNew && decide (p.2.elig ≤ s.tick) && p.2.waits)).foldl (fun s p =>
    match eligAny s p.1 p.2 with
    | some r => if isAtomicHead s p.1 then endAtomicWhole p.1 r none s else withdraw p.1 r.status r.detail r.ticks s
    | none => s) s

/-! ### The passes -/

/-- A pass under way: the state, the pool left, the CU granted, whether it stopped, accounts demoting, and atomic parts
granted. -/
structure Pass where
  s       : State
  pool    : Nat
  used    : Nat := 0
  stopped : Bool := false
  demoting : List Nat := []
  parts   : List Nat := []

/-- Begin an atomic batch: its first part is granted with it, the others become continuations (R54, R142). -/
def beginAtomic (bid note cost : Nat) (s : State) : State :=
  match batch s bid, work s bid with
  | some b, some h =>
    let s := modBatch bid (fun b => { b with begun := true, age := b.age || h.age, cons := b.cons || h.cons }) s
    let s := modWork bid (fun w => { w with phase := .running, grant := some s.tick, runNote := note }) s
    let s := b.works.foldl (fun s p => modWork p.2 (fun w => { w with
      note := (if note = 0 then 1 else note), isNew := false, age := w.age || h.age, cons := w.cons || h.cons, lastGrant := s.tick
      phase := if w.staged then .between else .unstaged }) s) s
    match b.works.head? with
    | some p => grantStep p.2 note cost s
    | none => s
  | _, _ => s

/-- The request whose key tests, limiter and resources count for a grant: an atomic batch's first part (R142). -/
def probe (s : State) (id : Nat) (w : Work) : Work :=
  match (batch s id).filter (·.atomic) with
  | some b => ((b.works.head?.bind (fun p => work s p.2))).getD w
  | none => w

/-- Grant a request or an atomic batch. -/
def grantAny (id note cost : Nat) (s : State) : State :=
  if isAtomicHead s id then beginAtomic id note cost s else grantStep id note cost s

/-- The module refuses a grant at the sample point itself (R173): the request ends, and an atomic batch with it. -/
def endAtGrant (id : Nat) (r : FnRes) (s : State) : State :=
  let s := if r.status ≠ St.refusedLimit then s else match work s id with
    | some w => (limitedSubs (probe s id w)).foldl (fun s x => limFullNotice { w with sub := x } s) s
    | none => s
  if isAtomicHead s id then endAtomicWhole id r ((batch s id).bind (fun b => b.works.head?.map (·.1))) s
  else match work s id with
    | none => s
    | some w => if w.granted then modWork id (fun w => { w with endTicks := r.ticks }) (finish id r s) else
        modWork id (fun w => { w with phase := .ended, res := some r, endTicks := r.ticks, charged := 0, cons := w.cons || s.tk.pwrFault })
          (refund w s)

/-- An earlier part of the same atomic batch still waits for its first grant: parts are taken in part index order (R142). -/
def earlierWaits (s : State) (w : Work) : Bool :=
  match w.src with
  | .part b j => match batch s b with
    | some x => x.atomic && x.works.any (fun p => decide (p.1 < j) && (work s p.2).any (fun v => v.grant.isNone))
    | none => false
  | _ => false

/-- Parts of its atomic batch already granted at this sample point (R142). -/
def atomicCount (p : Pass) (w : Work) : Nat := match w.src with | .part b _ => p.parts.count b | _ => 0

/-- One item of a heart or base pass (R49): the pool first, then the other resources, then what refuses the grant itself (R173). -/
def passOne (note : Nat) (p : Pass) (id : Nat) : Pass :=
  if p.stopped then p else
  match work p.s id with
  | none => p
  | some w =>
    let q := probe p.s id w
    if (!q.staged && decide (q.phase = .unstaged)) || earlierWaits p.s w then p else
    let cost := stepCost p.s q
    if p.pool < cost then { p with stopped := true }
    else if !grantable p.s q false cost || decide (1024 ≤ atomicCount p w) then p
    else match preGrant p.s q with
    | some r => { p with s := endAtGrant id r p.s }
    | none =>
      { p with s := grantAny id note cost p.s, pool := p.pool - cost, used := p.used + cost
               parts := match w.src with | .part b _ => b :: p.parts | _ => p.parts }

/-- Demote a top request (R50). -/
def demote (id a : Nat) (p : Pass) : Pass :=
  { p with s := modWork id (fun w => { w with note := 1, dem := true, isNew := false })
                  { p.s with tk.nDemoted := satAdd 32 p.s.tk.nDemoted 1 }
           demoting := a :: p.demoting }

/-- One newly eligible top request: granted or demoted (R50). -/
def topOne (p : Pass) (id : Nat) : Pass :=
  match work p.s id with
  | none => p
  | some w =>
    let cost := stepCost p.s w
    if decide (w.acct ∈ p.demoting) || !workTopOk p.s w || decide ((acct p.s w.acct).topAllow < cost) || topBarred p.s w ||
        !grantable p.s w true cost then demote id w.acct p
    else match preGrant p.s w with
      | some r => { p with s := endAtGrant id r p.s }
      | none => { p with s := grantStep id 0 cost (modAcct w.acct (fun a => { a with topAllow := a.topAllow - cost }) p.s)
                         used := p.used + cost }

/-- The top pass; while no grants are made every newly eligible top request is demoted, since none waits as top note (R50). -/
def topPass (stop : Bool) (s : State) : Pass :=
  (pick s (newOf s 0)).foldl (fun p id => if stop then
    (match work p.s id with | some w => demote id w.acct p | none => p) else topOne p id) { s, pool := s.tk.pool }

/-- A cluster holds the versions that a request's programs have (R131, R148). -/
def sameProgs (s : State) (w : Work) (c : Nat) : Bool :=
  w.funcs.all (fun f => decide (heldVersion s (cluster s c).vendVer (cluster s c).custVer f = some (progVersion s w.vend w.version f)))

/-- The clusters a retry may take: its own first, then any in service, of the same program versions; a draining one gets none (R131,
R146). -/
def retryClusters (s : State) (w : Work) : List Nat :=
  (w.cluster :: inService s).filter (fun c => decide ((cluster s c).state = 0) && !draining s c && sameProgs s w c)

/-- Twin retries from a budget, top retries first (R59, R131): the state and the CU left. -/
def grantRetries (budget : Nat) (s : State) : State × Nat :=
  let due := s.wk.works.filter (fun p => decide (p.2.phase = .retryDue))
  let order := due.filter (fun p => decide (p.2.runNote = 0)) ++ due.filter (fun p => decide (p.2.runNote ≠ 0))
  (order.foldl (fun (acc : State × Nat) p =>
    let cost := stepBare acc.1 p.2 p.2.stepsDone
    if acc.2 < cost then acc else
    match retryPlace acc.1 p.2 with
    | none => acc
    | some (c, e) => (modWork p.1 (fun w => { w with phase := .retrying, cluster := if w.slot then w.cluster else c })
        (placeOn p.1 e (workCycles acc.1 p.2) acc.1), acc.2 - cost)) (s, budget))
where
  /-- A free pair for a retry: in the same cluster, or in any cluster in service (R131). -/
  retryPlace (s : State) (w : Work) : Option (Nat × (Nat × Nat)) :=
    (retryClusters s w).findSome? (fun c =>
      (findPair s c (workCycles s w) (workTwin s w) [w.old1, w.old2]).map (fun e => (c, e)))

/-- Heart work still waiting: demoted and aged work included. -/
def heartWaiting (s : State) : List (Nat × Work) :=
  s.wk.works.filter (fun p => decide (p.2.note = 1) && decide (p.2.elig ≤ s.tick) && (admits s p.2 || decide (p.2.phase = .between)))

/-- Refuse heart work that has reached HEART_LIMIT (R51, R56). -/
def refuseHeart (granted : Nat) (s : State) : State :=
  let all := heartWaiting s
  let out := all.filter (fun p => admits s p.2 && decide (p.2.since + s.tk.cfg.heartLimit ≤ s.tick))
  let rest := all.filter (fun p => !(admits s p.2 && decide (p.2.since + s.tk.cfg.heartLimit ≤ s.tick)))
  let b := (rest.map (fun p => stepCost s (probe s p.1 p.2))).sum
  let s := if out.isEmpty then s else askWake s
  out.foldl (fun s p => endUngranted p.1 St.refusedLoad 0 (retryAfter b granted) s) s

/-- The whole grant order of R49, after the switches of this sample point. The retry reserve is 1,024 CU with what the slice leaves, and
at the end what the pool leaves (R45, R59). -/
def grantPasses (s : State) : State :=
  let s := refill { s with tk.lastAcct := s.tk.servedAcct }
  let s := checkEligible s
  let s := splitBatches (chargeBase (ageBase s))
  let s := startSpilled { s with en.load := [], en.assigned := [], en.assignedTop := [] }
  let od := anyOverdue s
  let hk0 := hkPass s
  let retry := grantRetries (retryReserve + (hkSlice - hk0.2)) hk0.1
  let stop := grantsStopped retry.1
  let top := topPass stop retry.1
  let pool := s.tk.pool - (if top.s.tk.cfg.lend then top.used else top.s.tk.cfg.tTop)
  let hk := grantOverdue od pool top.s
  let cont := fun (s : State) (n : Nat) => pick s (fun w => decide (w.phase = .between) && decide (w.note = n))
  let wait := fun (s : State) (n : Nat) => if stop then [] else
    pick s (fun w => admits s w && decide (w.phase = .waiting) && decide (w.note = n) && decide (w.elig ≤ s.tick))
  let heart := (cont hk.1 1 ++ wait hk.1 1).foldl (passOne 1) { s := hk.1, pool := pool - hk.2 }
  let s := refuseHeart heart.used heart.s
  let base := (cont s 2 ++ wait s 2).foldl (passOne 2) { s, pool := heart.pool }
  let s := (grantRetries (retry.2 + base.pool) base.s).1
  let s := { s with tk.grantTick := s.tick, tk.grantTop := top.used, tk.grantHeart := heart.used, tk.grantBase := base.used
                    tk.hkCu := hk.2 }
  { s with wk.works := s.wk.works.map (fun p => if p.2.elig ≤ s.tick then (p.1, { p.2 with isNew := false }) else p) }

end Sys2Proof.Machine
end

