-- ==== Sys2Proof/Machine/TpcBase.lean ====
section
/-!
DEFINITION. Endpoints: TPC framing, what is sent to an endpoint and what is held for it (R289 to R295, R303 to R306).
-/
namespace Sys2Proof.Machine

/-! ### Accessors -/

/-- A loaded endpoint. -/
def ep (s : State) (e : Nat) : Option Ep := tblGet s.pt.eps e

/-- Change a loaded endpoint. -/
def modEp (e : Nat) (f : Ep → Ep) (s : State) : State :=
  match ep s e with
  | some x => { s with pt.eps := tblPut s.pt.eps e (f x) }
  | none => s

/-! ### TPC framing (R290 to R292) -/

/-- The 32-octet header. -/
def tpcHeader (type note phase e seq accord len ref echo : Nat) : List Byte :=
  beBytes 1 1 ++ beBytes 1 type ++ beBytes 1 (note * 64) ++ beBytes 1 (phase * 128) ++ beBytes 4 e ++ beBytes 8 seq ++ beBytes 2 accord ++
  beBytes 2 len ++ beBytes 4 ref ++ beBytes 8 echo

/-- The result prefix (R292). -/
def resultPrefix (status detail disp : Nat) : List Byte := beBytes 2 status ++ beBytes 2 detail ++ beBytes 4 disp

/-- A protected message of the module: header, ciphertext, tag (R292). -/
def sealTpc (k : KeySet) (header payload : List Byte) : List Byte :=
  header ++ Config.gcmSeal k.kme (k.sme ++ octets header 8 8) header payload

/-- Octets of the frame that carries a datagram (R291): Ethernet, VLAN tag, IP by the address kind, UDP, FCS. -/
def tpcFrame (s : State) (p sub : Nat) (peer : List Byte) (n : Nat) : Nat :=
  let vlan := ((port s p).subs[sub]?).any (fun a => decide (a.vlan ≠ 0))
  18 + (if vlan then 4 else 0) + (if peer.length ≤ 12 then 20 else 40) + 8 + n

/-- An unprotected message to the source of a HELLO, while its sub-port carries traffic (R278, R300, R301). -/
def sendOpen (p sub : Nat) (dst : List Byte) (e type phase ref : Nat) (payload : List Byte) (s : State) : State :=
  let data := tpcHeader type 0 phase e 0 0 payload.length ref 0 ++ payload
  if frameOk s p sub then portOut p sub (tpcFrame s p sub dst data.length) (.tpc p sub dst e type 0 data) none s else s

/-- A REJECT (R291, R301). -/
def sendReject (e : Nat) (h : Hello) (status detail disp : Nat) (s : State) : State :=
  modCnt h.port (fun c => { c with hsFail := satAdd 32 c.hsFail 1 })
    (sendOpen h.port h.subport h.src e 3 0 (be h.header 20 4) (resultPrefix status detail disp) (countStatus status s))

/-! ### Sending under a session (R289, R292, R294, R295) -/

/-- The keys erased: the context is IDLE (R295, R303). -/
def Ep.idle (x : Ep) : Ep := { x with state := 1, cur := none, next := none, nextSrc := none }

/-- Send one message under the session in use with its next SEQ; the SEQ it took. -/
def sendSeq (e type note accord ref echo : Nat) (payload : List Byte) (m : Option OutMsg) (s : State) : Option Nat × State :=
  match ep s e with
  | none => (none, s)
  | some x =>
    match x.cur with
    | none => (none, s)
    | some k =>
      let h := tpcHeader type note k.phase e k.txNext accord payload.length ref echo
      let data := sealTpc k h payload
      let near := decide (2 ^ 48 - 2 ^ 32 ≤ k.txNext + 1) && !k.near
      let s := modEp e (fun x => { x with cur := some { k with txNext := k.txNext + 1, near := k.near || near } }) s
      let s := laneOut x.port x.subport payload.length (tpcFrame s x.port x.subport x.src data.length) (.tpc x.port x.subport x.src e type k.txNext data) m s
      (some k.txNext, if near then Sys2Proof.Machine.note 0x0B06 1 x.port e 0 s else s)

/-- The module closes the session: CLOSE while it can be sent, then the keys go (R295, R303). -/
def closeSession (e : Nat) (s : State) : State :=
  match ep s e with
  | none => s
  | some x =>
    let s := if x.cur.isSome && frameOk s x.port x.subport then (sendSeq e 0x21 1 0 0 0 [] none s).2 else s
    modEp e Ep.idle s

/-- The last SEQ is kept for a CLOSE: the session ends with it (R295). -/
def closeIfSpent (e : Nat) (s : State) : State :=
  match (ep s e).bind (·.cur) with
  | some k => if k.txNext = 2 ^ 48 - 1 then
      let p := ((ep s e).map (·.port)).getD 0
      note 0x0B07 1 p e 0 (closeSession e s) else s
  | none => s

/-- The endpoint can be sent to: ESTABLISHED, or ACCEPTING with an old set whose session is not DORMANT (R302, R304). -/
def reachable (s : State) (e : Nat) : Bool :=
  (ep s e).any (fun x => (decide (x.state = 3) || (decide (x.state = 2 ∧ x.back = 3) && x.cur.isSome)) && frameOk s x.port x.subport)

/-- The endpoint's port has room for a message in its egress buffer (R34). -/
def outRoom (s : State) (m : OutMsg) : Bool :=
  (ep s m.ep).any (fun x => egRoom s x.port (tpcFrame s x.port x.subport x.src (48 + m.payload.length)))

/-- Send a message: a DELIVER gives its SEQ to its forward, a REFUSE is counted; a frame that carries a PIN tag is dropped at the exit (R304, R313,
R339, R422). -/
def sendMsg (m : OutMsg) (s : State) : State :=
  match m.pin with
  | some t => egressStop t.1 t.2 4 s
  | none =>
  let p := ((ep s m.ep).map (·.port)).getD 0
  let q := sendSeq m.ep m.type m.note m.accord m.ref m.echo m.payload (some { m with since := 0 }) s
  let s := if m.type = 0x12 ∧ q.1.isSome then modCnt p (fun c => { c with tpcRefuse := satAdd 32 c.tpcRefuse 1 }) q.2 else q.2
  let s := match m.fwd with
    | some f => match tblGet s.ad.forwards f with
      | some w => { s with ad.forwards := tblPut s.ad.forwards f { w with seq := q.1 } }
      | none => s
    | none => s
  closeIfSpent m.ep s

/-- A held message is discarded: a record, and a count of the port of its request (R305). -/
def discardOut (m : OutMsg) (s : State) : State :=
  modCnt m.port (fun c => { c with resumeDiscard := satAdd 32 c.resumeDiscard 1 })
    (report { event := 0x0B04, notify := false, unit := m.port, argA := m.ep, argB := m.ref, argC := m.echo } s)

/-- A message is held, or discarded where its places are full; one that was held before keeps its window (R305). -/
def holdOut (m : OutMsg) (s : State) : State :=
  if (ep s m.ep).isNone ∨ 65536 ≤ s.pt.held.length ∨ 64 ≤ (s.pt.held.filter (fun x => decide (x.ep = m.ep))).length then discardOut m s
  else { s with pt.held := s.pt.held ++ [{ m with since := if m.since = 0 then s.tick else m.since }] }

/-- The egress assembler takes a message: sent or held (R304). -/
def deliverOrHold (m : OutMsg) (s : State) : State := if reachable s m.ep && outRoom s m then sendMsg m s else holdOut m s

/-- A context reached ESTABLISHED: what is held for it is sent in order; what has outlived its window is discarded (R305, R307). -/
def sendHeld (e : Nat) (s : State) : State :=
  let mine := s.pt.held.filter (fun m => decide (m.ep = e))
  let s := { s with pt.held := s.pt.held.filter (fun m => decide (m.ep ≠ e)) }
  mine.foldl (fun s m => if m.since + 2 ^ 16 ≤ s.tick then discardOut m s else deliverOrHold m s) s

/-- A message is ready: the egress assembler of its die takes it next (R304). -/
def queueOut (m : OutMsg) (s : State) : State :=
  { s with pt.ready := tblPut s.pt.ready s.pt.nextOut m, pt.nextOut := s.pt.nextOut + 1 }

/-- RESPONSE_READY (R34, R304): the assembler takes a message that its port's egress buffer has room for. -/
def execResponseReady (id : Nat) (s : State) : Res :=
  match tblGet s.pt.ready id with
  | none => noEvent s
  | some m => if reachable s m.ep && !outRoom s m then noEvent s else
    .next (deliverOrHold m { s with pt.ready := tblDel s.pt.ready id })

/-- RESUME_WINDOW_END (R305): the oldest message held for an endpoint past its window is discarded. -/
def execResumeWindowEnd (e : Nat) (s : State) : Res :=
  match s.pt.held.find? (fun m => decide (m.ep = e)) with
  | none => noEvent s
  | some m => whenOk (decide (m.since + 2 ^ 16 ≤ s.tick)) s
      (discardOut m { s with pt.held := s.pt.held.erase m })

end Sys2Proof.Machine
end

