-- ==== Sys2Proof/Machine/AccordEnd.lean ====
section
/-!
DEFINITION. How a terminated message ends: plain headers, answers, forwards, referrals, verdict builds (R323, R332 to R335, R339,
R342, R344, R345).
-/
namespace Sys2Proof.Machine

/-! ### Statistics and reservations -/

/-- Change an accord's statistics (R347). -/
def modStat (a : Nat) (f : AccStat → AccStat) (s : State) : State := { s with ad.stats := tset {} s.ad.stats a (f (tget {} s.ad.stats a)) }

/-- Granules reserved on a queue pair for plain headers (R327). -/
def hdrReserved (s : State) (n : Nat) : Nat :=
  (s.ad.msgs.map (fun p => if p.2.info.qp = n then p.2.granules else 0)).sum +
  (s.ad.forwards.map (fun p => if p.2.info.qp = n then p.2.gran else 0)).sum +
  (s.ad.referrals.map (fun p => if p.2.msg.info.qp = n then p.2.msg.granules else 0)).sum

/-- The requests of a queue pair that were fetched and not yet completed. -/
def worksOf (s : State) (n : Nat) : List (Nat × Work) :=
  s.wk.works.filter (fun p => match p.2.src with | .queue q _ => decide (q = n) | _ => false)

/-- Granules free in a completion ring. -/
def freeGran (q : Qp) : Nat := 2 ^ q.cqLog - (q.written - q.head)

/-- HDR_QP has room for so many granules (R86, R327). -/
def hdrRoom (s : State) (n need : Nat) : Bool :=
  let q := qp s n
  let out := ((worksOf s n).map (fun w => w.2.maxGran)).sum
  decide (q.state = 1) && decide ((slice s q.slice).state = 2) && (hostLink s q.link).up &&
    decide (out + hdrReserved s n + need + 2 ≤ freeGran q)

/-- The disposition word of work never granted, with a retry-after (R326). -/
def refuseDisp (s : State) (note ticks : Nat) : Nat := dispWord note 3 false false false false s.tk.pwrFault s.tk.band ticks

/-- The reservations of a queue pair are lost: its slice was reset, or its link went down (R347). -/
def dropHdr (n : Nat) (s : State) : State :=
  let m := fun (x : Msg) => if x.info.qp = n then { x with granules := 0 } else x
  { s with
    ad.msgs := s.ad.msgs.map (fun p => (p.1, m p.2))
    ad.forwards := s.ad.forwards.map (fun p => (p.1, if p.2.info.qp = n then { p.2 with gran := 0 } else p.2))
    ad.referrals := s.ad.referrals.map (fun p => (p.1, { p.2 with msg := m p.2.msg })) }

/-! ### Plain headers (R333, R334) -/

/-- What one plain header says. -/
structure Header where
  info    : HdrInfo
  kind    : Nat
  action  : Nat
  status  : Nat
  detail  : Nat := 0
  disp    : Nat
  effects : Bool
  peer    : Nat := 0xFFFFFFFF
  link    : Nat := 0
  txTick  : Nat := 0
  step    : Nat := 0xFF
  nField  : Nat := 0
  fields  : List Byte := []
  deriving DecidableEq, Repr

/-- The result bytes (R334). -/
def Header.bytes (h : Header) : List Byte :=
  let i := h.info
  leBytes 2 i.accord ++ leBytes 1 h.kind ++ leBytes 1 h.action ++ leBytes 4 i.ep ++ leBytes 8 i.seq ++ leBytes 4 i.ref ++
  leBytes 2 i.domain ++ leBytes 1 i.port ++ leBytes 1 h.nField ++ leBytes 4 h.peer ++ leBytes 4 (i.route.getD 0xFFFFFFFF) ++
  leBytes 8 h.link ++ leBytes 8 i.rxTick ++ leBytes 8 h.txTick ++ leBytes 2 i.mti ++ leBytes 1 h.step ++ leBytes 5 0 ++ h.fields

/-- Write a header on its queue pair; without its reservation it is discarded and counted (R333, R347). `gran` is what the
message still reserved. -/
def writeHeader (h : Header) (gran : Nat) (s : State) : State :=
  let q := qp s h.info.qp
  if gran = 0 ∨ q.state ≠ 1 then modStat h.info.accord (fun a => { a with discarded := satAdd 32 a.discarded 1 }) s
  else
    let body := h.bytes
    writeCpl h.info.qp { status := h.status, func := 0xFFFE, ctag := 0, disp := h.disp, seq := 0, detail := h.detail, tElig := h.info.elig
                         outBytes := body.length, info := infoWord h.effects 0, inline := body } s

/-! ### What goes to endpoints -/

/-- A REFUSE to the sender of a message (R292, R332). -/
def refuseOut (i : HdrInfo) (note status detail disp : Nat) : OutMsg :=
  { ep := i.ep, type := 0x12, note, accord := 0, ref := i.ref, echo := i.seq, payload := resultPrefix status detail disp, port := i.port }

/-- The MTI of a RESPONSE (R323). -/
def responseMti (a : Accord) : Nat := if a.syn = 4 then 0 else a.mtiOut + 0x10

/-- Whose request it is: the message's own, or for a REPLY the one that was forwarded (R339, R340). -/
def Msg.requester (m : Msg) : HdrInfo := match m.fwd with | some f => f.2.info | none => m.info

/-- What a KIND 3 header says of a message: it names the sender of the original REQUEST (R334). -/
def Msg.outcome (m : Msg) : HdrInfo := { m.info with ep := m.requester.ep }

/-- A side effect of the message stands: one of its steps', or the forward that a REPLY closed (R333, R340). -/
def Msg.stands (m : Msg) (eff : Bool) : Bool := eff || m.fwd.isSome

/-- A RESPONSE: to the sender of a REQUEST, or for a REPLY to that of the original request (R340). -/
def responseOut (m : Msg) (note status detail disp : Nat) (body : List Byte) : OutMsg :=
  let i := m.requester
  { ep := i.ep, type := 0x11, note, accord := 0, ref := i.ref, echo := i.seq, payload := resultPrefix status detail disp ++ body, port := i.port }

/-- The DELIVER's note (R337). -/
def deliverNote (m : Msg) : Nat :=
  match m.route with
  | some r => if bitOf r.flags 0 then r.flags / 2 % 4 else m.note
  | none => m.note

/-- Open a pending forward and its DELIVER (R339): the state and the forward's id. -/
def openForward (m : Msg) (dest : Nat) (body : List Byte) (pin : Option (Nat × Nat)) (effects : Bool) (s : State) : State × Nat :=
  let id := s.ad.nextFwd
  let wait := match m.route with | some r => if r.waitLog = 0 then m.accord.replyLog else r.waitLog | none => m.accord.replyLog
  let r := m.requester
  let f : Forward := { info := { m.info with ep := r.ep, seq := r.seq, ref := r.ref }, version := m.version, note := m.note, route := m.route, dest, seq := none, closing := s.tick + 2 ^ wait, effects
                       gran := min 1 m.granules }
  let s := { s with ad.forwards := tblPut s.ad.forwards id f, ad.nextFwd := id + 1 }
  (queueOut { ep := dest, type := 0x13, note := deliverNote m, accord := m.info.accord, ref := id % 2 ^ 32, echo := 0, payload := body
              port := m.info.port, fwd := some id, pin } s, id)

/-- Store a referral (R342): the state and its id. -/
def openReferral (m : Msg) (status detail : Nat) (step : Option Nat) (effects : Bool) (s : State) : State × Nat :=
  let id := s.ad.nextRef
  let r : Referral := { msg := { m with granules := min 1 m.granules }, status, detail, step, effects, tick := s.tick }
  ({ s with ad.referrals := tblPut s.ad.referrals id r, ad.nextRef := id + 1 }, id)

/-! ### PIN tags in what a chain sends (R421, R422) -/

/-- The message without its tagged results. -/
def Msg.untagged (m : Msg) : Msg := { m with results := m.results.map (fun r => if r.pin then { r with out := [] } else r) }

/-- The function and program version of the first tagged result. -/
def tagOf (s : State) (w : Work) (m : Msg) : Option (Nat × Nat) :=
  (m.results.find? (·.pin)).map (fun r => (r.func, progVersion s w.vend w.version r.func))

/-- What a built message carries of a tagged result: it carries the tag when it would not be the same without. -/
def bodyTag (s : State) (w : Work) (m : Msg) (values : List (Nat × List Byte)) : Option (Nat × Nat) :=
  if buildFields m.accord m.fields m.results values = buildFields m.accord m.fields m.untagged.results values then none else tagOf s w m

/-- A plain header goes to host memory, or its beat is stopped. -/
def writeTagged (w : Work) (m : Msg) (outs : List MField) (h : Header) (gran : Nat) (s : State) : State :=
  let clear := if outs.isEmpty then [] else buildFields m.accord m.fields m.untagged.results []
  if headEntries m.accord m.fields outs m.results = headEntries m.accord m.fields clear m.untagged.results then writeHeader h gran s
  else match tagOf s w m with
    | some t => egressStop t.1 t.2 0 s
    | none => writeHeader h gran s

/-! ### The end of a chain -/

/-- The steps of a message that succeeded count under their functions' classes; the message itself in class 12 (R548). -/
def countChain (w : Work) (m : Msg) (status : Nat) (s : State) : State :=
  let s := m.results.foldl (fun s r => if statusGood r.status then addUsage m.info.domain (fnClass r.func) 1 0 0 s else s) s
  if statusGood status && w.grant.isSome then addUsage m.info.domain 12 1 0 0 s else s

/-- The step a header names: for a work-level end the first function of the accord step that ran (R334). -/
def endStep (w : Work) : Nat :=
  match w.plan with
  | some p => if w.grant.isNone then 0xFF else (((p.steps[w.stepsDone]?).bind (fun q => q.funcs.head?))).getD 0xFF
  | none => 0xFF

/-- The message was refused: a REFUSE and a header of ACTION 0 (R332, R345). -/
def endRefused (w : Work) (m : Msg) (status detail step : Nat) (s : State) : State :=
  let disp := workDisp s w w.endTicks
  let s := queueOut (refuseOut m.info m.note status detail disp) (countStatus status s)
  writeHeader { info := m.info, kind := m.kind, action := 0, status, detail, disp, effects := m.stands (w.eff && w.grant.isSome)
                peer := (m.fwd.map (·.2.info.ep)).getD 0xFFFFFFFF, link := (m.fwd.map (·.1)).getD 0, txTick := s.tick, step } m.granules s

/-- The message was referred (R342). -/
def endReferred (w : Work) (m : Msg) (status detail : Nat) (step : Option Nat) (outs : List MField) (s : State) : State :=
  let fs := headEntries m.accord m.fields outs m.results
  let s := modStat m.info.accord (fun a => { a with referred := satAdd 32 a.referred 1 }) (countStatus status s)
  let q := openReferral m status detail step (m.stands w.eff) s
  writeTagged w m outs { info := m.info, kind := m.kind, action := 3, status, detail, disp := workDisp s w w.endTicks, effects := m.stands w.eff,
                         peer := (m.fwd.map (·.2.info.ep)).getD 0xFFFFFFFF, link := q.2, step := step.getD 0xFF, nField := fs.1, fields := fs.2 }
    m.granules q.1

/-- The action of a message whose chain went through: 1 forward, 2 refer, 3 respond (R317, R337). -/
def actionOf (m : Msg) : Nat := match m.route with | some r => if m.kind = 1 then r.action else 3 | none => m.accord.action

/-- The chain went through: respond, forward or refer (R323, R339, R342). -/
def endGood (w : Work) (m : Msg) (raised detail : Nat) (step : Option Nat) (s : State) : State :=
  let status := finalStatus w raised
  let disp := workDisp s w w.endTicks
  let outs := buildFields m.accord m.fields m.results []
  let fs := headEntries m.accord m.fields outs m.results
  match actionOf m with
  | 1 =>
    let dest := (m.route.map (·.dest)).getD 0
    let s := modStat m.info.accord (fun a => { a with forwarded := satAdd 32 a.forwarded 1 }) (countStatus status s)
    let q := openForward m dest (encodeMessage m.accord m.accord.mtiOut outs) (bodyTag s w m []) true s
    writeTagged w m outs { info := m.info, kind := m.kind, action := 2, status, detail, disp, effects := true, peer := dest, link := q.2, txTick := s.tick,
                           step := step.getD 0xFF, nField := fs.1, fields := fs.2 } m.granules q.1
  | 2 => endReferred w m status detail step outs s
  | _ =>
    let s := modStat m.info.accord (fun a => { a with responded := satAdd 32 a.responded 1 }) (countStatus status s)
    let s := queueOut { (responseOut m m.note status detail disp (encodeMessage m.accord (responseMti m.accord) outs)) with pin := bodyTag s w m [] } s
    writeTagged w m outs { info := m.info, kind := m.kind, action := 1, status, detail, disp, effects := true,
                           peer := (m.fwd.map (·.2.info.ep)).getD 0xFFFFFFFF, link := (m.fwd.map (·.1)).getD 0, txTick := s.tick,
                           step := step.getD 0xFF, nField := fs.1, fields := fs.2 } m.granules s

/-- The build of a verdict ended (R344): forward or respond, and a header of KIND 3. -/
def endVerdict (w : Work) (m : Msg) (s : State) : State :=
  let id := m.refId.getD 0
  let disp := workDisp s w w.endTicks
  let raised := match w.res with | some r => r.status | none => 0
  let head := fun (status peer : Nat) (fx : Bool) => ({ info := m.outcome, kind := 3, action := 5, status, disp, effects := fx, peer
                                                        link := id, txTick := s.tick } : Header)
  let s := countStatus (if statusGood raised then finalStatus w 0 else raised) s
  if !statusGood raised then
    writeHeader (head raised 0xFFFFFFFF true) m.granules (queueOut (refuseOut m.info m.note raised 0 disp) s)
  else
    let status := finalStatus w 0
    let outs := buildFields m.accord m.fields m.results m.values
    if m.verdict = 3 then
      writeHeader (head status 0xFFFFFFFF true) m.granules
        (queueOut { (responseOut m m.note status 0 disp (encodeMessage m.accord (responseMti m.accord) outs)) with pin := bodyTag s w m m.values } s)
    else
      let room := b2n (hdrRoom s m.info.qp 1)
      let q := openForward { m with granules := room } m.dest (encodeMessage m.accord m.accord.mtiOut outs) (bodyTag s w m m.values) true s
      writeHeader (head status m.dest true) m.granules q.1

/-- A terminated message's request ended (R332, R345). -/
def chainStepEnd (id mid : Nat) (w : Work) (r : FnRes) (s : State) : State :=
  match tblGet s.ad.msgs mid with
  | none => dropWork id s
  | some m =>
    let s := dropWork id { s with ad.msgs := tblDel s.ad.msgs mid }
    if m.refId.isSome then endVerdict w m s else
    let s := countChain w m r.status s
    match chainEndOf m.accord m.results with
    | .refused st d k => endRefused w m st d k s
    | .referred st d k => endReferred w m st d (some k) [] s
    | .go st d k =>
      if r.status ≠ st then endRefused w m r.status r.detail (endStep w) s
      else endGood w m st d k s

/-- A part's output leaves its worker with its record (R532). -/
def partOutput (w : Work) (r : FnRes) : List Byte := if decide (48 < w.sub.outMax) || usesOut w.sub.func then r.out else []

/-- A PART_RESULT payload (R532, R533): the part, whether the worker refused it, its record, its output. -/
def partResultBytes (bid idx : Nat) (refused : Bool) (rec_ : PartRec) (out : List Byte) : List Byte :=
  beBytes 4 bid ++ beBytes 2 idx ++ beBytes 1 (b2n refused) ++ beBytes 1 0 ++ rec_.bytes ++ beBytes 4 out.length ++ out

/-- A part of a spread batch ended at a worker: its record stands in the part journal until the manager has it, and goes to the
manager. A part refused at admission returns with nothing having happened (R533). -/
def spreadPartEnd (id bid idx : Nat) (w : Work) (r : FnRes) (s : State) : State :=
  let st := finalStatus w r.status
  let rec_ := partRecord s w r st
  let refused := w.grant.isNone && decide (st ≠ St.cancelled) && decide (st ≠ St.squashed)
  let mine := fun (j : JPart) => decide (j.batch = bid ∧ j.idx = idx)
  let ended := fun (j : JPart) => if mine j then { j with state := if w.grant.isNone then 3 else 2, rec_, sent := some s.tick } else j
  let journal := if refused then s.gp.journal.filter (fun j => !mine j) else s.gp.journal.map ended
  gpSend s.gp.manager 0x31 (partResultBytes bid idx refused rec_ (partOutput w r)) (dropWork id { s with gp.journal := journal })

/-- A handshake's work ended without its answer: a REJECT (R301, R306). -/
def handshakeEnd (id e : Nat) (w : Work) (r : FnRes) (s : State) : State :=
  let s := dropWork id s
  match (ep s e).bind (·.hello) with
  | none => s
  | some h => sendReject e h r.status r.detail (workDisp s w w.endTicks) (modEp e (fun x => { x with hello := none }) s)

end Sys2Proof.Machine
end

