-- ==== Sys2Proof/Machine/Settle.lean ====
section
/-!
DEFINITION. Ended requests leave: completions, part records, batch completions (R93, R101, R102, R143, R239).
-/
namespace Sys2Proof.Machine

/-- Every LIVE worker has applied the store's changes up to one (R528). -/
def replicated (s : State) (k : Nat) : Bool :=
  decide (s.gp.role ≠ 1) || (liveWorkers s).all (fun m => decide (k ≤ s.gp.sentKs) &&
    s.gp.history.all (fun c => decide (c.ks = 0 ∨ k < c.ks ∨ c.seq ≤ (member s m).ack)))

/-- The change a completion waits for is durable, and in a group every LIVE worker has it (R239, R528). -/
def durable (s : State) (w : Work) : Bool :=
  decide (w.changeSeq ≤ s.ks.durableSeq) && (decide (w.changeSeq = 0) || replicated s w.changeSeq)

/-- One submission of a queue pair left flight. -/
def landed (n : Nat) (s : State) : State := modQp n (fun q => { q with inflight := q.inflight - 1 }) s

/-- A batch whose parts have all ended completes; an atomic one that did not fail waits for its commit (R143). -/
def settleBatch (bid : Nat) (s : State) : State :=
  match batch s bid, work s bid with
  | some b, some w =>
    if !b.complete || (b.atomic && !b.failed && !b.checkFailed && !b.committed && b.begun) then s
    else if !durable s w then s
    else
      match w.src with
      | .queue n seq =>
        let s := b.outs.foldl (fun s o => if b.committed then writePart (some w) o.1 o.2 s else s) s
        landed n (completeBatch bid n seq w b (dropWork bid s))
      | _ => s
  | _, _ => s

/-- Completion staging of a host link in granules: for top note, and shared (R34, R60). -/
def complCap (top : Bool) : Nat := if top then 2048 else 6144

/-- A request's granules are reserved ones: it came from a top queue pair, or its plain header is a top-note message's on one (R82, R327). -/
def reservedGran (s : State) (w : Work) : Bool :=
  match w.src with
  | .queue n _ => (qp s n).top
  | .chain m => decide (w.runNote = 0) && (tblGet s.ad.msgs m).any (fun x => (qp s x.info.qp).top)
  | _ => false

/-- The granules a request asks for: a message's are its plain headers' (R91, R327). -/
def granOf (s : State) (w : Work) : Nat :=
  match w.src with
  | .queue _ _ => w.maxGran
  | .chain m => ((tblGet s.ad.msgs m).map (·.granules)).getD 0
  | _ => 0

/-- The ended requests of a link that ask for completion staging, in the order of their numbers (R60). -/
def stagers (s : State) (l : Nat) (top : Bool) : List (Nat × Work) :=
  s.wk.works.filter (fun p => decide (p.2.phase = .ended ∧ p.2.link = l) && (reservedGran s p.2 == top) && (batch s p.1).isNone)

/-- Granules that requests ask for. -/
def granulesOf (s : State) (l : List (Nat × Work)) : Nat := (l.map (fun p => granOf s p.2)).sum

/-- An ended request has its place in the completion staging, behind those that ended before it; without room it waits (R34, R60). -/
def complRoom (s : State) (id : Nat) (w : Work) : Bool :=
  let top := reservedGran s w
  decide (granulesOf s ((stagers s w.link top).filter (fun p => decide (p.1 < id))) + granOf s w ≤ complCap top)

/-- One ended request leaves. -/
def settleOne (id : Nat) (s : State) : State :=
  match work s id with
  | none => s
  | some w =>
    match w.phase, w.res with
    | .ended, some r =>
      if !durable s w || !complRoom s id w then s else
      match w.src with
      | .queue n seq =>
        if (batch s id).isSome then s
        else landed n (completeQueue w n seq r.status w.endTicks r r.wrote (countOps w (finalStatus w r.status) (dropWork id s)))
      | .part bid idx => settleBatch bid (endPart id bid idx w r (countOps w (finalStatus w r.status) s))
      | .chain m => chainStepEnd id m w r s
      | .spread b idx => spreadPartEnd id b idx w r (countOps w (finalStatus w r.status) s)
      | .handshake e => handshakeEnd id e w r s
    | _, _ => s

/-- The numbers of the ended requests, top-note ones first (R60, R93). -/
def endedIds (s : State) : List Nat :=
  let e := s.wk.works.filter (fun p => decide (p.2.phase = .ended))
  ((e.filter (fun p => decide (p.2.runNote = 0))) ++ (e.filter (fun p => decide (p.2.runNote ≠ 0)))).map (·.1)

/-- Every ended request whose change is durable leaves. -/
def settle (s : State) : State := (endedIds s).foldl (fun s id => settleOne id s) s

end Sys2Proof.Machine
end

