-- ==== Sys2Proof/Machine/HostPath.lean ====
section
/-!
DEFINITION. The host path in: submission fetch, the grate, input reads, batches, cancels, doorbells, host links (R75 to
R79, R82 to R90, R97 to R104, R108, R140 to R142).
-/
namespace Sys2Proof.Machine

/-! ### Fetching (R82, R86) -/

/-- The granules a program of L octets of output can take (R86). -/
def recordGran (l : Nat) : Nat := 1 + ((l - 192) + 247) / 248

/-- The ring maximum of a slice (R86). -/
def ringMax (s : State) (sl : Slice) : Nat :=
  s.en.progs.foldl (fun m p => if bitOf sl.group (p.func / 256) then max m (recordGran p.record) else m) 3

/-- The granules a fetched entry counts at (R86). -/
def entryGran (s : State) (x : Sub) : Nat :=
  if x.func / 256 = 0x0B then 3 else if 0xC0 ≤ x.func % 256 then recordGran (fnMaxOut s x) else 1

/-- Entries whose fetch read is outstanding. -/
def Qp.fetching (q : Qp) : Nat := match q.fetch with | some f => f.n | none => 0

/-- Shared fetch slots in use on a link (R60, R86): entries being fetched or not yet eligible, of queue pairs not top. -/
def sharedUsed (s : State) (l : Nat) : Nat :=
  (s.hl.qps.filter (fun p => decide (p.2.link = l) && !p.2.top)).foldl (fun a p =>
    a + p.2.fetching + ((worksOf s p.1).filter (fun w => decide (w.2.phase = .reading))).length) 0

/-- Entries the completion ring has room for (R86). -/
def ringRoom (s : State) (n : Nat) (q : Qp) : Nat :=
  let out := ((worksOf s n).map (fun p => p.2.maxGran)).sum
  (freeGran q - out - hdrReserved s n - 2) / ringMax s (slice s q.slice)

/-- Entries the module can fetch now from a queue pair in one read (R82, R86). -/
def fetchable (s : State) (n : Nat) : Nat :=
  let q := qp s n
  if q.state ≠ 1 ∨ (slice s q.slice).state ≠ 2 ∨ q.fetch.isSome then 0 else
  let slots := if q.top then q.topSlots - q.inflight else 6144 - sharedUsed s q.link
  min 32 (min (q.announced - q.fetched) (min slots (ringRoom s n q)))

/-- Where an entry of a submission ring stands (R81). -/
def fetchAddr (q : Qp) (seq : Nat) : Nat := q.sqBase + (seq % 2 ^ q.sqLog) * 128

/-- Issue a fetch read when one can be issued. One read of a queue pair is outstanding at a time (log entry 25). -/
def issueFetch (n : Nat) (s : State) : State :=
  let k := fetchable s n
  if k = 0 then s else
  let q := qp s n
  let k := min k (2 ^ q.sqLog - q.fetched % 2 ^ q.sqLog)
  readHost q.link (qpPasid s q) (fetchAddr q q.fetched) (128 * k)
    (modQp n (fun q => { q with fetch := some ⟨q.fetched, k, s.tick⟩ }) s)

/-- The queue pairs in round-robin order after the one served last (R86). -/
def qpOrder (s : State) : List Nat :=
  let ids := s.hl.qps.map (·.1)
  ids.filter (fun n => decide (s.hl.rrQp < n)) ++ ids.filter (fun n => decide (n ≤ s.hl.rrQp))

/-- Issue every fetch read that can be issued (R86). -/
def pump (s : State) : State :=
  (qpOrder s).foldl (fun s n => if fetchable s n = 0 then s else issueFetch n { s with hl.rrQp := n }) s

/-! ### The grate (R88, R89) -/

/-- Take a submission entry apart (R88). -/
def parseSub (b : List Byte) : Sub :=
  let fl := le b 2 2
  let atomic := bitOf fl 12
  let func := le b 0 2
  { func, note := fl / 2 ^ 14, inl := bitOf fl 13, atomic, ctag := le b 4 4, slice := le b 8 2, domain := le b 10 2
    pasid := le b 12 4 % 2 ^ 20, key0 := le b 16 4, key1 := le b 20 4, key2 := le b 24 4, inAddr := le b 32 8, inLen := le b 40 4
    outMax := le b 44 4, outAddr := le b 48 8, aux := le b 56 8, param := octets b 64 64
    rsv := decide (fl % 2 ^ 12 = 0) && decide (le b 12 4 / 2 ^ 20 = 0) && decide (le b 28 4 = 0) &&
      (!atomic || decide (func / 256 = 0x0B)) }

/-- The failing source field (R108): 1 SLICE, 2 PASID, 3 DOMAIN; none when the source check passes. -/
def spoofField (s : State) (home : Nat) (x : Sub) : Option Nat :=
  let l := slice s home
  if x.slice ≠ home then some 1
  else if x.pasid ≠ (if l.pv then l.pasid else 0) then some 2
  else if x.domain < l.domLo ∨ l.domLo + l.domN ≤ x.domain then some 3
  else none

/-- OUT_ADDR is used (R88, R89, R101). -/
def Sub.usesOutAddr (x : Sub) (part : Bool) : Bool := usesOut x.func || (part && decide (48 < x.outMax))

/-- Two ranges of the same length are identical or disjoint. -/
def sameOrApart (a b n : Nat) : Bool := decide (a = b) || decide (a + n ≤ b) || decide (b + n ≤ a)

/-- Check 8 of R89, the part every function shares, and the function's own (R88, R99). -/
def lengthOk (s : State) (x : Sub) : Bool :=
  if x.func / 256 = 0x0B then
    decide (x.inLen % 128 = 0) && decide (1 ≤ x.inLen / 128 ∧ x.inLen / 128 ≤ 4096) && decide (x.inLen / 2 ≤ x.outMax)
  else (!x.inl || decide (x.inLen ≤ 64)) && (decide (x.func / 256 = 0x08) || decide (x.inLen ≤ 4096)) && fnLengthOk s x

/-- Detokenisation is named by a function (R89 check 5). -/
def needsDetok (func : Nat) : Bool := decide (func = 0x0602)

/-- Checks 1 to 9 of R89; `batch` is the batch entry a part belongs to (R100, R140). -/
def grate (s : State) (home : Nat) (x : Sub) (batch : Option Sub) : Option (Nat × Nat) :=
  let part := batch.isSome
  if !fnDefined s x.func || (part && decide (x.func / 256 = 0x0B)) || batch.any (fun b => decide (b.func = 0x0B02 ∧ x.func / 256 ≠ 0x07)) then
    some (St.grateRange, 0)
  else if !x.rsv || !fnKeysOk s x || decide (x.func = 0x0B02 ∧ x.atomic = false) then some (St.grateFormat, 0)
  else if decide (4096 ≤ x.slice) || decide (x.note = 3) || (decide (x.func / 256 = 0x0B) && decide (x.note = 0)) ||
      batch.any (fun b => decide (b.note ≠ x.note)) || !fnRangeOk x then some (St.grateRange, 0)
  else if (spoofField s home x).isSome then some (St.spoof, 0)
  else if !bitOf (slice s home).group (x.func / 256) || (needsDetok x.func && !(slice s home).detok) then some (St.notAuthorised, 0)
  else match lcQueueRefuses s x.func with
  | some st => some (st, 0)
  | none =>
    if !fnInlOk s x || (decide (x.note = 0) && !x.inl) then some (St.grateFormat, 0)
    else if !lengthOk s x then some (St.lengthInvalid, 0)
    else if x.usesIn ≠ decide (x.inAddr ≠ 0) ∨ x.usesOutAddr part ≠ decide (x.outAddr ≠ 0) ∨ fnAddrOk x = false then some (St.grateRange, 0)
    else if x.func / 256 = 0x08 ∧ sameOrApart x.inAddr x.outAddr x.inLen = false then some (St.grateRange, 0)
    else none

/-- A spoofed entry is counted, and noticed at most once per slice per 2^19 ticks (R108). -/
def spoofed (home n seq : Nat) (x : Sub) (s : State) : State :=
  match spoofField s home x with
  | none => s
  | some f =>
    let l := slice s home
    let tell := !(l.spoofNoticed.any (fun t => decide (s.tick < t + 2 ^ 19)))
    report { event := 0x0A01, notify := tell, unit := home, argA := n * 2 ^ 32 + seq, argB := f }
      (modSlice home (fun l => { l with spoof := satAdd 32 l.spoof 1, spoofNoticed := if tell then some s.tick else l.spoofNoticed }) s)

/-- A submission ends before it is eligible (R89, R103): T_ELIG is the tick of refusal. -/
def refuseSub (n seq : Nat) (x : Sub) (st d : Nat) (s : State) : State :=
  deliver n { status := st, func := x.func, ctag := x.ctag, disp := dispWord x.note 3 false false false false s.tk.pwrFault s.tk.band 0
              seq, detail := d, tElig := s.tick } s

/-- A request as it is made from an entry. -/
def newWork (s : State) (src : WSrc) (link account : Nat) (x : Sub) : Work :=
  { src, sub := x, link, acct := account, reqNote := x.note, note := x.note, elig := s.tick + 1, since := s.tick + 1
    unit := fnUnit x.func, maxGran := entryGran s x, input := if x.inl then x.param.take x.inLen else [] }

/-- A request whose input is there meets its record checks, then becomes eligible at the next tick (R40, R156, R182). -/
def makeEligible (id : Nat) (s : State) : State :=
  match work s id with
  | none => s
  | some w =>
    match recordCheck s w.sub w.input with
    | some (st, d) =>
      match w.src with
      | .queue n seq => landed n (refuseSub n seq w.sub st d (dropWork id s))
      | _ => withdraw id st d 0 s
    | none => modWork id (fun w => { w with phase := .waiting, staged := true, elig := s.tick + 1, since := s.tick + 1 }) s

/-- One entry that passed or failed the grate (R88, R89, R103). Work of a slice whose reset has been applied is never granted: an entry
that comes only now ends as ungranted work does (R109 to R111). -/
def takeEntry (n seq : Nat) (raw : List Byte) (s : State) : State :=
  let q := qp s n
  let x := parseSub raw
  if (slice s q.slice).applied then
    refuseSub n seq x (if (slice s q.slice).state = 4 then St.squashed else St.cancelled) 0 s
  else
  let named := q.cancels.find? (fun c => decide (c.seq = seq))
  let s := if named.isSome then modQp n (fun q => { q with cancels := q.cancels.filter (fun c => decide (c.seq ≠ seq)) }) s else s
  if named.any (fun c => decide (c.ctag = x.ctag)) then refuseSub n seq x St.cancelled 0 s else
  let s := if named.isSome then modQp n (fun q => { q with miss := satAdd 32 q.miss 1 }) s else s
  match grate s q.slice x none with
  | some (st, d) => refuseSub n seq x st d (if st = St.spoof then spoofed q.slice n seq x s else s)
  | none =>
    let id := s.wk.next
    let w := newWork s (.queue n seq) q.link q.slice x
    let s := modQp n (fun q => { q with inflight := q.inflight + 1 }) s
    if x.usesIn && decide (x.func / 256 ≠ 0x08) then
      readHost q.link (qpPasid s q) x.inAddr x.inLen (addWork { w with
        phase := .reading, readTick := s.tick, asked := true, reads := (readPieces x.inAddr x.inLen).length } s)
    else makeEligible id (addWork w s)

/-- A queue pair enters ERROR: its cancels are discarded (R78, R85, R104). -/
def qpError (n cause : Nat) (s : State) : State :=
  note 0x0904 1 n cause 0 (modQp n (fun q => { q with state := 2, cause, cancels := [] }) s)

/-- A fetch read failed: each of its entries gets a completion of its own (R78). -/
def fetchFailed (n : Nat) (f : FetchRead) (status : Nat) (s : State) : State :=
  let s := modQp n (fun q => { q with fetch := none, fetched := q.fetched + f.n, failRun := q.failRun + 1 }) s
  let s := (List.range f.n).foldl (fun s j =>
    deliver n { status, func := 0xFFFF, ctag := 0, disp := dispWord 3 3 false false false false false 0 0
                seq := (f.seq + j) % 2 ^ 32, tElig := s.tick } s) s
  if 8 ≤ (qp s n).failRun ∧ (qp s n).state = 1 then qpError n 1 s else s

/-- SUBMISSION_FETCH_DONE (R78, R86, R89, R90). -/
def execSubmissionFetchDone (n : Nat) (r : ReadResult) (s : State) : Res :=
  match (qp s n).fetch with
  | none => noEvent s
  | some f =>
    match r with
    | .error => .next (pump (fetchFailed n f St.hostDmaError s))
    | .data bs =>
      let s := modQp n (fun q => { q with fetch := none, failRun := 0 }) s
      .next (pump ((List.range f.n).foldl (fun s j =>
        takeEntry n ((f.seq + j) % 2 ^ 32) (octets bs (128 * j) 128) (modQp n (fun q => { q with fetched := q.fetched + 1 }) s)) s))

/-! ### Batches (R99, R100, R140 to R142) -/

/-- A part that failed a check before it was a request of its own (R100, R144). -/
def failedPart (s : State) (x : Sub) (head : Work) (st d : Nat) : PartRec :=
  partRecord s { src := head.src, sub := x, reqNote := head.reqNote } { detail := d } st

/-- Take one part up: its record, or its request, which waits for its turn to be staged (R100). -/
def takePart (bid : Nat) (head : Work) (n seq : Nat) (acc : State × Batch) (p : Sub × Nat) : State × Batch :=
  let (x, j) := p
  let s := acc.1
  let b := acc.2
  let home := (qp s n).slice
  match grate s home x (some head.sub) with
  | some (st, d) =>
    (if st = St.spoof then spoofed home n seq x s else s, { b with recs := tblPut b.recs j (failedPart s x head st d) })
  | none =>
    let w := { newWork s (.part bid j) head.link head.acct x with isNew := !b.atomic, phase := .unstaged }
    (addWork w s, { b with works := tblPut b.works j s.wk.next })

/-- An atomic batch none of whose parts was granted ends because a part failed its checks (R142). -/
def failAtomicChecks (bid : Nat) (s : State) : State :=
  match batch s bid, work s bid with
  | some b, some w =>
    let s := b.works.foldl (fun s p => dropWork p.2 s) (refund w s)
    let recs := (b.parts.zipIdx).foldl (fun t p => match tblGet t p.2 with
      | some _ => t
      | none => tblPut t p.2 (failedPart s p.1 w St.partNotRun 0)) b.recs
    modWork bid (fun w => { w with phase := .ended, res := some {}, charged := 0 })
      { s with wk.batches := tblPut s.wk.batches bid { b with recs, works := [], checkFailed := true, failed := true, band := s.tk.band } }
  | _, _ => s

/-- The part array of a batch is there (R99, R100). -/
def buildBatch (bid : Nat) (head : Work) (arr : List Byte) (s : State) : State :=
  match head.src with
  | .queue n seq =>
    let parts := (List.range (head.sub.inLen / 128)).map (fun j => parseSub (octets arr (128 * j) 128))
    let b0 : Batch := { parts, atomic := head.sub.atomic, band := s.tk.band }
    let q := (parts.zipIdx).foldl (takePart bid head n seq) (s, b0)
    let b := q.2
    let s := { q.1 with wk.batches := tblPut q.1.wk.batches bid b }
    let s := modWork bid (fun w => { w with phase := if b.atomic then .waiting else .running, staged := true
                                            elig := s.tick + 1, since := s.tick + 1, isNew := b.atomic }) s
    if b.atomic && !b.recs.isEmpty then settleBatch bid (failAtomicChecks bid s) else settleBatch bid s
  | _ => s

/-- The reads of a slice reset have all ended, some flush read perhaps by its time-out (R112). -/
def sliceReady (i : Nat) (s : State) : State :=
  let tmo := (slice s i).flushTmo
  let s := modSlice i (fun l => { l with state := 1, resetTick := s.tick, resetAt := none, applied := false, flushing := false, flushAt := [] }) s
  let s := if tmo then note 0x0A02 1 i 0 0 s else s
  let s := restartQps (fun k => decide (k = i)) s
  let mine := (s.hl.qps.filter (fun p => decide (p.2.slice = i))).map (·.1)
  let s : State := mine.foldl (fun s n => dropHdr n s) (closeWhere (fun r => decide (r.event = 0x0905 ∧ r.unit ∈ mine)) s)
  if s.mb.held.any (fun (h : Held) => decide (h.stage = .running ∧ h.frame.code = 0x0403 ∧ be h.frame.payload 0 2 = i)) then
    resetAnswer s else s

/-- A slice's flush is over when no flush read and no other read of the slice is outstanding (R112). -/
def flushOver (s : State) (i : Nat) : Bool :=
  (slice s i).flushing && (slice s i).flushAt.isEmpty && !(s.hl.orphans.any (fun o => decide (o.slice = i)))

/-- Slices whose last outstanding read has just ended are READY (R112). -/
def orphansReady (s : State) : State :=
  ((s.hl.slices.map (·.1)).filter (flushOver s)).foldl (fun s i => sliceReady i s) s

/-- No read of a request is outstanding. -/
def noRead (id : Nat) (s : State) : State := modWork id (fun w => { w with asked := false }) s

/-- INPUT_READ_DONE (R78, R88, R99): the input of a submission, or the part array of a batch; a read whose request has ended is only
over (R112). -/
def execInputReadDone (id : Nat) (r : ReadResult) (s : State) : Res :=
  if s.hl.orphans.any (fun o => decide (o.work = id)) then
    .next (orphansReady { s with hl.orphans := s.hl.orphans.filter (fun o => decide (o.work ≠ id)) })
  else match work s id with
  | none => noEvent s
  | some w =>
    if w.phase ≠ .reading then noEvent s else
    let s0 := s
    let s := noRead id s
    match w.src, r with
    | .queue n seq, .error => .next (pump (landed n (refuseSub n seq w.sub St.hostDmaError 0 (dropWork id s))))
    | .queue _ _, .data bs =>
      let bs := octets bs 0 w.sub.inLen
      if w.sub.func / 256 = 0x0B then .next (pump (settle (buildBatch id { w with asked := false } bs s)))
      else .next (pump (settle (makeEligible id (modWork id (fun w => { w with input := bs }) s))))
    | _, _ => noEvent s0

/-- Octets of part inputs staged in a cluster, or being read into it, for parts that have not ended (R100, R118). -/
def stagedBytes (s : State) (c : Nat) : Nat :=
  (s.wk.works.map (fun p => match p.2.src with
    | .part _ _ => if p.2.stageCl = c && p.2.sub.usesIn && (p.2.staged || p.2.asked) && decide (p.2.phase ≠ .ended) then p.2.sub.inLen else 0
    | _ => 0)).sum

/-- The batch part staging of a cluster: 1 MiB (R118). -/
def stagingRoom : Nat := 2 ^ 20

/-- The cluster whose staging takes a part's input: the lowest in service with room (R100, R118; log entry 40). -/
def stageCluster (s : State) (n : Nat) : Option Nat :=
  (List.range 64).find? (fun c => decide ((cluster s c).state = 0) && decide (stagedBytes s c + n ≤ stagingRoom))

/-- A part's staged input failed its read or its record checks: it is never granted (R100, R142, R143). -/
def stageFailed (bid idx id st d : Nat) (s : State) : State :=
  match batch s bid, work s id with
  | some b, some w =>
    if b.atomic then
      let s := modBatch bid (fun b => { b with recs := tblPut b.recs idx (failedPart s w.sub w st d), works := tblDel b.works idx }) (dropWork id s)
      if b.begun then
        match batch s bid with
        | some b => let p := failAtomic b s
                    settleBatch bid { p.2 with wk.batches := tblPut p.2.wk.batches bid p.1 }
        | none => s
      else settleBatch bid (failAtomicChecks bid s)
    else settle (withdraw id st d 0 s)
  | _, _ => s

/-- A part's input is there: its record checks, then it waits for its grant, or goes to its worker (R100, R532). -/
def stagePart (bid idx id : Nat) (bs : List Byte) (s : State) : State :=
  match batch s bid, work s id with
  | some b, some w =>
    match recordCheck s w.sub bs with
    | some (st, d) => stageFailed bid idx id st d s
    | none =>
      let ph : Phase := if b.atomic then (if b.begun then .between else .unstaged) else .waiting
      match awayAt s bid idx with
      | none => modWork id (fun w => { w with input := bs, staged := true, asked := false, phase := ph }) s
      | some m => gpSend m 0x30 (partReqBytes { w with input := bs } bid idx)
          (modWork id (fun w => { w with input := bs, staged := true, asked := false, phase := .away }) s)
  | _, _ => s

/-- Stage one part when its turn has come: a part with its input at hand meets its checks at once, another is read while staging has
room. The answer says whether the parts after it may follow (R100). -/
def stageOne (bid : Nat) (acc : State × Bool) (p : Nat × Nat) : State × Bool :=
  if !acc.2 then acc else
  let s := acc.1
  match work s p.2 with
  | none => acc
  | some w =>
    if w.phase ≠ .unstaged ∨ w.staged = true ∨ w.asked = true then acc
    else if w.sub.usesIn && decide (w.sub.func / 256 ≠ 0x08) then
      match stageCluster s w.sub.inLen with
      | none => (s, false)
      | some c => (readPart bid p.2 c s, true)
    else (stagePart bid p.1 p.2 w.input s, true)

/-- Stage the parts of every batch whose eligible tick has come, in part order (R100). Parts that need no read are checked at this sample
point, so that it can grant them (log entry 87). -/
def stagePump (s : State) : State :=
  s.wk.batches.foldl (fun s p => match batch s p.1, work s p.1 with
    | some b, some w => if w.elig ≤ s.tick ∧ w.staged = true then (b.works.foldl (stageOne p.1) (s, true)).1 else s
    | _, _ => s) s

/-- BATCH_PART_INPUT_READ (R78, R100): the input of a part comes, or its read fails. -/
def execBatchPartInputRead (bid idx : Nat) (r : ReadResult) (s : State) : Res :=
  if s.hl.orphans.any (fun o => decide (o.part = some (bid, idx))) then
    .next (orphansReady { s with hl.orphans := s.hl.orphans.filter (fun o => decide (o.part ≠ some (bid, idx))) })
  else match (batch s bid).bind (fun b => tblGet b.works idx) with
  | none => noEvent s
  | some id =>
    match work s id with
    | none => noEvent s
    | some w =>
      if !w.asked ∨ w.staged = true then noEvent s else
      match r with
      | .error => .next (stagePump (stageFailed bid idx id St.hostDmaError 0 (noRead id s)))
      | .data bs => .next (stagePump (stagePart bid idx id (octets bs 0 w.sub.inLen) (noRead id s)))

/-! ### Reads that do not come back (R77) -/

/-- The reads of requests that have ended time out like any other. -/
def orphanTimeout (o : Orphan) (s : State) : State :=
  orphansReady { s with hl.orphans := s.hl.orphans.filter (fun x => decide (x ≠ o)), hl.timedOut := s.hl.timedOut + o.reads }

/-- A read of a RELOAD's image failed or timed out: the long command ends (R77, R241; log entry 84). -/
def imageFails (st op prior : Nat) (s : State) : State :=
  let s : State := { s with ks.state := prior, ks.loadOp := none, mb.longs := s.mb.longs.map (fun l =>
    if l.opId = op then { l with state := 1, status := st, data := [], doneTick := s.tick } else l) }
  vector 4 (note 0x0102 1 0xFFFF op st (refreshRegime s))

/-- DMA_READ_TIMEOUT (R77, R78, R100, R112, R403): 64 ticks after its issue. -/
def execDmaReadTimeout (r : ReadId) (s : State) : Res :=
  let late := fun (n : Nat) (s : State) => { s with hl.timedOut := s.hl.timedOut + n }
  match r with
  | .fetch n =>
    match (qp s n).fetch with
    | some f => if f.issued + 64 ≤ s.tick then .next (pump (fetchFailed n f St.grateTimeout (late (readPieces (fetchAddr (qp s n) f.seq) (128 * f.n)).length s))) else noEvent s
    | none => noEvent s
  | .input id =>
    match s.hl.orphans.find? (fun o => decide (o.work = id)) with
    | some o => if o.since + 64 ≤ s.tick then .next (orphanTimeout o s) else noEvent s
    | none =>
    match work s id with
    | none => noEvent s
    | some w =>
      if w.asked = false ∨ s.tick < w.readTick + 64 then noEvent s else
      let s0 := s
      let s := noRead id (late w.reads s)
      match w.src with
      | .queue n seq =>
        if w.phase = .reading then .next (pump (landed n (refuseSub n seq w.sub St.grateTimeout 0 (dropWork id s))))
        else .next (settle (laneEnd id { status := St.hostDmaError, wrote := some w.pos } s))
      | .part bid idx =>
        if w.staged = false ∧ w.unit ≠ .hostLane then .next (stagePump (stageFailed bid idx id St.grateTimeout 0 s))
        else .next (settle (laneEnd id { status := St.hostDmaError, wrote := some w.pos } s))
      | _ => noEvent s0
  | .body =>
    match s.mb.held with
    | some h => if h.stage = .body ∧ h.since + 64 ≤ s.tick then .next (refuse St.grateTimeout 32 (late (readPieces h.frame.extAddr h.frame.bodyLen).length s)) else noEvent s
    | none => noEvent s
  | .image =>
    match s.ks.loadOp with
    | some (op, prior) => if s.ks.loadSince + 64 ≤ s.tick then .next (imageFails St.grateTimeout op prior (late 1 s)) else noEvent s
    | none => noEvent s
  | .flush i k =>
    if (slice s i).flushAt.any (fun f => decide (f.1 = k ∧ f.2 + 64 ≤ s.tick)) then
      .next (orphansReady (modSlice i (fun l => { l with flushTmo := true, flushAt := l.flushAt.filter (fun f => decide (f.1 ≠ k)) }) (late 1 s)))
    else noEvent s

/-- LATE_COMPLETION (R77): a completion whose read timed out is discarded and counted. -/
def execLateCompletion (s : State) : Res :=
  whenOk (decide (0 < s.hl.timedOut)) s { s with hl.timedOut := s.hl.timedOut - 1, hl.late := satAdd 32 s.hl.late 1 }

/-- A flush read that came back shows that its link's PF1 instance masters the bus again (log entry 33). -/
def masters (i : Nat) (s : State) : State :=
  ([0, 1].filter (fun l => s.hl.qps.any (fun p => decide (p.2.slice = i ∧ p.2.en = true ∧ p.2.link = l)) && (hostLink s l).up)).foldl
    (fun s l => modLink l (fun k => { k with bme := true }) s) s

/-- SLICE_FLUSH_DONE (R112): the flush reads of the slice have ended, and no other read of it is outstanding. -/
def execSliceFlushDone (i : Nat) (s : State) : Res :=
  whenOk ((slice s i).flushing && !(s.hl.orphans.any (fun o => decide (o.slice = i)))) s (sliceReady i (masters i s))

/-! ### Doorbells (R83 to R85, R97, R103, R104) -/

/-- A doorbell case of R83 posts its notice at most once per queue pair per 2^19 ticks. -/
def doorbellNotice (event n link : Nat) (s : State) : State :=
  let q := qp s n
  let tell := !(q.noticed.any (fun t => decide (s.tick < t + 2 ^ 19)))
  report { event, sev := 0, notify := tell, unit := n, argA := link } (if tell then modQp n (fun q => { q with noticed := some s.tick }) s else s)

/-- Whether a write to a queue pair's page is taken; otherwise what discarding it leaves (R36, R83, R109). -/
def doorbellOpen (n inst : Nat) (s : State) : Except State Unit :=
  let q := qp s n
  if inst ≠ q.link then .error (doorbellNotice 0x0901 n inst s)
  else if q.state ≠ 1 then .error (doorbellNotice 0x0902 n inst (modQp n (fun q => { q with discarded := satAdd 32 q.discarded 1 }) s))
  else if (slice s q.slice).resetAt.isSome then
    .error (modSlice q.slice (fun l => { l with discards := satAdd 32 l.discards 1 }) s)
  else .ok ()

/-- QP_SQ_TAIL (R83, R85, R86): a write of `value` through the PF1 instance `inst`. -/
def execQpSqTail (n inst value : Nat) (s : State) : Res :=
  match doorbellOpen n inst s with
  | .error s => .next s
  | .ok () =>
    let q := qp s n
    let v := value % 2 ^ 16
    if 2 ^ q.sqLog ≤ v then
      let bad := (q.badTails.filter (fun t => decide (s.tick < t + 2 ^ 19))) ++ [s.tick]
      let s := modQp n (fun q => { q with discarded := satAdd 32 q.discarded 1, badTails := bad }) s
      .next (if 8 ≤ bad.length then qpError n 2 s else s)
    else
      let new := (v + 2 ^ q.sqLog - q.tail) % 2 ^ q.sqLog
      .next (pump (modQp n (fun q => { q with tail := v, announced := q.announced + new }) s))

/-- QP_CQ_HEAD (R83, R85). -/
def execQpCqHead (n inst value : Nat) (s : State) : Res :=
  match doorbellOpen n inst s with
  | .error s => .next s
  | .ok () =>
    let q := qp s n
    let v := value % 2 ^ 18
    let size := 2 ^ q.cqLog
    let step := (v + size - q.head % size) % size
    if size ≤ v ∨ q.written - q.head < step then .next (note 0x0903 0 n v 0 s)
    else .next (pump (modQp n (fun q => { q with head := q.head + step, entries := q.entries.filter (fun e => decide (q.head + step ≤ e)) }) s))

/-- QP_CANCEL (R83, R103, R104). -/
def execQpCancel (n inst value : Nat) (s : State) : Res :=
  match doorbellOpen n inst s with
  | .error s => .next s
  | .ok () =>
    if 16 ≤ (qp s n).cancels.length then .next (modQp n (fun q => { q with ovf := true }) s)
    else .next (modQp n (fun q => { q with cancels := q.cancels ++ [⟨value / 2 ^ 32, value % 2 ^ 32, s.tick⟩] }) s)

/-- An entry's LENWORD is still held at the exit (R97, R461). -/
def lenHeld (s : State) (q : Qp) (e : Nat) : Bool :=
  s.exitHeld.any (fun o => match o with
    | .hostWrite l _ _ a d => decide (l = q.link ∧ a = granAddr q e ∧ d.length = 4)
    | _ => false)

/-- QP_POLL as it reads (R84, R97): the entries whose LENWORD has been sent. -/
def pollWord (s : State) (q : Qp) : Nat :=
  let sent := q.entries.filter (fun e => !lenHeld s q e)
  let tail := ((q.entries.find? (lenHeld s q))).getD q.written
  if sent.isEmpty then q.head % 2 ^ q.cqLog
  else 2 ^ 63 + (min sent.length (2 ^ 24 - 1)) * 2 ^ 32 + tail % 2 ^ q.cqLog

/-- QP_POLL (R83, R97): a read through the PF1 instance `inst`. -/
def execQpPoll (n inst : Nat) (s : State) : Res :=
  let q := qp s n
  if inst ≠ q.link then .next (emit (.readData (n * 4096 + 16) (2 ^ 64 - 1)) (doorbellNotice 0x0901 n inst s))
  else .next (emit (.readData (n * 4096 + 16) (pollWord s q)) s)

/-- CQ_WAIT_EXPIRY (R98). -/
def execCqWaitExpiry (n : Nat) (s : State) : Res :=
  let q := qp s n
  whenOk (decide (0 < q.unsig ∧ q.cqWait ≠ 0 ∧ q.unsigSince + q.cqWait ≤ s.tick ∧ q.state ≠ 3)) s (qpVector n s)

/-! ### Cancels at the sample point (R69 to R71, R103) -/

/-- A cancel, drain or squash of a part that a worker runs is sent there (R536). -/
def stopAway (mode bid idx : Nat) (s : State) : State :=
  match awayAt s bid idx with
  | some m => sendStop m bid idx mode s
  | none => s

/-- Cancel one fetched submission (R69, R71): an atomic batch is withdrawn whole before its first part is granted, any other batch part by
part. -/
def cancelWork (id : Nat) (w : Work) (s : State) : State :=
  match batch s id with
  | some b =>
    if b.atomic then
      if b.begun then modBatch id (fun b => { b with late := true }) (b.works.foldl (fun s p => modWork p.2 (fun w => { w with late := true }) s) s)
      else settleBatch id (endAtomicWhole id { status := St.cancelled, ticks := waited s w } none s)
    else
      b.works.foldl (fun s p => match work s p.2 with
        | some pw =>
          if pw.phase = .away then stopAway 0 id p.1 s
          else if pw.granted then modWork p.2 (fun w => { w with late := true })  s else withdraw p.2 St.cancelled 0 (waited s pw) s
        | none => s) s
  | none =>
    if w.granted then modWork id (fun w => { w with late := true }) s
    else withdraw id St.cancelled 0 (waited s w) s

/-- One cancel of a queue pair takes effect, or stays held for a fetch (R69, R103). A submission whose input read is outstanding is
fetched, and is withdrawn at once. -/
def applyCancel (n : Nat) (s : State) (c : Cancel) : State :=
  let q := qp s n
  let drop := fun (s : State) => modQp n (fun q => { q with cancels := q.cancels.filter (fun x => decide (x ≠ c)) }) s
  let miss := fun (s : State) => modQp n (fun q => { q with miss := satAdd 32 q.miss 1 }) s
  if s.tick ≤ c.tick then s else
  match (worksOf s n).find? (fun p => match p.2.src with | .queue _ k => decide (k = c.seq) | _ => false) with
  | some (id, w) =>
    if w.sub.ctag ≠ c.ctag then drop (miss s)
    else if w.phase = .reading then drop (landed n (refuseSub n c.seq w.sub St.cancelled 0 (dropWork id s)))
    else drop (cancelWork id w s)
  | none =>
    let ahead := (c.seq + 2 ^ 32 - q.fetched % 2 ^ 32) % 2 ^ 32
    if ahead < q.announced - q.fetched then s else drop (miss s)

/-- All cancels at a sample point. -/
def applyCancels (s : State) : State :=
  s.hl.qps.foldl (fun s p => (p.2.cancels).foldl (applyCancel p.1) s) s

/-! ### Slice reset at the sample point (R109 to R111) -/

/-- End one request of a slice in reset; `mode` 1 drain, 2 squash. Under a squash work whose last step has ended keeps its key change and
loses its results (R111); a bulk operation between two chunks stops there. -/
def resetWork (mode : Nat) (id : Nat) (w : Work) (s : State) : State :=
  let st := if mode = 1 then St.cancelled else St.squashed
  match batch s id with
  | some b =>
    if b.committed then s
    else if b.atomic then
      if b.begun then
        let p := failAtomic { b with reset := true } s
        let s := { p.2 with wk.batches := tblPut p.2.wk.batches id p.1 }
        p.1.works.foldl (fun s q => modWork q.2 (fun w => { w with squash := 2 }) s) s
      else endAtomicWhole id { status := st, ticks := waited s w } none s
    else s
  | none =>
    if inAtomic s w then s
    else if w.phase = .away then
      match w.src with
      | .part b j => stopAway mode b j s
      | _ => s
    else if !w.granted then
      if w.phase = .reading then
        match w.src with
        | .queue n seq => landed n (refuseSub n seq w.sub st 0 (dropWork id s))
        | _ => withdraw id st 0 0 s
      else withdraw id st 0 (waited s w) s
    else if w.phase = .ended then
      if mode = 2 then modWork id (fun w => { w with res := w.res.map (fun r => { status := St.squashed, effects := r.effects, wrote := r.wrote }) }) s else s
    else if w.unit = .hostLane ∧ w.phase = .unit ∧ laneHead s w ≠ some id then laneEnd id { status := St.squashed, wrote := some w.pos } s
    else if w.phase = .between ∨ w.phase = .unitDue then finish id { status := St.squashed } s
    else modWork id (fun w => { w with squash := if mode = 2 then 2 else if multiStep s w || decide (w.unit ≠ .engine) then max w.squash 1 else w.squash }) s

/-- Whether a request belongs to a slice. -/
def ofSlice (s : State) (i : Nat) (w : Work) : Bool :=
  match w.src with
  | .queue n _ => decide ((qp s n).slice = i)
  | .part b _ => match work s b with
    | some h => match h.src with | .queue n _ => decide ((qp s n).slice = i) | _ => false
    | none => false
  | _ => false

/-- Apply a reset at its sample point (R110, R111). -/
def applyReset (i : Nat) (s : State) : State :=
  let mode := if (slice s i).state = 4 then 2 else 1
  let s := (s.wk.works.filter (fun p => ofSlice s i p.2)).foldl (fun s p => match work s p.1 with
    | some w => resetWork mode p.1 w s
    | none => s) s
  modSlice i (fun l => { l with applied := true }) (settle s)

/-- The links that carry queue pairs of a slice (R112). -/
def sliceLinks (s : State) (i : Nat) : List Nat :=
  [0, 1].filter (fun l => s.hl.qps.any (fun p => decide (p.2.slice = i ∧ p.2.en = true ∧ p.2.link = l)))

/-- A reset slice whose work is all done, and whose fetch reads have ended, issues its flush reads (R112). With no link to flush the slice
is READY once no other read is outstanding. -/
def flushSlice (i : Nat) (s : State) : State :=
  let l := slice s i
  let fetching := s.hl.qps.any (fun p => decide (p.2.slice = i) && p.2.fetch.isSome)
  if l.applied && !l.flushing && !fetching && !(s.wk.works.any (fun p => ofSlice s i p.2)) then
    let links := (sliceLinks s i).filter (fun k => (hostLink s k).up)
    orphansReady (links.foldl (fun s k => emit (.hostRead k (if l.pv then some l.pasid else none) 0 0) s)
      (modSlice i (fun l => { l with flushing := true, flushAt := links.map (fun k => (k, s.tick)) }) s))
  else s

/-- Slice resets at a sample point, and flushes that can be issued. -/
def slicesPoint (s : State) : State :=
  let s := (s.hl.slices.filter (fun p => p.2.resetAt.any (fun d => decide (d ≤ s.tick)) && !p.2.applied)).foldl (fun s p => applyReset p.1 s) s
  (s.hl.slices.map (·.1)).foldl (fun s i => flushSlice i s) s

/-! ### Host links (R75, R78, R79) -/

/-- The queue pairs homed on a link stop: ungranted work is withdrawn, cancels are discarded (R79). -/
def linkDown (l : Nat) (s : State) : State :=
  let stop := fun (q : Qp) => if q.link = l ∧ q.state ≠ 0 then
    { q with state := 3, cancels := [], fetch := none, announced := q.fetched } else q
  let s : State := { s with hl.qps := s.hl.qps.map (fun p => (p.1, stop p.2)) }
  let s : State := { s with hl.slices := s.hl.slices.map (fun p => (p.1, { p.2 with flushAt := p.2.flushAt.filter (fun f => decide (f.1 ≠ l)) })) }
  let s : State := (s.hl.qps.filter (fun p => decide (p.2.link = l))).foldl (fun s p => dropHdr p.1 s) s
  let mine := fun (w : Work) => decide (w.link = l) && (match w.src with | .queue _ _ => true | .part _ _ => true | _ => false)
  linkReads l (transfersEnd l (settle ((s.wk.works.filter (fun p => mine p.2)).foldl (fun (s : State) (p : Nat × Work) => match work s p.1 with
    | none => s
    | some w =>
      match w.src with
      | .queue n seq =>
        if (batch s p.1).any (fun b => !b.atomic || b.begun) then s
        else if (batch s p.1).isSome then settleBatch p.1 (endAtomicWhole p.1 { status := St.cancelled, ticks := waited s w } none s)
        else if w.phase = .reading then landed n (refuseSub n seq w.sub St.cancelled 0 (dropWork p.1 s))
        else if w.granted || decide (w.phase = .ended) then s else withdraw p.1 St.cancelled 0 (waited s w) s
      | _ => if w.granted || inAtomic s w || decide (w.phase = .ended ∨ w.phase = .away) then s else withdraw p.1 St.cancelled 0 (waited s w) s) s)))
where
  /-- The link's outstanding reads of ended requests and its flush reads are over at once (R113). -/
  linkReads (l : Nat) (s : State) : State :=
    orphansReady { s with hl.orphans := s.hl.orphans.filter (fun o => decide (o.link ≠ l)) }
  /-- The reads of granted bulk work, and of the parts of an atomic batch under way, have failed: the operation stops at its chunk, the part
  fails (R78, R113). -/
  transfersEnd (l : Nat) (s : State) : State :=
    settle ((s.wk.works.filter (fun p => decide (p.2.link = l))).foldl (fun s p => match work s p.1 with
      | none => s
      | some w =>
        if w.unit = .hostLane ∧ w.phase = .unit then laneEnd p.1 { status := St.hostDmaError, wrote := some w.pos } (noRead p.1 s)
        else match w.src with
          | .part bid idx => if w.asked && !w.staged && !w.granted then stageFailed bid idx p.1 St.hostDmaError 0 (noRead p.1 s) else s
          | _ => s) s)

/-- HOST_LINK_UP (R75): width in lanes and speed as a PCIe generation. -/
def execHostLinkUp (l width speed : Nat) (s : State) : Res :=
  if 1 < l ∨ s.pin.mainPower = false ∨ (hostLink s l).up ∨ (hostLink s l).perst ∨ width ∉ [1, 2, 4, 8, 16] ∨ speed < 1 ∨ 6 < speed then noEvent s else
  let s := modLink l (fun k => { k with up := true, recov := false, bme := true, width, speed }) s
  let s := if width < 16 ∨ speed < 6 then note 0x1501 0 l width speed s else s
  let s : State := if l = 0 then { s with out := s.mb.outHeld ++ s.out, mb.outHeld := [] } else s
  .next (if l = 0 ∧ s.mb.vecOwed then vector 0 { s with mb.vecOwed := false } else s)

/-- The reads that PF0 has outstanding end with host link 0: the body of a command, the image of a RELOAD. -/
def pf0Down (s : State) : State :=
  let s := if s.mb.held.any (fun h => decide (h.stage = .body)) then refuse St.hostDmaError 32 s else s
  match s.ks.loadOp with
  | some (op, prior) => imageFails St.hostDmaError op prior s
  | none => s

/-- HOST_LINK_DOWN (R79): the link leaves DL_Active. -/
def execHostLinkDown (l : Nat) (s : State) : Res :=
  whenOk (decide (l ≤ 1) && (hostLink s l).up) s
    ((if l = 0 then pf0Down else id) <| linkDown l (modLink l (fun k => { k with up := false, recov := false, width := 0, speed := 0 }) s))

/-- BUS_MASTER_CLEAR (R79): Bus Master Enable cleared on the PF1 instance of a link. -/
def execBusMasterClear (l : Nat) (s : State) : Res :=
  if 1 < l then noEvent s else .next (linkDown l (modLink l (fun k => { k with bme := false }) s))

/-- HOST_LINK_ERROR (R78): correctable, or uncorrectable and non-fatal. -/
def execHostLinkError (l : Nat) (correctable : Bool) (s : State) : Res :=
  if 1 < l then noEvent s else
  if correctable then .next (modLink l (fun k => { k with corr := satAdd 32 k.corr 1 }) s)
  else .next (note 0x1502 1 l 0 0 (modLink l (fun k => { k with uncorr := satAdd 32 k.uncorr 1 }) s))

/-- HOST_LINK_RECOVERY (R80, R238): the link enters or leaves error recovery or retraining. -/
def execHostLinkRecovery (l : Nat) (enters : Bool) (s : State) : Res :=
  whenOk (decide (l ≤ 1) && (hostLink s l).up && decide ((hostLink s l).recov ≠ enters)) s
    (modLink l (fun k => { k with recov := enters }) s)

end Sys2Proof.Machine
end

