-- ==== Sys2Proof/Machine/HostCmds.lean ====
section
/-!
DEFINITION. The commands of slices, queue pairs, admission and time, and the events of time (R46 to R48, R73, R81, R82,
R105 to R112, R414).
-/
namespace Sys2Proof.Machine

/-! ### Slices -/

/-- SLICE_BIND (R105, R107, R414). -/
def sliceBindCmd (_ : Held) (p : List Byte) (s : State) : State :=
  let i := be p 0 2
  let groups := be p 6 2
  let pas := be p 8 4
  if s.lc.ready = false ∨ 1 < (slice s i).state then refuse St.stateForbids 0 s
  else respond St.ok 0 s.tick [] (modSlice i (fun l => { l with
    state := 1, pv := bitOf pas 31, pasid := pas % 2 ^ 20, domLo := be p 2 2, domN := be p 4 2, group := groups
    detok := bitOf (be p 12 1) 0 }) s)

/-- SLICE_BIND (R105). -/
def execSliceBind (s : State) : Res := withCmd 0x0401 s sliceBindCmd

/-- SLICE_START (R105). -/
def sliceStartCmd (_ : Held) (p : List Byte) (s : State) : State :=
  let i := be p 0 2
  if s.lc.ready = false ∨ (slice s i).state ≠ 1 then refuse St.stateForbids 0 s
  else pump (respond St.ok 0 s.tick [] (modSlice i (fun l => { l with state := 2 }) s))

/-- SLICE_START (R105). -/
def execSliceStart (s : State) : Res := withCmd 0x0402 s sliceStartCmd

/-- SLICE_RESET (R105, R109): the response waits for the reset. -/
def sliceResetCmd (_ : Held) (p : List Byte) (s : State) : State :=
  let i := be p 0 2
  let squash := decide (be p 2 1 = 1)
  let st := (slice s i).state
  if s.lc.ready = false ∨ ¬ (st = 2 ∨ (squash = true ∧ st = 3)) then refuse St.stateForbids 0 s
  else
    let lost := ((s.hl.qps.filter (fun q => decide (q.2.slice = i))).map (fun q => q.2.cancels.length)).sum
    let s : State := { s with hl.qps := s.hl.qps.map (fun (q : Nat × Qp) => if q.2.slice = i then (q.1, { q.2 with cancels := [] }) else q) }
    let s := modSlice i (fun l => { l with state := if squash then 4 else 3, resetAt := some (s.tick + 1), applied := false, flushTmo := false
                                           discards := satAdd 32 l.discards lost }) s
    setStage .running (arm (s.tick + 1) s)

/-- SLICE_RESET (R109). -/
def execSliceReset (s : State) : Res := withCmd 0x0403 s sliceResetCmd

/-- A queue pair bound to a slice is disabled (R81, R106). -/
def Qp.disable (q : Qp) : Qp := { q with en := false, state := 0, cause := 0, cancels := [], fetch := none }

/-- SLICE_UNBIND (R105, R106). -/
def sliceUnbindCmd (_ : Held) (p : List Byte) (s : State) : State :=
  let i := be p 0 2
  if s.lc.ready = false ∨ (slice s i).state ≠ 1 then refuse St.stateForbids 0 s
  else
    let s : State := { s with hl.qps := s.hl.qps.map (fun (q : Nat × Qp) => if q.2.slice = i then (q.1, q.2.disable) else q) }
    respond St.ok 0 s.tick [] (modSlice i (fun l => { l with state := 0 }) s)

/-- SLICE_UNBIND (R105). -/
def execSliceUnbind (s : State) : Res := withCmd 0x0404 s sliceUnbindCmd

/-- SL_STATE.NQP (R106, R107). -/
def sliceNqp (s : State) (i : Nat) : Nat := (s.hl.qps.filter (fun p => decide (p.2.slice = i) && p.2.en)).length

/-- SL_INFLIGHT (R107). -/
def sliceInflight (s : State) (i : Nat) : Nat := ((s.hl.qps.filter (fun p => decide (p.2.slice = i))).map (fun p => p.2.inflight)).sum

/-! ### Queue pairs -/

/-- The top slots reserved on a link by queue pairs other than one (R82). -/
def topSum (s : State) (l n : Nat) : Nat :=
  ((s.hl.qps.filter (fun p => decide (p.1 ≠ n ∧ p.2.link = l) && p.2.en && p.2.top)).map (fun p => p.2.topSlots)).sum

/-- The top slots that QP_SET asks for are not to be had on the link (R82). -/
def topOver (s : State) (n : Nat) (p : List Byte) : Bool :=
  bitOf (be p 6 1) 1 && decide (2048 < topSum s (b2n (bitOf (be p 6 1) 2)) n + be p 7 1)

/-- QP_SET (R81, R82, R106, R414). DESIGN CHOICE (log entry 46): a queue pair enabled while its home link is down enters LINKDOWN, as one
that a reset leaves on a down link does (R112). -/
def qpSetCmd (_ : Held) (p : List Byte) (s : State) : State :=
  let n := be p 0 2
  let sl := be p 2 2
  let fl := be p 6 1
  let q := qp s n
  if s.lc.ready = false then refuse St.stateForbids 0 s
  else if q.slice ≠ sl ∧ q.state ≠ 0 then refuse St.stateForbids 0 s
  else if (slice s sl).state ≠ 1 then refuse St.grateRange 66 s
  else if bitOf fl 0 = false then respond St.ok 0 s.tick [] (modQp n Qp.disable s)
  else if topOver s n p then refuse St.grateRange 71 s
  else
    let link := b2n (bitOf fl 2)
    let st := if q.state = 2 ∨ q.state = 3 then q.state else if (hostLink s link).up then 1 else 3
    respond St.ok 0 s.tick [] (modQp n (fun q => { ({} : Qp) with
      sqBase := be p 8 8, cqBase := be p 16 8, sqLog := be p 4 1, cqLog := be p 5 1, en := true, top := bitOf fl 1, link
      roData := bitOf fl 3, slice := sl, vector := be p 24 2, topSlots := be p 7 1, cqWait := be p 26 2, cqThresh := be p 28 2
      state := st, cause := if st = 2 then q.cause else 0, miss := q.miss, ovf := q.ovf, noticed := q.noticed, discarded := q.discarded }) s)

/-- QP_SET (R81). -/
def execQpSet (s : State) : Res := withCmd 0x0405 s qpSetCmd

/-! ### Admission -/

/-- A change of accounts applied (R47: no allowance exceeds its depth). -/
def applyChange (t : Tbl Acct) (c : AcctChange) : Tbl Acct :=
  let a := tget {} t c.acct
  tset {} t c.acct { topRate := c.topRate, topDepth := c.topDepth, topAllow := min a.topAllow c.topDepth, baseRate := c.baseRate
                     baseDepth := c.baseDepth, baseAllow := min a.baseAllow c.baseDepth }

/-- The accounts at a tick, every armed change up to it applied. -/
def acctsAt (t0 : Tbl Acct) (armed : List (Nat × List AcctChange)) (k : Nat) : Tbl Acct :=
  (armed.filter (fun q => decide (q.1 ≤ k))).foldl (fun t q => q.2.foldl applyChange t) t0

/-- The admission configuration at a tick, every armed change up to it applied. -/
def cfgAt (c0 : AdmCfg) (armed : List (Nat × AdmCfg)) (k : Nat) : AdmCfg :=
  (armed.filter (fun q => decide (q.1 ≤ k))).foldl (fun _ q => q.2) c0

/-- Put an armed change behind those that switch no later. -/
def insertArmed {α : Type} (p : Nat × α) : List (Nat × α) → List (Nat × α)
  | [] => [p]
  | q :: t => if p.1 < q.1 then p :: q :: t else q :: insertArmed p t

/-- The sum of the accounts' top depths (R47). -/
def topDepths (t : Tbl Acct) : Nat := (t.map (fun p => p.2.topDepth)).sum

/-- R47 holds. -/
def budgetsOk (tTop : Nat) (t : Tbl Acct) : Bool :=
  decide (tTop ≤ 20296) && decide (topDepths t ≤ tTop) && t.all (fun p => decide (p.2.topRate ≤ p.2.topDepth ∧ p.2.baseRate ≤ p.2.baseDepth))

/-- R47 holds from tick k on, at every switch that the armed changes make. -/
def budgetsFrom (s : State) (cfgs : List (Nat × AdmCfg)) (accs : List (Nat × List AcctChange)) (k : Nat) : Bool :=
  ((cfgs.map (·.1) ++ accs.map (·.1)).filter (fun t => decide (k ≤ t))).all (fun t =>
    budgetsOk (cfgAt s.tk.cfg cfgs t).tTop (acctsAt s.tk.accts accs t))

/-- The configuration an ADMIT_SET payload spells (R414). -/
def admCfg (p : List Byte) : AdmCfg :=
  { tTop := be p 8 4, heartLimit := be p 12 1, topHbm := be p 13 1, lend := decide (be p 14 1 = 1), ageWait := be p 16 2, pinLimit := be p 20 4 }

/-- ADMIT_SET (R47, R74, R223, R414). -/
def admitSetCmd (_ : Held) (p : List Byte) (s : State) : State :=
  let c := admCfg p
  let k := switchAt (be p 0 8) s
  let armed := insertArmed (k, c) s.tk.cfgArmed
  if !budgetsFrom s armed s.tk.acctArmed k then refuse St.grateRange 72 s
  else respondAt k [] { s with tk.cfgArmed := armed }

/-- ADMIT_SET (R414). -/
def execAdmitSet (s : State) : Res := withCmd 0x0301 s admitSetCmd

/-- The entries of ACCT_SET (R414). -/
def acctEntries (p : List Byte) : List AcctChange :=
  (List.range (be p 8 2)).map (fun j => ⟨be p (16 + 24 * j) 2, be p (20 + 24 * j) 4, be p (24 + 24 * j) 4, be p (28 + 24 * j) 4, be p (32 + 24 * j) 4⟩)

/-- ACCT_SET (R47, R414). -/
def acctSetCmd (_ : Held) (p : List Byte) (s : State) : State :=
  let es := acctEntries p
  let k := switchAt (be p 0 8) s
  let armed := insertArmed (k, es) s.tk.acctArmed
  if !budgetsFrom s s.tk.cfgArmed armed k then refuse St.grateRange 80 s
  else respondAt k [] { s with tk.acctArmed := armed }

/-- ACCT_SET (R414). -/
def execAcctSet (s : State) : Res := withCmd 0x0302 s acctSetCmd

/-- The admission switches whose tick has come (R31, R48). -/
def applyAdmission (s : State) : State :=
  let cfg := s.tk.cfgArmed.filter (fun q => decide (q.1 ≤ s.tick))
  let acc := s.tk.acctArmed.filter (fun q => decide (q.1 ≤ s.tick))
  { s with
    tk.cfg := cfg.foldl (fun _ q => q.2) s.tk.cfg
    tk.cfgArmed := s.tk.cfgArmed.filter (fun q => decide (s.tick < q.1))
    tk.accts := acc.foldl (fun t q => q.2.foldl applyChange t) s.tk.accts
    tk.acctArmed := s.tk.acctArmed.filter (fun q => decide (s.tick < q.1)) }

/-! ### Time -/

/-- Nanoseconds of a tick (R6). -/
def tickNs : Nat := 2048

/-- UTC now in nanoseconds, from the last correction and the tick count (R73). -/
def utcNow (s : State) : Option Int := s.tk.refNs.map (fun r => r + ((s.tick - s.tk.refTick) * tickNs : Nat))

/-- Set UTC at this tick from a source (R73, R311, R414): 1 host, 2 PTP. -/
def setUtc (ns : Int) (src port : Nat) (s : State) : State :=
  { s with tk.refNs := some ns, tk.refTick := s.tick, tk.corrTick := s.tick, tk.utcValid := true, tk.utcSrc := src, tk.utcPort := port }

/-- TIME_SET (R414). -/
def timeSetCmd (_ : Held) (p : List Byte) (s : State) : State :=
  if 2 ^ 48 ≤ be p 0 8 then refuse St.grateRange 64 s
  else if 999999999 < be p 8 4 then refuse St.grateRange 72 s
  else if ptpLocked s then refuse St.stateForbids 0 s
  else respond St.ok 0 s.tick [] (setUtc ((be p 0 8 * 10 ^ 9 + be p 8 4 : Nat) : Int) 1 0 s)

/-- TIME_SET (R414). -/
def execTimeSet (s : State) : Res := withCmd 0x0303 s timeSetCmd

/-- The UTC fields, written together (R73). -/
def utcUpdate (s : State) : State :=
  let s : State := { s with tk.shValid := s.tk.utcValid, tk.shSrc := s.tk.utcSrc, tk.shPort := s.tk.utcPort }
  match utcNow s with
  | none => s
  | some ns => { s with tk.utcSec := (ns / 10 ^ 9).toNat % 2 ^ 48, tk.utcNs := (ns % 10 ^ 9).toNat, tk.utcTick := s.tick }

/-- UTC_UPDATE (R73): the UTC fields are updated together at every 512th sample point. -/
def execUtcUpdate (s : State) : Res := whenOk (decide (s.tick % 512 = 0)) s (utcUpdate s)

/-- UTC_VALID_EXPIRY (R73): 2^19 ticks without a correction. -/
def execUtcValidExpiry (s : State) : Res :=
  whenOk (s.tk.utcValid && decide (s.tk.corrTick + 2 ^ 19 ≤ s.tick)) s { s with tk.utcValid := false }

/-- TK_COUNT_LOW_READ (R74): a 32-bit read of TK_COUNT at 0x000. -/
def execTkCountLowRead (s : State) : Res := viaPf0 s <|
  .next (emit (.readData 0x4000 (s.tick % 2 ^ 32)) { s with tk.countHi := s.tick / 2 ^ 32 % 2 ^ 32 })

end Sys2Proof.Machine
end

