-- ==== Sys2Proof/Machine/Fences.lean ====
section
/-!
DEFINITION. The fences: checks, reports, FENCE_SET, FENCE_LOCK, READMIT's gate aside (R424 to R429).
-/
namespace Sys2Proof.Machine

/-- A range of host memory as a region's pages, for one lane (R425). -/
def laneRange (n addr len : Nat) (wr : Bool) (pasid : Option Nat) : Region :=
  { base := addr / 4096, limit := (addr + len - 1) / 4096, en := decide (0 < len), rd := !wr, wr, mLo := 0x500 + n, mHi := 0x500 + n
    pv := pasid.isSome, pasid := pasid.getD 0 }

/-- The host lane and link a fence stands for, if any (R425). -/
def laneFence (f : Nat) : Option (Nat × Nat) :=
  if 48 ≤ f ∧ f < 56 then some (152 + (f - 48), 0) else if 72 ≤ f ∧ f < 80 then some (152 + (f - 72), 1) else none

/-- Two regions have a page in common. -/
def Region.meets (r t : Region) : Bool := r.en && t.en && decide (r.base ≤ t.limit) && decide (t.base ≤ r.limit)

/-- Region k of a host lane's fence: the lane scheduler writes the input, output and AAD ranges of the operations the lane holds, three
regions each; none above 15 is ever enabled. An operation's regions that share a page allow there what either does, so that one in place
reads and writes it (R425). -/
def laneRegion (s : State) (n l k : Nat) : Region :=
  match ((placed s .hostLane n).filter (fun p => decide (p.2.link = l)))[k / 3]? with
  | none => {}
  | some p =>
    let x := p.2.sub
    let pasid := (workQp s p.2).bind (fun q => qpPasid s (qp s q))
    let own := [laneRange n x.inAddr x.inLen false pasid, laneRange n x.outAddr x.inLen true pasid, laneRange n (aadAddr x) (aadLen x) false pasid]
    let r := own.getD (k % 3) {}
    { r with rd := own.any (fun t => t.rd && t.meets r), wr := own.any (fun t => t.wr && t.meets r) }

/-- Region k of fence f. -/
def region (s : State) (f k : Nat) : Region :=
  match laneFence f with
  | some (n, l) => laneRegion s n l k
  | none => tget {} s.fn.regions (32 * f + k)

/-- Region k of fence f as work granted at a tick meets it (R31, R429). -/
def regionFor (s : State) (g f k : Nat) : Region :=
  match laneFence f, s.fn.past.find? (fun c => decide (g < c.1)) with
  | none, some c => tget {} c.2 (32 * f + k)
  | _, _ => region s f k

/-- The 32 regions of a fence, with their numbers. -/
def regionsOf (s : State) (f : Nat) : List (Nat × Region) := (List.range 32).map (fun k => (k, region s f k))

/-- The same for work granted at a tick. -/
def regionsFor (s : State) (g f : Nat) : List (Nat × Region) := (List.range 32).map (fun k => (k, regionFor s g f k))

/-- Why an access of work granted at tick g is blocked; none when it passes (R426, R429). -/
def fenceBlocks (s : State) (g : Nat) (a : Access) (master : Nat) : Option Blocked :=
  accessBlocks s (regionsFor s g a.fence) a master

/-- A violation is reported, and for a locked region a lock-class event (R428, R429). -/
def violate (g : Nat) (a : Access) (master : Nat) (b : Blocked) (s : State) : State :=
  let locked := lockedStop (regionFor s g a.fence b.region) b
  let s := fenceReport a master b locked s
  if locked then lockClass 0x25 b.reason s else s

/-- Check an access of work granted at tick g and report a violation; true when it is blocked (R426, R429). -/
def fenceCheck (g : Nat) (a : Option Access) (master : Nat) (s : State) : Bool × State :=
  match a with
  | none => (false, s)
  | some a =>
    match fenceBlocks s g a master with
    | none => (false, s)
    | some b => (true, violate g a master b s)

/-- The region a FENCE_SET payload spells (R414, R428). -/
def parseRegion (old : Region) (p : List Byte) : Region :=
  let b := be p 16 8; let l := be p 24 8; let m := be p 32 8
  { base := b / 4096, en := bitOf b 11, lock := old.lock, vlock := old.vlock, rd := bitOf b 8, wr := bitOf b 7
    limit := l / 4096, subOff := l % 256, mHi := bits m 55 44, mLo := bits m 43 32, pv := bitOf m 20, pasid := bits m 19 0 }

/-- LOCK of a region as it will stand once what is armed has taken effect. -/
def lockAfter (s : State) (key : Nat) : Bool :=
  ((s.fn.locks.filter (fun l => decide (l.1 = key))).getLast?.map (·.2.1)).getD (tget {} s.fn.regions key).lock

/-- FENCE_SET (R31, R427, R428). -/
def fenceSetCmd (_ : Held) (p : List Byte) (s : State) : State :=
  let f := be p 0 1; let k := be p 1 1
  let old := tget {} s.fn.regions (32 * f + k)
  let r := parseRegion old p
  if old.lock || old.vlock || lockAfter s (32 * f + k) then refuse St.notAuthorised 0 s
  else
    let t := switchAt (be p 8 8) s
    respondAt t [] { s with fn.armed := s.fn.armed ++ [⟨32 * f + k, r, t⟩] }

/-- FENCE_SET (R427). -/
def execFenceSet (s : State) : Res := withCmd 0x0B01 s fenceSetCmd

/-- FENCE_LOCK (R30, R31, R427): LOCK changes at the next sample point; no command unlocks a vendor-locked region. -/
def fenceLockCmd (_ : Held) (p : List Byte) (s : State) : State :=
  let key := 32 * be p 0 1 + be p 1 1
  let t := switchAt 0 s
  if (tget {} s.fn.regions key).vlock then refuse St.notAuthorised 0 s
  else respondAt t [] { s with fn.locks := s.fn.locks ++ [(key, decide (be p 2 1 = 1), t)] }

/-- FENCE_LOCK (R427). -/
def execFenceLock (s : State) : Res := withCmd 0x0B02 s fenceLockCmd

/-- Region changes whose tick has come (R31, R427). The copy before the switch stays while work granted earlier is there. -/
def applyFences (s : State) : State :=
  let due := s.fn.armed.filter (fun a => decide (a.tick ≤ s.tick))
  let locks := s.fn.locks.filter (fun l => decide (l.2.2 ≤ s.tick))
  let past := s.fn.past ++ (if due.isEmpty && locks.isEmpty then [] else [(s.tick, s.fn.regions)])
  let t := due.foldl (fun t a => tset {} t a.key { a.region with lock := (tget {} t a.key).lock }) s.fn.regions
  { s with fn.regions := locks.foldl (fun t l => tset {} t l.1 { tget {} t l.1 with lock := l.2.1 }) t
           fn.armed := s.fn.armed.filter (fun a => decide (s.tick < a.tick))
           fn.locks := s.fn.locks.filter (fun l => decide (s.tick < l.2.2))
           fn.past := past.filter (fun c => s.wk.works.any (fun p => p.2.grant.any (fun g => decide (g < c.1)))) }

end Sys2Proof.Machine
end

