-- ==== Sys2Proof/Machine/Trace.lean ====
section
/-!
DEFINITION. The trace unit (R493 to R496).
-/
namespace Sys2Proof.Machine

/-- Packets the buffer holds (R496). -/
def traceSlots : Nat := 6144

/-- Write one packet. -/
def putPacket (p : Packet) (s : State) : State :=
  { s with tr.buf := tblPut s.tr.buf (s.tr.write % traceSlots) p, tr.write := s.tr.write + 1 }

/-- Write a packet; when it overwrites one not yet read, a packet that counts the loss follows (R496). -/
def tracePacket (type source code data : Nat) (s : State) : State :=
  if !s.tr.isOpen then s else
  let lo := s.tick % 2 ^ 32
  let spent := fun (s : State) => decide (s.tr.read + traceSlots ≤ s.tr.write)
  let lose := fun (s : State) => { s with tr.lost := satAdd 32 s.tr.lost 1 }
  if spent s then
    let s := putPacket ⟨type, source, code, lo, data⟩ (lose s)
    putPacket ⟨4, 0xFF, 0, lo, 1⟩ (if spent s then lose s else s)
  else putPacket ⟨type, source, code, lo, data⟩ s

/-- A source's group bit is open (R493). -/
def traceGroup (s : State) (g : Nat) : Bool := bitOf s.tr.groups g

/-- The gap packet of a cluster that enters GATED (R150, R493). -/
def traceGap (c : Nat) (s : State) : State := if traceGroup s 1 then tracePacket 2 (0x10 + c) 0 s.tick s else s

/-- The resume packet of a cluster that ends WAKING (R150, R493). -/
def traceResume (c : Nat) (s : State) : State := if traceGroup s 1 then tracePacket 3 (0x10 + c) 0 s.tick s else s

/-- A sync packet (R493). -/
def traceSync (s : State) : State := tracePacket 5 0xFF 0 s.tick s

/-- TRACE_OPEN (R494). -/
def traceOpenCmd (_ : Held) (p : List Byte) (s : State) : State :=
  let lc := lcState s
  let dev := decide (lc = .development)
  let g := be p 0 1
  let d := be p 1 1
  if !dev && !decide (lc = .operational ∨ lc = .maintenance) then refuse St.stateForbids 0 s
  else if 32 ≤ g then refuse St.grateRange 64 s
  else if (16 ≤ d ∧ d ≤ 30) ∨ (d = 0 ∧ dev = true) then
    if s.tr.isOpen then refuse St.busy 0 s else
    let fin := if d = 0 then 0 else s.tick + 2 ^ d
    let s := { s with tr := { isOpen := true, dev, groups := g, openTick := s.tick, endTick := fin, write := 0, read := 0, lost := 0, buf := [] } }
    respond St.ok 0 s.tick (beBytes 8 s.tick ++ beBytes 8 fin) (traceSync s)
  else refuse St.grateRange 65 s

/-- TRACE_OPEN (R494). -/
def execTraceOpen (s : State) : Res := withCmd 0x0A02 s traceOpenCmd

/-- TRACE_CLOSE (R494). -/
def traceCloseCmd (_ : Held) (_ : List Byte) (s : State) : State := respond St.ok 0 s.tick [] (closeTrace s)

/-- TRACE_CLOSE (R494). -/
def execTraceClose (s : State) : Res := withCmd 0x0A03 s traceCloseCmd

/-- END_TICK has come (R494). -/
def traceEnds (s : State) : Bool := s.tr.isOpen && decide (s.tr.endTick ≠ 0) && decide (s.tr.endTick ≤ s.tick)

/-- The trace closes at the sample point of END_TICK (R494). -/
def traceEndPoint (s : State) : State := if traceEnds s then closeTrace s else s

/-- TRACE_END_TICK (R494): the sample point of END_TICK. -/
def execTraceEndTick (s : State) : Res := whenOk (traceEnds s) s (closeTrace s)

/-- TRACE_SYNC (R493): a tick whose count is a multiple of 2^16. -/
def execTraceSync (s : State) : Res := whenOk (s.tr.isOpen && decide (s.tick % 2 ^ 16 = 0)) s (traceSync s)

end Sys2Proof.Machine
end

