-- ==== Sys2Proof/Machine/Clusters.lean ====
section
/-!
DEFINITION. Engines and clusters: the end of a step, twin comparison and retry, machine checks, scoring and retirement,
retests, drain, load, return and gating (R128 to R149).
-/
namespace Sys2Proof.Machine

/-! ### Scoring and retirement -/

/-- Score one mismatch to an engine; the third within 2^20 ticks of the first of the last three retires it (R135, R136). -/
def scoreEngine (e : Nat) (s : State) : State :=
  modEng e (fun g =>
    let l := (g.scores ++ [s.tick]).drop (g.scores.length - 2)
    { g with scores := l, lastTick := s.tick, retireDue := g.retireDue || (decide (3 ≤ l.length) && decide (s.tick ≤ l.headD 0 + 2 ^ 20)) }) s

/-- Score an engine when it was at fault. -/
def scoreIf (c : Bool) (e : Nat) (s : State) : State := if c then scoreEngine e s else s

/-- One engine leaves service for good: its retest goes with it (R136). -/
def retireOne (e : Nat) (s : State) : State :=
  modEng e (fun g => { g with estate := 2, retireDue := false, retest := none, refEng := none })
    { s with tk.tasks := s.tk.tasks.filter (fun t => decide (¬ (t.kind = 3 ∧ t.arg = e))) }

/-- The engines of a cluster that serve, retired ones and those on their way back aside. -/
def servingEngines (s : State) (c : Nat) : List Nat :=
  ((List.range 16).map (16 * c + ·)).filter (fun e => decide ((engine s e).estate ≠ 2) && !(engine s e).back)

/-- Retire an engine now (R136): the last engine of its cluster goes with it; the pool and the notices follow, and a pool below
2 × T_top asks for a wake (R149). -/
def retireEngine (e : Nat) (s : State) : State :=
  let c := e / 16
  let s := retireOne e s
  let rest := servingEngines s c
  let last := if rest.length ≤ 1 ∧ (cluster s c).state ≠ 5 then rest else []
  let s := if rest.length ≤ 1 ∧ (cluster s c).state ≠ 5 then
      modCluster c (fun x => { x with drainAt := none, returnAt := none, gateAfter := false })
        (setClusterState c 5 (last.foldl (fun s k => retireOne k s) s))
    else s
  let s := refreshPool s
  let s := if s.tk.lowPool then askWake s else s
  (e :: last).foldl (fun s k => note 0x0F01 1 c k s.tk.pool s) s

/-- Engines due to retire leave at the sample point (R136). -/
def retireDue (s : State) : State :=
  (s.en.engines.filter (fun p => p.2.retireDue && decide (p.2.estate ≠ 2))).foldl (fun s p => retireEngine p.1 s) s

/-- A latent divergence involves an engine (R138, R139). -/
def latentOn (e : Nat) (s : State) : State :=
  let l := ((engine s e).latents.filter (fun t => decide (s.tick < t + 2 ^ 24))) ++ [s.tick]
  let s := modEng e (fun g => { g with latents := l.take 16 }) s
  if 16 ≤ l.length then raiseRetest e s else s

/-- RETEST_END (R137, R139): after 2 ticks the answers are known. An engine back in service counts in P from the next sample point; one
re-admitted starts without scores (DESIGN CHOICE, log entry 86). -/
def execRetestEnd (e : Nat) (passed : Bool) (s : State) : Res :=
  let g := engine s e
  match g.retest with
  | none => noEvent s
  | some t =>
    if s.tick < t + 2 then noEvent s else
    let s := modEng e (fun x => { x with retest := none, refEng := none })
      { s with tk.tasks := s.tk.tasks.filter (fun t => decide (¬ (t.kind = 3 ∧ t.arg = e))) }
    let c := e / 16
    if passed then
      let s := modEng e (fun x => { x with
        latents := [], estate := 0, back := false, readmit := x.readmit || g.back, scores := if g.back then [] else x.scores }) s
      if (cluster s c).state = 5 then
        let s := modEng e (fun x => { x with ready := true, estate := 2 }) s
        let rdy := ((List.range 16).map (16 * c + ·)).filter (fun k => (engine s k).ready)
        if 2 ≤ rdy.length then
          .next (setClusterState c 1 (rdy.foldl (fun s k => modEng k (fun x => { x with estate := 0, ready := false }) s) s))
        else .next s
      else .next s
    else .next (modEng e (fun x => { x with estate := if g.back then 2 else 1, retireDue := !g.back, back := false }) s)

/-! ### The end of a step -/

/-- Parts of the state a squash lets a discarded step keep: usage and limiter counts, and what was reported (R111). -/
def keepCounts (before after : State) : State :=
  { before with
    lim := after.lim, ac := after.ac, rc := after.rc, nq := after.nq, tm := after.tm, freeCtr := after.freeCtr, out := after.out }

/-- The result of a step is used: the function runs, and the request goes on or ends (R54, R110, R111, R130). -/
def takeResult (id : Nat) (w : Work) (s : State) : State :=
  let s := countUsage id s
  let q := runStep id s
  let q := (q.1, if q.2.freeCtr = s.freeCtr then q.2 else drbgCall w.cluster 1 q.2)
  if w.squash = 2 then finish id { status := St.squashed } (keepCounts s q.2)
  else match q.1 with
    | .more =>
      if w.squash = 1 then finish id { status := St.squashed } q.2
      else modWork id (fun w => { w with phase := .between, stepsDone := w.stepsDone + 1 }) q.2
    | .toUnit =>
      if w.squash = 1 then finish id { status := St.squashed } q.2
      else modWork id (fun w => { w with phase := .unit, stepsDone := w.stepsDone + 1, pkDone := 0 }) q.2
    | .done r =>
      let s := modWork id (fun w => { w with stepsDone := w.stepsDone + 1 }) q.2
      if r.pin then finish id { status := St.egressBlocked } (egressStop w.sub.func (progVersion s w.vend w.version w.sub.func) 0 s) else finish id r s

/-- A mismatch or machine check of a step is counted at its cluster (R152). -/
def countMismatch (w : Work) (s : State) : State :=
  modCluster (w.e1 / 16) (fun c => { c with mismatch := satAdd 32 c.mismatch 1 }) s

/-- The step mismatched: its retry starts in this tick when a pair can finish it, or waits for the retry reserve (R131). A
retry in the same tick runs after the first run, so its pair must have room for both (log entry 24); after an overrun at engine cycle
4,096 none has. -/
def startRetry (id : Nat) (w : Work) (bad1 bad2 now : Bool) (s : State) : State :=
  let s := countMismatch w s
  let s := modWork id (fun w => { w with phase := .retryDue, onEng := false, old1 := w.e1, old2 := w.e2, oldBad1 := bad1, oldBad2 := bad2 }) s
  let cycles := workCycles s w
  let here := if now then
      (retryClusters s w).findSome? (fun c => findPair s c (2 * cycles) (workTwin s w) [w.e1, w.e2]) else none
  match here with
  | some p => modWork id (fun w => { w with phase := .retrying }) (placeOn id p cycles s)
  | none => s

/-- The retry mismatched too: the request ends with TWIN_RETRIED (R132). -/
def twinFail (id : Nat) (w : Work) (s : State) : State :=
  let s := modCluster (w.e1 / 16) (fun c => { c with twinFail := satAdd 32 c.twinFail 1 }) (countMismatch w s)
  finish id { status := if w.squash = 2 then St.squashed else St.twinRetried } (countUsage id s)

/-- The retry gave a result (R132, R135). -/
def retryOk (id : Nat) (w : Work) (s : State) : State :=
  let s := scoreIf (w.oldBad1 && !w.mc1) w.old1 (scoreIf (w.oldBad2 && !w.mc2 && decide (w.old1 ≠ w.old2)) w.old2 s)
  let s := scoreIf (decide (0 < w.overruns)) w.old1 s
  let s := modCluster (w.e1 / 16) (fun c => { c with retryOk := satAdd 32 c.retryOk 1 }) s
  modWork id (fun w => { w with rty := true }) s

/-- A latent divergence is recorded and counted, and changes nothing else (R138). -/
def latentSeen (w : Work) (fields : Nat) (s : State) : State :=
  let s := modCluster (w.e1 / 16) (fun c => { c with latent := satAdd 32 c.latent 1 }) s
  let s := report { event := 0x0F02, notify := false, unit := w.e1 / 16, argA := w.sub.func + w.e1 * 2 ^ 16 + w.e2 * 2 ^ 32, argB := fields } s
  latentOn w.e2 (latentOn w.e1 s)

/-- A step runs on this request's engines. -/
def stepping (w : Work) : Bool := decide (w.unit = .engine) && w.onEng && decide (w.phase = .running ∨ w.phase = .retrying)

/-- The functions a request's next step runs. -/
def workFuncs (w : Work) : List Nat := match w.plan with
  | some p => planFuncs p w.stepsDone
  | none => [w.sub.func]

/-- The output fields of a step that are in the consumed mask (R129): side-effect requests (bit 32) always; in an accord's chain the whole
result (R328); else of a customer program every field, since its whole output record goes to host software, and of a vendor program what
the image says for the request's options (log entry 84). -/
def consumed (s : State) (w : Work) (d : Nat) : Bool :=
  bitOf d 32 ||
  (if w.plan.isSome then decide (d ≠ 0)
   else if isCustomer w.sub.func then decide (d % 2 ^ (((progFor s w.sub.func w.version).map (·.fields.length)).getD 0) ≠ 0)
   else decide (d % 2 ^ 32 &&& Config.consumedMask w.sub.func w.sub.param w.sub.aux w.input ≠ 0))

/-- What the supervisor makes of a step's two outputs (R130). -/
inductive Compared where
  | equal
  | latent (fields : Nat)
  | mismatch
  deriving DecidableEq, Repr

/-- Equal, latently divergent, or a mismatch (R130). -/
def compareOut (s : State) (w : Work) (o : StepOut) : Compared :=
  if o.diff = 0 then .equal else if consumed s w o.diff then .mismatch else .latent o.diff

/-- The step samples of a step for calibration, where its cluster carries the newest version of the function (R67, R148). DESIGN CHOICE
(log entry 20): an accord step gives one sample for each function it runs, and its misses count at the first of them. -/
def calibrateStep (w : Work) (o : StepOut) (s : State) : State :=
  let fs := workFuncs w
  ((fs.zip o.cal).zipIdx).foldl (fun s q =>
    let f := q.1.1
    if progVersion s w.vend w.version f = progVersion s (vendorVersion s) s.en.setVer f then
      calibrate f q.1.2.1 (if w.stepsDone = 0 ∧ q.2 = 0 then w.missed else 0) q.1.2.2 s
    else s) s

/-- A step whose outputs were equal or diverged latently (R67, R130, R138, R422). -/
def stepGood (id : Nat) (w : Work) (o : StepOut) (latent : Option Nat) (s : State) : State :=
  let s := if w.phase = .retrying then retryOk id w s else s
  let s := match latent with
    | some f => latentSeen w f s
    | none => s
  let s := calibrateStep w o s
  takeResult id w s

/-- The access of a step, made by each engine that ran it (R424, R429). -/
def stepFence (w : Work) (o : StepOut) (s : State) : Bool × State :=
  let g := w.grant.getD s.tick
  let q := fenceCheck g o.access w.e1 s
  if workTwin s w then let r := fenceCheck g o.access w.e2 q.2
                       (q.1 || r.1, r.2)
  else q

/-- ENGINE_STEP_END (R130 to R135, R207, R422, R429): a step ends after the records it waits for are there or have failed. -/
def execEngineStepEnd (id : Nat) (o : StepOut) (s : State) : Res :=
  match work s id with
  | none => noEvent s
  | some w =>
    if !stepping w ∨ fetchOpen s w = true ∨ (workTwin s w = false ∧ o.diff ≠ 0) then noEvent s else
    let q := stepFence w o s
    if q.1 then .next (settle (finish id { status := St.fenceViolation } q.2)) else
    let s0 := s
    let s := q.2
    match compareOut s w o with
    | .equal => .next (settle (stepGood id w o none s))
    | .latent f => .next (settle (stepGood id w o (some f) s))
    | .mismatch =>
      if o.bad1 = false ∧ o.bad2 = false then noEvent s0
      else if w.phase = .retrying then
        let s := scoreIf (!w.mc1) w.old1 (scoreIf (!w.mc2) w.old2 (scoreEngine w.e1 (scoreEngine w.e2 s)))
        .next (settle (twinFail id w s))
      else .next (settle (startRetry id w o.bad1 o.bad2 true s))

/-- A machine check of a step (R133, R135): `second` names the pair's second engine, `now` that the tick has cycles left. The check counts
as a mismatch of that engine, and is scored to it alone; where both runs of a single-run step end so, each engine is scored. -/
def machineCheck (id : Nat) (w : Work) (second now : Bool) (s : State) : State :=
  let e := if second then w.e2 else w.e1
  let s := scoreEngine e s
  if w.phase = .retrying then
    let s := if workTwin s w then scoreIf (!w.mc1) w.old1 (scoreIf (!w.mc2) w.old2 s) else scoreIf (decide (0 < w.overruns)) w.old1 s
    settle (twinFail id w s)
  else
    let s := modWork id (fun w => { w with mc1 := true, mc2 := true }) s
    settle (startRetry id w (!second) second now s)

/-- MACHINE_CHECK (R133, R135). -/
def execMachineCheck (id : Nat) (second : Bool) (s : State) : Res :=
  match work s id with
  | none => noEvent s
  | some w => if stepping w then .next (machineCheck id w second true s) else noEvent s

/-- A request whose program overran ends with PROGRAM_FAULT (R134): the notice names the function and the version that ran, which is the
suspect of reports from several clusters (R481). -/
def programFault (id : Nat) (w : Work) (s : State) : State :=
  let s := modCluster (w.e1 / 16) (fun c => { c with pfault := satAdd 32 c.pfault 1 }) s
  let f := (workFuncs w).headD w.sub.func
  let v := progVersion s w.vend w.version f
  let s := report { event := 0x0F03, unit := w.e1 / 16, argA := f, argB := v, suspect := 0x0F * 2 ^ 56 + f * 2 ^ 16 + v, cluster := some (w.e1 / 16) } s
  finish id { status := St.programFault } (countUsage id s)

/-- ENGINE_CYCLE_OVERRUN (R133, R134): one engine of a twin step, or with `both` the whole run, did not finish by engine
cycle 4,096. -/
def execEngineCycleOverrun (id : Nat) (both second : Bool) (s : State) : Res :=
  match work s id with
  | none => noEvent s
  | some w =>
    if !stepping w then noEvent s else
    if workTwin s w then
      .next (if both then settle (programFault id w s) else machineCheck id w second false s)
    else if w.phase = .retrying then
      .next (if 0 < w.overruns then settle (programFault id w s) else machineCheck id w second false s)
    else
      let s := modWork id (fun w => { w with overruns := 1 }) s
      .next (settle (startRetry id w false false false s))

/-! ### Drain, load, return, gating -/

/-- A retest runs in a cluster, or an engine of it serves one as reference (R146, R149). -/
def retestIn (s : State) (c : Nat) : Bool := (List.range 16).any (fun i => (engine s (16 * c + i)).retest.isSome)

/-- Engines that stay in service once every drain accepted so far, and one more cluster's, has taken effect (R63). -/
def enginesAfter (s : State) (c : Nat) : Nat :=
  ((inService s).filter (fun k => decide (k ≠ c) && (cluster s k).drainAt.isNone)).foldl (fun a k => a + clusterActive s k) 0

/-- Schedule a drain (R63, R146). -/
def clDrainCmd (_ : Held) (p : List Byte) (s : State) : State :=
  let c := be p 0 1
  if (cluster s c).state ≠ 0 ∨ (cluster s c).drainAt.isSome ∨ retestIn s c then refuse St.busy 0 s
  else if poolOf (enginesAfter s c) < 2 * s.tk.cfg.tTop then refuse St.busy 0 s
  else
    let k := switchAt (be p 8 8) s
    respondAt k [] (modCluster c (fun x => { x with drainAt := some k }) s)

/-- CL_DRAIN (R146). -/
def execClDrain (s : State) : Res := withCmd 0x0501 s clDrainCmd

/-- CL_LOAD (R147). DESIGN CHOICE (log entry 85): a load of a cluster whose return is scheduled is accepted, and takes the return back. -/
def clLoadCmd (_ : Held) (p : List Byte) (s : State) : State :=
  let c := be p 0 1
  if (cluster s c).state ≠ 1 then refuse St.stateForbids 0 s
  else respond St.ok 0 s.tick []
    (modCluster c (fun x => { x with loadOk := false, loadTick := s.tick, returnAt := none }) (setClusterState c 2 s))

/-- CL_LOAD (R147). -/
def execClLoad (s : State) : Res := withCmd 0x0502 s clLoadCmd

/-- The customer program set that a load brings (R152): 0 when it holds no program. -/
def loadedSet (s : State) : Nat := if s.en.progs.any (fun p => p.gone.isNone) then s.en.setVer else 0

/-- The old versions leave the store once every cluster in service carries the new ones (R148). -/
def endRollout (s : State) : State :=
  if s.en.rollout && !(inService s).isEmpty && (inService s).all (fun c =>
      decide ((cluster s c).custVer = loadedSet s ∧ (cluster s c).vendVer = vendorVersion s)) then
    { s with en.rollout := false, en.progs := s.en.progs.filter (fun p => p.gone.isNone), tk.calOld := [] }
  else s

/-- CL_LOAD_DONE (R147): the check against the image digest passed or not. -/
def execClLoadDone (c : Nat) (ok : Bool) (s : State) : Res :=
  if (cluster s c).state ≠ 2 then noEvent s else
  let s := setClusterState c 1 s
  if ok then .next (modCluster c (fun x => { x with loadOk := true, custVer := loadedSet s, vendVer := vendorVersion s }) s)
  else .next (note 0x0F04 1 c 0 0 s)

/-- CL_RETURN (R147). -/
def clReturnCmd (_ : Held) (p : List Byte) (s : State) : State :=
  let c := be p 0 1
  let x := cluster s c
  if x.state = 2 ∨ x.returnAt.isSome then refuse St.busy 0 s
  else if x.state ≠ 1 ∨ x.loadOk = false then refuse St.stateForbids 0 s
  else
    let k := switchAt (be p 8 8) s
    respondAt k [] (modCluster c (fun x => { x with returnAt := some k }) s)

/-- CL_RETURN (R147). -/
def execClReturn (s : State) : Res := withCmd 0x0503 s clReturnCmd

/-- CL_GATING (R149). -/
def clGatingCmd (_ : Held) (p : List Byte) (s : State) : State :=
  let on := decide (be p 0 1 = 1)
  respond St.ok 0 s.tick [] { s with en.gating := on, en.wakeAsk := false }

/-- CL_GATING (R149). -/
def execClGating (s : State) : Res := withCmd 0x0504 s clGatingCmd

/-- The supervisor moves the occupied saved-state slots of a cluster out of service to clusters with room that hold the same versions,
which ones being open (R146, R148, log entry 21); where none has room they stay for a later sample point. -/
def moveSlots (c : Nat) (s : State) : State :=
  (s.wk.works.filter (fun p => p.2.slot && decide (p.2.cluster = c))).foldl (fun s p =>
    let cs := (inService s).filter (fun k => decide (slotsUsed s k < 64) && sameProgs s p.2 k)
    if cs.isEmpty then s else
    let (v, s) := draw s
    modWork p.1 (fun w => { w with cluster := cs.getD (v % max 1 cs.length) c }) s) s

/-- A cluster's return takes effect (R147). -/
def clusterPoint (c : Nat) (s : State) : State :=
  match (cluster s c).returnAt with
  | some k => if k ≤ s.tick then modCluster c (fun x => { x with returnAt := none }) (setClusterState c 0 s) else s
  | none => s

/-- A drain that began at this sample point ends within the tick, once the spilled steps have started: the slots move, and the cluster
is DRAINED, or GATED (R146, R149). Slots that found no room move later. -/
def drainPoint (s : State) : State :=
  (s.en.clusters.map (·.1)).foldl (fun s c =>
    let x := cluster s c
    if x.drainAt.any (fun d => decide (d ≤ s.tick)) then
      let s := moveSlots c s
      let s := modCluster c (fun x => { x with drainAt := none, loadOk := false }) (setClusterState c (if x.gateAfter then 3 else 1) s)
      if x.gateAfter then traceGap c (modCluster c (fun x => { x with gates := satAdd 32 x.gates 1, gateAfter := false }) s) else s
    else if x.state ≠ 0 then moveSlots c s else s) s

/-- Clusters, engines, the pool and the rollout at a sample point (R45, R136, R147, R148). -/
def clustersPoint (s : State) : State :=
  endRollout (refreshPool (retireDue ((s.en.clusters.map (·.1)).foldl (fun s c => clusterPoint c s) s)))

/-- The grant history that gating looks at (R149): the peaks of the last 2^16 ticks, and the recent sample points above
85 % of P. -/
def gatingHistory (s : State) : State :=
  let g := s.tk.grantTop + s.tk.grantHeart + s.tk.grantBase
  let peaks := (s.tick, g) :: (s.en.peaks.dropWhile (fun p => decide (p.2 ≤ g)))
  let high := s.en.highTicks.filter (fun t => decide (s.tick < t + 256))
  { s with en.peaks := peaks.filter (fun p => decide (s.tick < p.1 + 2 ^ 16))
           en.highTicks := if 85 * s.tk.pool < 100 * g then high ++ [s.tick] else high }

/-- GATING_DECISION (R149): the controller gates a cluster, or wakes one. Which cluster it takes is the event's. -/
def execGatingDecision (c : Nat) (s : State) : Res :=
  if !s.en.gating ∨ 64 ≤ c then noEvent s else
  let x := cluster s c
  if x.state = 3 then
    if s.en.wakeAsk ∨ 16 ≤ s.en.highTicks.length then
      .next (setClusterState c 4 { s with en.wakeAsk := false, en.highTicks := [] })
    else noEvent s
  else if x.state = 0 ∧ x.drainAt.isNone ∧ retestIn s c = false ∧ 17 ≤ (inService s).length ∧ s.en.gateTick ≠ some s.tick then
    let p := poolOf (enginesAfter s c)
    if 2 * s.tk.cfg.tTop ≤ p ∧ s.en.peaks.all (fun q => decide (100 * q.2 < 60 * p)) = true then
      .next (modCluster c (fun x => { x with drainAt := some (s.tick + 1), gateAfter := true }) { s with en.gateTick := some s.tick })
    else noEvent s
  else noEvent s

/-- CLUSTER_WAKE_END (R149, R150): after 16 ticks in WAKING the cluster is back in service, and in P from the next sample point. -/
def execClusterWakeEnd (c : Nat) (s : State) : Res :=
  if (cluster s c).state = 4 ∧ (cluster s c).stTick + 16 ≤ s.tick then
    .next (traceResume c (setClusterState c 0 s))
  else noEvent s

/-- READMIT of an engine (R137, R139): a retest comes first; READMIT is set when it passes. -/
def readmitEngine (e : Nat) (s : State) : State :=
  let g := engine s e
  if 1024 ≤ e then refuse St.grateRange 66 s
  else if g.retest.isSome ∨ s.tk.tasks.any (fun t => decide (t.kind = 3 ∧ t.arg = e)) = true then refuse St.busy 0 s
  else if g.estate ≠ 2 ∨ g.readmit then refuse St.stateForbids 0 s
  else respond St.ok 0 s.tick [] (raiseRetest e s)

end Sys2Proof.Machine
end

