-- ==== Sys2Proof/Machine/PkUnits.lean ====
section
/-!
DEFINITION. The public-key units at work: one step a tick, context 0, failed checks, restarts, retirement, the unit query (R377 to R392).
-/
namespace Sys2Proof.Machine

/-- Unit steps of a handshake (R383): verify, encapsulate, X25519 twice, sign; with an ML-DSA-65 key, whether its attempts are used up. -/
def handshakeSteps (x : Ep) (h : Hello) (s : State) : (Nat × Bool) × State :=
  let verify := if x.alg = 1 then 21 else 3
  if h.sign.rec_.type = 23 then
    let q := draw s
    ((verify + 2 + 12 + 5 + (dsaAttempts q.1).1, (dsaAttempts q.1).2), q.2)
  else ((verify + 2 + 12 + 30, false), s)

/-- A key a HELLO names fails the checks of R382: where SPKI is the context's, its key, X25519_E and EK_E (R299, R301). -/
def helloKeysBad (x : Ep) (h : Hello) : Bool :=
  let b := h.payload
  let spki := octets b 0x4E8 (be b 2 2)
  decide (Config.sha384 spki = x.spki) &&
    (!Config.spkiKeyOk x.alg spki || !pubKeyValid 20 (octets b 0x28 32) || !pubKeyValid 22 (octets b 0x48 1184))

/-- A handshake's first step: SIGN_KEY as it was read, and the keys of the HELLO (R216, R301, R382). -/
def handshakeStart (e : Nat) (s : State) : ((Nat × Nat) ⊕ (Nat × Bool)) × State :=
  match tblGet s.pt.eps e with
  | none => (.inr (1, false), s)
  | some x => match x.hello with
    | none => (.inr (1, false), s)
    | some h => match signTest (port s h.port).owner h.sign with
      | some r => (.inl r, s)
      | none =>
        if helloKeysBad x h then (.inl (St.publicKeyInvalid, 1), s)
        else let q := handshakeSteps x h s
             (.inr q.1, q.2)

/-- The unit work of 0x0705: PEER is checked first (R232, R382, R383). -/
def agreeStart (w : Work) : (Nat × Nat) ⊕ (Nat × Bool) :=
  let m := le w.input 0x40 1
  let t := (w.key 0).rec_.type
  if peerBad m t (agreePeer w.input) then .inl (St.publicKeyInvalid, 1) else .inr (agreeSteps m t, false)

/-- The first step of an operation: its refusal, or its number of steps and whether it gives up at their end. -/
def pkFirstStep (w : Work) (s : State) : ((Nat × Nat) ⊕ (Nat × Bool)) × State :=
  match w.src with
  | .handshake e => handshakeStart e s
  | _ =>
    if w.sub.func = 0x0704 then
      let q := genSteps (le w.input 4 1) s
      (.inr q.1, q.2)
    else if w.sub.func = 0x0705 then (agreeStart w, s)
    else pkStart w s

/-- The charge of unit work counts when it ends; that of an engine's steps was counted there (R548). -/
def pkUsage (id : Nat) (w : Work) (s : State) : State := if w.unit = .engine then s else countUsage id s

/-- An operation that had been restarted ends without a failed check: RTY, and a score to the first unit (R390). -/
def pkPassed (id : Nat) (w : Work) (s : State) : State :=
  match w.pkFirst with
  | some f => modWork id (fun w => { w with rty := true }) (scorePk f s)
  | none => s

/-- The unit has ended a handshake's steps: HANDSHAKE_DONE may follow (R301). -/
def helloDone (e : Nat) (s : State) : State :=
  modEp e (fun x => { x with hello := x.hello.map (fun h => { h with done := some s.tick }) }) s

/-- An operation passed its last check (R388, R390). -/
def pkFinish (id : Nat) (w : Work) (s : State) : State :=
  let s := pkPassed id w s
  match w.src with
  | .handshake e =>
    if w.pkSpent then finish id { status := St.pkAttemptsExhausted } (pkUsage id w s)
    else modWork id (fun w => { w with phase := .ended, res := none }) (helloDone e s)
  | _ =>
    if w.sub.func / 256 = 0x0A then finish id (pkResult w) (pkUsage id w s)
    else if w.pkSpent then finish id { status := St.pkAttemptsExhausted } s
    else modWork id (fun w => { w with phase := .between, pkUnit := none }) s

/-- A failed check is counted at its unit (R389, R391). -/
def countCheck (u : Nat) (s : State) : State := modPk u (fun k => { k with checkFail := satAdd 32 k.checkFail 1, lastFail := s.tick }) s

/-- A failed check (R389, R390). -/
def pkFailed (id u : Nat) (w : Work) (s : State) : State :=
  let s := countCheck u s
  match w.pkFirst with
  | some f => finish id { status := if w.squash = 0 then St.twinRetried else St.squashed } (pkUsage id w (scorePk u (scorePk f s)))
  | none =>
    if w.squash ≠ 0 then finish id { status := St.squashed } (pkUsage id w s)
    else modWork id (fun w => { w with phase := .unitDue, pkFirst := some u, pkUnit := none, pkDone := 0 }) s

/-- One step of an operation that passed. An operation that draws makes one generate call of the instance of the unit's cluster, in its
first step (R380). -/
def pkAdvance (id u : Nat) (w : Work) (s : State) : State :=
  if w.squash ≠ 0 then finish id { status := St.squashed } (pkUsage id w s) else
  let q := if w.pkDone = 0 then pkFirstStep w s else (.inr (w.pkTotal, w.pkSpent), s)
  match q.1 with
  | .inl (st, d) => finish id { status := st, detail := d } (pkUsage id w (pkPassed id w q.2))
  | .inr (n, spent) =>
    let d := if w.pkDone = 0 && pkDraws w then draw (drbgCall u 1 q.2) else (w.pkSeed, q.2)
    let w := { w with pkTotal := n, pkSpent := spent, pkSeed := d.1, pkDone := w.pkDone + 1 }
    let s := modWork id (fun _ => w) d.2
    if n ≤ w.pkDone then pkFinish id w s else s

/-! ### Context 0 (R378, R390, R410) -/

/-- The other unit a control operation restarts on: of another die first, the one with the fewest at context 0 (R390). -/
def ctlRestart (s : State) (f : Nat) : Option Nat :=
  let us := (pkInService s).filter (fun u => decide (u ≠ f) && !(pkUnit s u).retireDue)
  (fewestCtl s (us.filter (fun u => decide (pkDie u ≠ pkDie f)))).or (fewestCtl s us)

/-- A check of a control operation failed (R390): it restarts on another unit; the second time both units score, and the command that waits
for the gate ends with TWIN_RETRIED (DESIGN CHOICE, log entry 49). -/
def ctlFailed (u : Nat) (c : PkCtl) (s : State) : State :=
  let s := countCheck u s
  match c.first with
  | some f =>
    let s := scorePk u (scorePk f s)
    if s.mb.held.any (fun h => decide (h.stage = .quorum)) then refuse St.twinRetried 0 s else s
  | none =>
    match ctlRestart s u with
    | some v => giveCtl v { c with left := c.total, first := some u } (modPk v (fun k => { k with restarts := satAdd 32 k.restarts 1 }) s)
    | none => giveCtl u { c with left := c.total } s

/-- One step of the operation in context 0. -/
def ctlStep (u : Nat) (c : PkCtl) (rest : List PkCtl) (failed : Bool) (s : State) : State :=
  let s' := modPk u (fun k => { k with ctl := rest }) s
  if failed then ctlFailed u c s'
  else if c.left ≤ 1 then (match c.first with | some f => scorePk f s' | none => s')
  else modPk u (fun k => { k with ctl := { c with left := c.left - 1 } :: rest }) s

/-- The operations in data contexts that can run a step: one that waits for an engine step or for its key record is passed over. -/
def pkReady (s : State) (u : Nat) : List (Nat × Nat × Work) :=
  (pkHeld s u).filter (fun h => decide (h.2.2.phase = .unit) && !fetchOpen s h.2.2)

/-- The operation in context 0 can run a step. -/
def ctlReady (s : State) (u : Nat) : Bool := ((pkUnit s u).ctl.head?).any (fun c => decide (c.from_ ≤ s.tick))

/-- The next occupied context after the one that ran last (R379). -/
def pkNext (s : State) (u : Nat) : Option Nat :=
  (([1, 2, 3, 4, 5, 6, 7, 8] : List Nat).map (fun k => ((pkUnit s u).last + k) % 8)).find? (fun c =>
    if c = 0 then ctlReady s u else (pkReady s u).any (fun h => decide (h.1 = c)))

/-- One step of the operation in a data context. -/
def dataStep (u c : Nat) (failed : Bool) (a : Option Access) (s : State) : State :=
  match (pkReady s u).find? (fun h => decide (h.1 = c)) with
  | none => s
  | some (_, id, w) =>
    let q := fenceCheck (w.grant.getD s.tick) a (0x400 + u) s
    if q.1 then finish id { status := St.fenceViolation } (pkUsage id w q.2)
    else if failed then pkFailed id u w s else pkAdvance id u w s

/-- PK_UNIT_STEP (R379, R389, R390, R424, R429): `failed` says that a check of the step failed, `a` is an access of the step that a fence
may block. -/
def execPkUnitStep (u : Nat) (failed : Bool) (a : Option Access) (s : State) : Res :=
  if (pkUnit s u).ran = some s.tick then noEvent s else
  match pkNext s u with
  | none => noEvent s
  | some c =>
    let s := modPk u (fun k => { k with steps := wrapAdd 64 k.steps 1, last := c, ran := some s.tick }) s
    if c = 0 then
      match (pkUnit s u).ctl with
      | x :: rest => .next (ctlStep u x rest failed s)
      | [] => .next s
    else .next (settle (dataStep u c failed a s))

/-- The unit a restart goes to: another die first (R390). -/
def restartUnit (s : State) (f : Nat) : Option Nat :=
  let us := (pkInService s).filter (fun u => decide (u ≠ f) && !(pkUnit s u).retireDue && (pkFree s u).isSome)
  (fewest s (us.filter (fun u => decide (pkDie u ≠ pkDie f)))).or (fewest s us)

/-- Units due to retire leave, and restarts take their contexts, ahead of every grant (R390, R391). -/
def pkPoint (s : State) : State :=
  let s := (s.pk.units.filter (fun p => p.2.retireDue && !p.2.retired)).foldl (fun s p =>
    note 0x1301 1 p.1 p.1 0 (modPk p.1 (fun k => { k with retired := true, retireDue := false }) s)) s
  (s.wk.works.filter (fun p => decide (p.2.phase = .unitDue))).foldl (fun s p =>
    match p.2.pkFirst.bind (restartUnit s) with
    | none => s
    | some u => modWork p.1 (fun w => { w with phase := .unit })
        (pkAssign p.1 u (modPk u (fun k => { k with restarts := satAdd 32 k.restarts 1 }) s))) s

/-- UNIT_QUERY (R391). -/
def unitQueryCmd (_ : Held) (p : List Byte) (s : State) : State :=
  let u := be p 0 1
  let k := pkUnit s u
  let held := pkHeld s u
  respond St.ok 0 s.tick (beBytes 1 u ++ beBytes 1 (b2n k.retired) ++ beBytes 1 (b2n k.readmit) ++ beBytes 1 k.scores.length ++
    beBytes 1 (held.length + b2n (!k.ctl.isEmpty)) ++ beBytes 1 (held.filter (fun h => decide (h.2.2.note = 2))).length ++
    beBytes 1 (held.filter (fun h => h.2.2.long)).length ++ beBytes 1 0 ++ beBytes 8 k.steps ++ beBytes 4 k.checkFail ++
    beBytes 4 k.restarts ++ beBytes 8 k.lastFail) s

/-- UNIT_QUERY (R391). -/
def execUnitQuery (s : State) : Res := withCmd 0x0507 s unitQueryCmd

/-- READMIT of a unit (R137, R391): its known-answer test comes first. A test that fails leaves the unit as it is, its one re-admission with
it (DESIGN CHOICE, log entry 86). -/
def readmitUnit (u : Nat) (passed : Bool) (s : State) : State :=
  let k := pkUnit s u
  if 64 ≤ u then refuse St.grateRange 66 s
  else if !k.retired || k.readmit then refuse St.stateForbids 0 s
  else respond St.ok 0 s.tick [] (if passed then modPk u (fun k => { k with retired := false, readmit := true, scores := [], retireDue := false }) s else s)

end Sys2Proof.Machine
end

