-- ==== Sys2Proof/Machine/PortBase.lean ====
section
/-!
DEFINITION. Port states: what stops with a port, and how training starts (R277, R278, R280).
-/
namespace Sys2Proof.Machine

/-- Set a port's state and cause (R277). -/
def setPort (p st cause : Nat) (s : State) : State := modPort p (fun x => { x with state := st, cause, stTick := s.tick }) s

/-- The port UTC comes from: the primary while it holds lock, else a locked secondary (R310, R311). -/
def utcSource (s : State) : Option Nat :=
  ((s.pt.ports.find? (fun q => q.2.ptpPri && q.2.ptp.lock)).or (s.pt.ports.find? (fun q => q.2.ptpSec && q.2.ptp.lock))).map (·.1)

/-- Keep PT_PTP.SOURCE to what is locked. -/
def chooseSource (s : State) : State := { s with pt.source := utcSource s }

/-- A port is out of service (R277). -/
def outOfService (x : Port) : Bool := decide (x.state = 0 ∨ x.state = 1 ∨ x.state = 5 ∨ x.state = 6)

/-- Sessions whose last message arrived on a sub-port become DORMANT, the old session of an ACCEPTING context among them (R278, R303). -/
def dormantOn (c : Ep → Bool) (s : State) : State :=
  { s with pt.eps := s.pt.eps.map (fun q => (q.1,
      if q.2.state = 3 ∧ c q.2 = true then { q.2 with state := 4, dormantAt := s.tick }
      else if q.2.state = 2 ∧ q.2.back = 3 ∧ c q.2 = true then { q.2 with back := 4, dormantAt := s.tick } else q.2)) }

/-- Messages still in the egress buffer when their sub-port stops are held; other frames are dropped and counted (R278, R304). -/
def dropTx (p : Nat) (c : EgItem → Bool) (s : State) : State :=
  let hs := (port s p).egq.filter c
  let n := (hs.filter (fun h => h.msg.isNone)).length
  let s := modPort p (fun x => { x with egq := x.egq.filter (fun i => !c i), cnt := { x.cnt with txDrop := satAdd 32 x.cnt.txDrop n } }) s
  hs.foldl (fun s h => match h.msg with | some m => holdOut m s | none => s) s

/-- A port stops carrying traffic (R278). -/
def stopTraffic (p : Nat) (s : State) : State :=
  let s := dropTx p (fun _ => true) s
  let s := if (port s p).role = 1 then
      modPort p (fun x => { x with inq := [], cnt := { x.cnt with txDrop := satAdd 32 x.cnt.txDrop x.inq.length } }) s else s
  let s := modPort p (fun x => { x with egFill := 0, links := x.links.map (fun l => { l with up := false }) }) s
  if (port s p).role = 2 then dormantOn (fun e => decide (e.port = p)) s else s

/-- Full training starts on every link of a port that is not held down (R280). -/
def startTraining (p : Nat) (s : State) : State :=
  modPort p (fun x => { x with state := 2, cause := 0, stTick := s.tick, pend := false
                               links := x.links.map (fun l => if l.held then l else { l with up := false, training := some s.tick, fresh := true, remote := false }) }) s

end Sys2Proof.Machine
end

