-- ==== Sys2Proof/Machine/Lanes.lean ====
section
/-!
DEFINITION. The lane supervisor: host-lane chunks, faults and replays, retests, rotation, lane settings, re-admission (R249 to
R252, R261 to R270).
-/
namespace Sys2Proof.Machine

/-! ### Host lanes (R251, R252, R264, R269) -/

/-- Write octets of a bulk operation to host memory (R116, R251). -/
def writeBulk (w : Work) (addr : Nat) (d : List Byte) (s : State) : State :=
  match workQp s w with
  | some n => let q := qp s n
              if q.state = 3 then s else writeHost q.link (qpPasid s q) q.roData addr d s
  | none => s

/-- HOST_LANE_CHUNK_END (R208, R251, R252, R269): the chunk of the operation whose turn it is, its input as read, and an
access outside the lane's paths. A lane holds no value with a PIN tag and no output of it is a key register's (R253, R420, R421). -/
def execHostLaneChunkEnd (id : Nat) (r : ReadResult) (a : Option Access) (s : State) : Res :=
  match work s id with
  | none => noEvent s
  | some w =>
    match w.place with
    | none => noEvent s
    | some n =>
      if w.unit ≠ .hostLane ∨ w.phase ≠ .unit ∨ unitHead s .hostLane n ≠ some id ∨ (w.asked = false ∧ w.rerun = false) ∨ fetchOpen s w = true then
        noEvent s else
      let s := modWork id (fun w => { w with asked := false }) s
      let s := if w.pos = 0 ∧ w.aad = false then countUsage id s else s
      let q := fenceCheck (w.grant.getD s.tick) a (0x500 + n) s
      if q.1 then .next (settle (laneEnd id { status := St.fenceViolation, wrote := some w.pos } q.2)) else
      let s := q.2
      if (w.key 0).bad then .next (settle (laneEnd id { status := St.keyIntegrity, detail := 1, wrote := some w.pos } s)) else
      match r with
      | .error => .next (settle (laneEnd id { status := St.hostDmaError, wrote := some w.pos } s))
      | .data bs =>
        let c := nextChunk w
        let d := octets bs 0 c.2.2
        let y := runChunk w (w.key 0).rec_.material d
        let s := laneFrame n d.length y.1.length s
        let s := if w.rerun then modLane n (fun l => { l with replays := satAdd 32 l.replays 1 }) s else s
        let s := addUsage w.sub.domain 8 0 0 d.length (writeBulk w (w.sub.outAddr + w.pos) y.1 s)
        let w := { w with pos := w.pos + (if c.1 then 0 else d.length), aad := w.aad || c.1, ckpt := y.2, rerun := false, asked := false }
        let s := modWork id (fun _ => w) s
        if w.squash ≠ 0 then .next (settle (laneEnd id { status := St.squashed, wrote := some w.pos } s))
        else if w.sub.inLen ≤ w.pos then
          let res := laneResult w
          let s := if res.status = St.tagMismatch then modLane n (fun l => { l with icvFail := satAdd 32 l.icvFail 1 }) s else s
          .next (settle (laneEnd id res s))
        else .next (laneReads n (toBack id s))

/-- A lane has a fault: QUARANTINED, or RETIRED on a second fault within 2^32 ticks (R261, R265). -/
def faultLane (n : Nat) (s : State) : State :=
  modLane n (fun l =>
    let recent := l.faults.filter (fun t => decide (s.tick < t + 2 ^ 32))
    { l with state := if recent.isEmpty then 2 else 4, stTick := s.tick, slot := none, faults := (recent ++ [s.tick]).take 2
             lastFault := s.tick, mismatch := satAdd 32 l.mismatch 1 }) s

/-- The operations of a host lane move to the one with the fewest octets outstanding; where none is in service they end (R264). -/
def moveOps (n : Nat) (s : State) : State :=
  (placed s .hostLane n).foldl (fun s p =>
    match leastBytes s .hostLane (hostInService s) with
    | some m => hostPeak m (modWork p.1 (fun w => { w with place := some m }) s)
    | none => laneEnd p.1 { status := St.laneFault, detail := n, wrote := some p.2.pos } s) s

/-- HOST_LANE_MISMATCH (R264): the chunk of operation `id` failed comparison on host lane `n`. -/
def execHostLaneMismatch (n id : Nat) (s : State) : Res :=
  match work s id with
  | none => noEvent s
  | some w =>
    if w.unit ≠ .hostLane ∨ w.phase ≠ .unit ∨ w.place ≠ some n ∨ unitHead s .hostLane n ≠ some id ∨ (lane s n).state ≠ 0 then noEvent s else
    let s := faultLane n s
    if w.rerun then .next (settle (moveOps n (laneEnd id { status := St.laneFault, detail := n, wrote := some w.pos } s)))
    else .next (settle (moveOps n (modWork id (fun w => { w with rerun := true }) s)))

/-! ### Spares (R261, R266) -/

/-- Die of a port-side lane (R19). -/
def laneDie (n : Nat) : Nat := if n < 128 then n / 64 else (n - 128) / 12

/-- The port-side lanes of a die. -/
def dieLanes (d : Nat) : List Nat := (List.range 152).filter (fun n => decide (laneDie n = d))

/-- The spare held in reserve on a die (R267). -/
def reserved (s : State) (d : Nat) : Option Nat := (s.ln.hands.find? (fun h => decide (h.die = d))).map (·.reserve)

/-- The lane with the oldest `since`, the lower number on a tie. -/
def longest (s : State) : List Nat → Option Nat
  | [] => none
  | n :: t => match longest s t with
    | none => some n
    | some m => if (lane s n).since ≤ (lane s m).since then some n else some m

/-- The spares of a die that run nothing. -/
def spares (s : State) (d : Nat) : List Nat :=
  (dieLanes d).filter (fun n => decide ((lane s n).state = 1) && !(s.ln.replays.any (fun r => decide (r.runs = n))))

/-- The spare a fault takes: the longest, and the reserved one when no other is left (R261, R268). -/
def pickSpare (s : State) (d : Nat) : Option Nat :=
  (longest s ((spares s d).filter (fun n => decide (some n ≠ reserved s d)))).or (longest s (spares s d))

/-- The record and notice of a fault and its replay (R261). -/
def faultNote (n slot spare hold : Nat) (s : State) : State :=
  report { event := 0x0C01, unit := n, argA := slot, argB := spare, argC := hold } s

/-- A direction of a port has no lane: the port is FAILED (R263, R277). -/
def portFailed (p : Nat) (s : State) : State :=
  if outOfService (port s p) then s else setPort p 6 5 (stopTraffic p s)

/-- The handover of an outgoing lane. -/
def handOf (s : State) (n : Nat) : Option Handover := s.ln.hands.find? (fun h => decide (h.out = n))

/-- A lane's handover is over. -/
def handoverDone (n : Nat) (s : State) : State := { s with ln.hands := s.ln.hands.filter (fun h => decide (h.out ≠ n)) }

/-- A lane runs replay sets (R261). -/
def runSets (m : Nat) (sets : List LaneReplay) (s : State) : State :=
  { s with ln.replays := s.ln.replays ++ sets.map (fun r => { r with runs := m }) }

/-- No lane is left for sets: the port is FAILED, and what was to replay for the slot is lost; each fault has its record (R261, R263). -/
def setsLost (k : Nat) (sets : List LaneReplay) (s : State) : State :=
  let lost := sets ++ s.ln.replays.filter (fun r => decide (r.slot = k))
  portFailed (k / 4) (lost.foldl (fun s r => faultNote r.lane r.slot 0xFFFF 0 (if r.reserved then handoverDone r.lane s else s))
    { s with ln.replays := s.ln.replays.filter (fun r => decide (r.slot ≠ k)) })

/-- The other lane of a slot's direction (R263). -/
def sibling (s : State) (k : Nat) : Option Nat := slotLane s (if k % 2 = 0 then k + 1 else k - 1)

/-- Sets replay with no slot to give away: on a spare of the die, or on the sibling, or they are lost (R261, R263, R268). -/
def rerunSets (n k : Nat) (sets : List LaneReplay) (s : State) : State :=
  match pickSpare s (laneDie n) with
  | some sp => runSets sp sets s
  | none =>
    let s := note 0x0C02 1 n k 0 s
    match sibling s k with
    | some m => runSets m sets s
    | none => setsLost k sets s

/-- A slot lost its lane: a spare takes it and runs the sets, or the sibling serves alone and runs them, or the port fails (R261, R263). -/
def refillSlot (n k : Nat) (sets : List LaneReplay) (s : State) : State :=
  match pickSpare s (laneDie n) with
  | some sp =>
    let s := modLane sp (fun l => { l with state := 0, stTick := s.tick, since := s.tick }) s
    let s := { s with ln.slotDue := s.ln.slotDue ++ [(sp, k)] }
    if sets.isEmpty then faultNote n k sp 0 s else runSets sp sets s
  | none => rerunSets n k sets s

/-- A spare runs nothing. -/
def freeSpare (s : State) (n : Nat) : Bool := decide ((lane s n).state = 1) && !(s.ln.replays.any (fun r => decide (r.runs = n)))

/-- LANE_BEAT_MISMATCH (R261, R263, R268): lane `n` was serving a slot, finishing a handover, or running replays; those move on with its own
set. -/
def execLaneBeatMismatch (n : Nat) (s : State) : Res :=
  let l := lane s n
  let mine := s.ln.replays.filter (fun r => decide (r.runs = n))
  if 152 ≤ n ∨ ¬(l.state = 0 ∨ l.state = 5 ∨ (l.state = 1 ∧ mine ≠ [])) then noEvent s else
  let k := l.slot.or ((s.ln.slotDue.find? (fun q => decide (q.1 = n))).map (·.2))
  let s0 := s
  let s := faultLane n { s with ln.slotDue := s.ln.slotDue.filter (fun q => decide (q.1 ≠ n))
                                ln.replays := s.ln.replays.filter (fun r => decide (r.runs ≠ n)) }
  match handOf s n with
  | some h =>
    let sets := ⟨n, h.slot, 0, true⟩ :: mine
    if h.emptied.isSome then .next (faultNote n 0xFFFF 0xFFFF 0 (handoverDone n s))
    else if freeSpare s h.reserve then .next (runSets h.reserve sets s)
    else .next (rerunSets n h.slot sets s)
  | none =>
    match k, mine with
    | some k, _ => .next (refillSlot n k (⟨n, k, 0, false⟩ :: mine) s)
    | none, r :: _ => .next (rerunSets n r.slot (⟨n, r.slot, 0, false⟩ :: mine) s)
    | none, [] => noEvent s0

/-- A port sends what it held once no replay of its egress direction runs (R261). -/
def releaseHold (p : Nat) (s : State) : State :=
  egRun p 0 s

/-- LANE_REPLAY_DONE (R261, R262, R268): the replay of faulty lane `n` ended, after a hold of so many hub cycles. -/
def execLaneReplayDone (n hold : Nat) (s : State) : Res :=
  match s.ln.replays.find? (fun r => decide (r.lane = n)) with
  | none => noEvent s
  | some r =>
    let s := { s with ln.replays := s.ln.replays.filter (fun x => decide (x.lane ≠ n))
                      ln.hands := if r.reserved then (handoverDone n s).ln.hands else s.ln.hands }
    let s := modLane r.runs (fun l => { l with replays := satAdd 32 l.replays 1 }) s
    let s := modLane n (fun l => { l with holdPeak := max l.holdPeak hold }) s
    .next (faultNote n r.slot r.runs hold (releaseHold (r.slot / 4) s))

/-- A host lane in service has held no operation for a tick, and tests itself (R266). -/
def hostIdle (s : State) (n : Nat) : Bool := (placed s .hostLane n).isEmpty && decide ((lane s n).since < s.tick)

/-- SPARE_KAT_FAULT (R266): a known-answer test of a spare, of an idle host lane, or of a lane of a port in OFF differed. -/
def execSpareKatFault (n : Nat) (s : State) : Res :=
  let l := lane s n
  let idleHost := decide (152 ≤ n ∧ n < 160) && decide (l.state = 0) && hostIdle s n
  let offLane := decide (l.state = 0) && l.slot.any (fun k => decide ((port s (k / 4)).state = 0))
  if !(idleHost || (decide (n < 152) && (decide (l.state = 1) || offLane))) then noEvent s else
  let s := modLane n (fun l => { l with katOk := false }) (faultLane n s)
  match l.slot with
  | some k => .next (refillSlot n k [] s)
  | none => .next (faultNote n 0xFFFF 0xFFFF 0 s)

/-! ### Retests (R265) -/

/-- LANE_RETEST_START (R265). -/
def execLaneRetestStart (n : Nat) (s : State) : Res :=
  whenOk (decide (n < 160) && decide ((lane s n).state = 2) && decide ((lane s n).stTick + 16 ≤ s.tick)) s
    (modLane n (fun l => { l with state := 3, stTick := s.tick }) s)

/-- A slot of a die that no lane serves (R263). -/
def vacantSlot (s : State) (d : Nat) : Option Nat := ((List.range 64).map (64 * d + ·)).find? (fun k => (slotLane s k).isNone)

/-- LANE_RETEST_END (R263, R265). -/
def execLaneRetestEnd (n : Nat) (passed : Bool) (s : State) : Res :=
  if 160 ≤ n ∨ (lane s n).state ≠ 3 ∨ s.tick < (lane s n).stTick + 2 ^ 16 then noEvent s else
  let s := modLane n (fun l => { l with stTick := s.tick, katOk := passed, passes := if passed then satAdd 24 l.passes 1 else l.passes
                                        state := if passed then (if n < 152 then 1 else 0) else 4, since := s.tick
                                        readmit := l.readmit || (l.back && passed), back := false
                                        mismatch := if passed then l.mismatch else satAdd 32 l.mismatch 1 }) s
  if !passed ∨ 152 ≤ n then .next s else
  match vacantSlot s (laneDie n) with
  | none => .next s
  | some k => .next { modLane n (fun l => { l with state := 0 }) s with ln.slotDue := s.ln.slotDue ++ [(n, k)] }

/-- Slots that lanes take at this sample point; a FAILED port whose directions all have a lane trains again (R261, R263, R277). -/
def lanesPoint (s : State) : State :=
  let s := { s.ln.slotDue.foldl (fun s q => modLane q.1 (fun l => { l with slot := some q.2, since := s.tick }) s) s with ln.slotDue := [] }
  (s.pt.ports.filter (fun q => decide (q.2.state = 6))).foldl (fun s q =>
    if (dirLanes s q.1 0).isEmpty || (dirLanes s q.1 1).isEmpty then s else startTraining q.1 s) s

/-! ### Rotation (R267) -/

/-- The outgoing lane: the one that has held a slot of a port in service longest. -/
def outgoing (s : State) (d : Nat) : Option Nat :=
  longest s ((dieLanes d).filter (fun n => decide ((lane s n).state = 0) && (lane s n).slot.any (fun k => !outOfService (port s (k / 4)))))

/-- LANE_ROTATION_START (R267). -/
def execLaneRotationStart (d : Nat) (s : State) : Res :=
  let sp := spares s d
  if 2 ≤ d ∨ s.ln.rotEn = false ∨ s.tick % 2 ^ s.ln.rotLog ≠ 0 ∨ s.tick = 0 ∨ tblGet s.ln.rotTick d = some s.tick ∨ sp.length < 2 ∨
      s.ln.hands.any (fun h => decide (h.die = d)) = true then noEvent s else
  match outgoing s d, longest s sp with
  | some o, some i =>
    match (lane s o).slot, longest s (sp.filter (fun n => decide (n ≠ i))) with
    | some k, some r =>
      let s := modLane o (fun l => { l with state := 5, stTick := s.tick, slot := none }) s
      let s := modLane i (fun l => { l with state := 0, stTick := s.tick, slot := some k, since := s.tick, rotations := satAdd 32 l.rotations 1 }) s
      .next { s with ln.hands := s.ln.hands ++ [⟨d, o, r, k, none⟩], ln.rotTick := tblPut s.ln.rotTick d s.tick }
    | _, _ => noEvent s
  | _, _ => noEvent s

/-- HANDOVER_END (R267 step 3): the outgoing lane's replay set is empty. -/
def execHandoverEnd (d : Nat) (s : State) : Res :=
  match s.ln.hands.find? (fun h => decide (h.die = d)) with
  | none => noEvent s
  | some h => whenOk (h.emptied.isNone && decide ((lane s h.out).state = 5) && !(s.ln.replays.any (fun r => decide (r.runs = h.out)))) s
      { s with ln.hands := s.ln.hands.map (fun x => if x.die = d then { x with emptied := some s.tick } else x) }

/-- HANDOVER_RETEST_END (R267 steps 3 and 4). -/
def execHandoverRetestEnd (d : Nat) (s : State) : Res :=
  match s.ln.hands.find? (fun h => decide (h.die = d)) with
  | none => noEvent s
  | some h => whenOk (h.emptied.any (fun t => decide (t + 2 ^ 10 ≤ s.tick)) && decide ((lane s h.out).state = 5)) s
      { modLane h.out (fun l => { l with state := 1, stTick := s.tick, since := s.tick, katOk := true, passes := satAdd 24 l.passes 1 }) s with
        ln.hands := s.ln.hands.filter (fun x => decide (x.die ≠ d)) }

/-! ### Commands -/

/-- LANE_SET (R270). -/
def laneSetCmd (_ : Held) (p : List Byte) (s : State) : State :=
  respond St.ok 0 s.tick [] { s with ln.rotEn := decide (be p 0 1 = 1), ln.rotLog := be p 1 1, ln.duty := be p 2 1 }

/-- LANE_SET (R270). -/
def execLaneSet (s : State) : Res := withCmd 0x0506 s laneSetCmd

/-- READMIT of a lane (R137, R265): it enters RETEST. -/
def readmitLane (n : Nat) (s : State) : State :=
  let l := lane s n
  if 160 ≤ n then refuse St.grateRange 66 s
  else if l.state = 3 then refuse St.busy 0 s
  else if l.state ≠ 4 ∨ l.readmit then refuse St.stateForbids 0 s
  else respond St.ok 0 s.tick [] (modLane n (fun l => { l with state := 3, stTick := s.tick, back := true }) s)

/-- READMIT (R137, R265, R391); `passed` is the known-answer test of a public-key unit. -/
def execReadmit (passed : Bool) (s : State) : Res :=
  withCmd 0x0505 s (fun _ p s =>
    let n := be p 2 2
    match be p 0 1 with
    | 0 => readmitEngine n s
    | 1 => readmitLane n s
    | _ => readmitUnit n passed s)

end Sys2Proof.Machine
end

