-- ==== Sys2Proof/Machine/Ports.lean ====
section
/-!
DEFINITION. Ports: configuration, links and training, MACsec frames and associations, the frames a TERMINATE sub-port answers (R20,
R254 to R258, R274 to R289).
-/
namespace Sys2Proof.Machine

/-! ### Configuration (R276) -/

/-- A sub-port record. -/
def parseSubAddr (p : List Byte) (o : Nat) : SubAddr := ⟨octets p o 6, be p (o + 6) 2, octets p (o + 8) 4, octets p (o + 16) 16⟩

/-- A port's signing key fits (R276). -/
def signKeyOk (s : State) (owner h : Nat) : Bool := (signTest owner (keyRead s h)).isNone

/-- Another port sets a PTP flag. -/
def otherPtp (s : State) (n : Nat) (f : Port → Bool) : Bool := s.pt.ports.any (fun q => decide (q.1 ≠ n) && f q.2)

/-- A partner that is configured must match; one that is OFF names no port yet (R20, R275, R276). -/
def partnerOk (s : State) (n split m : Nat) : Bool :=
  let x := port s m
  decide (m < 32) && decide (m ≠ n) && decide (m / 16 = n / 16) && (decide (x.role = 0) || (decide (x.role = 1 ∧ x.split = split ∧ x.partner = n)))

/-- The first field of a port record out of its range: its octet offset in the frame (R276). -/
def portRange (s : State) (p : List Byte) : Option Nat :=
  let n := be p 0 1
  let role := be p 1 1
  let split := be p 2 1
  let udp := be p 4 4 % 65536
  let term := decide (role = 2)
  let subs := List.range (2 ^ split)
  let fl := be p 13 1
  if (if role = 1 then !partnerOk s n split (be p 3 1) else decide (be p 3 1 ≠ 0xFF)) then some 67
  else if (if term then decide (udp ≠ 0 ∧ udp < 1024) else decide (udp ≠ 0)) then some 70
  else if (if term then !signKeyOk s (be p 4 2) (be p 8 4) else decide (be p 8 4 ≠ 0)) then some 72
  else if (if term then decide (be p 12 1 < 12 ∨ 24 < be p 12 1) else decide (be p 12 1 ≠ 0)) then some 76
  else if (bitOf fl 1 && otherPtp s n (·.ptpPri)) || (bitOf fl 2 && otherPtp s n (·.ptpSec)) then some 77
  else if !term && decide (be p 14 2 ≠ 0) then some 78
  else if term then
    (subs.find? (fun k => let o := 32 + 32 * k
      decide (4094 < be p (o + 6) 2) || (decide (be p (o + 8) 4 = 0) && decide (be p (o + 16) 16 = 0)))).map (fun k => 96 + 32 * k)
  else (subs.find? (fun k => !allZero (octets p (32 + 32 * k) 32))).map (fun k => 96 + 32 * k)

/-- The port a record configures (R276): counters and stored settings stay. -/
def newPort (old : Port) (p : List Byte) (s : State) : Port :=
  let role := be p 1 1
  let split := be p 2 1
  let fl := be p 13 1
  { old with
    role, split, partner := be p 3 1, owner := be p 4 2
    udpPort := if role ≠ 2 then 0 else if be p 6 2 = 0 then 47120 else be p 6 2
    signKey := be p 8 4, idleLog := be p 12 1, auto := bitOf fl 0, ptpPri := bitOf fl 1, ptpSec := bitOf fl 2, hsRate := be p 14 2
    subs := if role = 2 then (List.range (2 ^ split)).map (fun k => parseSubAddr p (32 + 32 * k)) else []
    links := if role = 0 then [] else List.replicate (2 ^ split) {}
    sdCons := !bitOf old.cal s.tk.band, pend := false, ptp := { reject := old.ptp.reject, offset := old.ptp.offset } }

/-- PORT_SET (R276, R277). A record with ROLE OFF takes a port in service out of service (CONFIG); every other is refused there. -/
def portSetCmd (_ : Held) (p : List Byte) (s : State) : State :=
  let n := be p 0 1
  let role := be p 1 1
  let x := port s n
  if !outOfService x ∧ role ≠ 0 then refuse St.stateForbids 0 s
  else match portRange s p with
  | some d => refuse St.grateRange d s
  | none =>
    if !outOfService x then respond St.ok 0 s.tick [] (setPort n 1 7 (stopTraffic n s)) else
    let s := chooseSource (modPort n (fun x => newPort x p s) s)
    let s := if role = 0 then setPort n 0 7 s
      else if (dirLanes s n 0).isEmpty || (dirLanes s n 1).isEmpty then setPort n 6 5 s
      else startTraining n s
    respond St.ok 0 s.tick [] s

/-- PORT_SET (R276). -/
def execPortSet (s : State) : Res := withCmd 0x0801 s portSetCmd

/-! ### Links and training (R280 to R284) -/

/-- A link of a port. -/
def lnk (s : State) (p k : Nat) : Option Lnk := (port s p).links[k]?

/-- Change a link. -/
def modLnk (p k : Nat) (f : Lnk → Lnk) (s : State) : State := modPort p (fun x => { x with links := listMod x.links k f }) s

/-- After a link's change: the port's own state (R277, R284). -/
def portFromLinks (p cause : Nat) (s : State) : State :=
  let x := port s p
  if outOfService x then s
  else if !x.links.isEmpty && x.links.all (·.held) then setPort p 5 4 (stopTraffic p s)
  else if x.links.any (·.up) then (if x.state = 3 then s else setPort p 3 0 s)
  else if x.state = 3 then setPort p 4 cause (stopTraffic p s)
  else if x.state = 2 ∧ x.links.any (fun l => l.training.isSome && l.fresh) = false then setPort p 4 cause s
  else s

/-- A link enters DOWN (R283, R284): a notice, a count, and a hold after more than 8 within 2^24 ticks. -/
def linkGoesDown (p k cause : Nat) (s : State) : State :=
  match lnk s p k with
  | none => s
  | some l =>
    let downs := (l.downs.filter (fun t => decide (s.tick < t + 2 ^ 24))) ++ [s.tick]
    let held := decide (8 < downs.length)
    let s := modCnt p (fun c => { c with linkDowns := satAdd 32 c.linkDowns 1 }) (note 0x0B01 1 p k cause s)
    let s := modLnk p k (fun l => { l with up := false, downs, held, fresh := false, remote := decide (cause = 3), since := s.tick
                                           training := if held ∨ cause = 3 then none else some s.tick }) s
    let s := if (port s p).role = 2 then dormantOn (fun e => decide (e.port = p ∧ e.subport = k)) s else s
    portFromLinks p cause (dropTx p (fun i => decide (i.sub = k)) s)

/-- A fault of a link of a port in service. -/
def linkFault (p k cause : Nat) (s : State) : Res :=
  match lnk s p k with
  | none => noEvent s
  | some l =>
    if outOfService (port s p) || l.held then noEvent s
    else if l.up then .next (linkGoesDown p k cause s)
    else if l.training.isNone ∧ cause ≠ 3 then .next (modLnk p k (fun l => { l with training := some s.tick, fresh := false, remote := false }) s)
    else noEvent s

/-- LOSS_OF_SIGNAL (R283): for 2 consecutive ticks. -/
def execLossOfSignal (p k : Nat) (s : State) : Res := linkFault p k 1 s

/-- LOSS_OF_ALIGNMENT (R283): for 2 consecutive ticks. -/
def execLossOfAlignment (p k : Nat) (s : State) : Res := linkFault p k 2 s

/-- REMOTE_FAULT (R283): for 2 consecutive ticks. -/
def execRemoteFault (p k : Nat) (s : State) : Res := linkFault p k 3 s

/-- LINK_UP (R283): alignment held for 2^12 ticks. -/
def execLinkUp (p k : Nat) (s : State) : Res :=
  match lnk s p k with
  | none => noEvent s
  | some l =>
    if outOfService (port s p) || l.held || l.up || l.training.isSome || decide (s.tick < l.since + 2 ^ 12) then noEvent s
    else .next (portFromLinks p 0 (modLnk p k (fun l => { l with up := true, remote := false }) s))

/-- TRAINING_END (R277, R280): the first training after a port starts brings the link up at once; one that follows a fault leaves
it to hold alignment (R283). A training fails when 2^17 ticks have passed. -/
def execTrainingEnd (p k : Nat) (ok : Bool) (s : State) : Res :=
  match lnk s p k with
  | none => noEvent s
  | some l =>
    match l.training with
    | none => noEvent s
    | some t =>
      if outOfService (port s p) then noEvent s
      else if ok && decide (s.tick < t + 2 ^ 17) then
        let b := s.tk.band
        let s := modPort p (fun x => { x with cal := x.cal ||| 2 ^ b, sdCons := false, band := b, trainTick := s.tick, pend := false }) s
        let s := modLnk p k (fun l => { l with training := none, since := s.tick, up := l.fresh, fresh := false }) s
        .next (portFromLinks p 0 s)
      else if s.tick < t + 2 ^ 17 then noEvent s
      else .next (linkGoesDown p k 6 s)

/-- FEC_UNCORRECTABLE (R283): more than 16 of one link within 2^16 ticks post one notice. -/
def execFecUncorrectable (p k : Nat) (s : State) : Res :=
  if !linkUp s p k then noEvent s else
  let l := ((((lnk s p k).map (·.fecTicks)).getD []).filter (fun t => decide (s.tick < t + 2 ^ 16))) ++ [s.tick]
  let s := modCnt p (fun c => { c with fecUncorr := satAdd 32 c.fecUncorr 1 }) s
  if 16 < l.length then .next (note 0x0B02 1 p k 0 (modLnk p k (fun x => { x with fecTicks := [] }) s))
  else .next (modLnk p k (fun x => { x with fecTicks := l }) s)

/-- The ports answer a new band at a sample point (R281, R282): stored settings are applied lane by lane; a port without them keeps
its own, with a notice, and may retrain. -/
def bandPoint (s : State) : State :=
  if s.pt.bandSeen = s.tk.band then s else
  let s := { s with pt.bandSeen := s.tk.band, pt.serdesAt := some s.tick, pt.serdesLane := 0 }
  (s.pt.ports.filter (fun q => decide (q.2.role ≠ 0))).foldl (fun s q =>
    if bitOf q.2.cal s.tk.band then modPort q.1 (fun x => { x with sdCons := false, pend := false }) s
    else note 0x0B03 1 q.1 s.tk.band 0 (modPort q.1 (fun x => { x with sdCons := true, pend := x.auto }) s)) s

/-- SERDES_BAND_APPLY (R281): the next SerDes lane of each die takes its port's settings for the band, 4 ticks after the one before. -/
def execSerdesBandApply (s : State) : Res :=
  match s.pt.serdesAt with
  | none => noEvent s
  | some t =>
    let j := s.pt.serdesLane
    if s.tick < t + (if j = 0 then 0 else 4) then noEvent s else
    let done := fun (p : Nat) (s : State) => if j % 8 = 7 ∧ bitOf (port s p).cal s.tk.band = true then modPort p (fun x => { x with band := s.tk.band }) s else s
    let s := done (16 + j / 8) (done (j / 8) s)
    .next { s with pt.serdesAt := if j = 127 then none else some s.tick, pt.serdesLane := (j + 1) % 128 }

/-- AUTO_RETRAIN_START (R282). -/
def execAutoRetrainStart (p : Nat) (s : State) : Res :=
  let x := port s p
  let other := s.pt.ports.any (fun q => decide (q.1 ≠ p ∧ q.1 / 16 = p / 16 ∧ q.2.state = 2))
  whenOk (x.pend && x.auto && !outOfService x && decide (s.tk.bandTick + 2 ^ 20 ≤ s.tick) && !other && decide (s.pt.source ≠ some p))
    s (startTraining p (stopTraffic p s))

/-! ### Frames in (R279, R285) -/

/-- Count a received frame. -/
def rxFrame (p n : Nat) (s : State) : State :=
  modPort p (fun x => { x with rxBytes := wrapAdd 64 x.rxBytes n, rxFrames := wrapAdd 64 x.rxFrames 1 }) s

/-- A frame that found no room in the ingress buffer (R285). -/
def dropFull (p : Nat) (s : State) : State := modCnt p (fun c => { c with rxDropFull := satAdd 32 c.rxDropFull 1 }) s

/-- A frame of no accepted kind, or in a state that takes PTP only (R289, R431). -/
def dropOther (p : Nat) (s : State) : State := modCnt p (fun c => { c with otherDrop := satAdd 32 c.otherDrop 1 }) s

/-- MAC_CONTROL_FRAME (R279). -/
def execMacControlFrame (p k : Nat) (frame : List Byte) (s : State) : Res :=
  whenOk (linkUp s p k) s (modCnt p (fun c => { c with ctrlDrop := satAdd 32 c.ctrlDrop 1 }) (rxFrame p frame.length s))

/-! ### MACsec (R255, R257, R258, R288) -/

/-- A clear frame goes to the partner of a THROUGH port, or is dropped (R257, R258, R287). -/
def forwardFrame (p b k : Nat) (clear : List Byte) (s : State) : State :=
  if (port s b).role ≠ 1 ∨ (port s b).partner ≠ p then dropFrame b s else
  let q := macsecOut b k clear s
  if q.1 then addUsage (port s p).owner 14 1 0 clear.length q.2 else q.2

/-- A deciphered frame of a FLUE port goes to the group unit; one of a bad EtherType, TYPE or length is dropped (R520). -/
def groupFrame (p k : Nat) (clear : List Byte) (s : State) : State :=
  if be clear 12 2 = 0x88B5 ∧ be clear 15 1 ∈ [0x10, 0x11, 0x12, 0x20, 0x21, 0x22, 0x30, 0x31, 0x32, 0x33, 0x40, 0x41] ∧
      46 ≤ clear.length ∧ clear.length = 46 + be clear 26 4 then
    { s with gp.frames := s.gp.frames ++ [(p, k, clear)] }
  else dropOther p s

/-- A frame that a receive lane takes (R288, R519). -/
def receiveMacsec (p k n : Nat) (f : List Byte) (s : State) : State :=
  let tagged := decide (be f 12 2 = 0x88E5)
  let sc := tagged && bitOf (be f 14 1) 5
  let least := if sc then 44 else 36
  if f.length < least ∨ 9216 < f.length then modLane n (fun l => { l with lenDrop := satAdd 32 l.lenDrop 1 }) s
  else if !tagged ∨ ((port s p).role = 3 ∧ s.ln.sas.any (fun a => decide (a.dir = 0 ∧ a.port = p)) = false) then modCnt p (fun c => { c with noSectag := satAdd 32 c.noSectag 1 }) s
  else
    let sci := if sc then be f 20 8 else Config.implicitSci f
    let an := be f 14 1 % 4
    match s.ln.sas.find? (fun a => decide (a.place = (p, k, 0, an, sci))) with
    | none => modCnt p (fun c => { c with unknownSa := satAdd 32 c.unknownSa 1 }) s
    | some a =>
      let pn := if a.suite ≤ 2 then be f 16 4 else Config.xpnRecover a.low (be f 16 4)
      match Config.macsecOpen [a.suite, a.sci, a.ssci, pn] (sakKey s a) a.salt f with
      | none => modLane n (fun l => { l with icvFail := satAdd 32 l.icvFail 1 }) s
      | some clear =>
        if pn < a.low then modCnt p (fun c => { c with macReplay := satAdd 32 c.macReplay 1 }) s
        else
          let s := laneFrame n f.length clear.length s
          let s := modSa a (fun x => { x with nextPn := max x.nextPn (pn + 1), low := max x.low (max x.nextPn (pn + 1) - x.window) }) s
          if (port s p).role = 1 then forwardFrame p (port s p).partner k clear s else groupFrame p k clear s

/-! ### The ingress buffer (R34, R285) -/

/-- A datagram says that it carries top note (R285, R290). -/
def InFrame.top (f : InFrame) : Bool := f.tpc && decide (be f.data 2 1 / 64 = 0)

/-- Octets of frames. -/
def sizes (l : List InFrame) : Nat := (l.map (·.size)).sum

/-- The buffer has room for a frame: 1 MiB, of which a TERMINATE port keeps 128 KiB for top note (R34, R285). -/
def inRoom (x : Port) (f : InFrame) : Bool :=
  decide (sizes x.inq + f.size ≤ 2 ^ 20) &&
  (f.top || decide (x.role ≠ 2) || decide (sizes (x.inq.filter (fun g => !g.top)) + f.size ≤ 2 ^ 20 - 2 ^ 17))

/-- The port passes nothing further inward while a replay of an ingress slot runs (R261). -/
def ingressHeld (s : State) (p : Nat) : Bool := s.ln.replays.any (fun r => decide (r.slot / 2 = 2 * p))

/-- Credits of the terminated-message staging in use: of an I/O die, for top note or shared (R34, R60). -/
def stagingKey (p : Nat) (top : Bool) : Nat := p / 16 * 2 + b2n top

/-- Credits of the staging: 1 MiB for top note, 3 MiB shared (R60). -/
def stagingCap (top : Bool) : Nat := if top then 4096 else 12288

/-- Credits that cross a hub link in a tick: 6.4 Tbit/s, in units of 256 octets (R21, R34). -/
def hubCredits : Nat := 6400

/-- Credits a message takes (R34). -/
def creditsOf (n : Nat) : Nat := (n + 255) / 256

/-- Part of a die's staging has crossed the hub link since the last look: how much is a free value within the link's rate, top note first
(R21, R60, log entry 34). -/
def stagingLook (die : Nat) (s : State) : State :=
  let top := tget 0 s.pt.staging (2 * die + 1)
  let rest := tget 0 s.pt.staging (2 * die)
  let used := tget 0 s.pt.hubUsed die
  let n := min (top + rest) (hubCredits - used)
  if n = 0 then s else
  let q := draw s
  let b := q.1 % (n + 1)
  { q.2 with pt.staging := tset 0 (tset 0 s.pt.staging (2 * die + 1) (top - b)) (2 * die) (rest - (b - top))
             pt.hubUsed := tset 0 s.pt.hubUsed die (used + b) }

/-- The staging of a port's die has credit for a datagram (R285). -/
def creditRoom (s : State) (p : Nat) (f : InFrame) : Bool :=
  !f.tpc || decide (tget 0 s.pt.staging (stagingKey p f.top) + creditsOf f.data.length ≤ stagingCap f.top)

/-- A message that the port's grate has passed takes its credits (R27, R285). -/
def stagingTake (p : Nat) (top : Bool) (n : Nat) (s : State) : State :=
  let k := stagingKey p top
  { s with pt.staging := tset 0 s.pt.staging k (tget 0 s.pt.staging k + creditsOf n) }

/-- A frame at the head of its kind is dispatched to an ingress lane that has room (R259, R285): the lane. A frame above every length of R254
goes to one too, which drops it. -/
def dispatchIn (p : Nat) (f : InFrame) (s : State) : Option Nat × State :=
  let s := if f.tpc then stagingLook (p / 16) s else s
  if !creditRoom s p f then (none, s) else
  let o := laneOrder p 0 s
  laneTakes (min (laneCap 0) (occupancy f.data.length f.data.length)) o.1 o.2

/-- Frames leave the ingress buffer in order, those of top note and the others each as far as they find room; `run` is what follows on a
lane (R259, R261, R270, R285). -/
def inPump (run : Nat → Nat → InFrame → State → State) (p : Nat) (s : State) : State :=
  if lanesStopped s || ingressHeld s p then s else
  let go := fun (a : (List InFrame × Bool × Bool) × State) (f : InFrame) =>
    if (if f.top then a.1.2.1 else a.1.2.2) then ((a.1.1 ++ [f], a.1.2), a.2) else
    let q := dispatchIn p f a.2
    match q.1 with
    | some n => (a.1, run p n f q.2)
    | none => ((a.1.1 ++ [f], a.1.2.1 || f.top, a.1.2.2 || !f.top), q.2)
  let r := (port s p).inq.foldl go (([], false, false), modPort p (fun x => { x with inq := [] }) s)
  modPort p (fun x => { x with inq := r.1.1 }) r.2

/-- A frame is received: it meets the ingress buffer first, and without room there it is dropped (R285). -/
def inMeets (p : Nat) (f : InFrame) (s : State) (g : State → State) : State :=
  let s := rxFrame p f.size s
  if inRoom (port s p) f then g s else dropFull p s

/-- A frame waits in the ingress buffer. -/
def inEnter (p : Nat) (f : InFrame) (s : State) : State := modPort p (fun x => { x with inq := x.inq ++ [f] }) s

/-- An association a record spells (R256). -/
def parseSa (p : List Byte) (tick : Nat) : Sa :=
  { dir := be p 0 1, suite := be p 1 1, an := be p 2 1, flags := be p 3 1, port := be p 4 1, subport := be p 5 1, sak := be p 8 4
    ssci := be p 12 4, sci := be p 16 8, salt := octets p 24 12, window := be p 36 4, nextPn := be p 40 8, low := be p 40 8, tick }

/-- The key of an association fits (R257). -/
def sakRole (a : Sa) (r : KRec) : Bool :=
  decide (usageClass r.usage = 9) && usageIs r 'D' '0' && modeIn r (if a.dir = 0 then ['D', 'B'] else ['E', 'B']) &&
  decide (r.type = if a.suite = 1 ∨ a.suite = 3 then 3 else 5)

/-- The associations of a port's table once every accepted SA_SET is in force: one at a place (R255, R257). -/
def saComing (s : State) (a : Sa) : List Sa :=
  s.ln.saArmed.foldl (fun l b => l.filter (fun x => decide (x.place ≠ b.place)) ++ [b]) s.ln.sas |>.filter
    (fun x => decide (x.port = a.port ∧ x.dir = a.dir ∧ x.place ≠ a.place))

/-- The channels of a port in one direction, this association's among them. -/
def saChannels (s : State) (a : Sa) : List (Nat × Nat) :=
  ((a :: saComing s a).filterMap (fun x => if x.port = a.port ∧ x.dir = a.dir then some (x.subport, x.sci) else none)).eraseDups

/-- R255's limits of channels and associations. -/
def saRoom (s : State) (a : Sa) : Bool :=
  let others := (saComing s a).length
  if a.dir = 0 then decide ((saChannels s a).length ≤ 32) && decide (others < 128)
  else decide (((saChannels s a).filter (fun c => decide (c.1 = a.subport))).length ≤ 1) && decide (others < 32)

/-- SA_SET (R255 to R257). -/
def saSetCmd (_ : Held) (p : List Byte) (s : State) : State :=
  let k := switchAt (be p 0x30 8) s
  let a := parseSa p k
  let x := port s a.port
  if x.role ≠ 1 ∧ x.role ≠ 3 then refuse St.grateRange 68 s
  else if 2 ^ x.split ≤ a.subport then refuse St.grateRange 69 s
  else if !saRoom s a then refuse St.grateRange 80 s
  else
    let kr := keyRead s a.sak
    match keyTests x.owner [(1, kr, false, sakRole a kr.rec_)] with
    | some (st, _) => if st = St.keyIntegrity then refuse st 1 s else refuse St.usageForbidden 1 s
    | none => respondAt k [] { s with ln.saArmed := s.ln.saArmed ++ [a] }

/-- SA_SET (R257). -/
def execSaSet (s : State) : Res := withCmd 0x0802 s saSetCmd

/-- SA_REMOVE (R413): an association in force, or armed. -/
def saRemoveCmd (_ : Held) (p : List Byte) (s : State) : State :=
  let k := switchAt (be p 16 8) s
  let g : SaGone := ⟨be p 0 1, be p 1 1, be p 2 1, be p 3 1, be p 8 8, k⟩
  if !(s.ln.sas ++ s.ln.saArmed).any (fun a => decide (a.place = (g.port, g.subport, g.dir, g.an, g.sci))) then refuse St.grateRange 72 s
  else respondAt k [] { s with ln.saGone := s.ln.saGone ++ [g] }

/-- SA_REMOVE (R413). -/
def execSaRemove (s : State) : Res := withCmd 0x0803 s saRemoveCmd

/-- A handle's record was deleted, or its epoch closed (R257, R303). -/
def keyGone (s : State) (h : Nat) : Bool :=
  let k := keyRead s h
  k.rec_.noKey || decide (k.rec_.gen ≠ k.handle / 2 ^ 27) || decide (k.epoch = 1)

/-- Associations at a sample point: those whose tick has come, removals, and those whose key is gone (R257). -/
def saPoint (s : State) : State :=
  let due := s.ln.saArmed.filter (fun a => decide (a.tick ≤ s.tick))
  let s := due.foldl (fun s a => { s with ln.sas := s.ln.sas.filter (fun x => decide (x.place ≠ a.place)) ++ [a] }) s
  let gone := s.ln.saGone.filter (fun g => decide (g.tick ≤ s.tick))
  let hit := fun (a : Sa) => gone.any (fun g => decide (a.place = (g.port, g.subport, g.dir, g.an, g.sci)))
  let s : State := { s with
    ln.sas := s.ln.sas.filter (fun a => !hit a)
    ln.saArmed := s.ln.saArmed.filter (fun a => decide (s.tick < a.tick))
    ln.saGone := s.ln.saGone.filter (fun g => decide (s.tick < g.tick)) }
  let lost := fun (a : Sa) => decide (a.sak ≠ 0) && keyGone s a.sak
  (s.ln.sas.filter lost).foldl (fun s a => note 0x0C03 1 a.port a.subport a.sci s) { s with ln.sas := s.ln.sas.filter (fun a => !lost a) }

/-! ### What a TERMINATE sub-port answers (R289) -/

/-- A sub-port's addresses. -/
def subAddr (s : State) (p k : Nat) : SubAddr := (port s p).subs.getD k ⟨[], 0, [], []⟩

/-- The offset of the EtherType under the VLAN rule; none when the frame breaks it. -/
def etherAt (a : SubAddr) (f : List Byte) : Option Nat :=
  if be f 12 2 = 0x8100 then (if a.vlan ≠ 0 ∧ be f 14 2 % 4096 = a.vlan then some 16 else none)
  else if a.vlan = 0 then some 12 else none

/-- The Ethernet header of an answer. -/
def etherHead (a : SubAddr) (dst : List Byte) (type : Nat) : List Byte :=
  dst ++ a.mac ++ (if a.vlan = 0 then [] else beBytes 2 0x8100 ++ beBytes 2 a.vlan) ++ beBytes 2 type

/-- The Internet checksum of octets. -/
def inetSum (bs : List Byte) : Nat :=
  let n := (List.range ((bs.length + 1) / 2)).foldl (fun a j => a + be bs (2 * j) 2) 0
  let fold := fun n => n % 65536 + n / 65536
  65535 - fold (fold (fold n))

/-- A UDP datagram taken apart: IP version, source and destination addresses and ports, octets. -/
structure Udp where
  ip    : Nat
  src   : List Byte
  dst   : List Byte
  sport : Nat
  dport : Nat
  data  : List Byte
  deriving DecidableEq, Repr

/-- A UDP header and its octets, under the addresses of its IP header: the checksum holds, which IPv4 may leave out (R289). -/
def udpBody (ip : Nat) (src dst u : List Byte) : Option Udp :=
  let n := be u 4 2
  let sum := inetSum (src ++ dst ++ beBytes 4 n ++ beBytes 4 17 ++ octets u 0 n)
  if n < 8 ∨ u.length < n ∨ (be u 6 2 = 0 ∧ ip = 6) ∨ (be u 6 2 ≠ 0 ∧ sum ≠ 0) then none
  else some ⟨ip, src, dst, be u 0 2, be u 2 2, octets u 8 (n - 8)⟩

/-- The UDP datagram of a frame under a sub-port's VLAN rule: no fragment, no IPv4 option, no IPv6 extension header (R289). -/
def udpOf (a : SubAddr) (f : List Byte) : Option Udp :=
  match etherAt a f with
  | none => none
  | some o =>
    let b := f.drop (o + 2)
    if be f o 2 = 0x0800 then
      let n := be b 2 2
      if be b 0 1 ≠ 0x45 ∨ n < 20 ∨ b.length < n ∨ be b 6 2 % 16384 ≠ 0 ∨ be b 9 1 ≠ 17 ∨ inetSum (octets b 0 20) ≠ 0 then none
      else udpBody 4 (octets b 12 4) (octets b 16 4) ((b.take n).drop 20)
    else if be f o 2 = 0x86DD then
      let n := be b 4 2
      if be b 0 1 / 16 ≠ 6 ∨ b.length < 40 + n ∨ be b 6 1 ≠ 17 then none
      else udpBody 6 (octets b 8 16) (octets b 24 16) ((b.take (40 + n)).drop 40)
    else none

/-- The TPC datagram of a frame for a sub-port: sent to its MAC and IP address and to UDP_PORT; the Ethernet, IP and UDP source, and the
octets (R289). -/
def tpcOf (s : State) (p k : Nat) (f : List Byte) : Option (List Byte × List Byte) :=
  let a := subAddr s p k
  match udpOf a f with
  | none => none
  | some u =>
    if octets f 0 6 = a.mac ∧ u.dport = (port s p).udpPort ∧ u.dst = (if u.ip = 4 then a.ip4 else a.ip6) ∧ allZero u.dst = false then
      some (octets f 6 6 ++ u.src ++ beBytes 2 u.sport, u.data)
    else none

/-- The PTP message of a frame and its transport: over Ethernet, or over UDP to ports 319 and 320, under the VLAN rule (R310). -/
def ptpOf (s : State) (p k : Nat) (f : List Byte) : Option (Nat × List Byte) :=
  let a := subAddr s p k
  match etherAt a f with
  | none => none
  | some o =>
    if be f o 2 = 0x88F7 then some (0, f.drop (o + 2))
    else match udpOf a f with
    | some u => if u.dport = 319 ∨ u.dport = 320 then some (u.ip, u.data) else none
    | none => none

/-- The answer to an ARP request for the sub-port's IPv4 address (R289). -/
def arpAnswer (a : SubAddr) (f : List Byte) : Option (List Byte) :=
  match etherAt a f with
  | none => none
  | some o =>
    let b := f.drop (o + 2)
    if be f o 2 ≠ 0x0806 ∨ octets b 0 8 ≠ beBytes 8 0x0001080006040001 ∨ be a.ip4 0 4 = 0 ∨ octets b 24 4 ≠ a.ip4 then none
    else some (etherHead a (octets b 8 6) 0x0806 ++ beBytes 8 0x0001080006040002 ++ a.mac ++ a.ip4 ++ octets b 8 6 ++ octets b 14 4)

/-- The answer to a Neighbor Solicitation for the sub-port's IPv6 address (R289). -/
def nsAnswer (a : SubAddr) (f : List Byte) : Option (List Byte) :=
  match etherAt a f with
  | none => none
  | some o =>
    let b := f.drop (o + 2)
    let icmp := b.drop 40
    if be f o 2 ≠ 0x86DD ∨ be b 6 1 ≠ 58 ∨ be b 7 1 ≠ 255 ∨ be icmp 0 2 ≠ 0x8700 ∨ be a.ip6 0 16 = 0 ∨ octets icmp 8 16 ≠ a.ip6 then none
    else
      let src := octets b 8 16
      let asked := decide (be src 0 16 ≠ 0)
      let dst := if asked then src else beBytes 16 (0xFF02 * 2 ^ 112 + 1)
      let body := fun (sum : Nat) => beBytes 2 0x8800 ++ beBytes 2 sum ++ beBytes 4 ((if asked then 0x60000000 else 0x20000000)) ++ a.ip6 ++
        beBytes 2 0x0201 ++ a.mac
      let sum := inetSum (a.ip6 ++ dst ++ beBytes 4 32 ++ beBytes 4 58 ++ body 0)
      let mac := if asked then octets f 6 6 else beBytes 6 0x333300000001
      some (etherHead a mac 0x86DD ++ beBytes 4 0x60000000 ++ beBytes 2 32 ++ beBytes 2 0x3AFF ++ a.ip6 ++ dst ++ body sum)

/-- A TERMINATE sub-port that takes frames; in PROVISIONED it takes them to drop them (R270, R431). -/
def termTakes (s : State) (p k : Nat) : Bool := linkUp s p k && decide ((port s p).role = 2) && !(lanesStopped s && !onlyPtp s)

/-- A frame without protection is received on a TERMINATE sub-port: what the row does with it, once it has met the buffer; in PROVISIONED it
is dropped (R285, R289, R431). -/
def plainFrame (p k : Nat) (f : List Byte) (s : State) (g : State → State) : State :=
  inMeets p ⟨k, false, [], f, f.length, s.tick⟩ s (fun s => if onlyPtp s then dropOther p s else g s)

/-- An answer leaves on the sub-port its request came from. -/
def answerFrame (p k : Nat) (answer : List Byte) (s : State) : State := portOut p k answer.length (.frame p k answer) none s

/-- ARP_REQUEST (R289): for the sub-port's IPv4 address. -/
def execArpRequest (p k : Nat) (f : List Byte) (s : State) : Res :=
  match arpAnswer (subAddr s p k) f with
  | none => noEvent s
  | some answer => whenOk (termTakes s p k) s (plainFrame p k f s (answerFrame p k answer))

/-- NEIGHBOR_SOLICITATION (R289): for the sub-port's IPv6 address. -/
def execNeighborSolicitation (p k : Nat) (f : List Byte) (s : State) : Res :=
  match nsAnswer (subAddr s p k) f with
  | none => noEvent s
  | some answer => whenOk (termTakes s p k) s (plainFrame p k f s (answerFrame p k answer))

/-- A frame is of a kind a TERMINATE sub-port accepts (R289). -/
def acceptedFrame (s : State) (p k : Nat) (f : List Byte) : Bool :=
  (arpAnswer (subAddr s p k) f).isSome || (nsAnswer (subAddr s p k) f).isSome || (tpcOf s p k f).isSome || (ptpOf s p k f).isSome

/-- OTHER_FRAME (R289): a frame of no accepted kind: another protocol, VLAN, address or UDP port, a fragment, an option, a bad checksum. -/
def execOtherFrame (p k : Nat) (f : List Byte) (s : State) : Res :=
  whenOk (termTakes s p k && !acceptedFrame s p k f) s (plainFrame p k f s (dropOther p))

end Sys2Proof.Machine
end

