-- ==== Sys2Proof/Machine/Sessions.lean ====
section
/-!
DEFINITION. Endpoint sessions: what arrives, the accord checker, handshakes, session timers, endpoint commands (R285, R286, R293 to
R309, R325 to R331, R336 to R340).
-/
namespace Sys2Proof.Machine

/-! ### A datagram taken apart (R290, R293 checks 1 and 2) -/

/-- Types whose payload is protected (R291). -/
def protectedType (t : Nat) : Bool := decide (t ∈ [0x10, 0x11, 0x12, 0x13, 0x14, 0x20, 0x21])

/-- Every type (R291). -/
def knownType (t : Nat) : Bool := protectedType t || decide (t ∈ [1, 2, 3])

/-- Check 1: the header is as R290 states, and the length fits. -/
def headerOk (d : List Byte) : Bool :=
  let t := be d 1 1
  decide (32 ≤ d.length) && decide (be d 0 1 = 1) && knownType t && decide (be d 2 1 % 64 = 0) && decide (be d 3 1 % 128 = 0) &&
  decide (be d 4 4 < 2 ^ 18) && decide (be d 16 2 < 1024) && (decide (t = 0x10 ∨ t = 0x14) || decide (be d 16 2 = 0)) &&
  (decide (t = 0x11 ∨ t = 0x12 ∨ t = 0x14) || decide (be d 24 8 = 0)) && decide (be d 18 2 ≤ 8192) &&
  decide (d.length = 32 + be d 18 2 + (if protectedType t then 16 else 0))

/-- The key set of a phase: true when it is the one that awaits its first message (R302). -/
def phaseSet (x : Ep) (phase : Nat) : Option (Bool × KeySet) :=
  match x.cur.filter (fun k => decide (k.phase = phase)) with
  | some k => some (false, k)
  | none => (x.next.filter (fun k => decide (k.phase = phase))).map (fun k => (true, k))

/-- Check 2: the endpoint, and for a protected type the set its PHASE names. -/
def sessionOf (s : State) (p : Nat) (d : List Byte) : Option (Ep × Option (Bool × KeySet)) :=
  match ep s (be d 4 4) with
  | none => none
  | some x =>
    if !bitOf x.mask p then none
    else if !protectedType (be d 1 1) then some (x, none)
    else if x.state < 2 then none
    else (phaseSet x (be d 3 1 / 128)).map (fun k => (x, some k))

/-! ### Replay (R294) -/

/-- The receive state after a verified SEQ; none for a replay. -/
def KeySet.accept (k : KeySet) (q : Nat) : Option KeySet :=
  if q = 0 ∨ 2 ^ 48 ≤ q then none
  else if k.high < q then some { k with high := q, map := (k.map * 2 ^ (min 1024 (q - k.high)) + 1) % 2 ^ 1024 }
  else if k.high - q < 1024 ∧ bitOf k.map (k.high - q) = false then some { k with map := k.map + 2 ^ (k.high - q) }
  else none

/-! ### A message verified (R302, R303) -/

/-- A message verified under a set: the set moves on, the session is ESTABLISHED, its addresses follow. True when what is held for the
endpoint can be sent from now on (R302, R305). -/
def verified (e p : Nat) (f : InFrame) (new : Bool) (set : KeySet) (s : State) : Bool × State :=
  match ep s e with
  | none => (false, s)
  | some x =>
    let x := { x with port := p, subport := f.sub, src := f.src, lastRx := f.tick }
    if new then
      (true, modEp e (fun _ => { x with state := 3, cur := some { set with estTick := s.tick }, next := none, phase := set.phase }) s)
    else if x.state = 4 then (true, modEp e (fun _ => { x with state := 3, cur := some { set with estTick := s.tick } }) s)
    else (decide (x.state = 2 ∧ x.back = 4), modEp e (fun _ => { x with cur := some set, back := if x.state = 2 then 3 else x.back }) s)

/-- What a datagram came to at the header pass. -/
inductive Arrived where
  | dropped (s : State)
  | clear (e : Nat) (x : Ep) (s : State)
  | held (s : State)

/-- The header pass (R285, R293 checks 1 and 2): a datagram of a protected type goes into the ingress buffer. -/
def arrive (p k : Nat) (src d : List Byte) (s : State) : Arrived :=
  let f : InFrame := ⟨k, true, src, d, tpcFrame s p k src d.length, s.tick⟩
  let s := rxFrame p f.size s
  if !inRoom (port s p) f then .dropped (dropFull p s) else
  if onlyPtp s then .dropped (dropOther p s) else
  if !headerOk d then .dropped (modCnt p (fun c => { c with hdrDrop := satAdd 32 c.hdrDrop 1 }) s) else
  match sessionOf s p d with
  | none => .dropped (modCnt p (fun c => { c with noSession := satAdd 32 c.noSession 1 }) s)
  | some (x, none) => .clear (be d 4 4) x s
  | some (_, some _) => .held (inEnter p f s)

/-! ### The accord checker (R325 to R327) -/

/-- The note of a header; 0b11 counts as heart where an answer needs one. -/
def headerNote (h : List Byte) : Nat := be h 2 1 / 64

/-- What every header of a message will say of it. -/
def infoOf (s : State) (p : Nat) (x : Ep) (h : List Byte) : HdrInfo :=
  { accord := be h 16 2, ep := be h 4 4, seq := be h 8 8, ref := be h 20 4, domain := x.domain, port := p, route := none, rxTick := x.lastRx
    mti := 0, qp := 0, elig := s.tick + 1 }

/-- The retry-after of a checker's refusal (R326). -/
def checkerTicks (status : Nat) : Nat := if status = St.busy then 16 else 65535

/-- A REFUSE made before the message is eligible. -/
def refuseEarly (i : HdrInfo) (note status detail ticks : Nat) (s : State) : State :=
  queueOut (refuseOut i (if note = 3 then 1 else note) status detail (refuseDisp s note ticks)) (countStatus status s)

/-- The accord may forward; it may refer (R325 check 10). -/
def mayForward (action : Nat) : Bool := decide (action = 1)
def mayRefer (a : Accord) (action : Nat) : Bool := decide (action = 2) || a.steps.any (fun t => decide (t.onFail = 1))

/-- The messages in flight that hold a place of the forwards, or of the referrals. -/
def heldForwards (s : State) : Nat := s.ad.forwards.length + (s.ad.msgs.filter (fun m => mayForward (actionOf m.2))).length
def heldReferrals (s : State) : Nat := s.ad.referrals.length + (s.ad.msgs.filter (fun m => mayRefer m.2.accord (actionOf m.2))).length

/-- The pending forward a REPLY matches (R340). -/
def matchForward (s : State) (e ref echo : Nat) : Option (Nat × Forward) :=
  s.ad.forwards.find? (fun f => decide (f.2.dest = e ∧ f.2.seq = some echo ∧ f.1 % 2 ^ 32 = ref ∧ s.tick < f.2.closing))

/-- An endpoint can be a destination: loaded, with a TERMINATE port in its PORT_MASK (R338). -/
def destOk (s : State) (e : Nat) : Bool := (ep s e).any (fun x => (List.range 32).any (fun p => bitOf x.mask p && decide ((port s p).role = 2)))

/-- Check 8: the route of a REQUEST: its index and entry, or DETAIL of ROUTE_REFUSED (R336, R338). -/
def resolveRoute (s : State) (a : Accord) (fs : List MField) : Nat ⊕ (Nat × Route) :=
  match routeValue a fs with
  | none => .inl 1
  | some v =>
    let i := a.routeBase + v
    let r := tget {} s.ad.routes i
    if r.action = 0 then .inl 2 else if r.action = 1 ∧ destOk s r.dest = false then .inl 3 else .inr (i, r)

/-- Checks 1 to 10: the refusal, or the message and the state in which it holds its reservations (R325). -/
def checkMessage (s : State) (p : Nat) (x : Ep) (h body : List Byte) : (Nat × Nat) ⊕ (Msg × State) :=
  let reply := decide (be h 1 1 = 0x14)
  let i := infoOf s p x h
  match tblGet s.ad.accords i.accord with
  | none => .inl (St.accordFormat, 0xC010)
  | some (ver, a) =>
    if (a.dir = 1) ≠ (reply = true) then .inl (St.accordFormat, 0xC010)
    else if x.domain < a.domLo ∨ (a.domN ≠ 0 ∧ a.domLo + a.domN ≤ x.domain) then .inl (St.notAuthorised, 0)
    else match readMessage a body with
    | .inl o => .inl (St.accordFormat, o)
    | .inr (mti, fs) =>
      let fwd := if reply then matchForward s i.ep i.ref (be h 24 8) else none
      if reply ∧ fwd.isNone then .inl (St.forwardTimeout, 0) else
      let route : Nat ⊕ Option (Nat × Route) :=
        if reply then .inr ((fwd.bind (fun f => f.2.route)).map (fun r => (((fwd.bind (fun f => f.2.info.route)).getD 0), r)))
        else if a.routeField = 0 then .inr none
        else match resolveRoute s a fs with | .inl d => .inl d | .inr r => .inr (some r)
      match route with
      | .inl d => .inl (St.routeRefused, d)
      | .inr r =>
        let action := if reply then 3 else match r with | some q => q.2.action | none => a.action
        let need := hdrNgran a + (if mayForward action || mayRefer a action then 1 else 0)
        if !hdrRoom s a.hdrQp need then .inl (St.headerUnavailable, 0)
        else if (mayForward action && decide (2 ^ 20 ≤ heldForwards s)) || (mayRefer a action && decide (131072 ≤ heldReferrals s)) then .inl (St.busy, 0)
        else
          let info := { i with mti, qp := a.hdrQp, route := r.map (·.1) }
          let m : Msg := { accord := a, version := ver, info, kind := if reply then 2 else 1, note := headerNote h, fields := fs
                           route := r.map (·.2), fwd, granules := need, size := body.length }
          let s := match fwd with
            | some f => { s with ad.forwards := tblDel s.ad.forwards f.1 }
            | none => s
          .inr (m, s)

/-- The port waiting area in HBM is full for a heart or base message (R60, R286): 256 MiB of messages not yet granted. -/
def waitingFull (s : State) (n : Nat) : Bool :=
  let used := (s.wk.works.filterMap (fun p => match p.2.src with
    | .chain m => if p.2.grant.isNone ∧ p.2.note ≠ 0 then (tblGet s.ad.msgs m).map (·.size) else none
    | _ => none)).sum
  decide (2 ^ 28 < used + n)

/-- The request a message becomes (R27, R328, R330): on the arrival port's account, for the sender's domain; it takes its credits. -/
def submitMsg (x : Ep) (m : Msg) (s : State) : State :=
  let mid := s.ad.nextMsg
  let p0 := planOf s m.accord m.info.domain m.note m.route
  let plan := { p0 with topOk := p0.topOk && x.topOk }
  let note := if m.note = 2 ∧ x.baseOk = false then 1 else m.note
  let w : Work := { src := .chain mid, sub := { func := 0, note, domain := m.info.domain }, acct := 4096 + m.info.port, reqNote := m.note, note
                    elig := s.tick + 1, since := s.tick + 1, staged := true, plan := some plan, link := (qp s m.info.qp).link }
  let s := { s with ad.msgs := tblPut s.ad.msgs mid m, ad.nextMsg := mid + 1 }
  let s := modStat m.info.accord (fun a => { a with passed := satAdd 32 a.passed 1, matched := if m.kind = 2 then satAdd 32 a.matched 1 else a.matched }) s
  addWork w (addUsage m.info.domain 12 0 0 m.size (stagingTake m.info.port (decide (m.note = 0)) (48 + m.size) s))

/-- Checks 5 and 6 of R293 for a REQUEST or a REPLY. -/
def messagePass (e p : Nat) (h body : List Byte) (s : State) : State :=
  match ep s e with
  | none => s
  | some x =>
    let i := infoOf s p x h
    let note := headerNote h
    if note = 3 then refuseEarly i note St.grateRange 0 65535 s
    else if lcState s = .maintenance ∨ s.lc.stopPay = true then refuseEarly i note St.stateForbids 0 65535 s
    else match checkMessage s p x h body with
    | .inl (st, d) =>
      let late := decide (st = St.forwardTimeout)
      refuseEarly i note st d (checkerTicks st)
        (if i.accord < 1024 then modStat i.accord (fun a => { a with refused := satAdd 32 a.refused 1, late := if late then satAdd 32 a.late 1 else a.late }) s else s)
    | .inr (m, t) =>
      if note ≠ 0 ∧ waitingFull s body.length = true then refuseEarly i note St.refusedLoad 0 s.tk.cfg.heartLimit s
      else submitMsg x m t

/-- A NOTE of 0b11 is refused whatever the type (R293 check 5). -/
def badNote (e p : Nat) (h : List Byte) (s : State) : Option State :=
  if headerNote h ≠ 3 then none else
  (ep s e).map (fun x => refuseEarly (infoOf s p x h) 3 St.grateRange 0 65535 s)

/-- A KEEPALIVE is answered with a KEEPALIVE, which is not held (R295, R303). -/
def keepalive (e p : Nat) (h : List Byte) (s : State) : State :=
  (badNote e p h s).getD (if reachable s e then closeIfSpent e (sendSeq e 0x20 (headerNote h) 0 (be h 20 4) 0 [] none s).2 else s)

/-- A CLOSE erases the keys at once (R303). -/
def closed (e p : Nat) (h : List Byte) (s : State) : State := (badNote e p h s).getD (modEp e Ep.idle s)

/-- A type that no endpoint may send (R293 check 5). -/
def otherType (e p : Nat) (h : List Byte) (s : State) : State :=
  match ep s e with
  | some x => refuseEarly (infoOf s p x h) (headerNote h) St.grateRange 0 65535 s
  | none => s

/-- Checks 5 and 6 of R293, by the message's type. -/
def opened (e p : Nat) (h body : List Byte) (s : State) : State :=
  match be h 1 1 with
  | 0x10 | 0x14 => messagePass e p h body s
  | 0x20 => keepalive e p h s
  | 0x21 => closed e p h s
  | _ => otherType e p h s

/-- The tag pass on lane n and the replay check, for a frame from the ingress buffer (R293 checks 2 to 4). -/
def tagPass (p n : Nat) (f : InFrame) (s : State) : State :=
  let d := f.data
  match sessionOf s p d with
  | some (_, some (new, set)) =>
    let h := octets d 0 32
    match Config.gcmOpen set.kem (set.sem ++ octets d 8 8) h (d.drop 32) with
    | none => modLane n (fun l => { l with icvFail := satAdd 32 l.icvFail 1 }) s
    | some body =>
      let s := laneFrame n d.length body.length s
      match set.accept (be d 8 8) with
      | none => modCnt p (fun c => { c with tpcReplay := satAdd 32 c.tpcReplay 1 }) s
      | some set =>
        let e := be d 4 4
        let v := verified e p f new set s
        opened e p h (octets body 0 (be d 18 2)) (if v.1 then sendHeld e v.2 else v.2)
  | _ => modCnt p (fun c => { c with noSession := satAdd 32 c.noSession 1 }) s

/-- What an ingress lane does with a frame (R288, R293). -/
def laneRun (p n : Nat) (f : InFrame) (s : State) : State :=
  if f.tpc then tagPass p n f s else receiveMacsec p f.sub n f.data s

/-- The ingress buffer of a port moves on. -/
def ingress (p : Nat) (s : State) : State := inPump laneRun p s

/-- What a tick moved: replay sets are delivered, and the hub links and the egress lines carry what is left of their rates (R21, R34, R259);
then the ingress buffers move on. -/
def buffersPoint (s : State) : State :=
  let s := (s.ln.lanes.map (·.1)).foldl (fun s n =>
    if s.ln.replays.any (fun r => decide (r.lane = n ∨ r.runs = n)) then s else modLane n (fun l => { l with occ := 0 }) s) s
  let s := { s with
    pt.staging := [0, 1].foldl (fun t die =>
      let top := tget 0 t (2 * die + 1)
      let left := hubCredits - tget 0 s.pt.hubUsed die
      tset 0 (tset 0 t (2 * die + 1) (top - left)) (2 * die) (tget 0 t (2 * die) - (left - top))) s.pt.staging
    pt.hubUsed := [] }
  (s.pt.ports.map (·.1)).foldl (fun s p =>
    let x := port s p
    ingress p (modPort p (fun y => { y with egUsed := 0 }) (egRun p (egRate x - x.egUsed) s))) s

/-- A JOIN_HELLO or JOIN_ACCEPT, which a FLUE port takes unprotected (R519, R521). -/
def isJoin (f : List Byte) : Bool := decide (be f 12 2 = 0x88B6 ∧ (be f 15 1 = 1 ∨ be f 15 1 = 2))

/-- MACSEC_FRAME (R258, R285, R288): a frame on sub-port `k` of a THROUGH or FLUE port. A frame of a FLUE port goes to the group unit, which
takes it up in a row of its own; so does a JOIN frame. -/
def execMacsecFrame (p k : Nat) (f : List Byte) (s : State) : Res :=
  if !linkUp s p k ∨ (lanesStopped s && !onlyPtp s) = true ∨ ((port s p).role ≠ 1 ∧ (port s p).role ≠ 3) ∨
      ((port s p).role = 3 ∧ isJoin f = true) then noEvent s else
  let x : InFrame := ⟨k, false, [], f, f.length, s.tick⟩
  .next (inMeets p x s (fun s => if onlyPtp s then dropOther p s else ingress p (inEnter p x s)))

/-- A TPC frame of a row (R289): the sub-port takes it, and its TYPE is the row's. `g` is what a datagram without protection does. -/
def tpcRow (types : Nat → Bool) (p k : Nat) (f : List Byte) (s : State) (g : List Byte → List Byte → Nat → Ep → State → State) : Res :=
  match tpcOf s p k f with
  | none => noEvent s
  | some (src, d) =>
    if !termTakes s p k ∨ types (be d 1 1) = false then noEvent s else
    match arrive p k src d s with
    | .dropped t => .next t
    | .held t => .next (ingress p t)
    | .clear e x t => .next (g src d e x t)

/-- TPC_REQUEST (R293). -/
def execTpcRequest (p k : Nat) (f : List Byte) (s : State) : Res := tpcRow (fun t => decide (t = 0x10)) p k f s (fun _ _ _ _ s => s)

/-- TPC_REPLY (R293, R340). -/
def execTpcReply (p k : Nat) (f : List Byte) (s : State) : Res := tpcRow (fun t => decide (t = 0x14)) p k f s (fun _ _ _ _ s => s)

/-- TPC_KEEPALIVE (R303). -/
def execTpcKeepalive (p k : Nat) (f : List Byte) (s : State) : Res := tpcRow (fun t => decide (t = 0x20)) p k f s (fun _ _ _ _ s => s)

/-- TPC_CLOSE (R303). -/
def execTpcClose (p k : Nat) (f : List Byte) (s : State) : Res := tpcRow (fun t => decide (t = 0x21)) p k f s (fun _ _ _ _ s => s)

/-- TPC_OTHER_TYPE (R293): an undefined TYPE, or one the module sends. -/
def execTpcOtherType (p k : Nat) (f : List Byte) (s : State) : Res :=
  tpcRow (fun t => decide (t ∉ [0x01, 0x10, 0x14, 0x20, 0x21])) p k f s (fun _ d _ x s =>
    refuseEarly (infoOf s p x (octets d 0 32)) (headerNote d) St.grateRange 0 65535 s)

/-! ### Handshakes (R299 to R301) -/

/-- The handshake window of a port (R301 step 2). -/
def hsWindow (s : State) : Nat := s.tick / 2 ^ 19

/-- Handshakes a port has started in the current window. -/
def hsStarted (s : State) (p : Nat) : Nat := if (port s p).hsWindow = hsWindow s then (port s p).hsCount else 0

/-- A HELLO whose header pass succeeded (R301 steps 1 to 3). One that finds a handshake of its endpoint under way is refused as load. -/
def helloTaken (p k : Nat) (src d : List Byte) (e : Nat) (x : Ep) (s : State) : State :=
  let h : Hello := { header := octets d 0 32, payload := octets d 32 (be d 18 2), port := p, subport := k, src }
  let cnt := be d 8 8
  if x.helloSeq.any (fun q => decide (cnt ≤ q)) then modCnt p (fun c => { c with tpcReplay := satAdd 32 c.tpcReplay 1 }) s
  else if (port s p).hsRate ≤ hsStarted s p then
    sendReject e h St.refusedLoad 0 (refuseDisp s 1 (min 65535 ((hsWindow s + 1) * 2 ^ 19 - s.tick))) s
  else if x.hello.isSome then sendReject e h St.refusedLoad 0 (refuseDisp s 1 s.tk.cfg.heartLimit) s
  else
    let n := hsStarted s p + 1
    let w : Work := { src := .handshake e, sub := { func := 0, note := 1, domain := x.domain }, acct := 4096 + p, reqNote := 1, note := 1
                      elig := s.tick + 1, since := s.tick + 1, staged := true, unit := .pk }
    let s := modPort p (fun y => { y with hsWindow := hsWindow s, hsCount := n }) s
    addWork w (modEp e (fun x => { x with helloSeq := some cnt, hello := some h }) s)

/-- TPC_HELLO (R301 steps 1 to 3). -/
def execTpcHello (p k : Nat) (f : List Byte) (s : State) : Res :=
  tpcRow (fun t => decide (t = 0x01)) p k f s (fun src d e x s => helloTaken p k src d e x s)

/-- The request of an endpoint's handshake. -/
def handshakeWork (s : State) (e : Nat) : Option (Nat × Work) := s.wk.works.find? (fun p => decide (p.2.src = .handshake e))

/-- UTC in seconds. -/
def utcSeconds (s : State) : Int := ((utcNow s).getD 0) / 10 ^ 9

/-- "TPC-HELLO" and "TPC-ACCEPT" as octets. -/
def helloLabel : List Byte := ascii "TPC-HELLO"
def acceptLabel : List Byte := ascii "TPC-ACCEPT"

/-- The HELLO payload is as R299 lays it out. -/
def helloShape (x : Ep) (b : List Byte) : Bool :=
  decide (be b 0 1 = x.alg) && decide (be b 1 1 = 0) && decide (be b 6 2 = 0) && decide (be b 2 2 ≤ 2048) &&
  decide (b.length = 0x4E8 + be b 2 2 + be b 4 2)

/-- The handshake checks of R301 step 4. -/
def handshakeOk (s : State) (x : Ep) (h : Hello) : Bool :=
  let b := h.payload
  let n := be b 2 2
  let spki := octets b 0x4E8 n
  helloShape x b && decide (Config.sha384 spki = x.spki) && s.tk.utcValid && decide (utcSeconds s ≤ x.notAfter) &&
  Config.sigOk x.alg spki (helloLabel ++ h.header ++ octets b 0 (0x4E8 + n)) (b.drop (0x4E8 + n))

/-- A set of session keys (R300). -/
def keySetOf (phase sign : Nat) (k : List Byte) (now : Nat) : KeySet :=
  { phase, sign, kem := octets k 0 32, kme := octets k 32 32, sem := octets k 64 4, sme := octets k 68 4, estTick := now }

/-- The X25519 public value of a private one. -/
def x25519Public (x : List Byte) : List Byte := octets ((Config.x25519 x (leBytes 32 9)).getD []) 0 32

/-- The ACCEPT payload up to SIG (R300). -/
def acceptBody (alg idle sigLen : Nat) (nonce x ct : List Byte) : List Byte :=
  beBytes 1 alg ++ beBytes 1 idle ++ beBytes 2 sigLen ++ beBytes 4 0 ++ octets nonce 0 32 ++ octets x 0 32 ++ octets ct 0 1088

/-- The 72 octets of session keys: the ML-KEM secret, the private X25519 value, the two payloads (R300). -/
def sessionKeys (kem xm hello accept : List Byte) : List Byte :=
  let ss := octets kem 0 32 ++ octets ((Config.x25519 xm (octets hello 0x28 32)).getD []) 0 32
  kdf ss (ascii "THIZEN-TPC") (octets (Config.sha384 (hello ++ accept)) 0 48) 72

/-- The keys are installed and the ACCEPT is sent (R300, R301 steps 5 and 6). -/
def acceptHello (e : Nat) (x : Ep) (h : Hello) (s : State) : State :=
  let y := port s h.port
  let key := h.sign.rec_
  let n := drawBytes 32 s
  let xm := drawBytes 32 n.2
  let coins := drawBytes 32 xm.2
  let u := draw coins.2
  let phase := 1 - x.phase
  let sigLen := if key.type = 14 then Config.acceptSigLen u.1 % 2 ^ 16 else 3309
  let enc := Config.mlKemEncaps (octets h.payload 0x48 1184) coins.1
  let body := acceptBody (if key.type = 14 then 1 else 2) y.idleLog sigLen n.1 (x25519Public xm.1) enc.1
  let head := tpcHeader 2 0 phase e 0 0 (body.length + sigLen) (be h.header 20 4) 0
  let sig := octets (Config.acceptSig key.type key.material (acceptLabel ++ head ++ h.payload ++ body) u.1) 0 sigLen
  let set := keySetOf phase h.sign.handle (sessionKeys enc.2 xm.1 h.payload (body ++ sig)) s.tick
  let s := modEp e (fun x => { x with
    next := some set, acceptAt := s.tick, hello := none, back := if x.state = 2 then x.back else x.state, state := 2
    nextSrc := some (h.port, h.subport, h.src) }) u.2
  let s := addUsage x.domain 13 1 0 0 (modCnt h.port (fun c => { c with hsOk := satAdd 32 c.hsOk 1 }) s)
  sendOpen h.port h.subport h.src e 2 phase (be h.header 20 4) (body ++ sig) s

/-- HANDSHAKE_DONE (R30, R301 steps 4 to 6): a sample point after the unit's last step; the keys switch there. SIGN_KEY is the copy read at
the grant (R31), which the unit tested. -/
def execHandshakeDone (e : Nat) (s : State) : Res :=
  match (ep s e), handshakeWork s e with
  | some x, some (id, w) =>
    match x.hello.filter (fun h => h.done.any (fun t => decide (t < s.tick))) with
    | none => noEvent s
    | some h =>
      let s := dropWork id (countUsage id s)
      if handshakeOk s x h then .next (acceptHello e x h (countStatus (finalStatus w 0) s))
      else .next (sendReject e h St.certRejected 0 (workDisp s w 0) (modEp e (fun x => { x with hello := none }) s))
  | _, _ => noEvent s

/-! ### Session timers (R302, R303) -/

/-- ACCEPT_TIMEOUT (R302). -/
def execAcceptTimeout (e : Nat) (s : State) : Res :=
  match ep s e with
  | none => noEvent s
  | some x => whenOk (decide (x.state = 2 ∧ x.acceptAt + 2 ^ 16 ≤ s.tick)) s
      (modEp e (fun x => { x with next := none, nextSrc := none, state := if x.cur.isSome then x.back else 1 }) s)

/-- SESSION_IDLE_TIMEOUT (R302, R303): of a session, or of the old session of an ACCEPTING context. -/
def execSessionIdleTimeout (e : Nat) (s : State) : Res :=
  match ep s e with
  | none => noEvent s
  | some x => whenOk (decide ((x.state = 3 ∨ (x.state = 2 ∧ x.back = 3)) ∧ x.lastRx + 2 ^ (port s x.port).idleLog ≤ s.tick)) s
      (modEp e (fun x => if x.state = 3 then { x with state := 4, dormantAt := s.tick } else { x with back := 4, dormantAt := s.tick }) s)

/-- DORMANT_TIMEOUT (R303). -/
def execDormantTimeout (e : Nat) (s : State) : Res :=
  match ep s e with
  | none => noEvent s
  | some x => whenOk (decide ((x.state = 4 ∨ (x.state = 2 ∧ x.back = 4)) ∧ x.dormantAt + 2 ^ 24 ≤ s.tick)) s
      (modEp e (fun x => if x.state = 4 then x.idle else { x with cur := none, back := 1 }) s)

/-- CERT_EXPIRY (R303). -/
def execCertExpiry (e : Nat) (s : State) : Res :=
  match ep s e with
  | none => noEvent s
  | some x => whenOk (s.tk.utcValid && decide (2 ≤ x.state) && decide ((x.notAfter : Int) < utcSeconds s)) s (closeSession e s)

/-- The SIGN_KEY of one of a context's sessions is gone. -/
def signGone (s : State) (x : Ep) : Bool := (x.cur.toList ++ x.next.toList).any (fun k => keyGone s k.sign)

/-- Sessions whose SIGN_KEY or ANCHOR is gone are closed (R303). -/
def sessionsPoint (s : State) : State :=
  (s.pt.eps.filter (fun q => decide (2 ≤ q.2.state) && (keyGone s q.2.anchor || signGone s q.2))).foldl
    (fun s q => closeSession q.1 s) s

/-! ### Commands (R296, R297, R309) -/

/-- ANCHOR passes (R297, DETAIL 4). -/
def anchorOk (s : State) (domain h : Nat) : Bool :=
  let k := keyRead s h
  let r := k.rec_
  (keyTests domain [(1, k, false, decide (usageClass r.usage = 11) && usageIs r 'S' '0' && modeIn r ['V'] &&
    decide (r.type = 17 ∨ r.type = 24))]).isNone

/-- EP_LOAD (R296, R297). -/
def epLoadCmd (_ : Held) (p : List Byte) (s : State) : State :=
  let e := be p 0 4
  let domain := be p 4 2
  let r := (keyRead s (be p 8 4)).rec_
  let now := utcSeconds s
  if (ep s e).isSome then refuse St.stateForbids 0 s
  else if !anchorOk s domain (be p 8 4) then refuse St.certRejected 4 s
  else if !s.tk.utcValid then refuse St.certRejected 5 s
  else match Config.certRead (be p 7 1) r.type r.material (octets p 32 (be p 16 2)) with
  | none => refuse St.certRejected 1 s
  | some (sig, nb, na, fits, spki) =>
    if !sig then refuse St.certRejected 1 s
    else if now < (nb : Int) ∨ (na : Int) < now then refuse St.certRejected 2 s
    else if !fits then refuse St.certRejected 3 s
    else
      let x : Ep :=
        { domain, topOk := bitOf (be p 6 1) 0, baseOk := bitOf (be p 6 1) 1, alg := be p 7 1, anchor := be p 8 4, mask := be p 12 4,
          spki := Config.sha384 spki, notAfter := na }
      respond St.ok 0 s.tick [] { s with pt.eps := tblPut s.pt.eps e x }

/-- EP_LOAD (R297). -/
def execEpLoad (s : State) : Res := withCmd 0x0804 s epLoadCmd

/-- EP_REMOVE (R296, R303, R305). -/
def epRemoveCmd (_ : Held) (p : List Byte) (s : State) : State :=
  let e := be p 0 4
  if (ep s e).isNone then refuse St.grateRange 64 s
  else
    let s := closeSession e s
    let mine := s.pt.held.filter (fun m => decide (m.ep = e))
    let s := mine.foldl (fun s m => discardOut m s) { s with pt.held := s.pt.held.filter (fun m => decide (m.ep ≠ e)) }
    respond St.ok 0 s.tick [] { s with pt.eps := tblDel s.pt.eps e }

/-- EP_REMOVE (R296). -/
def execEpRemove (s : State) : Res := withCmd 0x0805 s epRemoveCmd

/-- The endpoint status record (R309). -/
def epRecord (s : State) (e : Nat) : List Byte :=
  let x := ep s e
  let held := (s.pt.held.filter (fun m => decide (m.ep = e))).length
  let f := fun (g : Ep → Nat) => (x.map g).getD 0
  let k := fun (g : KeySet → Nat) => ((x.bind (·.cur)).map g).getD 0
  beBytes 4 e ++ beBytes 1 (f (·.state)) ++ beBytes 1 (if (x.bind (·.cur)).isSome then k (·.phase) else ((x.bind (·.next)).map (·.phase)).getD 0) ++
  beBytes 1 (f (·.port)) ++ beBytes 1 (f (·.subport)) ++ beBytes 2 held ++ beBytes 2 (f (·.domain)) ++ beBytes 4 0 ++ beBytes 8 (k (·.high)) ++
  beBytes 8 (k (·.txNext)) ++ beBytes 8 (f (·.lastRx)) ++ beBytes 8 (k (·.estTick)) ++ beBytes 8 (f (·.notAfter)) ++ beBytes 8 0

/-- EP_QUERY (R309). -/
def epQueryCmd (_ : Held) (p : List Byte) (s : State) : State := respond St.ok 0 s.tick (epRecord s (be p 0 4)) s

/-- EP_QUERY (R309). -/
def execEpQuery (s : State) : Res := withCmd 0x0806 s epQueryCmd

end Sys2Proof.Machine
end

