-- ==== Sys2Proof/Machine/Ptp.lean ====
section
/-!
DEFINITION. PTP input: the best master, exchanges, the filter of offsets, loss of lock (R310, R311).
-/
namespace Sys2Proof.Machine

/-- The PTP input of a port. -/
def modPtp (p : Nat) (f : PtpIn → PtpIn) (s : State) : State := modPort p (fun x => { x with ptp := f x.ptp }) s

/-- A sub-port that takes PTP messages: of the TERMINATE port with PTP_PRI, or of the one with PTP_SEC while the primary has no lock, its link
up (R310). -/
def ptpTakes (s : State) (p k : Nat) : Bool :=
  linkUp s p k && decide ((port s p).role = 2) &&
  ((port s p).ptpPri || ((port s p).ptpSec && !s.pt.ports.any (fun q => q.2.ptpPri && q.2.ptp.lock)))

/-- A message or an offset is rejected (R311). -/
def ptpReject (p : Nat) (s : State) : State := modPtp p (fun x => { x with reject := satAdd 16 x.reject 1 }) s

/-- The exchange under way is over. -/
def PtpIn.clear (x : PtpIn) : PtpIn := { x with t1 := none, t2 := none, followUp := false }

/-- Lock lost (R311): the next master is chosen afresh. -/
def ptpUnlock (p : Nat) (s : State) : State :=
  chooseSource (modPtp p (fun x => { x.clear with lock := false, master := none, quality := [], outRun := [], origin := none, same := 0, first := true }) s)

/-- A data set that the default best master clock algorithm prefers: the first difference decides (R310). -/
def better : List Nat → List Nat → Bool
  | [], _ => false
  | _, [] => true
  | a :: x, b :: y => if a = b then better x y else decide (a < b)

/-! Messages are laid out as IEEE 1588-2019 lays them out (log entry 28, PRESUMED). -/

/-- A field in two's complement of 8 times n bits. -/
def signedAt (d : List Byte) (o n : Nat) : Int :=
  let v := be d o n
  if v < 2 ^ (8 * n - 1) then v else (v : Int) - 2 ^ (8 * n)

/-- A timestamp in ns. -/
def stampAt (d : List Byte) (o : Nat) : Int := (be d o 6 * 10 ^ 9 + be d (o + 6) 4 : Nat)

/-- The correction of a message in ns. -/
def correctionOf (d : List Byte) : Int := signedAt d 8 8 / 2 ^ 16

/-- The port that sent a message. -/
def senderOf (d : List Byte) : List Byte := octets d 20 10

/-- The octets a message of a type has at least: Delay_Resp, Announce, Sync and Follow_Up. -/
def ptpLeast (type : Nat) : Nat := if type = 9 then 54 else if type = 11 then 64 else 44

/-- A message is well formed: version 2, its length, and nanoseconds below a second. -/
def ptpGood (type : Nat) (d : List Byte) : Bool :=
  decide (be d 1 1 % 16 = 2) && decide (ptpLeast type ≤ be d 2 2) && decide (be d 2 2 ≤ d.length) && decide (be d 40 4 < 10 ^ 9)

/-- A message of the row's type arrives on a sub-port: without room in the ingress buffer it is dropped (R285); what is malformed or of another
domain is dropped and counted (R311). -/
def ptpRow (type p k : Nat) (f : List Byte) (s : State) (g : Nat → List Byte → State → State) : Res :=
  match ptpOf s p k f with
  | none => noEvent s
  | some (via, d) =>
    whenOk (ptpTakes s p k && decide (be d 0 1 % 16 = type)) s
      (inMeets p ⟨k, false, [], f, f.length, s.tick⟩ s (fun s =>
        if !ptpGood type d ∨ be d 4 1 ≠ s.pt.ptpDomain then ptpReject p s else g via d s))

/-- An announce interval in ticks, from its logarithm in seconds. -/
def announceTicks (log : Int) : Nat :=
  if 0 ≤ log then 10 ^ 9 * 2 ^ log.toNat / tickNs else 10 ^ 9 / (tickNs * 2 ^ (-log).toNat)

/-- The data set of an Announce, in the order the best master clock algorithm compares it: priority 1, class, accuracy, variance, priority 2,
identity, steps, sender. -/
def qualityOf (d : List Byte) : List Nat :=
  [be d 47 1, be d 48 1, be d 49 1, be d 50 2, be d 52 1, be d 53 8, be d 61 2, be d 20 10]

/-- PTP_ANNOUNCE (R310): the best master among those heard. Its time runs ahead of UTC by the offset it announces. -/
def execPtpAnnounce (p k : Nat) (f : List Byte) (s : State) : Res :=
  ptpRow 11 p k f s (fun _ d s =>
    let x := (port s p).ptp
    let take : PtpIn := { x with
      master := some (senderOf d), quality := qualityOf d, interval := announceTicks (signedAt d 33 1), heard := s.tick
      utcOff := if bitOf (be d 7 1) 3 then signedAt d 44 2 * 10 ^ 9 else 0 }
    if x.master = some (senderOf d) then modPtp p (fun _ => take) s
    else if x.master.isNone || better (qualityOf d) x.quality then
      modPtp p (fun _ => { take.clear with outRun := [], origin := none, same := 0 }) s
    else s)

/-- The module's own port identity on a sub-port: its MAC as an EUI-64, port 1. -/
def ptpIdentity (a : SubAddr) : List Byte := octets a.mac 0 3 ++ beBytes 2 0xFFFE ++ octets a.mac 3 3 ++ beBytes 2 1

/-- A UDP datagram over IPv4 or IPv6, with its checksums. -/
def udpFrame (ip : Nat) (src dst : List Byte) (sport dport : Nat) (d : List Byte) : List Byte :=
  let n := 8 + d.length
  let u := fun (sum : Nat) => beBytes 2 sport ++ beBytes 2 dport ++ beBytes 2 n ++ beBytes 2 sum ++ d
  let sum := inetSum (src ++ dst ++ beBytes 4 n ++ beBytes 4 17 ++ u 0)
  let body := u (if sum = 0 then 0xFFFF else sum)
  if ip = 4 then
    let h := fun (sum : Nat) => beBytes 2 0x4500 ++ beBytes 2 (20 + n) ++ beBytes 4 0x4000 ++ beBytes 2 0x4011 ++ beBytes 2 sum ++ src ++ dst
    h (inetSum (h 0)) ++ body
  else beBytes 4 0x60000000 ++ beBytes 2 n ++ beBytes 2 0x1140 ++ src ++ dst ++ body

/-- A Delay_Req message. -/
def delayReq (a : SubAddr) (domain seq : Nat) : List Byte :=
  beBytes 2 0x0102 ++ beBytes 2 44 ++ beBytes 1 domain ++ beBytes 15 0 ++ ptpIdentity a ++ beBytes 2 seq ++ beBytes 2 0x017F ++ beBytes 10 0

/-- The frame of a Delay_Req, over the transport of its Sync. -/
def delayReqFrame (a : SubAddr) (via : Nat) (d : List Byte) : List Byte :=
  if via = 4 then
    etherHead a (beBytes 6 0x01005E000181) 0x0800 ++ udpFrame 4 a.ip4 (beBytes 4 0xE0000181) 319 319 d
  else if via = 6 then
    etherHead a (beBytes 6 0x333300000181) 0x86DD ++ udpFrame 6 a.ip6 (beBytes 16 (0xFF0E * 2 ^ 112 + 0x181)) 319 319 d
  else etherHead a (beBytes 6 0x011B19000000) 0x88F7 ++ d

/-- Send the Delay_Req of an exchange, on the sub-port of its Sync. -/
def sendDelayReq (p : Nat) (s : State) : State :=
  let x := (port s p).ptp
  let a := subAddr s p x.sub
  let f := delayReqFrame a x.via (delayReq a s.pt.ptpDomain x.seq)
  portOut p x.sub f.length (.frame p x.sub f) none s

/-- An origin timestamp (R311): the same one on 8 consecutive Syncs, and the master is stuck. True when it is. -/
def originSeen (p : Nat) (t1 : Int) (s : State) : Bool × State :=
  let x := (port s p).ptp
  let n := if x.origin = some t1 then x.same + 1 else 1
  if 8 ≤ n then (true, ptpUnlock p s) else (false, modPtp p (fun x => { x with origin := some t1, same := n }) s)

/-- The master's time of a Sync is known: the origin timestamp and the corrections (R311). The delay is measured next. -/
def masterTime (p : Nat) (origin correction : Int) (s : State) : State :=
  let q := originSeen p origin s
  if q.1 then q.2
  else sendDelayReq p (modPtp p (fun x => { x with t1 := some (origin + correction), followUp := false, exTick := s.tick }) q.2)

/-- PTP_SYNC (R311): `t2` is the stamp at the MAC in ns. Of a two-step Sync the time follows. -/
def execPtpSync (p k : Nat) (f : List Byte) (t2 : Int) (s : State) : Res :=
  ptpRow 0 p k f s (fun via d s =>
    if (port s p).ptp.master ≠ some (senderOf d) then s else
    let twoStep := bitOf (be d 6 1) 1
    let s := modPtp p (fun x => { x.clear with heard := s.tick, seq := be d 30 2, t2 := some t2, followUp := twoStep, exTick := s.tick
                                               via, sub := k, corr := correctionOf d }) s
    if twoStep then s else masterTime p (stampAt d 34) (correctionOf d) s)

/-- The message belongs to the exchange under way, within 2^12 ticks of its event; a later one discards the exchange, which is counted (R311). -/
def inExchange (p : Nat) (d : List Byte) (s : State) (g : PtpIn → State) : State :=
  let x := (port s p).ptp
  if x.master ≠ some (senderOf d) ∨ x.seq ≠ be d 30 2 ∨ x.t2.isNone then s
  else if x.exTick + 2 ^ 12 < s.tick then ptpReject p (modPtp p PtpIn.clear s)
  else g x

/-- PTP_FOLLOW_UP (R311): the time of a two-step Sync. -/
def execPtpFollowUp (p k : Nat) (f : List Byte) (s : State) : Res :=
  ptpRow 8 p k f s (fun _ d s => inExchange p d s (fun x =>
    if x.followUp then masterTime p (stampAt d 34) (x.corr + correctionOf d) s else s))

/-- Apply an offset (R310, R311). -/
def applyOffset (p : Nat) (off : Int) (s : State) : State :=
  let s := modPtp p (fun x => { x with offset := off, outRun := [], first := false }) s
  setUtc (((utcNow s).getD 0) + off) 2 p s

/-- Offsets agree within 10 microseconds. -/
def agree (l : List Int) : Bool := l.all (fun a => l.all (fun b => decide (a - b ≤ 10000)))

/-- An offset of UTC by the filter (R311). The first after lock is a step. -/
def filterOffset (p : Nat) (off : Int) (s : State) : State :=
  let x := (port s p).ptp
  if x.first then applyOffset p off s
  else if -1000000 ≤ off ∧ off ≤ 1000000 then applyOffset p off s
  else
    let run := (x.outRun ++ [off]).drop ((x.outRun.length + 1) - 8)
    if run.length = 8 ∧ agree run = true then note 0x0B05 1 p (twos 64 off) 0 (applyOffset p off s)
    else ptpReject p (modPtp p (fun x => { x with outRun := run }) s)

/-- PTP_DELAY_RESP (R311): `t3` is the stamp of the Delay_Req. The offset is that of the master's time less the delay from the tick count's; the
source port's corrects UTC. -/
def execPtpDelayResp (p k : Nat) (f : List Byte) (t3 : Int) (s : State) : Res :=
  ptpRow 9 p k f s (fun _ d s => inExchange p d s (fun x =>
    match x.t1, x.t2 with
    | some t1, some t2 =>
      if octets d 44 10 ≠ ptpIdentity (subAddr s p x.sub) then s else
      let s := chooseSource (modPtp p (fun x => { x.clear with lock := true }) s)
      if s.pt.source ≠ some p then s
      else
        let t4 := stampAt d 34 - correctionOf d
        let utc := ((t1 - t2) + (t4 - t3)) / 2 - x.utcOff + (s.tick * tickNs : Nat)
        filterOffset p (utc - (utcNow s).getD 0) s
    | _, _ => s))

/-- PTP_EXCHANGE_TIMEOUT (R311). -/
def execPtpExchangeTimeout (p : Nat) (s : State) : Res :=
  let x := (port s p).ptp
  whenOk (x.t2.isSome && decide (x.exTick + 2 ^ 12 < s.tick)) s (ptpReject p (modPtp p PtpIn.clear s))

/-- PTP_LOCK_LOSS (R311): no Sync or Announce for 3 announce intervals. -/
def execPtpLockLoss (p : Nat) (s : State) : Res :=
  let x := (port s p).ptp
  whenOk (x.master.isSome && decide (x.heard + 3 * x.interval ≤ s.tick)) s (ptpUnlock p s)

/-- PTP_SET (R310): another domain's masters are no longer heard. -/
def ptpSetCmd (_ : Held) (p : List Byte) (s : State) : State :=
  if 127 < be p 0 1 then refuse St.grateRange 64 s
  else respond St.ok 0 s.tick [] { s with pt.ptpDomain := be p 0 1 }

/-- PTP_SET (R310). -/
def execPtpSet (s : State) : Res := withCmd 0x0807 s ptpSetCmd

end Sys2Proof.Machine
end

