-- ==== Sys2Proof/Machine/AccordCmds.lean ====
section
/-!
DEFINITION. Accord and routing commands, verdicts, and what closes a forward or a referral in its own time (R315, R316, R337, R341, R343,
R344, R347).
-/
namespace Sys2Proof.Machine

/-! ### Accords (R315, R316, R347) -/

/-- A message is bound to a version of an accord that is not the current one: in flight, referred, or forwarded and not yet ended
(R315, R339, R345). -/
def boundOlder (s : State) (num : Nat) : Bool :=
  let cur := ((tblGet s.ad.accords num).map (·.1)).getD 0
  (s.ad.msgs.map (·.2) ++ s.ad.referrals.map (·.2.msg)).any (fun m => decide (m.info.accord = num ∧ m.version ≠ cur)) ||
  s.ad.forwards.any (fun f => decide (f.2.info.accord = num ∧ f.2.version ≠ cur))

/-- A change of an accord would need a third version, or one is armed already (R315). -/
def accordBusy (s : State) (num : Nat) : Bool :=
  s.ad.armed.any (fun a => decide (a.2.1 = num)) || ((tblGet s.ad.accords num).isSome && boundOlder s num)

/-- ACCORD_LOAD (R315, R316). -/
def accordLoadCmd (_ : Held) (p : List Byte) (s : State) : State :=
  let k := switchAt (be p 0 8) s
  let b := p.drop 8
  let fits := fun (t : AStep) => (fnRow s t.func).any (fun r => decide (r.inMin ≤ t.inLen ∧ t.inLen ≤ r.inMax))
  match accordCheck b fits with
  | some (st, d) => refuse st d s
  | none =>
    let a := parseAccord b
    if accordBusy s a.num then refuse St.busy 0 s
    else respondAt k [] { s with ad.armed := s.ad.armed ++ [(k, a.num, some a)] }

/-- ACCORD_LOAD (R315, R316). -/
def execAccordLoad (s : State) : Res := withCmd 0x0901 s accordLoadCmd

/-- ACCORD_REMOVE (R315): an accord that is not loaded is out of range. -/
def accordRemoveCmd (_ : Held) (p : List Byte) (s : State) : State :=
  let k := switchAt (be p 8 8) s
  let n := be p 0 2
  if (tblGet s.ad.accords n).isNone then refuse St.grateRange 64 s
  else if accordBusy s n then refuse St.busy 0 s
  else respondAt k [] { s with ad.armed := s.ad.armed ++ [(k, n, none)] }

/-- ACCORD_REMOVE (R315). -/
def execAccordRemove (s : State) : Res := withCmd 0x0902 s accordRemoveCmd

/-- The cost of an accord's chain in the band in force, misses aside (R330). -/
def accordCost (s : State) (p : ChainPlan) : Nat :=
  let w : Work := { src := .chain 0, sub := { func := 0 }, plan := some p }
  ((List.range p.steps.length).map (stepBare s w)).sum

/-- The accord statistics record (R347). -/
def accordRecord (s : State) (n : Nat) : List Byte :=
  let t := tget {} s.ad.stats n
  let q : Bool × Nat × Nat := match tblGet s.ad.accords n with
    | some (_, a) => let p := planOf s a 0 1 none
                     (p.topOk, hdrNgran a, accordCost s p)
    | none => (false, 0, 0)
  beBytes 2 n ++ beBytes 1 (b2n q.1) ++ beBytes 1 q.2.1 ++ beBytes 4 q.2.2 ++ beBytes 4 t.passed ++ beBytes 4 t.refused ++
  beBytes 4 t.responded ++ beBytes 4 t.forwarded ++ beBytes 4 t.matched ++ beBytes 4 t.fwdTimeouts ++ beBytes 4 t.late ++
  beBytes 4 t.referred ++ beBytes 4 t.applied ++ beBytes 4 t.verdictTimeouts ++ beBytes 4 t.discarded ++ beBytes 12 0

/-- ACCORD_QUERY (R347). -/
def accordQueryCmd (_ : Held) (p : List Byte) (s : State) : State := respond St.ok 0 s.tick (accordRecord s (be p 0 2)) s

/-- ACCORD_QUERY (R347). -/
def execAccordQuery (s : State) : Res := withCmd 0x0903 s accordQueryCmd

/-- The accords whose tick has come (R31, R315). -/
def accordsPoint (s : State) : State :=
  let due := s.ad.armed.filter (fun a => decide (a.1 ≤ s.tick))
  due.foldl (fun s a => match a.2.2 with
      | some x => { s with ad.accords := tblPut s.ad.accords a.2.1 (s.ad.nextVer, x), ad.nextVer := s.ad.nextVer + 1 }
      | none => { s with ad.accords := tblDel s.ad.accords a.2.1 })
    { s with ad.armed := s.ad.armed.filter (fun a => decide (s.tick < a.1)) }

/-! ### Routes (R337) -/

/-- A routing entry. -/
def parseRoute (p : List Byte) (o : Nat) : Route :=
  { action := be p o 1, flags := be p (o + 1) 1, waitLog := be p (o + 2) 1, dest := be p (o + 4) 4, keyA := be p (o + 8) 4,
    keyB := be p (o + 12) 4, label := octets p (o + 32) 32 }

/-- ROUTE_SET (R337): each entry has its own switch tick; the response names the last. -/
def routeSetCmd (_ : Held) (p : List Byte) (s : State) : State :=
  let js := List.range (be p 0 1)
  let es := js.map (fun j => let o := 8 + 80 * j
                             (switchAt (be p (o + 8) 8) s, be p o 4, parseRoute p (o + 16)))
  let k := (es.map (·.1)).foldl max 0
  respondAt k [] { s with ad.routeArmed := s.ad.routeArmed ++ es }

/-- ROUTE_SET (R337). -/
def execRouteSet (s : State) : Res := withCmd 0x0904 s routeSetCmd

/-- The routing entries whose tick has come. -/
def routesPoint (s : State) : State :=
  let due := s.ad.routeArmed.filter (fun a => decide (a.1 ≤ s.tick))
  { s with ad.routes := due.foldl (fun t a => tset {} t a.2.1 a.2.2) s.ad.routes
           ad.routeArmed := s.ad.routeArmed.filter (fun a => decide (s.tick < a.1)) }

/-! ### What ends a forward or a referral -/

/-- A REFUSE that a class L response keeps back (R347). -/
def refuseLater (i : HdrInfo) (note status : Nat) (s : State) : State :=
  if lanesStopped s then s else queueOut (refuseOut i note status 0 (refuseDisp s note 65535)) s

/-- A header of KIND 3 without fields (R334). -/
def outcomeHeader (i : HdrInfo) (note action status link peer : Nat) (effects : Bool) (s : State) : Header :=
  { info := i, kind := 3, action, status, disp := refuseDisp s note 65535, effects, peer, link, txTick := if lanesStopped s then 0 else s.tick }

/-- FORWARD_CLOSE (R341). -/
def execForwardClose (id : Nat) (s : State) : Res :=
  match tblGet s.ad.forwards id with
  | none => noEvent s
  | some f =>
    let s' := modStat f.info.accord (fun a => { a with fwdTimeouts := satAdd 32 a.fwdTimeouts 1 }) { s with ad.forwards := tblDel s.ad.forwards id }
    whenOk (decide (f.closing ≤ s.tick)) s
      (writeHeader (outcomeHeader f.info f.note 4 St.forwardTimeout id f.dest f.effects s) f.gran
        (refuseLater f.info f.note St.forwardTimeout s'))

/-- The verdict tick of a referral (R342). -/
def verdictTick (r : Referral) : Nat := r.tick + 2 ^ r.msg.accord.verdictLog

/-- REFERRAL_VERDICT_EXPIRY (R344). -/
def execReferralVerdictExpiry (id : Nat) (s : State) : Res :=
  match tblGet s.ad.referrals id with
  | none => noEvent s
  | some r =>
    let m := r.msg
    let s' := modStat m.info.accord (fun a => { a with verdictTimeouts := satAdd 32 a.verdictTimeouts 1 })
      { s with ad.referrals := tblDel s.ad.referrals id }
    whenOk (decide (verdictTick r ≤ s.tick)) s
      (writeHeader (outcomeHeader m.outcome m.note 6 St.verdictTimeout id 0xFFFFFFFF r.effects s) m.granules
        (refuseLater m.info m.note St.verdictTimeout s'))

/-! ### Verdicts (R343, R344) -/

/-- A verdict record. -/
def parseVerdict (p : List Byte) (o : Nat) : VerdictRec :=
  { id := be p o 8, verdict := be p (o + 8) 1, dest := be p (o + 12) 4,
    values := (List.range (be p (o + 9) 1)).map (fun j => (be p (o + 16 + 8 * j) 2, octets p (o + 18 + 8 * j) 6)) }

/-- A value may name the field (R343). -/
def valueOk (a : Accord) (v : Nat × List Byte) : Bool :=
  (defOf a.outs v.1).any (fun d => decide (d.cls = 0 ∧ d.form = 0 ∧ d.maxLen ≤ 6) && decide (d.enc = 0 ∨ d.enc = 2 ∨ d.enc = 3))

/-- A verdict record is valid for a referral (R343, R344). -/
def verdictOk (s : State) (m : Msg) (v : VerdictRec) (n : Nat) : Bool :=
  decide (n ≤ 2) && v.values.all (valueOk m.accord) &&
  match v.verdict with
  | 1 => decide (v.dest = 0) && m.route.any (fun r => decide (r.dest ≠ 0))
  | 2 => (ep s v.dest).isSome
  | 3 | 4 => decide (v.dest = 0)
  | _ => false

/-- The result octet of a record that applies at the next sample point (R343). -/
def verdictResult (s : State) (done : List Nat) (v : VerdictRec) (n : Nat) : Nat :=
  if v.id = 0 ∨ s.ad.nextRef ≤ v.id then 2
  else if v.id ∈ s.ad.decided ∨ v.id ∈ done ∨ s.ad.verdicts.any (fun x => decide (x.id = v.id)) = true then 3
  else match tblGet s.ad.referrals v.id with
  | none => 1
  | some r => if verdictTick r ≤ s.tick + 1 then 1 else if verdictOk s r.msg v n then 0 else 4

/-- VERDICT (R343). -/
def verdictCmd (_ : Held) (p : List Byte) (s : State) : State :=
  let js := List.range (be p 0 1)
  let k := s.tick + 1
  let q := js.foldl (fun (acc : List VerdictRec × List Byte) j =>
    let v := parseVerdict p (8 + 32 * j)
    let r := verdictResult s (acc.1.map (·.id)) v (be p (8 + 32 * j + 9) 1)
    (if r = 0 then acc.1 ++ [v] else acc.1, acc.2 ++ [BitVec.ofNat 8 r])) ([], [])
  respondAt k q.2 { s with ad.verdicts := s.ad.verdicts ++ q.1 }

/-- VERDICT (R343). -/
def execVerdict (s : State) : Res := withCmd 0x0905 s verdictCmd

/-- The build a verdict runs: a heart continuation at build_cu (R344). -/
def verdictWork (s : State) (mid : Nat) (m : Msg) : Work :=
  let p := planOf s m.accord m.info.domain 1 m.route
  let plan := { p with steps := [⟨[], buildCycles m.accord, false, true⟩], handles := [] }
  { src := .chain mid, sub := { func := 0, note := 1, domain := m.info.domain }, acct := 4096 + m.info.port, reqNote := m.note, note := 1
    elig := s.tick, since := s.tick, isNew := false, phase := .between, staged := true, plan := some plan, grant := some s.tick, runNote := 1
    lastGrant := s.tick, band := s.tk.band, link := (qp s m.info.qp).link }

/-- Apply one verdict (R344). -/
def applyVerdict (s : State) (v : VerdictRec) : State :=
  match tblGet s.ad.referrals v.id with
  | none => s
  | some r =>
    let m := r.msg
    let s := { s with ad.referrals := tblDel s.ad.referrals v.id, ad.decided := v.id :: s.ad.decided }
    let s := modStat m.info.accord (fun a => { a with applied := satAdd 32 a.applied 1 }) s
    if v.verdict = 4 then
      writeHeader (outcomeHeader m.outcome m.note 5 St.verdictRefused v.id 0xFFFFFFFF r.effects s) m.granules
        (refuseLater m.info m.note St.verdictRefused s)
    else
      let dest := if v.verdict = 1 then (m.route.map (·.dest)).getD 0 else v.dest
      let m := { m with refId := some v.id, verdict := v.verdict, dest, values := v.values }
      let mid := s.ad.nextMsg
      addWork (verdictWork s mid m) { s with ad.msgs := tblPut s.ad.msgs mid m, ad.nextMsg := mid + 1 }

/-- The verdicts accepted in the tick before apply at the sample point (R343). -/
def verdictsPoint (s : State) : State :=
  s.ad.verdicts.foldl applyVerdict { s with ad.verdicts := [] }

end Sys2Proof.Machine
end

