-- ==== Sys2Proof/Machine/Bar0.lean ====
section
/-!
DEFINITION. BAR0 accesses that no register takes (R13).
-/
namespace Sys2Proof.Machine

/-- The notice of a refused access (R13, R477). -/
def bar0Notice (off : Nat) (s : State) : State := note 0x1503 0 0xFFFF off 0 s

/-- A write that is discarded. -/
def badWrite (off : Nat) (s : State) : State := bar0Notice off s

/-- A read that returns ones in each of its 32-bit words. -/
def badRead (off size : Nat) (s : State) : State := emit (.readData off (2 ^ (32 * max 1 (size / 4)) - 1)) (bar0Notice off s)

end Sys2Proof.Machine
end

