-- ==== Sys2Proof/Machine/Digest.lean ====
section
/-!
DEFINITION. The digest units' window and queue work, and the random chain (R349 to R375).
-/
namespace Sys2Proof.Machine

/-! ### Units and claims (R350, R353) -/

/-- Change a unit. -/
def modDg (u : Nat) (f : DgUnit → DgUnit) (s : State) : State := { s with dg.units := tset {} s.dg.units u (f (dgUnit s u)) }

/-- The BAR0 offset of a register of a unit's page (R351). -/
def dgOff (u off : Nat) : Nat := 0x5100 + u * 0x1C0 + off

/-- Units claimed, or being claimed. -/
def dgClaims (s : State) : Nat := (s.dg.units.filter (fun p => p.2.claimed || p.2.pend)).length

/-- DG_CLAIM (R350, R353). -/
def execDgClaim (u : Nat) (s : State) : Res := viaPf0 s <|
  let x := dgUnit s u
  .next (if 8 ≤ u ∨ x.claimed = true ∨ x.pend = true then s
    else if 6 ≤ dgClaims s then { s with dg.refused := true }
    else modDg u (fun x => { x with pend := true }) s)

/-- A unit goes back to the unclaimed set, erased (R353). -/
def releaseUnit (u : Nat) (s : State) : State := modDg u (fun _ => {}) s

/-- DG_RELEASE (R353). -/
def execDgRelease (u : Nat) (s : State) : Res := viaPf0 s <| .next (releaseUnit u s)

/-- Every claimed unit released: an FLR of PF0, PERST# on host link 0 (R353). -/
def releaseAll (s : State) : State := { s with dg.units := [] }

/-- DG_CLAIM_COMPLETE (R353): the unit's operations go to the unclaimed units with the fewest octets. -/
def execDgClaimComplete (u : Nat) (s : State) : Res :=
  if !(dgUnit s u).pend then noEvent s else
  let s := modDg u (fun _ => { claimed := true }) s
  let free := (List.range 8).filter (fun n => !(dgUnit s n).claimed && !(dgUnit s n).pend)
  .next ((placed s .digest u).foldl (fun s p =>
    match leastBytes s .digest free with
    | some m => modWork p.1 (fun w => { w with place := some m }) s
    | none => s) s)

/-! ### Messages (R354 to R357) -/

/-- A status in DG_STAT. -/
def dgStatus (u st : Nat) (s : State) : State := modDg u (fun x => { x with status := st }) s

/-- The chaining state erased. -/
def DgUnit.cleared (x : DgUnit) : DgUnit := { x with wait := none, active := false, chain := [], outer := [], buf := [], last := [] }

/-- The message ends with an error (R357). -/
def dgLost (u : Nat) (s : State) : State := modDg u (fun x => { x.cleared with status := St.digestSequence }) s

/-- A page access: the unit is claimed, or R13 holds. -/
def dgPage (u off : Nat) (s : State) (f : DgUnit → State) : Res :=
  let x := dgUnit s u
  .next (if x.claimed then f x else badWrite (dgOff u off) s)

/-- A class L response is in force: LOCKED, on the way to it, or due to it after another transition or a controller gap (R363, R441, R462). -/
def classL (s : State) : Bool :=
  decide (lcState s = .locked) || s.lc.lockAfter.isSome || ((lcRec s).intent && decide ((lcRec s).target = some .locked))

/-- The domain lies in DG_DOMWIN (R352, R358). -/
def inDomwin (s : State) (d : Nat) : Bool := decide (s.dg.domLo ≤ d ∧ d < s.dg.domLo + s.dg.domN)

/-- The tests of a sealed message's key; its material when they pass (R358). -/
def dgKeyTest (s : State) (alg handle dom : Nat) : Nat ⊕ List Byte :=
  let k := keyRead s handle
  if !inDomwin s dom then .inl St.notAuthorised
  else match keyTests dom [(1, k, false, hmacRole alg ['G', 'C'] k.rec_)] with
  | some (st, _) => .inl st
  | none => .inr k.rec_.material

/-- DG_START (R355, R356, R358). -/
def execDgStart (u alg : Nat) (isSealed : Bool) (s : State) : Res := viaPf0 s <|
  dgPage u 0 s (fun x =>
    if x.active ∨ x.wait.isSome = true then dgStatus u St.digestSequence s
    else if alg < 1 ∨ 4 < alg then dgStatus u St.grateRange s
    else if !isSealed then
      modDg u (fun x => { x with active := true, done := false, saved := false, keyed := false, alg, status := 0, count := 0, buf := [], last := []
                                 chain := octets (Config.dgInit alg) 0 (dgStateLen alg), outer := [] }) s
    else if classL s then dgStatus u St.locked s
    else if !inDomwin s x.domain then dgStatus u St.notAuthorised s
    else modDg u (fun x => { x with wait := some (.key alg (dgKeyTest s alg x.key x.domain)), done := false, saved := false, keyed := true, alg, handle := x.key, dom := x.domain
                                    count := 0, buf := [], last := [] }) s)

/-- DG_SEALED_KEY_READY (R358): the record came as it stood at START; its pad blocks are absorbed. A record whose fetch failed gives
KEY_INTEGRITY (R207, R216). -/
def execDgSealedKeyReady (u : Nat) (s : State) : Res :=
  let x := dgUnit s u
  match x.wait with
  | some (.key alg start) =>
    .next (match (if (keyRead s x.handle).bad then start.elim .inl (fun _ => .inl St.keyIntegrity) else start) with
      | .inl st => modDg u (fun x => { x.cleared with status := st }) s
      | .inr k => modDg u (fun x => { x with wait := none, active := true, status := 0, chain := hmacPad alg k 0x36, outer := hmacPad alg k 0x5C }) s)
  | _ => noEvent s

/-- Octets of the message so far. -/
def DgUnit.length (x : DgUnit) : Nat := x.count + x.buf.length

/-- A write that no message takes: while BUSY or not ACTIVE. It ends the message of a unit that is ACTIVE or waits for a sealed key: no
digest is given for a message from which a write was lost (R357). -/
def dgRefused (u : Nat) (x : DgUnit) (s : State) : State :=
  if x.active || x.wait.isSome then dgLost u s else dgStatus u St.digestSequence s

/-- DG_DATA (R356, R357). -/
def execDgData (u v : Nat) (s : State) : Res := viaPf0 s <|
  dgPage u 0x10 s (fun x =>
    if x.wait.isSome ∨ x.active = false then dgRefused u x s
    else if 2 ^ 61 ≤ x.length + 8 then dgLost u s
    else
      let b := x.buf ++ leBytes 8 v
      modDg u (fun x => if b.length = dgBlockLen x.alg then { x with wait := some (.block b), buf := [] } else { x with buf := b }) s)

/-- DG_LAST_CTL (R357). -/
def execDgLastCtl (u vb : Nat) (s : State) : Res := viaPf0 s <|
  dgPage u 0x20 s (fun x =>
    if x.wait.isSome ∨ x.active = false ∨ 8 < vb then dgRefused u x s
    else if 2 ^ 61 ≤ x.length + vb then dgLost u s
    else modDg u (fun x => { x with wait := some (.final (x.buf ++ octets x.last 0 vb)), buf := [] }) s)

/-- Message bytes a unit absorbed (R352). -/
def dgBytes (n : Nat) (s : State) : State := { s with dg.bytes := wrapAdd 64 s.dg.bytes n }

/-- DG_BLOCK_DONE (R356). -/
def execDgBlockDone (u : Nat) (s : State) : Res :=
  match (dgUnit s u).wait with
  | some (.block b) => .next (dgBytes b.length (modDg u (fun x => { x with wait := none, chain := dgRun x.alg x.chain b, count := x.count + b.length }) s))
  | _ => noEvent s

/-- The result of a message whose final octets are known (R357, R358). -/
def DgUnit.result (x : DgUnit) (o : List Byte) : List Byte :=
  if x.keyed then hmacOuter x.alg x.outer (dgEnd x.alg x.chain o (x.count + dgBlockLen x.alg)) else dgEnd x.alg x.chain o x.count

/-- DG_MESSAGE_DONE (R357). -/
def execDgMessageDone (u : Nat) (s : State) : Res :=
  match (dgUnit s u).wait with
  | some (.final o) => .next (dgBytes o.length (modDg u (fun x => { x.cleared with
      out := octets (x.result o) 0 64, done := true, status := 0, count := x.count + o.length }) s))
  | _ => noEvent s

/-- DG_ABORT (R354, R355): the message ends; DG_OUT and DG_STATE keep what they hold. -/
def execDgAbort (u : Nat) (s : State) : Res := viaPf0 s <| dgPage u 0 s (fun _ => modDg u (fun x => { x.cleared with status := 0, count := 0 }) s)

/-! ### Saving and restoring (R360 to R362) -/

/-- The first 32 octets of a state record. -/
def stateHead (count alg kind handle dom : Nat) (nonce : List Byte) : List Byte :=
  leBytes 8 count ++ leBytes 1 alg ++ leBytes 1 kind ++ leBytes 2 0 ++ leBytes 4 handle ++ leBytes 2 dom ++ leBytes 2 0 ++ nonce

/-- The plain record (R361). -/
def plainRecord (x : DgUnit) : List Byte :=
  stateHead x.count x.alg 0 0 0 (leBytes 12 0) ++ octets x.chain 0 128 ++ leBytes 16 0 ++
  octets (if x.alg = 4 then octets x.chain 128 72 else []) 0 80

/-- The wrapped record (R360, R361): its nonce is counted from 0 at each start. -/
def wrappedRecord (key : List Byte) (x : DgUnit) (nonce : Nat) : List Byte :=
  let h := stateHead x.count x.alg 1 x.handle x.dom (leBytes 12 nonce)
  h ++ octets (Config.gcmSeal key (leBytes 12 nonce) h (octets x.chain 0 64 ++ octets x.outer 0 64)) 0 144 ++ leBytes 80 0

/-- DG_SAVE (R355, R360). -/
def execDgSave (u : Nat) (s : State) : Res := viaPf0 s <|
  dgPage u 0 s (fun x =>
    if !x.active ∨ x.wait.isSome = true ∨ x.buf ≠ [] then dgStatus u St.digestSequence s
    else
      let rec_ := if x.keyed then wrappedRecord (ctxWrap s) x s.dg.nonce else plainRecord x
      let s := if x.keyed then { s with dg.nonce := s.dg.nonce + 1 } else s
      modDg u (fun x => { x.cleared with regs := rec_, saved := true, status := 0 }) s)

/-- The record's layout holds (R362 check 1): KIND, ALG, the reserved octets of its kind, COUNT. What else a plain record holds is taken as it
stands. -/
def stateShape (r : List Byte) : Bool :=
  let alg := le r 8 1
  let kind := le r 9 1
  decide (kind ≤ 1) && decide (1 ≤ alg ∧ alg ≤ (if kind = 0 then 4 else 3)) && decide (le r 10 2 = 0) && decide (le r 18 2 = 0) &&
  decide (le r 0 8 % dgBlockLen alg = 0) &&
  (if alg = 4 then allZero (octets r 0xF8 8) else allZero (octets r 0xB0 80))

/-- DG_RESTORE (R355, R362). -/
def execDgRestore (u : Nat) (s : State) : Res := viaPf0 s <|
  dgPage u 0 s (fun x =>
    let r := octets x.regs 0 256
    let alg := le r 8 1
    let go := fun (chain outer : List Byte) (keyed : Bool) => modDg u (fun x => { x with
      active := true, done := false, saved := false, keyed, alg, status := 0, count := le r 0 8, buf := [], last := [], chain, outer
      handle := le r 12 4, dom := le r 16 2 }) s
    if x.active ∨ x.wait.isSome = true then dgStatus u St.digestSequence s
    else if !stateShape r then dgStatus u St.grateFormat s
    else if le r 9 1 = 0 then go (octets (octets r 0x20 128 ++ octets r 0xB0 72) 0 (dgStateLen alg)) [] false
    else if classL s then dgStatus u St.locked s
    else match (if s.dg.wrap then Config.gcmOpen (ctxWrap s) (octets r 0x14 12) (octets r 0 32) (octets r 0x20 144) else none) with
    | none => dgStatus u St.contextRejected s
    | some body => match dgKeyTest s alg (le r 12 4) (le r 16 2) with
      | .inl st => dgStatus u st s
      | .inr _ => go (octets body 0 (dgStateLen alg)) (octets body 64 (dgStateLen alg)) true)

/-! ### Queue work (R365) -/

/-- DIGEST_CHUNK_END (R208, R365): a chunk of the operation whose turn it is ended on its unit. -/
def execDigestChunkEnd (id : Nat) (s : State) : Res :=
  match work s id with
  | none => noEvent s
  | some w =>
    if w.unit ≠ .digest ∨ w.phase ≠ .unit ∨ w.place.any (fun n => decide (unitHead s .digest n = some id)) = false ∨ fetchOpen s w = true then
      noEvent s else
    let s := if w.pos = 0 then countUsage id s else s
    if w.sub.key0 ≠ 0 ∧ (w.key 0).bad = true then .next (settle (finish id { status := St.keyIntegrity, detail := 1 } s)) else
    let n := min (digestChunk w.sub) (outstanding w)
    let s := dgBytes n (addUsage w.sub.domain 9 0 0 n s)
    let w := { w with pos := w.pos + n }
    let s := modWork id (fun _ => w) s
    if w.squash ≠ 0 then .next (settle (finish id { status := St.squashed } s))
    else if w.sub.inLen ≤ w.pos then .next (settle (finish id (digestResult w) s))
    else .next (toBack id s)

/-- DIGEST_DOMWIN (R352): the range of domains may not run past 65,535. -/
def digestDomwinCmd (_ : Held) (p : List Byte) (s : State) : State :=
  if 65536 < be p 0 2 + be p 2 2 then refuse St.grateRange 66 s
  else respond St.ok 0 s.tick [] { s with dg.domLo := be p 0 2, dg.domN := be p 2 2 }

/-- DIGEST_DOMWIN (R352). -/
def execDigestDomwin (s : State) : Res := withCmd 0x0704 s digestDomwinCmd

/-! ### Random numbers (R366 to R373) -/

/-- RN_DATA (R370): a 64-bit read. -/
def execRnData (s : State) : Res := viaPf0 s <|
  let under := fun (s : State) => emit (.readData 0x6000 0) { s with rn.underrun := true, rn.nUnderrun := satAdd 32 s.rn.nUnderrun 1 }
  .next (match s.rn.buf with
    | v :: t => emit (.readData 0x6000 v) { s with rn.buf := t }
    | [] =>
      if !s.rn.ready || (drbg s 65).limit then under s
      else
        let q := draw (drbgCall 65 1 s)
        let bs := octets (Config.randomBytes q.1 64) 0 64
        let vs := (List.range 8).map (fun j => le bs (8 * j) 8)
        emit (.readData 0x6000 (vs.headD 0)) { q.2 with rn.buf := vs.drop 1 })

/-- ENTROPY_BLOCK (R366, R367): the host reserve first, then the pool. -/
def execEntropyBlock (s : State) : Res :=
  if sourcesOn s = 0 then noEvent s else
  .next (if s.rn.reserve < 2 then { s with rn.reserve := s.rn.reserve + 1 }
    else if s.rn.blocks < 62 then { s with rn.blocks := s.rn.blocks + 1 }
    else s)

/-- After a source changed: LOW_SOURCES, and since when none is enabled (R372). -/
def sourcesChanged (s : State) : State :=
  let n := sourcesOn s
  let low := decide (n < 2)
  let since := if n = 0 then some (s.rn.noneSince.getD s.tick) else none
  let s' : State := { s with rn.low := low, rn.noneSince := since }
  if low && !s.rn.low then note 0x0503 1 0xFFFF n 0 s' else s'

/-- A source fails a test (R372): 1 repetition count, 2 adaptive proportion, 3 start-up. -/
def sourceFails (k cause : Nat) (s : State) : State :=
  let x := noise s k
  let recent := (x.failTicks.filter (fun t => decide (s.tick < t + 2 ^ 24))) ++ [s.tick]
  let off := decide (3 ≤ recent.length)
  let s := modNoise k (fun x => { x with state := if off then 3 else 1, cause, fails := satAdd 32 x.fails 1, failTicks := recent }) s
  sourcesChanged (note (if off then 0x0502 else 0x0501) 1 k cause 0 s)

/-- NOISE_SOURCE_FAIL (R371, R372). -/
def execNoiseSourceFail (k cause : Nat) (s : State) : Res :=
  whenOk (decide (k < 4) && decide ((noise s k).state = 0) && decide (cause = 1 ∨ cause = 2)) s (sourceFails k cause s)

/-- A disabled source whose retest is due (R372). -/
def retestDue (s : State) (x : Noise) : Bool :=
  decide (x.state = 1 ∨ x.state = 2) && (x.failTicks.getLast?).all (fun t => decide (t + 2 ^ 16 ≤ s.tick))

/-- SOURCE_RETEST (R372): the start-up tests again. -/
def execSourceRetest (k : Nat) (passed : Bool) (s : State) : Res :=
  whenOk (decide (k < 4) && retestDue s (noise s k)) s
    (if passed then sourcesChanged (modNoise k (fun x => { x with state := 0 }) s) else sourceFails k 3 s)

/-- Sources in retest at a sample point. -/
def noisePoint (s : State) : State :=
  { s with rn.src := s.rn.src.map (fun p => (p.1, if p.2.state = 1 ∧ retestDue s p.2 = true then { p.2 with state := 2 } else p.2)) }

/-- NO_SOURCE_TIMEOUT (R372, R464). -/
def execNoSourceTimeout (s : State) : Res :=
  whenOk (s.rn.noneSince.any (fun t => decide (t + 2 ^ 16 ≤ s.tick)) && decide (sourcesOn s = 0)) s
    (lockClass 0x22 3 { s with rn.noneSince := none })

/-- A count of a window lies outside 0.45 to 0.55 (R373). -/
def outsideWindow (n : Nat) : Bool := decide (n < 471859 ∨ 576717 < n)

/-- SOURCE_WINDOW_END (R373). -/
def execSourceWindowEnd (k ones equal : Nat) (s : State) : Res :=
  if 4 ≤ k ∨ 2 ^ 20 < ones ∨ 2 ^ 20 < equal then noEvent s else
  let s := modNoise k (fun x => { x with ones, agree := equal, bias := x.bias || outsideWindow ones, corr := x.corr || outsideWindow equal }) s
  let s := if outsideWindow ones then note 0x0504 0 k 0 ones s else s
  .next (if outsideWindow equal then note 0x0504 0 k 1 equal s else s)

end Sys2Proof.Machine
end

