-- ==== Sys2Proof/Machine/KeyCmds.lean ====
section
/-!
DEFINITION. The commands and events of the key store: domains and epochs, journal and root slots, snapshot and reload,
emptying, ceremonies, migration (R215, R219 to R221, R234 to R244).
-/
namespace Sys2Proof.Machine

/-- No change could become durable: no journal ring (R225). -/
def noRing (s : State) : Bool := s.ks.ring.isNone

/-- Octet offset of a payload field in the frame, from the record check that failed. -/
def frameOffset (e : Nat × Nat) (at_ : Nat) : Nat := 64 + at_ + (e.2 - 0x8000)

/-! ### Domains and epochs -/

/-- The entry a DOMAIN_SET payload spells (R414). -/
def parseDom (p : List Byte) : Dom :=
  { isOpen := decide (be p 10 1 = 1), limPin := be p 11 1, limTok := be p 12 1, quota := be p 16 4, pinQuota := be p 20 4
    tgtLo := be p 24 4, tgtN := be p 28 4 }

/-- Whether a target range breaks the rule of R219 in a domain: it runs past the last index, overlaps another domain's, in force or
armed, or holds a record another owns or has been promised. -/
def rangeBad (s : State) (d : Nat) (e : Dom) : Bool :=
  decide (e.tgtN ≠ 0) && (decide (2 ^ 27 < e.tgtLo + e.tgtN) ||
    (targetRanges s).any (fun p => decide (p.1 ≠ d) && decide (p.2.tgtN ≠ 0) && decide (e.tgtLo < p.2.tgtLo + p.2.tgtN) &&
      decide (p.2.tgtLo < e.tgtLo + e.tgtN)) ||
    s.ks.recs.any (fun p => decide (p.2.type ≠ 0) && decide (p.2.owner ≠ d) && e.targets p.1) ||
    s.ks.changes.any (fun c => match c.kind with
      | .place i r => decide (r.owner ≠ d) && (i :: r.ext).any e.targets
      | _ => false))

/-- The offset of the first field of a DOMAIN_SET payload out of range (R219, R414). -/
def domFault (s : State) (p : List Byte) : Option Nat :=
  let e := parseDom p
  if 1 < be p 10 1 then some 74
  else if 15 < e.limPin then some 75
  else if 15 < e.limTok then some 76
  else if 2 ^ 27 < e.quota ∨ e.quota < usedBy s (be p 8 2) then some 80
  else if 65536 < e.pinQuota then some 84
  else if rangeBad s (be p 8 2) e then some 88
  else none

/-- DOMAIN_SET (R219, R225, R414). -/
def domainSetCmd (_ : Held) (p : List Byte) (s : State) : State :=
  match domFault s p with
  | some o => refuse St.grateRange o s
  | none =>
    if noRing s then refuse St.busy 0 s else
    let k := switchAt (be p 0 8) s
    respondAt k [] { s with ks.domArmed := s.ks.domArmed ++ [⟨k, be p 8 2, parseDom p⟩] }

/-- DOMAIN_SET (R219). -/
def execDomainSet (s : State) : Res := withCmd 0x0601 s domainSetCmd

/-- This module is the manager of a group that has workers (R529). -/
def hasWorkers (s : State) : Bool := decide (s.gp.role = 1) && s.gp.members.any (fun p => decide (p.1 ≠ s.gp.member))

/-- The switch tick of an EPOCH command; a manager with workers needs 2^12 ticks (R221, R529). -/
def epochTick (p : List Byte) (s : State) : Nat :=
  if hasWorkers s ∧ be p 0 8 = 0 then s.tick + 2 ^ 12 else switchAt (be p 0 8) s

/-- EPOCH (R220, R221, R225, R529): the change is that of the schedule, journaled as it is accepted. -/
def epochCmd (_ : Held) (p : List Byte) (s : State) : State :=
  let cur := be p 10 2
  let oldest := be p 12 2
  if 0xFFFE < cur then refuse St.grateRange 74 s
  else if cur < oldest then refuse St.grateRange 76 s
  else if hasWorkers s ∧ epochTick p s < s.tick + 2 ^ 12 then refuse St.grateRange 64 s
  else if noRing s ∨ 4096 ≤ s.ks.epochs.length then refuse St.busy 0 s
  else
    let k := epochTick p s
    let c : EpochCmd := ⟨k, be p 8 2, cur, oldest⟩
    let s := journal k 4 1 s.ks.format c.domain (octets (epochBytes c) 0 256) { s with ks.epochs := s.ks.epochs ++ [c] }
    respondAt k [] s

/-- EPOCH (R221). -/
def execEpoch (s : State) : Res := withCmd 0x0602 s epochCmd

/-! ### Journal and root slots -/

/-- JOURNAL_SET (R236, R238): streaming goes on in the new ring from the first change not yet durable. -/
def journalSetCmd (_ : Held) (p : List Byte) (s : State) : State :=
  let pas := be p 12 4
  let r : JRing := ⟨be p 0 8, be p 8 1, be p 9 1, if bitOf pas 31 then some (pas % 2 ^ 20) else none⟩
  respond St.ok 0 s.tick [] { s with
    ks.ring := some r, ks.wpos := 0, ks.jhead := 0, ks.full := false
    ks.entries := s.ks.entries.map (fun e => { e with sent := false }) }

/-- JOURNAL_SET (R236). -/
def execJournalSet (s : State) : Res := withCmd 0x0603 s journalSetCmd

/-- Free slots of the ring (R236). -/
def ringFree (s : State) : Nat :=
  match s.ks.ring with
  | none => 0
  | some r => (s.ks.jhead + 2 ^ r.log - 1 - s.ks.wpos) % 2 ^ r.log

/-- A host link carries the module's own DMA (R238). -/
def linkOpen (s : State) (l : Nat) : Bool := (hostLink s l).up && !(hostLink s l).recov && (hostLink s l).bme

/-- A pad entry over the slots that remain to the end of the ring (R236). -/
def padEntry (slots : Nat) : List Byte := leBytes 20 0 ++ leBytes 2 slots ++ octets [] 0 (512 * slots - 22)

/-- Write octets into the ring at the write position. -/
def ringWrite (r : JRing) (slots : Nat) (data : List Byte) (s : State) : State :=
  writeHost r.link r.pasid false (r.base + 512 * s.ks.wpos) data
    { s with ks.wpos := (s.ks.wpos + slots) % 2 ^ r.log, ks.streamUsed := s.ks.streamUsed + 2 * slots }

/-- Send one entry, after the pad it may need; none when the ring or the tick's 128 units lack room (R236, R237). -/
def sendEntry (r : JRing) (e : JEntry) (s : State) : Option State :=
  let left := 2 ^ r.log - s.ks.wpos
  let pad := if left < e.slots then left else 0
  if ringFree s < pad + e.slots then none
  else if 128 < s.ks.streamUsed + 2 * (pad + e.slots) then none
  else
    let s := if pad = 0 then s else ringWrite r pad (padEntry pad) s
    some (ringWrite r e.slots e.bytes s)

/-- Stream entries in order until one does not fit. -/
def sendEntries (r : JRing) : List JEntry → State → List JEntry × State
  | [], s => ([], s)
  | e :: t, s =>
    if e.sent then
      let q := sendEntries r t s
      (e :: q.1, q.2)
    else match sendEntry r e s with
    | none => (e :: t, s)
    | some s => let q := sendEntries r t s
                ({ e with sent := true } :: q.1, q.2)

/-- The ring lacks room for the next entry, or its link is away: FULL (R237, R238). FULL set raises vector 3 (R399). -/
def updateFull (s : State) : State :=
  let next := s.ks.entries.find? (fun e => !e.sent)
  let full := match s.ks.ring, next with
    | some r, some e => !linkOpen s r.link || decide (ringFree s < e.slots + (if 2 ^ r.log - s.ks.wpos < e.slots then 2 ^ r.log - s.ks.wpos else 0))
    | some r, none => !linkOpen s r.link
    | none, _ => false
  let s' := { s with ks.full := full }
  if full && !s.ks.full then vector 3 s' else s'

/-- JOURNAL_STREAM (R236 to R238): entries go out, at most 128 units a tick. Vector 3 tells that the ring is no longer
empty (R399). -/
def execJournalStream (s : State) : Res :=
  match s.ks.ring with
  | none => noEvent s
  | some r =>
    if s.ks.entries.all (·.sent) then noEvent s else
    let s := if s.ks.streamTick = s.tick then s else { s with ks.streamTick := s.tick, ks.streamUsed := 0 }
    if !linkOpen s r.link then .next (updateFull s) else
    let wasEmpty := decide (s.ks.wpos = s.ks.jhead)
    let q := sendEntries r s.ks.entries s
    let s' : State := { q.2 with ks.entries := q.1.filter (fun e => !(e.mark && e.sent)) }
    .next (updateFull (if wasEmpty && decide (s'.ks.wpos ≠ s'.ks.jhead) then vector 3 s' else s'))

/-- The last change transmitted, in order. -/
def sentUpTo (s : State) : Option JEntry := ((s.ks.entries.filter (fun e => !e.mark)).takeWhile (·.sent)).getLast?

/-- The chain value an entry's octets carry (R236). -/
def JEntry.chain (e : JEntry) : List Byte := octets e.bytes 0x20 32

/-- ROOT_SLOT_WRITE (R239): changes transmitted since the last slot become durable, and completions leave. -/
def execRootSlotWrite (s : State) : Res :=
  match sentUpTo s with
  | none => noEvent s
  | some e =>
    if s.tick % 16 ≠ 0 ∨ e.seq ≤ s.ks.durableSeq then noEvent s else
    let s := writeSlot e.seq e.chain s
    .next (settle { s with ks.durableSeq := e.seq, ks.entries := s.ks.entries.filter (fun x => x.mark || decide (e.seq < x.seq)) })

/-- KS_JHEAD (R247): host software frees slots. -/
def execKsJhead (value : Nat) (s : State) : Res := viaPf0 s <|
  let h := bits value 23 0
  match s.ks.ring with
  | none => .next (note 0x0D03 0 0xFFFF h 0 s)
  | some r =>
    let n := 2 ^ r.log
    if n ≤ h ∨ (s.ks.wpos + n - s.ks.jhead) % n < (h + n - s.ks.jhead) % n then .next (note 0x0D03 0 0xFFFF h 0 s)
    else .next (updateFull { s with ks.jhead := h })

/-- HOLD_DOWN_EXPIRY (R215): an index is free again. -/
def execHoldDownExpiry (i : Nat) (s : State) : Res :=
  match tblGet s.ks.held i with
  | none => noEvent s
  | some t => whenOk (decide (t ≤ s.tick)) s
      { s with ks.held := tblDel s.ks.held i, ks.freed := tblPut s.ks.freed i t }

/-! ### Snapshot, reload, empty -/

/-- The buffers of a SNAPSHOT or RELOAD payload: ADDR and LEN. -/
def parseBufs (n : Nat) (p : List Byte) : List (Nat × Nat) := (List.range n).map (fun j => (be p (16 * j) 8, be p (16 * j + 8) 8))

/-- Occupied segments (R240). -/
def segments (recs : Tbl KRec) : List Nat := (recs.map (fun p => p.1 / 2 ^ 20)).eraseDups

/-- Octets of a snapshot of so many segments (R240). -/
def imageSize (segs : Nat) : Nat := 8192 + 2 ^ 21 + segs * 2 ^ 28

/-- A migration is running (R244). -/
def migrating (s : State) : Bool := s.ks.mig.any (fun m => decide (m.done.length < 128))

/-- SNAPSHOT (R240, R398). -/
def snapshotCmd (h : Held) (p : List Byte) (s : State) : State :=
  let bufs := parseBufs (be p 0 4) (p.drop 8)
  if s.ks.state ≠ 2 ∨ migrating s = true ∨ s.ks.snap.isSome = true ∨ 4 ≤ longsRunning s then refuse St.busy 0 s
  else if (bufs.map (·.2)).sum < imageSize (segments s.ks.recs).length then refuse St.grateRange 64 s
  else
    let q := beginLong h.frame.code p s
    respond St.ok 0 s.tick (beBytes 8 q.1) { q.2 with ks.snap := some { opId := q.1, seq := s.ks.snapSeq + 1, bufs } }

/-- SNAPSHOT (R240). -/
def execSnapshot (s : State) : Res := withCmd 0x0604 s snapshotCmd

/-- The capture, at the sample point after the command (R240). -/
def takeSnap (s : State) : State :=
  match s.ks.snap with
  | some n =>
    if n.taken then s else
    { s with ks.snap := some { n with taken := true, changeSeq := s.ks.changeSeq, chain := s.ks.chain, gen := s.ks.storeGen
                                      format := newestFormat s, recs := s.ks.recs, minors := s.ks.minors, majors := s.ks.majors
                                      doms := s.ks.doms, epochs := s.ks.epochs } }
  | none => s

/-- One segment of a snapshot, as the store stood at the capture (R240). -/
def segBytes (s : State) (n : Snap) (seg : Nat) : List Byte :=
  let t : State := { s with ks.recs := n.recs, ks.storeGen := n.gen, ks.minors := n.minors, ks.majors := n.majors }
  (List.range (2 ^ 20)).flatMap (fun j => sealRec t (seg * 2 ^ 20 + j) (plainAt t (seg * 2 ^ 20 + j)))

/-- A snapshot's octets: the header with its HMAC, the tables, the segments (R240). -/
def imageBytes (s : State) (n : Snap) : List Byte :=
  let segs := segments n.recs
  let datas := segs.map (segBytes s n)
  let head := octets (Config.snapHeader n.seq n.changeSeq n.chain n.gen n.format segs (datas.map Config.sha384)) 0 8144
  let tables := n.doms.flatMap (fun p => domBytes 0 p.1 p.2 ++ beBytes 2 p.2.cur ++ beBytes 2 p.2.oldest) ++ n.epochs.flatMap epochBytes
  head ++ ksImgMac s n.gen head ++ octets (Config.snapTables tables) 0 (2 ^ 21) ++ datas.flatten

/-- Write octets over buffers in order, on host link 0. -/
def spill : List (Nat × Nat) → List Byte → State → State
  | [], _, s => s
  | (a, n) :: t, bs, s => if bs.isEmpty then s else spill t (bs.drop n) (writeHost 0 none false a (bs.take n) s)

/-- A snapshot ends: its image stands in the buffers (R240). -/
def endSnapshot (n : Snap) (s : State) : Nat × State :=
  if (n.bufs.map (·.2)).sum < imageSize (segments n.recs).length then (St.grateRange, { s with ks.snap := none })
  else (St.ok, spill n.bufs (imageBytes s n) { s with ks.snap := none, ks.snapSeq := n.seq })

/-- RELOAD (R241, R398). Nothing recovers an erased store (R204). -/
def reloadCmd (h : Held) (p : List Byte) (s : State) : State :=
  if s.ks.state = 4 then refuse St.stateForbids 0 s
  else if s.ks.loadOp.isSome = true ∨ s.ks.snap.isSome = true ∨ 4 ≤ longsRunning s then refuse St.busy 0 s
  else
    let q := beginLong h.frame.code p s
    respond St.ok 0 s.tick (beBytes 8 q.1) <| refreshRegime { q.2 with ks.loadOp := some (q.1, s.ks.state), ks.loadSince := s.tick, ks.state := 1 }

/-- RELOAD (R241). -/
def execReload (s : State) : Res := withCmd 0x0605 s reloadCmd

/-- Journal entries of an image after its snapshot, up to a change number. -/
def imageTail (img : Image) (upTo : Nat) : List Replay :=
  img.journal.filter (fun e => decide (img.changeSeq < e.seq) && decide (e.seq ≤ upTo))

/-- The refusal of an image, as DETAIL (R241, R243). STORE_GEN is looked at first, so that an earlier generation's image is
refused with 5. -/
def imageFault (img : Image) (root : RootSlot) : Option Nat :=
  let tail := imageTail img root.changeSeq
  if img.storeGen ≠ root.gen then some 5
  else if !img.headerOk then some 1
  else if !img.segmentsOk then some 2
  else if tail.map (·.seq) ≠ (List.range (root.changeSeq - img.changeSeq)).map (img.changeSeq + 1 + ·) then some 3
  else if (if img.changeSeq = root.changeSeq then some img.chain else (tail.getLast?).map (·.chain)) ≠ some root.chain then some 4
  else none

/-- Replay one change (R242). -/
def replay (s : State) (e : Replay) : State :=
  match e.kind with
  | .written rs => { s with ks.recs := rs.foldl (fun t p => tset {} t p.1 p.2) s.ks.recs }
  | .erased i f => { s with ks.recs := (eraseSet s i).foldl (fun t j => tset {} t j { gen := (krec s j).gen, format := f }) s.ks.recs }
  | .domain d x =>
    let old := dom s d
    setDom d { x with cur := old.cur, oldest := old.oldest } s
  | .epoch c => { s with ks.epochs := s.ks.epochs ++ [c] }
  | .other => s

/-- A reload that succeeds (R241, R242): fresh counters, every empty index free, pins in force. -/
def loadImage (img : Image) (root : RootSlot) (s : State) : State :=
  let ks : KsSt := { s.ks with
    state := 2, format := img.format, mig := none, nodes := [], scrubStart := s.tick, scrubSeen := [], recs := img.recs.foldl (fun t p => tset {} t p.1 p.2) [], doms := img.doms.foldl (fun t p => tset {} t p.1 p.2) []
    epochs := img.epochs, held := [], freed := [], quar := [], quarTicks := [], cache := [], fetching := [], minors := [], majors := []
    changes := [], changeSeq := root.changeSeq, durableSeq := root.changeSeq, chain := root.chain, entries := [], loadOp := none }
  let s := (imageTail img root.changeSeq).foldl replay { s with ks }
  let s : State := { s with ks.newest := s.ks.recs.foldl (fun m p => max m p.2.format) img.format }
  let due := s.ks.epochs.filter (fun c => decide (c.tick ≤ s.tick))
  due.foldl (fun s c => setDom c.domain { dom s c.domain with cur := c.cur, oldest := c.oldest } s)
    { s with ks.epochs := s.ks.epochs.filter (fun c => decide (s.tick < c.tick)) }

/-- A reload ends: the status and DETAIL of the long command (R241). A refused image leaves the store as it was. -/
def endReload (img : Image) (before : Nat) (s : State) : Nat × Nat × State :=
  match rootSlot s with
  | none => (St.keyImageRejected, 3, { s with ks.state := before, ks.loadOp := none })
  | some root =>
    match imageFault img root with
    | some d => (St.keyImageRejected, d, { s with ks.state := before, ks.loadOp := none })
    | none => (St.ok, 0, loadImage img root s)

/-- STORE_EMPTY (R243). -/
def storeEmptyCmd (_ : Held) (_ : List Byte) (s : State) : State :=
  if s.ks.state = 4 then refuse St.stateForbids 0 s else respond St.ok 0 s.tick [] (emptyStore s)

/-- STORE_EMPTY (R243). -/
def execStoreEmpty (s : State) : Res := withCmd 0x0606 s storeEmptyCmd

/-! ### Ceremonies (R234) -/

/-- CER_OPEN (R226, R234): one ceremony at most. -/
def cerOpenCmd (_ : Held) (p : List Byte) (s : State) : State :=
  match firstBad (placeNew [1, 2, 3, 4, 5] p) with
  | some e => refuse St.grateRange (frameOffset e 0) s
  | none =>
    if s.ks.cer.isSome then refuse St.busy 0 s else
    let q := draw s
    let r := draw q.2
    let seed := q.1
    let nonce := beBytes 32 r.1
    let c : Ceremony := { id := s.ks.nextCer, place := octets p 0 64, domain := be p 64 2, nonce, seed
                          needed := (s.prov.rules.getD 5 ⟨0, 0, 0, 0⟩).kc, opened := s.tick }
    let s := { r.2 with ks.cer := some c, ks.nextCer := c.id + 1 }
    respond St.ok 0 s.tick (beBytes 8 c.id ++ nonce ++ octets (Config.cerEk seed) 0 1184 ++ octets (Config.cerX25519 seed) 0 32) s

/-- CER_OPEN (R234). -/
def execCerOpen (s : State) : Res := withCmd 0x0607 s cerOpenCmd

/-- The open ceremony that a payload names. -/
def openCer (s : State) (p : List Byte) : Option Ceremony := s.ks.cer.filter (fun c => decide (c.id = be p 0 8))

/-- The Key Custodians among a frame's signers (R410). -/
def custodians (s : State) (h : Held) : List Nat :=
  (List.range 32).filter (fun i => bitOf h.signers i && decide ((s.prov.creds.getD i {}).role = 2))

/-- A component recovered by the hybrid method of R232, its CTX the nonce and the component's number; none when it does not open (R234). -/
def cerOpened (c : Ceremony) (n : Nat) (ct x block : List Byte) : Option (List Byte) :=
  (hybridSecret (Config.cerDk c.seed) (Config.cerSk c.seed) (ct ++ x)).bind (fun z =>
    Config.unwrapBlock (agreedKbpk z (c.nonce ++ beBytes 1 n)) block)

/-- CER_COMPONENT (R232, R234). -/
def cerComponentCmd (h : Held) (p : List Byte) (s : State) : State :=
  match openCer s p with
  | none => refuse St.grateRange 64 s
  | some c =>
    let n := be p 8 1
    let t := le c.place 4 1
    if n = 0 ∨ c.needed < n ∨ c.parts.any (fun q => decide (q.1 = n)) = true then refuse St.grateRange 72 s
    else if be p 9 1 ≠ kcvLenOf t then refuse St.grateRange 73 s
    else if (custodians s h).any (fun k => decide (k ∈ c.used)) then refuse St.notAuthorised 0 s
    else match cerOpened c n (octets p 24 1088) (octets p 1112 32) (p.drop 1152) with
    | none => refuse St.keyBlockInvalid 0 s
    | some m =>
      if !lengthFits t m.length then refuse St.keyBlockInvalid 0 s
      else if octets (kcvOf t m) 0 (kcvLenOf t) ≠ octets p 16 (kcvLenOf t) then refuse St.keyCheckFailed 0 s
      else respond St.ok 0 s.tick [] { s with ks.cer := some { c with parts := c.parts ++ [(n, m)], used := c.used ++ custodians s h } }

/-- CER_COMPONENT (R234). -/
def execCerComponent (s : State) : Res := withCmd 0x0608 s cerComponentCmd

/-- The components combined (R234). -/
def combined (c : Ceremony) : List Byte :=
  match c.parts with
  | [] => []
  | p :: t => t.foldl (fun a q => xorBytes a q.2) p.2

/-- CER_COMMIT (R225, R234). The response gives the handle and the check value. -/
def cerCommitCmd (_ : Held) (p : List Byte) (s : State) : State :=
  match openCer s p with
  | none => refuse St.grateRange 64 s
  | some c =>
    let t := le c.place 4 1
    let raw := combined c
    let m := if isTdes t then setParity raw else raw
    if noRing s ∨ c.parts.length < c.needed then refuse St.busy 0 s
    else if c.parts.any (fun q => decide (q.2 = raw)) || (isTdes t && !tdesStrong m) then refuse St.keyCheckFailed 0 s
    else match placement s c.domain c.place (namedKey c.place 4 m) with
    | .inl e => refuse e.1 e.2 s
    | .inr (i, r) =>
      let s := { s with ks.cer := none, ks.changes := s.ks.changes ++ [{ kind := .place i r }] }
      respondAt (s.tick + 1) (beBytes 4 (r.gen * 2 ^ 27 + i) ++ beBytes 4 0 ++ octets r.kcv 0 8) s

/-- CER_COMMIT (R234). -/
def execCerCommit (s : State) : Res := withCmd 0x0609 s cerCommitCmd

/-- CER_ABORT (R234). -/
def cerAbortCmd (_ : Held) (p : List Byte) (s : State) : State :=
  match openCer s p with
  | none => refuse St.grateRange 64 s
  | some _ => respond St.ok 0 s.tick [] { s with ks.cer := none }

/-- CER_ABORT (R234). -/
def execCerAbort (s : State) : Res := withCmd 0x060A s cerAbortCmd

/-- CEREMONY_EXPIRY (R234). -/
def execCeremonyExpiry (s : State) : Res :=
  whenOk (s.ks.cer.any (fun c => decide (c.opened + 2 ^ 29 ≤ s.tick))) s { s with ks.cer := none }

/-! ### Migration (R244) -/

/-- A firmware image that brings the next format starts a migration (R244); a snapshot holds it off (R240). -/
def startMigration (s : State) : State :=
  let target := Config.imageFormat (if s.lc.runSlot = 0 then s.lc.slotA else s.lc.slotB).image
  if s.ks.state = 2 ∧ s.lc.ready = true ∧ target = s.ks.format + 1 ∧ migrating s = false ∧ s.ks.snap.isNone = true ∧ (lcRec s).trial = false then
    { s with ks.mig := some { target } } else s



/-- MIGRATION_SEGMENT_SWITCH (R244): a segment's copy is whole, no record of it left to copy again; it switches at the next sample point. -/
def execMigrationSegmentSwitch (seg : Nat) (s : State) : Res :=
  match s.ks.mig with
  | none => noEvent s
  | some m => whenOk (decide (seg ∈ copying m) && decide (seg ∉ m.copied) && m.again.all (fun i => decide (i / 2 ^ 20 ≠ seg))) s
      { s with ks.mig := some { m with copied := m.copied ++ [seg] } }

/-- A segment switches to its new place and format (R31, R244). -/
def switchSegment (s : State) (seg : Nat) : State :=
  match s.ks.mig with
  | none => s
  | some m =>
    let done := m.done ++ [seg]
    { s with
      ks.mig := some { m with done, copied := m.copied.erase seg }
      ks.recs := (s.ks.recs.filter (fun p => decide (p.1 / 2 ^ 20 = seg))).foldl (fun t p => tset {} t p.1 { p.2 with format := m.target }) s.ks.recs
      ks.newest := max m.target s.ks.newest
      ks.format := if done.length = 128 then m.target else s.ks.format }

/-- The migration at a sample point: the segments copied switch, and the records to copy again have been (R244). -/
def migrationPoint (s : State) : State :=
  match s.ks.mig with
  | none => s
  | some m => m.copied.foldl switchSegment { s with ks.mig := some { m with again := [] } }

end Sys2Proof.Machine
end

