-- ==== Sys2Proof/Machine/Firebox.lean ====
section
/-!
DEFINITION. The firebox monitor: sensors, conditions and decisions taken twice (R451 to R462, R471, R472), and the board-side
clock and supply events.
-/
namespace Sys2Proof.Machine

/-- A condition of R452 as one sample shows it. -/
structure Cond where
  idx     : Nat
  need    : Nat
  cls     : Nat
  present : Bool
  thr     : Int
  deriving DecidableEq, Repr

/-- The conditions of one sensor instance (R452), but for the die temperatures. -/
def condsOf (s : State) (r : SensorReading) : List Cond :=
  let base := baselineOf s r.sensor r.inst
  let tol := toleranceOf s r.sensor r.inst
  let v := r.value
  match r.sensor with
  | 0 | 1 => [⟨0, 2, 3, !r.good, 0⟩, ⟨1, 4, 3, decide ((v - base).natAbs * 100 > tol.natAbs * base.natAbs), base⟩]
  | 2 => [⟨0, 2, 2, !r.good && s.pin.mainPower && ((lcState s).service || decide (lcState s = .locked)), 0⟩]
  | 3 => [⟨0, 4, 3, decide (v < base - tol), base - tol⟩, ⟨1, 4, 2, decide (base + 2000 ≤ v), base + 2000⟩]
  | 4 => [⟨0, 2, 3, decide (20000 < v), 20000⟩]
  | 5 => [⟨0, 32, 3, decide (base + tol < v), base + tol⟩, ⟨1, 1000, 1, decide (base + 96 ≤ v), base + 96⟩]
  | 7 => [⟨0, 2, 3, decide (v < -720 ∨ 1600 < v), if v < 0 then -720 else 1600⟩, ⟨1, 2, 2, decide (v < 0) && s.pin.mainPower, 0⟩]
  | 8 => [⟨0, 1000, 1, decide (v < 240 ∨ 720 < v), if v < 240 then 240 else 720⟩, ⟨1, 16, 2, decide (880 < v), 880⟩]
  | 9 => [⟨0, 1000, 1, decide (v < 2000), 2000⟩, ⟨1, 1000, 2, decide (v < 1000), 1000⟩]
  | 10 => [⟨0, 2, 2, decide (3840 < v), 3840⟩]
  | 11 => [⟨0, 1, 2, !r.good || decide (80 < v.natAbs), 80⟩]
  | 12 => [⟨0, 1, 2, !r.good || decide (200 < v.natAbs), 200⟩]
  | 13 => [⟨0, 16, 1, decide (v < 2600), 2600⟩, ⟨1, 2, 2, decide (3900 < v), 3900⟩]
  | 14 => [⟨0, 16, 1, decide (v < 25), 25⟩]
  | _ => []

/-- The die conditions, on the hottest and the coldest valid reading of a sample (R452). -/
def dieConds (hot cold : Int) : List Cond :=
  [⟨0, 2, 1, decide (1600 ≤ hot), 1600⟩, ⟨1, 2, 2, decide (1760 ≤ hot), 1760⟩,
   ⟨2, 2, 3, decide (2000 ≤ hot ∨ cold ≤ -320), 2000⟩]

/-- The class of a sensor fault (R455). -/
def faultClass (sensor : Nat) : Nat :=
  match sensor with
  | 0 | 1 => 3
  | 3 | 4 | 5 | 7 | 11 | 12 => 2
  | 6 | 8 | 9 | 10 | 13 | 14 => 1
  | _ => 0

/-- Advance one condition's run by a sample; true when it has just met its F (R452). -/
def CondRun.step (c : CondRun) (present : Bool) (need : Nat) : CondRun × Bool :=
  if present then
    let hold := min (c.hold + 1) need
    ({ hold, clear := 0, active := c.active || decide (need ≤ hold) }, decide (need ≤ hold) && !c.active)
  else
    let clear := min (c.clear + 1) 16
    ({ hold := 0, clear, active := c.active && decide (clear < 16) }, false)

/-- Advance one condition in the table; a hit when it met its F. -/
def stepCond (r : SensorReading) (acc : State × List Hit) (c : Cond) : State × List Hit :=
  let key := sensorKey r.sensor r.inst * 8 + c.idx
  let q := (tget {} acc.1.tm.conds key).step c.present c.need
  let s := { acc.1 with tm.conds := tset {} acc.1.tm.conds key q.1 }
  (s, if q.2 then ⟨c.cls, r.sensor, r.inst, r.value, r.good, c.idx, c.thr, c.need, false⟩ :: acc.2 else acc.2)

/-- The other instance of a duplicated sensor differs by more than four times the tolerance (R455). -/
def dupDiffers (s : State) (rs : List SensorReading) (r : SensorReading) : Bool :=
  decide (r.sensor ∈ [3, 5, 7, 8]) &&
  rs.any (fun q => decide (q.sensor = r.sensor) && decide (q.inst ≠ r.inst) && q.valid &&
    decide (4 * (toleranceOf s r.sensor r.inst).natAbs < (q.value - r.value).natAbs))

/-- One reading of a sample: the sensor's own state, its fault, its conditions (R452, R455). -/
def takeReading (rs : List SensorReading) (acc : State × List Hit) (r : SensorReading) : State × List Hit :=
  let s := acc.1
  let k := sensorKey r.sensor r.inst
  let old := tget {} s.tm.sensors k
  let same := if old.seen && decide (old.reading = r.value) then old.same + 1 else 0
  let bad := !r.valid || decide (2 ^ 16 ≤ same + 1) || dupDiffers s rs r
  let run := if bad then min (old.faultRun + 1) 2 else 0
  let clear := if bad then 0 else min (old.clear + 1) 16
  let faulty := decide (faultClass r.sensor ≠ 0) && (decide (2 ≤ run) || (old.faulty && decide (clear < 16)))
  let s := { s with tm.sensors := tset {} s.tm.sensors k { reading := r.value, same, faultRun := run, clear, faulty, seen := true } }
  let hits := if faulty && !old.faulty then ⟨faultClass r.sensor, r.sensor, r.inst, r.value, r.good, 0, 0, 2, true⟩ :: acc.2 else acc.2
  if r.valid then (condsOf s r).foldl (stepCond r) (s, hits) else (s, hits)

/-- The hottest and coldest valid die readings. -/
def dieRange (rs : List SensorReading) : Option (Nat × Int × Int) :=
  rs.foldl (fun a r => if r.sensor = 6 ∧ r.valid = true then
      match a with
      | none => some (r.inst / 4, r.value, r.value)
      | some (d, h, c) => some (if h < r.value then r.inst / 4 else d, max h r.value, min c r.value)
    else a) none

/-- All four temperature sensors of one die are faulty: class L (R455). -/
def dieBlind (s : State) : Option Nat :=
  (List.range 9).find? (fun d => (List.range 4).all (fun i => (tget {} s.tm.sensors (sensorKey 6 (4 * d + i))).faulty))

/-- Take a whole sample; the hits it made (R452). -/
def takeSample (rs : List SensorReading) (s : State) : State × List Hit :=
  let q := rs.foldl (takeReading rs) (s, [])
  let q := match dieRange rs with
    | none => q
    | some (d, hot, cold) => (dieConds hot cold).foldl (stepCond ⟨6, 48 + d % 9, hot, true, true⟩) q
  match dieBlind q.1, dieBlind s with
  | some d, none => (q.1, ⟨2, 6, 4 * d, 0, true, 0, 0, 2, true⟩ :: q.2)
  | _, _ => q

/-- A battery-time event goes to the buffer (R460). -/
def battEvent (e : BattEvt) (s : State) : State :=
  let s := if e.cls = 2 then { s with tm.lSeen := true } else s
  if s.tm.battBuf.length < 256 then { s with tm.battBuf := s.tm.battBuf ++ [e] }
  else
    match (if e.cls = 1 then none else s.tm.battBuf.find? (fun x => decide (x.cls = 1))) with
    | some x => { s with tm.battBuf := s.tm.battBuf.erase x ++ [e] }
    | none => { s with tm.battLost := s.tm.battLost + 1 }

/-- The KIND 1 detail: instance, F, sensor fault (R468). -/
def kind1Detail (inst need : Nat) (fault : Bool) : Nat := inst % 256 + (need % 256) * 256 + 65536 * b2n fault

/-- A reading as an octet-string value. -/
def readingNat (v : Int) : Nat := twos 64 v

/-- KIND, VALUE_A, VALUE_B and DETAIL of a hit's evidence entry (R457, R468): a cell low, absent or over its voltage is KIND 11, all else KIND
1. -/
def hitEvid (h : Hit) (s : State) : Nat × Nat × Nat × Nat :=
  let cell := fun (i : Nat) => readingNat (tget {} s.tm.sensors (sensorKey 13 i)).reading
  if h.sensor = 13 ∧ h.fault = false then (11, cell 0, cell 1, if h.cls = 2 then 3 else if h.reading < 1500 then 1 else 0)
  else (1, readingNat h.reading, readingNat h.thr, kind1Detail h.inst h.need h.fault)

/-- A class N event (R462): decided once. -/
def nEvent (h : Hit) (s : State) : State :=
  let (kind, a, b, detail) := hitEvid h s
  if !s.pin.mainPower then battEvent ⟨s.tick, 1, kind, h.sensor, a, b, detail⟩ s
  else
    let seq := s.tm.evidNext
    let s := if h.sensor = 13 ∨ h.sensor = 14 ∨ h.sensor = 15 then evidAppend (evidNow kind 1 h.sensor a b detail s) s else s
    tamperReport 1 false seq (tmLast 1 h.sensor h.inst false s)

/-- A hit goes to the battery-time event buffer (R460). -/
def recordLater (h : Hit) (s : State) : State :=
  let (kind, a, b, detail) := hitEvid h s
  battEvent ⟨s.tick, h.cls, kind, h.sensor, a, b, detail⟩ s

/-- Record a Z or L hit without a response of its own (R465, R472). -/
def recordHit (h : Hit) (s : State) : State :=
  if !s.pin.mainPower then recordLater h s
  else
    let (kind, a, b, detail) := hitEvid h s
    let seq := s.tm.evidNext
    let s := evidAppend (evidNow kind h.cls h.sensor a b detail s) s
    tamperReport h.cls false seq (tmLast h.cls h.sensor h.inst false s)

/-- The first decision on a Z or L condition: grants stop, PENDING is set, and for Z the exits stop (R461). The delay is
drawn up to 32 ticks. Vector 2 comes with the change of TM_SUMMARY, or at once before the hand-over (R399). -/
def firstDecision (h : Hit) (s : State) : State :=
  let (v, s) := draw s
  let s := { s with
    tm.pending := some ⟨h, s.tk.band, s.pin.mainPower, s.tick + v % 33⟩
    tm.grantStop := true, tm.exitStop := s.tm.exitStop || decide (h.cls = 3) }
  if s.pin.mainPower && !handed s then vector 2 s else s

/-- One hit of a sample (R461, R465, R472): none in MANUFACTURE; a reference clock absent at power-good waits for stage 3 (R570); N at once; Z before L; a second Z or L while one is pending is recorded. -/
def takeHit (s : State) (h : Hit) : State :=
  if lcState s = .manufacture then s
  else if h.sensor = 12 ∧ s.pin.mainPower = true ∧ s.lc.stage = 0 then recordLater h s
  else if h.cls = 1 then nEvent h s
  else if !responds s h.cls then recordHit h s
  else match s.tm.pending with
    | none => firstDecision h s
    | some d =>
      if d.hit.cls = 2 ∧ h.cls = 3 then firstDecision h (recordHit d.hit { s with tm.pending := none })
      else recordHit h s

/-- The bellows runs from its internal oscillator once the reference clock is found faulty (R570). -/
def clockFault (hs : List Hit) (s : State) : State :=
  if s.pin.mainPower && hs.any (fun h => decide (h.sensor = 12)) then { s with tm.clockRc := true, tm.rcSince := s.tick } else s

/-- The hits of one sample, Z first (R472). -/
def takeHits (hs : List Hit) (s : State) : State :=
  let s := clockFault hs s
  (hs.filter (fun h => decide (h.cls ≠ 3))).foldl takeHit ((hs.filter (fun h => decide (h.cls = 3))).foldl takeHit s)

/-- Collect samples for the baselines of the band in force (R454). -/
def collectBaselines (rs : List SensorReading) (s : State) : State :=
  if (lcState s = .operational ∨ lcState s = .maintenance) ∧ s.tm.bandSince + 2 ^ 16 ≤ s.tick then
    let add := fun (t : Tbl Collect) (r : SensorReading) =>
      let c := tget {} t (sensorKey r.sensor r.inst)
      if 2 ^ 20 ≤ c.count then t else
      tset {} t (sensorKey r.sensor r.inst) { count := c.count + 1, sum := c.sum + r.value }
    { s with tm.collects := (rs.filter (fun r => r.valid && decide (r.sensor ∈ [0, 1, 3, 5]))).foldl add s.tm.collects }
  else s

/-! ### The health block (R573) -/

/-- The conditions of R452 that are class L: sensor and place. -/
def lConds : List (Nat × Nat) := [(2, 0), (3, 1), (7, 1), (8, 1), (9, 1), (10, 0), (11, 0), (12, 0), (13, 1), (6, 1)]

/-- An L condition is active (R466): TM_SUMMARY.ACTIVE_L. -/
def activeL (s : State) : Bool :=
  s.tm.conds.any (fun p => p.2.active && decide ((p.1 / 8 / 64, p.1 % 8) ∈ lConds)) ||
  s.tm.sensors.any (fun p => p.2.faulty && decide (faultClass (p.1 / 64) = 2)) || (dieBlind s).isSome ||
  decide (sourcesOn s = 0) ||
  (s.tm.thermalLock && s.tm.sensors.any (fun p => decide (p.1 / 64 = 6) && decide (p.2.faultRun = 0) && decide (1600 ≤ p.2.reading)))

/-- The last reading of a sensor instance. -/
def lastReading (s : State) (sensor inst : Nat) : Int := (tget {} s.tm.sensors (sensorKey sensor inst)).reading

/-- A condition of R452 is present on some instance of a sensor. -/
def condActive (s : State) (sensor idx : Nat) : Bool :=
  s.tm.conds.any (fun p => p.2.active && decide (p.1 / 512 = sensor ∧ p.1 % 8 = idx))

/-- A condition of one instance of a sensor; the die conditions stand once a die. -/
def condOn (s : State) (sensor inst idx : Nat) : Bool :=
  (tget {} s.tm.conds (sensorKey sensor (if sensor = 6 then 48 + inst / 4 else inst) * 8 + idx)).active

/-- A cell is present and not low. -/
def cellOk (s : State) (i : Nat) : Bool :=
  let x := tget ({} : SensorSt) s.tm.sensors (sensorKey 13 i)
  x.seen && !x.faulty && !condOn s 13 i 0 && decide (0 < x.reading)

/-- The fields of TM_SUMMARY: place, width, value (R474). -/
def summaryFields (s : State) : List (Nat × Nat × Nat) :=
  let t := s.tm
  let coolant := handed s && (condActive s 8 0 || condActive s 9 0)
  [(30, 2, t.arm), (29, 1, b2n t.pending.isSome), (28, 1, b2n (activeL s)), (27, 1, b2n t.ember), (26, 1, b2n (baseCons s)), (25, 1, b2n t.clockRc),
   (24, 1, b2n (!cellOk s 0 || !cellOk s 1)), (23, 1, b2n coolant), (22, 1, b2n t.full), (21, 1, b2n t.battEvents), (19, 2, s.tk.band),
   (17, 2, t.lastClass)]

/-- A change in TM_SUMMARY raises vector 2 (R399): seen at once after what the firebox takes, and else at the sample point that follows. -/
def summaryPoint (s : State) : State :=
  if !handed s then s else
  let v := (summaryFields s).map (·.2.2)
  if s.tm.shown = some v then s
  else (if s.tm.shown.isNone then id else vector 2) { s with tm.shown := some v }

/-- The hottest die and its temperature, over the readings that are no sensor fault (R451). -/
def hottestDie (s : State) : Nat × Int :=
  ((s.tm.sensors.filter (fun p => decide (p.1 / 64 = 6) && p.2.seen && decide (p.2.faultRun = 0))).foldl
    (fun (a : Option (Nat × Int)) p => match a with
      | none => some (p.1 % 64 / 4, p.2.reading)
      | some m => if m.2 < p.2.reading then some (p.1 % 64 / 4, p.2.reading) else some m) none).getD (0, 0)

/-- FLAGS of the health block; 0 before the end of stage 3 (R573, R574). -/
def healthFlags (s : State) : Nat :=
  if s.lc.stage < 3 then 0 else
  b2n (activeL s) + 2 * b2n (condActive s 8 0 || condActive s 9 0) + 4 * b2n (decide (1600 ≤ (hottestDie s).2)) +
  8 * b2n (condActive s 13 0) + 16 * b2n s.lc.ready + 32 * b2n s.tk.pwrFault + 64 * s.tm.lastClass

/-- The 32 octets of the health block (R573). -/
def healthBlock (s : State) : List Byte :=
  leBytes 1 1 ++ leBytes 1 (if s.lc.stage < 3 then 0 else s.lc.shownLc) ++ leBytes 1 (healthFlags s) ++ leBytes 1 s.tk.band ++
  leBytes 2 s.tk.powerW ++ leBytes 2 (twos 16 (lastReading s 10 0)) ++ leBytes 2 (twos 16 (lastReading s 8 0)) ++
  leBytes 2 (twos 16 (lastReading s 9 0)) ++ leBytes 2 (twos 16 (hottestDie s).2) ++ leBytes 1 (hottestDie s).1 ++ leBytes 1 0 ++
  leBytes 2 (twos 16 (lastReading s 13 0)) ++ leBytes 2 (twos 16 (lastReading s 13 1)) ++ leBytes 1 (twos 8 (lastReading s 14 0)) ++
  leBytes 3 0 ++ leBytes 4 (bits s.tick 50 19) ++ leBytes 4 0

/-- The health block is refreshed, and HEALTH_ALERT# with it (R565, R573). -/
def refreshHealth (s : State) : State :=
  let s : State := { s with pin.smbFresh := healthBlock s }
  { s with pin.healthAlert := decide (healthFlags s % 8 ≠ 0) }

/-! ### Samples and decisions -/

/-- TAMPER_SAMPLE (R452): a sample on main power, at a tick that is a multiple of 500. -/
def execTamperSample (rs : List SensorReading) (s : State) : Res :=
  if s.pin.mainPower && decide (s.tick % 500 = 0) && decide (s.tm.arm ≠ 0 ∨ lcState s = .manufacture) then
    let q := takeSample rs s
    let s := takeHits q.2 (collectBaselines rs q.1)
    .next (summaryPoint (refreshHealth s))
  else noEvent s

/-- The sensors the monitor reads on battery (R451). -/
def batterySensors : List Nat := [0, 1, 3, 4, 5, 7, 13, 14]

/-- BATTERY_SAMPLE (R451, R460): the sensors of R451 at the periods the crystal counts. -/
def execBatterySample (rs : List SensorReading) (s : State) : Res :=
  if !s.pin.mainPower && rs.all (fun r => decide (r.sensor ∈ batterySensors) &&
      (decide (r.sensor ≠ 5) || decide (0 < s.tm.wakeLeft))) then
    let q := takeSample rs s
    let s := q.1
    let s := if rs.any (fun r => decide (r.sensor = 5)) then { s with tm.wakeLeft := s.tm.wakeLeft - 1 } else s
    .next (takeHits q.2 s)
  else noEvent s

/-- VIBRATION_WAKE (R451): on battery the comparator wakes; 64 samples follow. -/
def execVibrationWake (s : State) : Res := whenOk (!s.pin.mainPower) s { s with tm.wakeLeft := 64 }

/-- A latched sample meets its condition under the thresholds and baselines as they stand (R461); a sensor fault and the die temperatures rest on
nothing that changes. -/
def stillMet (d : TamperDec) (s : State) : Bool :=
  let h := d.hit
  h.fault || decide (h.sensor = 6) ||
  (condsOf { s with tk.band := d.band, pin.mainPower := d.main } ⟨h.sensor, h.inst, h.reading, h.good, true⟩).any (fun c => decide (c.idx = h.idx) && c.present)

/-- The two decisions disagree: a class L event of the monitor's own (R461 step 4). -/
def tamperSplit (d : TamperDec) (s : State) : State :=
  let seq := s.tm.evidNext
  if !s.pin.mainPower then battEvent ⟨s.tick, 2, 2, 0x28, 1, 0, d.hit.sensor⟩ { s with tm.grantStop := false }
  else
    let s := evidAppend { evidNow 2 2 0x28 1 0 d.hit.sensor s with split := true } (releaseExits true s)
    summaryPoint (lockResponse seq (tamperReport 2 true seq (tmLast 2 0x28 0 true s)))

/-- The two decisions agree: the hit is recorded and its class's response carried out (R461 step 3, R462). -/
def tamperAgreed (d : TamperDec) (s : State) : State :=
  let seq := s.tm.evidNext
  let s := recordHit d.hit s
  if d.hit.cls = 3 then summaryPoint (zeroResponse seq s)
  else if !s.pin.mainPower then { s with tm.grantStop := false }
  else summaryPoint (lockResponse seq (if d.hit.sensor = 6 ∧ d.hit.fault = false then { s with tm.thermalLock := true } else s))

/-- TAMPER_SECOND_DECISION (R461): the latched sample, the thresholds and the baselines are read again; `fault` turns the result over. -/
def execTamperSecondDecision (fault : Bool) (s : State) : Res :=
  match s.tm.pending with
  | none => noEvent s
  | some d =>
    if s.tick < d.due then noEvent s else
    let s := { s with tm.pending := none }
    .next (if stillMet d s = fault then tamperSplit d s else tamperAgreed d s)

/-! ### Clock and supply -/

/-- MONITOR_CRYSTAL_PERIOD (R26): 10^9 / 2^26 ticks a period while main power is absent, and until the bellows runs. -/
def execMonitorCrystalPeriod (s : State) : Res :=
  if s.pin.mainPower && decide (s.lc.stage ≠ 0) then noEvent s else
  let acc := s.tm.accFrac + 10 ^ 9
  let k := acc / 2 ^ 26
  .next { s with tick := s.tick + k, tm.accFrac := acc % 2 ^ 26
                 tm.battTicks := if s.pin.mainPower then s.tm.battTicks else s.tm.battTicks + k }

/-- CRYSTAL_STOP (R459): the RC oscillator takes over, and an N event is raised. -/
def execCrystalStop (s : State) : Res :=
  whenOk (!s.tm.clockRc) s (summaryPoint (nEvent ⟨1, 15, 0, 0, false, 0, 0, 0, false⟩ { s with tm.clockRc := true, tm.rcSince := s.tick }))

/-- CRYSTAL_RESTORED (R459): 2^16 ticks on main power have passed since the crystal stopped or main power came. -/
def execCrystalRestored (s : State) : Res :=
  whenOk (s.tm.clockRc && s.pin.mainPower && decide (s.tm.rcSince + 2 ^ 16 ≤ s.tick)) s (summaryPoint { s with tm.clockRc := false })

/-- CELL_SELECT_CHANGE (R457, R458, R577): a cell is taken, removed or inserted; KIND 11 with DETAIL 0 to 3. The cell in use stays until the
other exceeds it by 50 mV; without main power and without a cell the bridge store supplies. -/
def execCellSelectChange (cellA cellB detail : Nat) (s : State) : Res :=
  if 3 < detail then noEvent s else
  let put := fun (t : Tbl SensorSt) (i v : Nat) => tblPut t (sensorKey 13 i) { tget {} t (sensorKey 13 i) with reading := v, seen := true }
  let selB := if s.tm.selB then decide (cellA < cellB + 50) else decide (cellA + 50 ≤ cellB)
  let bridge := !s.pin.mainPower && decide (cellA < 1500 ∧ cellB < 1500)
  let s := { s with tm.selB := selB, tm.bridgeSel := bridge, tm.sensors := put (put s.tm.sensors 0 cellA) 1 cellB }
  .next (if s.pin.mainPower then summaryPoint (evidAppend (evidNow 11 1 13 cellA cellB detail s) s)
    else battEvent ⟨s.tick, 1, 11, 13, cellA, cellB, detail⟩ s)

/-- SUPPLY_EXHAUSTED (R458): the battery-backed memory is lost, and the ember with it. The tick count that the monitor
then starts from is open: a free value (log entry 5). -/
def execSupplyExhausted (s : State) : Res :=
  if s.pin.mainPower then noEvent s else
  let (v, s) := draw s
  .next { s with tm.ember := false, tm.emberLost := true, tm.battBuf := [], tm.battLost := 0, tm.lSeen := false
                 tm.accFrac := 0, tick := v }

/-- BASELINE_COMPLETE (R454): the mean of 2^20 samples is committed when it lies within the factory tolerance. -/
def execBaselineComplete (sensor inst : Nat) (s : State) : Res :=
  let k := sensorKey sensor inst
  let c := tget {} s.tm.collects k
  if c.count < 2 ^ 20 then noEvent s else
  let mean := c.sum / (c.count : Int)
  let fac := Config.factoryBaseline s.tk.band sensor inst
  let inside := match sensor with
    | 0 | 1 => decide ((mean - fac).natAbs * 100 ≤ 20 * fac.natAbs)
    | 3 => decide ((mean - fac).natAbs ≤ 1500)
    | _ => decide ((mean - fac).natAbs ≤ 288)
  let s := { s with tm.collects := tblDel s.tm.collects k }
  let s := if inside then { s with tm.baselines := tblPut s.tm.baselines (s.tk.band * 1024 + k) mean } else s
  let seq := s.tm.evidNext
  let s := evidAppend (evidNow 13 0 sensor s.tk.band (b2n (!inside)) (sensor + inst * 256) s) s
  .next (summaryPoint (if inside then s else tamperReport 1 false seq s))

/-- TM_EVID_SEL (R471): a write of the index loads the entry. -/
def execTmEvidSel (value : Nat) (s : State) : Res := viaPf0 s <|
  let i := value % 2 ^ 18
  let slot := if i < mainSlots then tblGet s.tm.evid i else if i < mainSlots + ringSlots then tblGet s.tm.ring (i - mainSlots) else none
  let q := match slot with
    | none => (1, zero64)
    | some (.whole e true) => (0, e.bytes)
    | some (.whole e false) => (2, e.bytes)
    | some .torn => (3, zero64)
  .next { s with tm.evidSel := i, tm.evidReady := true, tm.evidResult := q.1, tm.evidData := q.2 }

/-- THERMAL_RAIL_REMOVAL (R452): 64 ticks after the LOCKED commit of a thermal lock, once an active L condition of the
die temperature set it off. -/
def execThermalRailRemoval (s : State) : Res :=
  match s.tm.railsDue with
  | none => noEvent s
  | some t => whenOk (decide (t ≤ s.tick)) s { s with tm.railsDue := none, tm.railsOff := true }

end Sys2Proof.Machine
end

