-- ==== Sys2Proof/Machine/Pairs.lean ====
section
/-!
DEFINITION. The controller pairs: stops, take-overs, planned switch-overs, reverts and rotations (R500 to R517), with the
command ledger's answer at a take-over (R416, R441).
-/
namespace Sys2Proof.Machine

/-- The state of pair 0 (HC-A) or 1 (HC-B). -/
def pairState (s : State) (i : Nat) : PairState := if i = 0 then s.hc.a else s.hc.b

/-- Set a pair's state. -/
def setPair (i : Nat) (p : PairState) (s : State) : State := if i = 0 then { s with hc.a := p } else { s with hc.b := p }

/-- The ledger state as event 0x0E 0x01 carries it (R517). -/
def Ledger.code : Ledger → Nat
  | .empty => 0 | .received => 1 | .armed _ => 2 | .done => 3

/-- The ticks of a pair's stops. -/
def stopTicks (s : State) (i : Nat) : List Nat := if i = 0 then s.hc.aStopTicks else s.hc.bStopTicks

/-- Long commands that a stop abandons: those the controller itself carries out (R416). Each ends with its notice and vector (R398, R399);
its status is HC_SWITCHED (log entry 84). -/
def abandonLongs (s : State) : State :=
  let gone := fun (l : LongCmd) => decide (l.state = 0 ∧ (l.code = 0x0203 ∨ l.code = 0x0206))
  let s0 := s
  (s0.mb.longs.filter gone).foldl (fun s l => vector 4 (note 0x0102 1 0xFFFF l.opId St.hcSwitched s))
    { s with mb.longs := s.mb.longs.map (fun l =>
        if gone l then { l with state := 2, status := St.hcSwitched, data := [], doneTick := s.tick } else l) }

/-- The pair in control is gone: the gap begins (R503), or the headless period (R505). A switch-over in hand is unplanned now (R511). -/
def loseActive (i cause : Nat) (s : State) : State :=
  let s := refreshRegime (abandonLongs { s with
    hc.active := none, hc.gap := true, hc.gapStart := s.tick, hc.gapFrom := i + 1, hc.gapCause := cause
    hc.planned := none, hc.handing := none, hc.putOff := none, lc.decision := none })
  if pairState s (1 - i) = .standby then s
  else note 0x0E05 1 0xFFFF s.tick 0 { s with hc.headless := true }

/-- The standby pair is gone: a hand-over to it is abandoned, and it must load an image to be activated again (R449, R511). During a
gap the module is headless from here on (R513). -/
def loseStandby (s : State) : State :=
  let s : State := { s with hc.handing := none, lc.activation := s.lc.activation.map (fun a => { a with loaded := false }) }
  if s.hc.gap && !s.hc.headless then note 0x0E05 1 0xFFFF s.tick 0 { s with hc.headless := true }
  else resumeWaiting s

/-- A pair stops (R500, R506, R507, R512). -/
def stopPair (i cause : Nat) (s : State) : State :=
  let was := pairState s i
  let s := note 0x0E01 1 i cause s.mb.ledger.code s
  let ts := (stopTicks s i ++ [s.tick]).drop ((stopTicks s i).length - 2)
  let s := if i = 0 then { s with hc.aStopTicks := ts, hc.aStops := satAdd 16 s.hc.aStops 1 }
    else { s with hc.bStopTicks := ts, hc.bStops := satAdd 16 s.hc.bStops 1 }
  let out := decide (3 ≤ ts.length ∧ s.tick ≤ ts.headD 0 + 2 ^ 30)
  let s := setPair i (if out then .heldOut else .stopped) s
  let s := if out then note 0x0E06 1 i 3 (ts.headD 0) s else s
  let s := if (lcRec s).trial then { s with lc.rollback := true } else s
  if was = .active then loseActive i cause s else loseStandby s

/-- Whether a pair runs, so that it can stop. -/
def pairRuns (s : State) (i : Nat) : Bool := decide (i ≤ 1) && decide (pairState s i = .active ∨ pairState s i = .standby)

/-- The command in hand of a pair ends with FENCE_VIOLATION (R429). -/
def endInHand (pair : Nat) (s : State) : State :=
  if pairState s pair ≠ .active then s else
  match s.mb.held with
  | some h => if h.stage = .waiting then s else refuse St.fenceViolation 0 s
  | none => s

/-- A pair's access met its fence: reported where it is blocked, the command in hand ends, and on a locked region the pair stops (R429,
R500). -/
def hcViolation (pair : Nat) (a : Access) (b : Blocked) (s : State) : State :=
  let locked := lockedStop (regionFor s s.tick a.fence b.region) b
  let s := endInHand pair (violate s.tick a (0x600 + pair) b s)
  if locked then stopPair pair 4 s else s

/-- HC_PAIR_STOP (R429, R500): causes 1, 3 and 4; `a` is the access that cause 4 comes of, which its fence decides. -/
def execHcPairStop (pair cause : Nat) (a : Option Access) (s : State) : Res :=
  if !pairRuns s pair then noEvent s
  else if cause = 1 ∨ cause = 3 then .next (stopPair pair cause s)
  else match a.bind (fun x => (fenceBlocks s s.tick x (0x600 + pair)).map (fun b => (x, b))) with
    | some (x, b) => if cause = 4 then .next (hcViolation pair x b s) else noEvent s
    | none => noEvent s

/-- What violations of locked regions by a controller's own DMA bring with them (R429, R464, R500). -/
def fencePoint (s : State) : State :=
  s.fn.owed.foldl (fun s v =>
    let s := lockClass 0x25 v.2 s
    if pairRuns s (v.1 - 0x600) then stopPair (v.1 - 0x600) 4 s else s) { s with fn.owed := [] }

/-- 2^12 ticks have passed since a pair's last heartbeat (R500); of the standby's only the watchdog knows. -/
def beatOverdue (s : State) (pair : Nat) : Bool :=
  decide (s.hc.active ≠ some pair) || s.hc.beat.any (fun t => decide (t + 2 ^ 12 ≤ s.tick))

/-- HC_HEARTBEAT_TIMEOUT (R500): cause 2. -/
def execHcHeartbeatTimeout (pair : Nat) (s : State) : Res :=
  whenOk (pairRuns s pair && beatOverdue s pair) s (stopPair pair 2 s)

/-- What the new pair makes of the held command, by the ledger (R416). -/
def answerByLedger (s : State) : State :=
  match s.mb.held with
  | none => s
  | some h =>
    if h.stage = .waiting then s else
    match s.mb.ledger with
    | .armed _ => refuse St.hcSwitched 0 s
    | .received =>
      let back := h.nonce.toList ++ (s.mb.inner.bind (·.nonce)).toList
      let s := { s with mb.nonces := back.foldl (fun t n => restoreNonce n t) s.mb.nonces }
      refuse St.hcSwitched 1 { s with lc.activation := none }
    | _ => s

/-- The new pair resolves a transition in progress: an opening one is undone, a securing one goes on (R441). -/
def resolveTransition (s : State) : State :=
  let r := lcRec s
  if r.intent && decide (r.dir = 2) then undoOpening s else s

/-- Responses that waited for a pair in control (R504, R513). -/
def afterTakeover (s : State) : State :=
  let s := match s.lc.zeroAfter with
    | some c => beginTransition .zeroized 3 c { s with lc.zeroAfter := none, lc.lockAfter := none }
    | none =>
      if (lcRec s).intent then s else lockDue s
  resumeWaiting s

/-- The trial is rolled back: a pair that runs the previous slot is in control (R449, R512). -/
def rollBack (s : State) : State :=
  let r := lcRec s
  note 0x1403 1 0xFFFF 0 0 (writeLc { r with activeSlot := 1 - r.activeSlot, trial := false }
    { s with lc.rollback := false, lc.runSlot := 1 - r.activeSlot })

/-- TAKEOVER_FIRST_COMMAND (R503): the standby pair issues its first command; `gap` is the gap in hub cycles. A pair that restarted on the
previous slot while the module was headless ends the trial by taking control (R512). -/
def execTakeoverFirstCommand (gap : Nat) (s : State) : Res :=
  let i := if s.hc.a = .standby then 0 else 1
  if s.hc.gap && decide (pairState s i = .standby) && (s.hc.headless || decide (gap ≤ 4096)) then
    let g := min gap 8191
    let back := s.hc.headless && s.lc.rollback
    let from_ := s.hc.gapFrom
    let start := s.hc.gapStart
    let s := setPair i .active { s with
      hc.active := some i, hc.beat := some s.tick, hc.gap := false, hc.headless := false, hc.switches := satAdd 32 s.hc.switches 1
      hc.lastTick := s.tick, hc.lastCause := s.hc.gapCause, hc.lastFrom := from_, hc.lastTo := i + 1, hc.lastGap := g
      hc.gapPeak := max s.hc.gapPeak g }
    let s := refreshRegime s
    let s := note 0x0E02 1 i g start s
    let s := answerByLedger (resolveTransition (if back then rollBack s else s))
    .next (afterTakeover s)
  else noEvent s

/-- The next tick above `t` that is a multiple of `m`. -/
def nextMultiple (m t : Nat) : Nat := (t / m + 1) * m

/-- The held command or a long command puts a planned switch-over off (R511); the FW_ACTIVATE that asks for it does not. -/
def putsOff (cause : Nat) (s : State) : Bool :=
  decide (longsRunning s ≠ 0) ||
  match s.mb.held with
  | none => false
  | some h => !(decide (h.stage = .waiting)) && !(decide (cause = 7) && decide (h.frame.code = 0x0204))

/-- What a planned switch-over for a firmware activation or rollback writes (R449, R512); the outgoing pair loads the image. -/
def switchFirmware (out : Nat) (s : State) : State :=
  match s.lc.activation with
  | some a =>
    let s := writeLc { lcRec s with activeSlot := a.slot, trial := true } { s with lc.activation := none, lc.trialStart := s.hc.lastTick, lc.runSlot := a.slot }
    respond St.ok 0 s.hc.lastTick [] (setPair out .loading s)
  | none =>
    if s.lc.rollback then setPair out .loading (rollBack s) else s

/-- The outgoing pair hands over, when the other pair stands by (R511 step 3). -/
def handControl (cause since : Nat) (s : State) : State :=
  { s with hc.planned := none
           hc.handing := if s.hc.active.any (fun i => decide (pairState s (1 - i) = .standby)) then some (cause, since) else none }

/-- The incoming pair has issued its first command, in the tick of the hand-over (R511 step 4): the outgoing pair is in STANDBY. -/
def endHandOver (cause since : Nat) (s : State) : State :=
  match s.hc.active with
  | none => s
  | some i =>
    let j := 1 - i
    let (v, s) := draw s
    let t := s.tick - 1
    let due := (s.hc.putOff.map (·.2)).getD since
    let s := setPair i .standby (setPair j .active { s with
      hc.active := some j, hc.beat := some t, hc.switches := satAdd 32 s.hc.switches 1, hc.lastTick := t, hc.lastCause := cause
      hc.lastFrom := i + 1, hc.lastTo := j + 1, hc.lastGap := v % 2049, hc.handing := none, hc.putOff := none })
    let s := if cause = 5 then note 0x0E03 0 j (t - due) 0 s else s
    let s := if cause = 7 then switchFirmware i s else s
    resumeWaiting s

/-- Begin a planned switch-over or put it off: for 2^12 ticks to the next sample point, then to the next revert boundary, and frames
are taken again (R511). -/
def tryPlanned (cause since : Nat) (s : State) : State :=
  if putsOff cause s then
    if since + 2 ^ 12 ≤ s.tick then
      resumeWaiting { s with hc.planned := none, hc.putOff := some (cause, (s.hc.putOff.map (·.2)).getD since) }
    else { s with hc.planned := some (cause, since) }
  else handControl cause since s

/-- A sample point ends a hand-over of the tick before, or tries again a planned switch-over put off (R511). -/
def retryPlanned (s : State) : State :=
  match s.hc.handing, s.hc.planned with
  | some (c, t), _ => endHandOver c t s
  | none, some (c, t) => tryPlanned c t s
  | none, none => s

/-- No switch-over is in hand. -/
def noPlanned (s : State) : Bool := s.hc.planned.isNone && s.hc.handing.isNone

/-- The preferred pair stands by while the other pair is in control (R509, R510). -/
def preferredWaits (s : State) : Bool :=
  s.hc.active.isSome && decide (s.hc.active ≠ some s.hc.preferred) && decide (pairState s s.hc.preferred = .standby)

/-- The revert that is due now, or a rotation put off to this boundary, begins (R509, R511). -/
def revertNow (s : State) : State :=
  if preferredWaits s then tryPlanned (if s.hc.putOff.any (·.1 == 6) then 6 else 5) s.tick s else { s with hc.putOff := none }

/-- The preferred pair changes (R510): it takes control when it stands by. -/
def rotate (s : State) : State :=
  let s : State := { s with hc.preferred := 1 - s.hc.preferred, hc.rotDue := false }
  let sw := preferredWaits s && noPlanned s
  let s := if sw then tryPlanned 6 s.tick { s with hc.putOff := none } else s
  note 0x0E04 0 s.hc.preferred (b2n (sw && s.hc.handing.isSome)) 0 s

/-- REVERT_BOUNDARY (R509, R511): the preferred pair, back in STANDBY, takes control back. A firmware switch-over put off is taken here
(R449), and a rotation that a trial put off (R512). Where a rotation falls on the tick, the rotation decides (R510). -/
def execRevertBoundary (s : State) : Res :=
  if s.tick % 2 ^ 19 = 0 ∧ s.hc.active.isSome = true ∧ noPlanned s = true then
    if s.lc.activation.any (·.loaded) || s.lc.rollback then .next (tryPlanned 7 s.tick s)
    else if (lcRec s).trial = true ∨ s.tick % 2 ^ 35 = 0 then noEvent s
    else .next (if s.hc.rotDue then rotate s else revertNow s)
  else noEvent s

/-- ROTATION_BOUNDARY (R510): every 2^35 ticks; a trial puts it off (R512). -/
def execRotationBoundary (s : State) : Res :=
  if s.tick % 2 ^ 35 ≠ 0 then noEvent s
  else .next (if (lcRec s).trial then { s with hc.rotDue := true } else rotate s)

/-- HC_NEXT_REVERT: the boundary at which the preferred pair takes control back; 0 when no revert is pending (R509, R516). -/
def revertTick (s : State) : Nat :=
  if !preferredWaits s || (lcRec s).trial then 0 else
  match s.hc.handing, s.hc.planned with
  | some (5, t), _ => t
  | none, some (5, t) => t
  | _, _ => nextMultiple (2 ^ 19) s.tick

/-- How far a stopped pair's restart is (R506): the self-test, then the load, within 1,024 ticks of the stop. The tick of the load is a free
value (log entry 34). -/
def restartPair (s : State) (i : Nat) : State :=
  match pairState s i with
  | .stopped => setPair i .selftest s
  | .selftest =>
    let q := draw s
    if q.1 % 2 = 1 ∨ ((stopTicks s i).getLastD 0) + 1024 ≤ s.tick then setPair i .loading q.2 else q.2
  | _ => s

/-- The restarts of both pairs at a sample point (R506). -/
def restartPairs (s : State) : State := if 6 ≤ s.lc.stage then [0, 1].foldl restartPair s else s

/-- A pair restarts. -/
def restarting (p : PairState) : Bool := decide (p = .stopped ∨ p = .selftest ∨ p = .loading)

/-- PAIR_RESTART_DONE (R506, R509, R512): a restarting pair reaches STANDBY, or fails step 2 or 3 and is held out. In a rollback it
takes control at the next sample point that allows it. -/
def execPairRestartDone (pair failStep : Nat) (s : State) : Res :=
  if pair ≤ 1 ∧ restarting (pairState s pair) = true ∧ 6 ≤ s.lc.stage ∧ failStep ≤ 3 ∧ failStep ≠ 1 then
    if failStep ≠ 0 then .next (note 0x0E07 1 pair failStep 0 (setPair pair .heldOut s))
    else
      let s := setPair pair .standby s
      .next (if s.lc.rollback = true ∧ s.hc.active.isSome = true ∧ s.hc.active ≠ some pair then { s with hc.planned := some (7, s.tick) } else s)
  else noEvent s

end Sys2Proof.Machine
end

