-- ==== Sys2Proof/Machine/LifeCmds.lean ====
section
/-!
DEFINITION. The quorum gate's verdict, long commands, life-cycle commands, firmware and customer programs, and the decisions taken twice
(R124 to R126, R398, R408 to R413, R434, R440, R445 to R449, R466).
-/
namespace Sys2Proof.Machine

/-! ### Group 0x00 and the gate -/

/-- NONCE (R408): one generate call of the controller's instance, which at its limit serves none (R369, log entry 102). -/
def nonceCmd (_ : Held) (_ : List Byte) (s : State) : State :=
  if (drbg s 64).limit then refuse St.busy 0 s else
  let (v, s) := draw (drbgCall 64 1 s)
  let n : Nonce := ⟨s.mb.nextNonce, octets (Config.randomBytes v 32) 0 32, s.tick + 2 ^ 29⟩
  let kept := if 64 ≤ s.mb.nonces.length then s.mb.nonces.drop 1 else s.mb.nonces
  let s := { s with mb.nonces := kept ++ [n], mb.nextNonce := s.mb.nextNonce + 1 }
  respond St.ok 0 s.tick (beBytes 4 n.id ++ beBytes 4 0 ++ n.value ++ beBytes 8 n.expires ++ beBytes 8 Config.serial) s

/-- NONCE (R408). -/
def execNonce (s : State) : Res := withCmd 0x0001 s nonceCmd

/-- STATUS (R413). -/
def statusCmd (_ : Held) (_ : List Byte) (s : State) : State :=
  respond St.ok 0 s.tick (beBytes 1 (lcState s).code ++ beBytes 1 s.ks.state ++ beBytes 1 ((s.hc.active.map (· + 1)).getD 0) ++
    beBytes 1 (b2n s.prov.isSealed) ++ beBytes 4 0 ++ beBytes 8 s.tick) s

/-- STATUS (R413). -/
def execStatus (s : State) : Res := withCmd 0x0003 s statusCmd

/-- The first signature that the two units do not both accept, and whether they disagree (R410 check 3). -/
def badBlock (s : State) (h : Held) (faults : List (Bool × Bool)) : Option (Nat × Bool) :=
  (h.frame.sigs.zipIdx).findSome? (fun p =>
    let f := faults.getD p.2 (false, false)
    let a := evaluation s h p.2 f.1
    let b := evaluation s h p.2 f.2
    if a && b then none else some (p.1.cred, a != b))

/-- Checks 3 and 4 of R410: the refusal if one fails, and whether two evaluations of a signature disagreed. -/
def gateVerdict (s : State) (h : Held) (faults : List (Bool × Bool)) : Option (Nat × Nat) × Bool :=
  match badBlock s h faults with
  | some (c, split) => (some (St.credentialInvalid, c), split)
  | none => (if h.cls ≠ 0 ∧ ruleFilled s h = false then some (St.quorumMissing, h.cls) else none, false)

/-- The refusal of a customer program package stands in the evidence log, with the check that failed (R126). -/
def packageRefused (pkg : List Byte) (check : Nat) (s : State) : State :=
  evidAppend (evidNow 7 0 0 (be pkg 2 2) (be pkg 4 2) check s) s

/-- A refusal by the gate: of a PROG_LOAD whose quorum is missing it is NOT_AUTHORISED, with evidence (R126). -/
def gateRefusal (h : Held) (e : Nat × Nat) (s : State) : State :=
  if h.frame.code = 0x0206 ∧ e.1 = St.quorumMissing then refuse St.notAuthorised 0 (packageRefused h.frame.payload 1 s)
  else refuse e.1 e.2 s

/-- An inner frame and its authority leave for the member of a GP_RELAY: the frame, its class and its signers (R526). -/
def relaySend (i : Held) (s : State) : State :=
  match s.mb.held with
  | none => s
  | some h =>
    let m := be h.frame.payload 0 1
    let inner := h.frame.payload.drop 8
    setStage .running (gpSend m 0x11 (counted inner ++ beBytes 1 i.cls ++ beBytes 4 i.signers) { s with gp.relay := some m, mb.inner := none })

/-- QUORUM_CHECK_DONE (R410, R418, R464, R526): `faults` says, for each block, which of its two evaluations went wrong. The units have
ended their steps. For GP_RELAY the second time it is the inner frame that is judged. -/
def execQuorumCheckDone (faults : List (Bool × Bool)) (s : State) : Res :=
  match s.mb.held with
  | none => noEvent s
  | some h =>
    if h.stage ≠ .quorum ∨ gateBusy s = true then noEvent s else
    let i := s.mb.inner.getD h
    let v := gateVerdict s i faults
    let t := match v.1 with
      | some e => gateRefusal i e s
      | none => if s.mb.inner.isSome then relaySend i s else setStage .ready s
    .next (if v.2 then lockClass 0x23 St.credentialInvalid t else t)

/-- QUORUM_SET (R407, R412). -/
def quorumSetCmd (_ : Held) (p : List Byte) (s : State) : State :=
  let rules := parseRules p
  if s.ks.cer.isSome then refuse St.busy 0 s
  else match (rules.zipIdx).find? (fun q => !ruleShapeOk q.2 q.1) with
  | some q => refuse St.grateRange (64 + 4 * q.2) s
  | none =>
    if !canSatisfy rules s.prov.creds then refuse St.grateRange 64 s
    else respond St.ok 0 s.tick [] { s with prov.rules := rules }

/-- QUORUM_SET (R412). -/
def execQuorumSet (s : State) : Res := withCmd 0x0104 s quorumSetCmd

/-! ### Decisions (R440) -/

/-- Begin a decision: the delay to the second is 1 to 64 microseconds, which ends within 32 ticks, from the controller's instance. -/
def beginDecision (k : DecKind) (first : Bool) (s : State) : State :=
  let (v, s) := draw (drbgCall 64 1 s)
  { s with lc.decision := some { kind := k, first, due := s.tick + v % 33 } }

/-- A command that is decided twice: the delay is a call of the controller's instance, which at its limit serves none (R369, R440, log
entry 102). -/
def decideTwice (k : DecKind) (first : Bool) (s : State) : State :=
  if (drbg s 64).limit then refuse St.busy 0 s else setStage .decision (beginDecision k first s)

/-- The transitions a command may ask for (R434). -/
def listed (origin target : Lc) : Bool :=
  match origin, target with
  | .shipped, .development | .shipped, .provisioned | .zeroized, .development | .zeroized, .provisioned | .zeroized, .decommissioned
  | .development, .provisioned | .provisioned, .operational | .operational, .maintenance | .maintenance, .operational => true
  | .development, .locked | .provisioned, .locked | .operational, .locked | .maintenance, .locked => true
  | .development, .zeroized | .provisioned, .zeroized | .operational, .zeroized | .maintenance, .zeroized | .locked, .zeroized => true
  | .development, .decommissioned | .provisioned, .decommissioned | .operational, .decommissioned | .maintenance, .decommissioned
  | .locked, .decommissioned => true
  | _, _ => false

/-- A transition may run: it is listed, and OPERATIONAL needs SEALED (R406, R434). -/
def mayChange (s : State) (t : Lc) : Bool :=
  let o := lcState s
  (listed o t || (decide (o = .locked) && decide ((lcRec s).origin = some t))) &&
  (decide (t ≠ .operational) || decide (o ≠ .provisioned) || s.prov.isSealed)

/-- STATE_CHANGE (R434, R440, R441). -/
def stateChangeCmd (_ : Held) (p : List Byte) (s : State) : State :=
  if (lcRec s).intent ∨ s.lc.decision.isSome = true then refuse St.busy 0 s
  else match Lc.ofCode (be p 0 1) with
  | none => refuse St.stateForbids 0 s
  | some t =>
    if listed (lcState s) t && mayChange s t then decideTwice (.transition t) true s
    else refuse St.stateForbids 0 s

/-- STATE_CHANGE (R434). -/
def execStateChange (s : State) : Res := withCmd 0x0201 s stateChangeCmd

/-- UNLOCK (R434, R466). -/
def unlockCmd (_ : Held) (_ : List Byte) (s : State) : State :=
  match lcState s, (lcRec s).origin with
  | .locked, some t =>
    if (lcRec s).intent ∨ s.lc.decision.isSome = true then refuse St.busy 0 s
    else if activeL s then refuse St.stateForbids 0 s
    else decideTwice (.transition t) true s
  | _, _ => refuse St.stateForbids 0 s

/-- UNLOCK (R466). -/
def execUnlock (s : State) : Res := withCmd 0x0202 s unlockCmd

/-! ### Firmware (R445, R446, R449) -/

/-- The header and section table of an image are well formed (R445). -/
def imageShape (b : List Byte) : Bool :=
  let n := be b 14 1
  let total := be b 16 4
  decide (1024 ≤ b.length) && decide (be b 0 2 = 1) && decide (be b 2 2 = 1) && decide (1 ≤ be b 4 4) && decide (be b 8 4 ≤ be b 4 4) &&
  decide (1 ≤ n ∧ n ≤ 8) && decide (be b 15 1 = 0) && decide (b.length ≤ 134217728) && decide (1024 ≤ total ∧ total < b.length) &&
  allZero (octets b 20 44) && allZero (octets b 576 448) &&
  (List.range n).all (fun i => let o := 64 + 64 * i
    decide (1 ≤ be b o 1 ∧ be b o 1 ≤ 4) && decide (be b (o + 1) 3 = 0) && decide (be b (o + 12) 4 = 0) &&
    decide (1024 ≤ be b (o + 4) 4 ∧ be b (o + 4) 4 + be b (o + 8) 4 ≤ total)) &&
  allZero (octets b (64 + 64 * n) (64 * (8 - n)))

/-- What is wrong with an image: the DETAIL of FW_REJECTED (R446). -/
def imageBad (b : List Byte) (floor : Nat) : Option Nat :=
  if !Config.ehrasSigOk b then some 1
  else if !imageShape b || !Config.imageSectionsOk b then some 2
  else if be b 4 4 < floor then some 3
  else if Config.hwStep < be b 12 1 ∨ be b 13 1 < Config.hwStep then some 4
  else none

/-- A slot's image. -/
def fwSlot (s : State) (slot : Nat) : FwSlot := if slot = 0 then s.lc.slotA else s.lc.slotB

/-- Write a slot. -/
def setFwSlot (slot : Nat) (x : FwSlot) (s : State) : State := if slot = 0 then { s with lc.slotA := x } else { s with lc.slotB := x }

/-- Write a slot's version into the record. -/
def writeSlotVer (slot v : Nat) (s : State) : State :=
  writeLc (if slot = 0 then { lcRec s with slotAVer := v } else { lcRec s with slotBVer := v }) s

/-- The image of a slot passes now. -/
def slotPasses (s : State) (slot : Nat) : Bool := (imageBad (fwSlot s slot).image (lcRec s).fwFloor).isNone

/-- FW_LOAD (R446): the image is written to the slot, and its acceptance decided. -/
def fwLoadCmd (h : Held) (p : List Byte) (s : State) : State :=
  let slot := be p 0 1
  let r := lcRec s
  if slot = r.activeSlot ∨ r.trial = true ∨ r.intent = true ∨ s.lc.decision.isSome = true ∨ 4 ≤ longsRunning s ∨ (drbg s 64).limit = true then refuse St.busy 0 s
  else
    let q := beginLong h.frame.code p s
    let s := setFwSlot slot { image := p.drop 8 } q.2
    let s := beginDecision (.fwAccept q.1 slot) (slotPasses s slot) s
    respond St.ok 0 s.tick (beBytes 8 q.1) s

/-- FW_LOAD (R446). -/
def execFwLoad (s : State) : Res := withCmd 0x0203 s fwLoadCmd

/-- The trial is committed (R449). -/
def commitTrial (s : State) : State :=
  let r := lcRec s
  writeLc { r with trial := false, fwFloor := max r.fwFloor (fwSlot s r.activeSlot).minVersion } s

/-- A standby pair stands by. -/
def hasStandby (s : State) : Bool := decide (s.hc.a = .standby ∨ s.hc.b = .standby)

/-- FW_ACTIVATE (R449). The active slot named outside a trial leaves everything as it is; without a standby pair no activation can
run. -/
def fwActivateCmd (_ : Held) (p : List Byte) (s : State) : State :=
  let slot := be p 0 1
  let r := lcRec s
  if !(fwSlot s slot).valid then refuse St.fwRejected 2 s
  else if slot = r.activeSlot then respond St.ok 0 s.tick [] (if r.trial then commitTrial s else s)
  else if s.lc.decision.isSome ∨ r.intent = true ∨ (s.lc.startFail.isNone = true ∧ hasStandby s = false) then refuse St.busy 0 s
  else decideTwice (.fwActivate slot) (slotPasses s slot) s

/-- FW_ACTIVATE (R449). -/
def execFwActivate (s : State) : Res := withCmd 0x0204 s fwActivateCmd

/-- FW_STANDBY_LOADED (R449 steps 2 and 3): the switch-over begins at the next sample point that allows it. -/
def execFwStandbyLoaded (s : State) : Res :=
  match s.lc.activation with
  | none => noEvent s
  | some a =>
    if a.loaded ∨ hasStandby s = false ∨ s.hc.active.isNone then noEvent s
    else .next { s with lc.activation := some { a with loaded := true }, hc.planned := some (7, s.tick) }

/-- FW_TRIAL_COMMIT (R449): 2^28 ticks on trial without a stop. -/
def execFwTrialCommit (s : State) : Res :=
  whenOk ((lcRec s).trial && !s.lc.rollback && decide (s.lc.trialStart + 2 ^ 28 ≤ s.tick)) s (commitTrial s)

/-! ### Customer programs (R122 to R126) -/

/-- PROG_KEY_SET (R413). -/
def progKeySetCmd (_ : Held) (p : List Byte) (s : State) : State :=
  let alg := be p 2 1
  let key := octets p 8 (keyLen alg)
  if !pubKeyValid (if alg = 1 then 17 else 24) key then refuse St.publicKeyInvalid 0 s
  else respond St.ok 0 s.tick [] { s with prov.progKeys := tblPut s.prov.progKeys (be p 0 2) ⟨alg, key⟩ }

/-- PROG_KEY_SET (R413). -/
def execProgKeySet (s : State) : Res := withCmd 0x0205 s progKeySetCmd

/-- The classes whose programs run twin (R128, R213). -/
def criticalClasses : List Nat := [0, 1, 3, 4, 5, 10, 12]

/-- The program a package spells (R125). -/
def parseProg (b : List Byte) : Prog :=
  { func := be b 2 2, version := be b 4 2, steps := be b 6 1, topok := bitOf (be b 7 1) 1, twin := bitOf (be b 7 1) 0, cycles := be b 8 2
    keyTypes := be b 12 4, fields := (List.range (min 32 (be b 0x14 4))).map (fun j => (be b (0x18 + 4 * j) 2, be b (0x1A + 4 * j) 2))
    code := octets b 0x100 (min (be b 0x10 4) 262144), added := 0 }

/-- A signature of a package: algorithm and octets, with where it ends. -/
def pkgSig (b : List Byte) (o : Nat) : Nat × List Byte × Nat :=
  let n := be b (o + 1) 3
  (be b o 1, octets b (o + 4) n, o + 4 + n)

/-- Every field of a package meets R122 and R124, and the code its digest (R126 check 4). -/
def progShape (s : State) (b : List Byte) : Bool :=
  let p := parseProg b
  let cs := pkgSig b (0x100 + be b 0x10 4)
  let vs := pkgSig b cs.2.2
  decide (be b 0 2 = 2) && isCustomer p.func && s.en.progs.all (fun q => decide (q.func = p.func → q.version < p.version)) &&
  decide (p.steps ≤ 15) && decide (be b 7 1 < 4) && decide (p.cycles ≤ 3840) && (!p.topok || decide (p.steps = 1 ∧ p.cycles ≤ 2560)) &&
  decide (be b 10 2 = 0) && decide (p.keyTypes < 2 ^ 14) && decide (be b 0x10 4 ≤ 262144) && decide (1 ≤ be b 0x14 4 ∧ be b 0x14 4 ≤ 32) &&
  allZero (octets b (0x18 + 4 * be b 0x14 4) (4 * (32 - be b 0x14 4))) && p.fields.all (fun f => decide (f.1 + f.2 ≤ 7880)) &&
  decide (octets b 0x98 48 = Config.sha384 p.code) && allZero (octets b 0xCC 52) && decide (vs.2.2 = b.length) &&
  decide (((s.en.progs.filter (fun q => q.gone.isNone && decide (q.func ≠ p.func))).length) < 256)

/-- The first check of R126 that a package fails: 2 to 5. -/
def progBad (s : State) (b : List Byte) : Option Nat :=
  let p := parseProg b
  let head := octets b 0 0x100
  let o := 0x100 + be b 0x10 4
  let cs := pkgSig b o
  let vs := pkgSig b cs.2.2
  if !((tblGet s.prov.progKeys (be b 0xC8 2)).any (fun k => decide (k.alg = cs.1) && Config.sigOk k.alg k.key head cs.2.1)) then some 2
  else if !Config.vendSigOk (fwSlot s s.lc.runSlot).image (be b 0xCA 2) vs.1 (head ++ octets b o (cs.2.2 - o)) vs.2.1 then some 3
  else if !progShape s b then some 4
  else if !p.twin && criticalClasses.any (bitOf p.keyTypes) then some 5
  else none

/-- Install an accepted program: a new program set, to be rolled out (R148); the function's cost entries are uncalibrated (R67). -/
def installProg (p : Prog) (s : State) : State :=
  let v := s.en.setVer + 1
  let old := s.en.progs.map (fun q => if q.func = p.func ∧ q.gone.isNone = true then { q with gone := some v } else q)
  uncalibrate (fun f => decide (f = p.func)) { s with en.progs := old ++ [{ p with added := v }], en.setVer := v, en.rollout := true }

/-- PROG_LOAD (R123, R126): a third version waits for the rollout of the second. -/
def progLoadCmd (h : Held) (p : List Byte) (s : State) : State :=
  let two := 2 ≤ (s.en.progs.filter (fun q => decide (q.func = be p 2 2))).length
  if s.lc.decision.isSome ∨ two ∨ 4 ≤ longsRunning s ∨ (drbg s 64).limit = true then refuse St.busy 0 s
  else
    let q := beginLong h.frame.code p s
    let s := beginDecision (.progAccept q.1) (progBad q.2 p).isNone q.2
    respond St.ok 0 s.tick (beBytes 8 q.1) s

/-- PROG_LOAD (R126). -/
def execProgLoad (s : State) : Res := withCmd 0x0206 s progLoadCmd

/-- PROG_WITHDRAW (R123). -/
def progWithdrawCmd (_ : Held) (p : List Byte) (s : State) : State :=
  let f := be p 0 2
  if !isCustomer f ∨ (progNow s f).isNone = true then refuse St.grateRange 64 s
  else
    let v := s.en.setVer + 1
    let progs := s.en.progs.map (fun q => if q.func = f ∧ q.gone.isNone = true then { q with gone := some v } else q)
    respond St.ok 0 s.tick [] { s with en.progs := progs, en.setVer := v, en.rollout := true }

/-- PROG_WITHDRAW (R123). -/
def execProgWithdraw (s : State) : Res := withCmd 0x0207 s progWithdrawCmd

/-! ### The second decision (R440) -/

/-- What the inputs say now. -/
def evalDecision (s : State) (k : DecKind) : Bool :=
  match k with
  | .transition t => mayChange s t
  | .fwAccept _ slot | .fwActivate slot | .startSlot slot => slotPasses s slot
  | .progAccept op => match s.mb.longs.find? (fun l => decide (l.opId = op)) with
    | some l => (progBad s l.data).isNone
    | none => false

/-- The long command a decision belongs to is decided: its payload is no longer needed. -/
def decideLong (op status detail : Nat) (s : State) : State :=
  let s := setLong op status detail s
  { s with mb.longs := s.mb.longs.map (fun l => if l.opId = op then { l with data := [] } else l) }

/-- Signers of the held command. -/
def heldSigners (s : State) : Nat := (s.mb.held.map (·.signers)).getD 0

/-- A transition decided twice begins: a zeroisation destroys the ember first (R436, R438, R441, R466). -/
def startChange (t : Lc) (s : State) : State :=
  let code := (s.mb.held.map (fun h => h.frame.code)).getD 0
  let dir := rowDir (lcState s) t
  let zero := t = .zeroized ∨ (t = .decommissioned ∧ lcState s ≠ .zeroized)
  let s := if code = 0x0202 then evidAppend (evidNow 10 0 0 t.code 0 (heldSigners s) s) s else s
  let s := if zero then eraseAtOnce s else s
  let s := setStage .running (if dir = 1 then arm s.tick s else s)
  beginTransition t 1 code s

/-- The action of a decision both of whose results agree on yes. -/
def armDecision (k : DecKind) (s : State) : State :=
  match k with
  | .transition t => startChange t s
  | .fwAccept op slot =>
    let b := (fwSlot s slot).image
    decideLong op St.ok 0 (writeSlotVer slot (be b 4 4) (setFwSlot slot { valid := true, version := be b 4 4, minVersion := be b 8 4, image := b } s))
  | .fwActivate slot =>
    if s.lc.startFail.isSome then respond St.ok 0 s.tick [] (writeLc { lcRec s with activeSlot := slot, trial := false } s)
    else setStage .running { s with lc.activation := some { slot, loaded := false, since := s.tick } }
  | .startSlot _ => s
  | .progAccept op => match s.mb.longs.find? (fun l => decide (l.opId = op)) with
    | some l => decideLong op St.ok 0 (installProg (parseProg l.data) s)
    | none => s

/-- What follows a decision that both evaluations give against the request. -/
def turnDown (k : DecKind) (s : State) : State :=
  match k with
  | .transition _ => refuse St.stateForbids 0 s
  | .fwAccept op slot =>
    let d := (imageBad (fwSlot s slot).image (lcRec s).fwFloor).getD 1
    decideLong op St.fwRejected d (writeSlotVer slot 0 (setFwSlot slot { image := (fwSlot s slot).image } s))
  | .fwActivate _ => refuse St.fwRejected 2 s
  | .startSlot _ => s
  | .progAccept op => match s.mb.longs.find? (fun l => decide (l.opId = op)) with
    | some l =>
      let c := (progBad s l.data).getD 2
      decideLong op (if c ≤ 3 then St.notAuthorised else St.grateFormat) 0 (packageRefused l.data c s)
    | none => s

/-- The two results disagree: nothing is armed, and the event is lock-class (R440, R464). -/
def splitDecision (k : DecKind) (s : State) : State :=
  let s := match k with
    | .transition _ | .fwActivate _ => refuse St.decisionSplit 0 s
    | .fwAccept op slot => decideLong op St.decisionSplit 0 (writeSlotVer slot 0 s)
    | .progAccept op => decideLong op St.decisionSplit 0 s
    | .startSlot _ => s
  lockClass 0x26 St.decisionSplit s

/-- DECISION_SECOND (R440): `fault` turns the second result over. -/
def execDecisionSecond (fault : Bool) (s : State) : Res :=
  match s.lc.decision with
  | none => noEvent s
  | some d =>
    if s.tick < d.due ∨ (noController s = true ∧ s.lc.startFail.isNone) then noEvent s else
    let second := evalDecision s d.kind != fault
    let s := { s with lc.decision := none }
    .next (if second ≠ d.first then splitDecision d.kind s else if second then armDecision d.kind s else turnDown d.kind s)

/-! ### The end of a long command (R398) -/

/-- The work of a long command that ends: status, DETAIL and state. The image is what RELOAD reads from host memory; one whose store was emptied
under it is of an earlier generation (R241, R243). A class Z response has ended the others with STATE_FORBIDS, a class L response with LOCKED
(R417). -/
def longWork (l : LongCmd) (img : Option Image) (s : State) : Option (Nat × Nat × State) :=
  if l.code = 0x0604 then
    match s.ks.snap.filter (fun n => decide (n.opId = l.opId)) with
    | some n => if n.taken then let q := endSnapshot n s
                                some (q.1, 0, q.2) else none
    | none => some (St.stateForbids, 0, s)
  else if l.code = 0x0605 then
    match s.ks.loadOp.filter (fun o => decide (o.1 = l.opId)), img with
    | some o, some i => some (endReload i o.2 s)
    | some o, none => some (St.hostDmaError, 0, { s with ks.state := o.2, ks.loadOp := none })
    | none, _ => if s.ks.state = 4 then some (St.stateForbids, 0, s) else some (St.keyImageRejected, 5, s)
  else
    let mine := s.lc.decision.any (fun d => match d.kind with | .fwAccept op _ | .progAccept op => decide (op = l.opId) | _ => false)
    let zero := decide (lcState s = .zeroized ∨ (lcRec s).target = some .zeroized) || s.lc.zeroAfter.isSome
    if mine then none else if l.data.isEmpty then some (l.status, l.detail, s) else some (if zero then St.stateForbids else St.locked, 0, s)

/-- LONG_COMMAND_END (R398, R399): event 0x0102 and vector 4. -/
def execLongCommandEnd (op : Nat) (img : Option Image) (s : State) : Res :=
  match s.mb.longs.find? (fun l => decide (l.opId = op ∧ l.state = 0)) with
  | none => noEvent s
  | some l => match longWork l img s with
    | none => noEvent s
    | some (st, d, s) =>
      let s := setLong op st d s
      let s := { s with mb.longs := s.mb.longs.map (fun l => if l.opId = op then { l with state := 1, data := [], doneTick := s.tick } else l) }
      .next (vector 4 (note 0x0102 1 0xFFFF op st (refreshRegime s)))

end Sys2Proof.Machine
end

