-- ==== Sys2Proof/Machine/Accounting.lean ====
section
/-!
DEFINITION. Usage accounting: its commands, interval closes, tariff switches, the usage ring, checkpoints, and the power-fail save
(R547 to R562).
-/
namespace Sys2Proof.Machine

/-! ### Intervals (R551, R552) -/

/-- UTC seconds at this tick (R73). -/
def utcSecsNow (s : State) : Nat := ((((utcNow s).getD 0) / 10 ^ 9).toNat) % 2 ^ 48

/-- A closed interval is streaming, or waits to stream (R553): AC_STATE.STREAMING. -/
def streaming (s : State) : Bool := s.ac.pinned.isSome || s.ac.run.any (·.ckpt.close.isSome) || s.ac.held.isSome

/-- The interval in progress as it closes at this tick (R551, R552). -/
def capture (cause : Nat) (deferred : Bool) (s : State) : Close :=
  { interval := s.ac.interval, cause, deferred, utcBad := !s.tk.utcValid, first := s.ac.intStart, last := s.tick - 1
    utcStart := if s.ac.utcOk then s.ac.utcStart else 0, utcEnd := if s.tk.utcValid then utcSecsNow s else 0, cells := s.ac.cells }

/-- The copy that does not hold the newest completed checkpoint (R552, R555). -/
def targetCopy (s : State) : Nat := 1 - s.ac.lastCopy

/-- Write a capture as the close checkpoint (R552). -/
def beginClose (c : Close) (s : State) : State :=
  { s with ac.run := some ⟨targetCopy s, { tick := s.tick, interval := c.interval, close := some c, cells := c.cells }, s.tick⟩ }

/-- The interval closes at this tick: its cells enter the dirty set as CLOSE entries, and the next begins (R551, R552, R556). A
close that finds another streaming is held; one that meets a close deferred to this sample point serves both. -/
def closeInterval (cause : Nat) (deferred : Bool) (s : State) : State :=
  let busy := streaming s
  let c := capture cause (deferred || (s.ac.due.isSome && !busy)) s
  let entries := s.ac.dirty.foldl (fun t i => tblPut t i (cell s i)) s.ac.closeDirty
  let s := note 0x1001 0 0xFFFF c.interval cause s
  let s : State := { s with
    ac.closeDirty := entries, ac.dirty := [], ac.interval := c.interval + 1, ac.intStart := s.tick
    ac.utcStart := utcSecsNow s, ac.utcOk := s.tk.utcValid, ac.closeNow := false }
  if busy then note 0x1002 1 0xFFFF c.interval 1 { s with ac.held := some c } else beginClose c { s with ac.due := none }

/-- A close of MODE 1 or 2, or of AC_CLOSE_NOW, that falls due: it is deferred while another streams (R551). -/
def closeOrDefer (cause : Nat) (s : State) : State :=
  if streaming s then
    if s.ac.due.isSome then { s with ac.closeNow := false }
    else note 0x1002 1 0xFFFF s.ac.interval 0 { s with ac.due := some cause, ac.closeNow := false }
  else closeInterval cause false s

/-- The MODE 2 boundary that UTC has reached, in seconds (R551). -/
def utcBoundary (s : State) : Nat := if s.ac.intSec = 0 then 0 else s.tk.utcSec / s.ac.intSec * s.ac.intSec

/-- The cause of a scheduled close that falls due at this tick (R551). -/
def boundaryDue (s : State) : Option Nat :=
  if s.ac.mode = 1 ∧ s.tick % 2 ^ s.ac.intLog = 0 then some 1
  else if s.ac.mode = 2 ∧ s.tk.refNs.isSome = true ∧ s.ac.closedUtc < utcBoundary s then some 2
  else none

/-- A boundary of MODE 1 or MODE 2 that falls to this tick; a close of this same tick already serves it (R551, R559). -/
def intervalClose (s : State) : State :=
  match boundaryDue s with
  | none => s
  | some c =>
    let s : State := if c = 2 then { s with ac.closedUtc := utcBoundary s } else s
    if s.ac.intStart = s.tick then s else closeOrDefer c s

/-- INTERVAL_CLOSE (R551, R552): a boundary of this tick. The sample point has taken it already, but for one that came after. -/
def execIntervalClose (s : State) : Res :=
  whenOk ((boundaryDue s).isSome || (decide (s.ac.mode ≠ 0) && decide (s.ac.intStart = s.tick))) s (intervalClose s)

/-- The pending table comes into force at its tick: the interval closes, then the table is in force (R549, R550). -/
def tariffSwitch (s : State) : State :=
  match s.ac.pending with
  | none => s
  | some (k, t) =>
    if s.tick < k then s else
    let s := if s.ac.intStart = s.tick then s else closeInterval 3 false s
    note 0x1006 0 0xFFFF k s.ac.interval { s with ac.rates := t, ac.rated := true, ac.pending := none, ac.tariffAt := some s.tick }

/-- TARIFF_SWITCH (R549, R550, R559): a switch of this tick. The sample point has taken it already, but for one that came after. -/
def execTariffSwitch (s : State) : Res :=
  whenOk (s.ac.pending.any (fun p => decide (p.1 ≤ s.tick)) || decide (s.ac.tariffAt = some s.tick)) s (tariffSwitch s)

/-! ### Checkpoints (R552, R555) -/

/-- A checkpoint may be written now (R552). -/
def ckptAllowed (s : State) : Bool := s.ac.run.isNone && s.ac.held.isNone && decide (s.ac.pinned ≠ some (targetCopy s))

/-- A checkpoint starts: it captures the cells (R555). -/
def startCkpt (s : State) : State :=
  { s with ac.waits := false, ac.run := some ⟨targetCopy s, { tick := s.tick, interval := s.ac.interval, cells := s.ac.cells }, s.tick⟩ }

/-- CHECKPOINT_START (R555): every 2^16 ticks; it waits where R552 lets none be written. -/
def execCheckpointStart (s : State) : Res :=
  whenOk (s.lc.ready && decide (s.tick % 2 ^ 16 = 0)) s
    (if ckptAllowed s then startCkpt s else { s with ac.waits := true })

/-- A checkpoint copy. -/
def ckptCopy (s : State) (i : Nat) : Option Ckpt := if i = 0 then s.ac.copyA else s.ac.copyB

/-- Set a checkpoint copy. -/
def setCopy (i : Nat) (c : Option Ckpt) (s : State) : State := if i = 0 then { s with ac.copyA := c } else { s with ac.copyB := c }

/-- Cells that differ between two captures. -/
def cellsDiffer (a b : Tbl Cell) : Nat :=
  (a.filter (fun p => decide (tblGet b p.1 ≠ some p.2))).length + (b.filter (fun p => (tblGet a p.1).isNone)).length

/-- Ticks a checkpoint takes to write (R555): 128 cells a tick. -/
def ckptTicks (s : State) (r : CkptRun) : Nat := (cellsDiffer r.ckpt.cells (((ckptCopy s r.copy).map (·.cells)).getD []) + 127) / 128

/-- The CLOSE entries of a capture against a checkpoint (R556). -/
def closeEntries (c : Close) (k : Tbl Cell) : Tbl Cell := c.cells.filter (fun p => decide (tblGet k p.1 ≠ some p.2))

/-- CHECKPOINT_END (R552, R555, R556): the header is written; what the checkpoint holds leaves the dirty set, and a close
checkpoint is pinned. -/
def execCheckpointEnd (s : State) : Res :=
  match s.ac.run with
  | none => noEvent s
  | some r =>
    if s.tick < r.since + ckptTicks s r then noEvent s else
    let isClose := r.ckpt.close.isSome
    let s := setCopy r.copy (some r.ckpt) s
    .next { s with
      ac.run := none, ac.lastCopy := r.copy, ac.ckptTick := r.ckpt.tick
      ac.dirty := s.ac.dirty.filter (fun i => decide (cell s i ≠ tget {} r.ckpt.cells i))
      ac.closeDirty := if isClose then (s.ac.held.map (fun h => closeEntries h r.ckpt.cells)).getD [] else s.ac.closeDirty
      ac.pinned := if isClose then some r.copy else s.ac.pinned
      ac.streamed := if isClose then 0 else s.ac.streamed }

/-! ### The usage ring (R553, R554) -/

/-- Free slots of the usage ring (R561). -/
def uringFree (s : State) : Nat :=
  match s.ac.ring with
  | none => 0
  | some r => (s.ac.rhead + 2 ^ r.log - 1 - s.ac.wpos) % 2 ^ r.log

/-- The cells of a closed interval, in cell order (R553). -/
def closeCells (c : Close) : List (Nat × Cell) := c.cells.filter (fun p => decide (p.2.interval = c.interval % 2 ^ 32))

/-- The 56 octets of the interval header record (R553). -/
def headRecord (c : Close) (rseq : Nat) : List Byte :=
  let cs := closeCells c
  leBytes 1 1 ++ leBytes 1 c.cause ++
  leBytes 1 (b2n c.deferred + 2 * b2n c.utcBad + 4 * b2n c.restored + 8 * b2n (cs.any (fun p => decide (p.2.tariff = 0xFF)))) ++
  leBytes 1 0 ++ leBytes 4 cs.length ++ leBytes 8 c.interval ++ leBytes 8 c.first ++ leBytes 8 c.last ++ leBytes 8 c.utcStart ++
  leBytes 8 c.utcEnd ++ leBytes 8 rseq

/-- The 56 octets of a cell record (R553). -/
def cellRecord (c : Close) (i : Nat) (x : Cell) (rseq : Nat) : List Byte :=
  leBytes 1 2 ++ leBytes 1 (i % 15 + 1) ++ leBytes 1 x.tariff ++ leBytes 1 0 ++ leBytes 2 (i / 15) ++ leBytes 2 0 ++ leBytes 8 c.interval ++
  leBytes 8 x.ops ++ leBytes 8 x.cu ++ leBytes 8 x.bytes ++ leBytes 8 rseq ++ leBytes 8 0

/-- Record number k of a closed interval. -/
def closeRecord (c : Close) (k rseq : Nat) : List Byte :=
  if k = 0 then headRecord c rseq else match (closeCells c)[k - 1]? with
    | some p => cellRecord c p.1 p.2 rseq
    | none => []

/-- Write one record: its octets, then its MAC (R93, R553). RSEQ rises from 0 at manufacture. -/
def putRecord (r : URing) (c : Close) (s : State) : State :=
  let b := closeRecord c s.ac.streamed s.ac.rseq
  let at_ := r.base + 64 * s.ac.wpos
  let s := send (.hostWrite r.link r.pasid false at_ b) s
  let s := send (.hostWrite r.link r.pasid false (at_ + 0x38) (leBytes 8 (Config.recordMac b))) s
  { s with ac.wpos := (s.ac.wpos + 1) % 2 ^ r.log, ac.rseq := s.ac.rseq + 1, ac.streamed := s.ac.streamed + 1 }

/-- Streaming stops for want of room or of the link: RING_FULL (R553, R554, R562). -/
def ringStalls (s : State) : State :=
  if s.ac.ringFull then s else note 0x1004 1 0xFFFF (s.ac.rseq - 1) 0 { s with ac.ringFull := true }

/-- The stream of a closed interval ended: its checkpoint is released, and a held close is written next (R552). -/
def streamEnds (s : State) : State :=
  let i := s.ac.pinned.getD 0
  let s := setCopy i ((ckptCopy s i).map (fun k => { k with close := none })) { s with ac.pinned := none, ac.streamed := 0, ac.ringFull := false }
  match s.ac.held with
  | some c => beginClose c { s with ac.held := none }
  | none => s

/-- The pinned close (R552). -/
def pinnedClose (s : State) : Option Close := s.ac.pinned.bind (fun i => (ckptCopy s i).bind (·.close))

/-- The stream has no room, or its link takes nothing (R553, R554). -/
def streamBlocked (s : State) : Bool :=
  match s.ac.ring, pinnedClose s with
  | some r, some _ => !linkOpen s r.link || decide (uringFree s = 0)
  | _, _ => false

/-- A sample point finds the stream stopped (R553, R554). -/
def streamPoint (s : State) : State := if streamBlocked s then ringStalls s else s

/-- USAGE_STREAM (R553, R554): up to `n` further records go out, as the ring has room. -/
def execUsageStream (n : Nat) (s : State) : Res :=
  match s.ac.ring, pinnedClose s with
  | some r, some c =>
    if n = 0 then noEvent s else
    if !linkOpen s r.link ∨ uringFree s = 0 then .next (ringStalls s) else
    let left := (closeCells c).length + 1 - s.ac.streamed
    let k := min n (min (uringFree s) left)
    let s := (List.range k).foldl (fun s _ => putRecord r c s) { s with ac.ringFull := false }
    .next (if k = left then streamEnds s else if uringFree s = 0 then ringStalls s else s)
  | _, _ => noEvent s

/-- AC_RHEAD (R561): host software frees slots. A head outside the written slots is discarded with a notice. -/
def execAcRhead (value : Nat) (s : State) : Res := viaPf0 s <|
  let h := bits value 23 0
  let bad : State := note 0x1503 0 0xFFFF 0xA030 0 s
  match s.ac.ring with
  | none => .next bad
  | some r =>
    let n := 2 ^ r.log
    if n ≤ h ∨ (s.ac.wpos + n - s.ac.rhead) % n < (h + n - s.ac.rhead) % n then .next bad
    else .next { s with ac.rhead := h, ac.ringFull := s.ac.ringFull && decide (h = s.ac.rhead) }

/-! ### Commands (R549 to R553, R562) -/

/-- AC_CONFIG (R551): MODE 1, INT_LOG2 1, RSV 2, INT_SEC 4. -/
def acConfigCmd (_ : Held) (p : List Byte) (s : State) : State :=
  let mode := be p 0 1
  let log := be p 1 1
  let sec := be p 4 4
  let s : State := { s with ac.mode := mode, ac.intLog := log, ac.intSec := if mode = 2 then sec else 0 }
  respond St.ok 0 s.tick [] { s with ac.closedUtc := utcBoundary s }

/-- AC_CONFIG (R551). -/
def execAcConfig (s : State) : Res := withCmd 0x0C01 s acConfigCmd

/-- AC_RATE_LOAD (R549). -/
def acRateLoadCmd (_ : Held) (p : List Byte) (s : State) : State :=
  let first := be p 0 4
  let n := be p 4 4
  if 983040 ≤ first then refuse St.grateRange 64 s
  else if n = 0 ∨ 983040 < first + n then refuse St.grateRange 68 s
  else respond St.ok 0 s.tick []
    { s with ac.shadow := ((p.drop 8).zipIdx).foldl (fun t q => tset 0xFF t (first + q.2) q.1.toNat) s.ac.shadow }

/-- AC_RATE_LOAD (R549). -/
def execAcRateLoad (s : State) : Res := withCmd 0x0C02 s acRateLoadCmd

/-- AC_TARIFF_ARM (R549). -/
def acTariffArmCmd (_ : Held) (p : List Byte) (s : State) : State :=
  let k := be p 0 8
  if k < s.tick + 2 ^ 20 then refuse St.grateRange 64 s
  else if s.ac.pending.isSome ∨ s.ac.held.isSome then refuse St.busy 0 s
  else respondAt k [] { s with ac.pending := some (k, s.ac.shadow) }

/-- AC_TARIFF_ARM (R549). -/
def execAcTariffArm (s : State) : Res := withCmd 0x0C03 s acTariffArmCmd

/-- AC_TARIFF_CANCEL (R549). -/
def acTariffCancelCmd (_ : Held) (_ : List Byte) (s : State) : State := respond St.ok 0 s.tick [] { s with ac.pending := none }

/-- AC_TARIFF_CANCEL (R549). -/
def execAcTariffCancel (s : State) : Res := withCmd 0x0C04 s acTariffCancelCmd

/-- AC_RING_SET (R553, R554). -/
def acRingSetCmd (_ : Held) (p : List Byte) (s : State) : State :=
  let pas := be p 12 4
  if bits pas 30 20 ≠ 0 then refuse St.grateFormat 76 s else
  let r : URing := ⟨be p 0 8, be p 8 1, be p 9 1, if bitOf pas 31 then some (pas % 2 ^ 20) else none⟩
  respond St.ok 0 s.tick [] { s with ac.ring := some r, ac.wpos := 0, ac.rhead := 0, ac.ringFull := false }

/-- AC_RING_SET (R553). -/
def execAcRingSet (s : State) : Res := withCmd 0x0C05 s acRingSetCmd

/-- AC_CLOSE_NOW (R551). -/
def acCloseNowCmd (_ : Held) (_ : List Byte) (s : State) : State := respond St.ok 0 (s.tick + 1) [] { s with ac.closeNow := true }

/-- AC_CLOSE_NOW (R551). -/
def execAcCloseNow (s : State) : Res := withCmd 0x0C06 s acCloseNowCmd

/-! ### What falls to a sample point -/

/-- A tariff switch falls at this tick. -/
def tariffNow (s : State) : Bool := s.ac.pending.any (fun p => decide (p.1 ≤ s.tick))

/-- Closes that fall at a sample point: AC_CLOSE_NOW and those deferred; a tariff switch or a boundary of the same tick goes first
(R551, R559). -/
def closesPoint (s : State) : State :=
  if tariffNow s || (boundaryDue s).isSome then s
  else if s.ac.closeNow then closeOrDefer 4 s
  else match s.ac.due with
    | some c => if streaming s then s else closeInterval c true { s with ac.due := none }
    | none => s

/-- A checkpoint the dirty set forces (R556), or one that waited (R552). -/
def forcedPoint (s : State) : State :=
  if !s.lc.ready || !ckptAllowed s then s
  else if 16384 ≤ dirtyEntries s then startCkpt { s with ac.forced := satAdd 32 s.ac.forced 1 }
  else if s.ac.waits then startCkpt s
  else s

/-- Requests the dirty set holds back: AC_HELD counts each once (R556, R562). -/
def heldPoint (s : State) : State :=
  let held := s.wk.works.filter (fun p => decide (p.2.phase = .waiting) && dirtyHolds s p.2)
  let fresh := (held.filter (fun p => !p.2.barred)).map (·.1)
  let s' : State := { s with ac.heldCnt := satAdd 32 s.ac.heldCnt fresh.length, ac.holdNoted := !held.isEmpty }
  let s' := fresh.foldl (fun s id => modWork id (fun w => { w with barred := true }) s) s'
  match held, s.ac.holdNoted with
  | p :: _, false => note 0x1003 1 0xFFFF (dirtyEntries s) p.2.note s'
  | _, _ => s'

/-! ### Loss of power (R557 to R560) -/

/-- INPUT_LOSS_DETECTED (R557, R565): VIN48 below 40 V for 256 hub cycles. Before the end of stage 9 no save will be written
(R569). -/
def execInputLossDetected (s : State) : Res :=
  whenOk (s.pin.mainPower && !s.pin.shedding) s
    { s with pin.shedding := true, pin.pwrGood := false, ac.lossTick := if s.lc.ready then some s.tick else none }

/-- The close that the save carries: the held one, or the one not yet checkpointed (R556, R558). -/
def savedClose (s : State) : Option Close :=
  (s.ac.held.or (s.ac.run.bind (fun r => r.ckpt.close))).map (fun c => { c with cells := [] })

/-- What a save holds (R558). -/
def saveOf (s : State) : Save :=
  { seq := s.ac.saveSeq + 1, tick := s.tick, interval := s.ac.interval, staging := s.rc.staging, held := savedClose s
    close := s.ac.closeDirty, dirty := s.ac.dirty.foldl (fun t i => tblPut t i (cell s i)) [] }

/-- POWER_FAIL_SAVE (R558): five ticks after the loss, into the area not written last; its header comes last. -/
def execPowerFailSave (s : State) : Res :=
  match s.ac.lossTick with
  | none => noEvent s
  | some f =>
    if s.tick < f + 5 ∨ s.ac.saving.isSome then noEvent s else
    let v := saveOf s
    let s : State := { s with ac.saving := some s.tick, ac.saveSeq := v.seq }
    .next (if v.seq % 2 = 1 then { s with ac.saveA := some v } else { s with ac.saveB := some v })

/-- The newest save (R560). -/
def newestSave (s : State) : Option Save := if s.ac.saveSeq % 2 = 1 then s.ac.saveA else s.ac.saveB

/-- Entries of a table over another. -/
def tblOver {α : Type} (t base : Tbl α) : Tbl α := t.foldl (fun b p => tblPut b p.1 p.2) base

/-- The counters as stage 9 restores them (R560). A close restored while an earlier one is pinned stays held. -/
def restoreCounters (s : State) : State :=
  let base := ((ckptCopy s s.ac.lastCopy).map (·.cells)).getD []
  match newestSave s with
  | none => { s with ac.cells := base }
  | some v =>
    let s : State := match v.held with
      | none => { s with ac.cells := base }
      | some h =>
        let cells := tblOver v.close base
        let h : Close := { h with restored := true, cells := cells }
        if s.ac.pinned.isSome then { s with ac.cells := cells, ac.held := some h, ac.closeDirty := v.close }
        else
          let i := targetCopy s
          let s := setCopy i (some { tick := h.last + 1, interval := h.interval, close := some h, cells := cells }) s
          { s with ac.cells := cells, ac.lastCopy := i, ac.ckptTick := h.last + 1, ac.pinned := some i, ac.streamed := 0 }
    let s : State := { s with ac.cells := tblOver v.dirty s.ac.cells, ac.dirty := v.dirty.map (·.1) }
    note 0x1005 1 0xFFFF (v.close.length + v.dirty.length) ((v.held.map (·.interval)).getD 0) s

/-- The staged records of the save are programmed, RESTORED and closed (R484). -/
def restoreRecords (s : State) : State :=
  match newestSave s with
  | none => s
  | some v => v.staging.foldl (fun s r => programRec { r with restored := true, isOpen := false } s) s

end Sys2Proof.Machine
end

