-- ==== Sys2Proof/Machine/Power.lean ====
section
/-!
DEFINITION. What outlives main power, and the power-on sequence (R22 to R26, R439, R442 to R447, R460, R557, R566).
-/
namespace Sys2Proof.Machine

/-! ### Without main power (R22, R24, R473) -/

/-- The monitor's own state, which its battery keeps, with the evidence log and the baselines in MRAM. -/
def TmSt.kept (t : TmSt) (owed : Bool) : TmSt :=
  { t with
    nCount := 0, splits := 0, sensorSel := 0, evidSel := 0, evidReady := false, evidResult := 0, evidData := List.replicate 64 0
    shown := none, collects := [], bandSince := 0, railsDue := none, railsOff := false, grantStop := false, exitStop := false, wakeLeft := 0
    lSeen := t.lSeen || owed }

/-- The record areas and counts in MRAM. -/
def RecSt.kept (r : RecSt) : RecSt :=
  { nextSeq := r.nextSeq, oldest := r.oldest, fixFirst := r.fixFirst, fixCount := r.fixCount, clears := r.clears
    clearTick := r.clearTick, sillage := r.sillage, fixative := r.fixative }

/-- The accounts in MRAM: interval, checkpoints, saves, and how far the stream has come. -/
def AcSt.kept (a : AcSt) : AcSt :=
  { interval := a.interval, intStart := a.intStart, utcStart := a.utcStart, utcOk := a.utcOk, pinned := a.pinned
    streamed := a.streamed, copyA := a.copyA, copyB := a.copyB, lastCopy := a.lastCopy, ckptTick := a.ckptTick, rseq := a.rseq
    saveA := a.saveA, saveB := a.saveB, saveSeq := a.saveSeq }

/-- An engine's retirement data. -/
def Eng.kept (e : Eng) : Eng := { estate := if e.estate = 2 ∨ e.back = true then 2 else 0, readmit := e.readmit, ready := e.ready }

/-- A lane's retirement data. -/
def Lane.kept (n : Nat) (l : Lane) : Lane :=
  if l.state = 4 ∨ l.back = true then { state := 4, readmit := l.readmit, faults := l.faults } else { laneInit n with readmit := l.readmit, faults := l.faults }

/-- A unit's retirement data. -/
def PkUnit.kept (u : PkUnit) : PkUnit := { retired := u.retired || u.retireDue, readmit := u.readmit }

/-- The membership of a group, in the provisioning block (R523, R524); the member joins anew after a restart. -/
def GpSt.kept (g : GpSt) : GpSt :=
  { role := if g.role = 2 ∨ g.role = 4 then 3 else g.role, member := g.member, groupId := g.groupId, mgen := g.mgen, domain := g.domain
    manager := g.manager, mgrDigest := g.mgrDigest, identity := g.identity, expel := g.expel, joinPort := g.joinPort, joinSub := g.joinSub
    members := g.members.map (fun p => (p.1, { state := if p.2.state = 0 then 0 else 1, deputy := p.2.deputy, port := p.2.port
                                               subport := p.2.subport, identity := p.2.identity })) }

/-- What is left of the state without main power (R22, R24). -/
def powerOff (s : State) : State :=
  { tick := s.tick, out := s.out, freeCtr := s.freeCtr, pending := s.pending
    rc := s.rc.kept, prov := s.prov, tm := s.tm.kept s.lc.lockAfter.isSome, ac := s.ac.kept, gp := s.gp.kept
    fn := { regions := (s.fn.regions.filter (fun p => p.2.lock || p.2.vlock)).foldl (fun t p => tset {} t p.1 p.2) factoryRegions }
    lc := { copyA := s.lc.copyA, copyB := s.lc.copyB, aValid := s.lc.aValid, bValid := s.lc.bValid, shownLc := 0, slotA := s.lc.slotA
            slotB := s.lc.slotB, puf := s.lc.puf }
    pin := { smbAddr0 := s.pin.smbAddr0, smbAddr1 := s.pin.smbAddr1 }
    hl := { link0 := { perst := s.hl.link0.perst }, link1 := { perst := s.hl.link1.perst } }
    tk := { cal := s.tk.cal, calSeen := s.tk.calSeen, calVend := s.tk.calVend }
    en := { engines := (s.en.engines.map (fun p => (p.1, p.2.kept))).filter (fun p => decide (p.2 ≠ {}))
            progs := s.en.progs.filter (fun p => p.gone.isNone), setVer := s.en.setVer }
    ln := { lanes := (s.ln.lanes.map (fun p => (p.1, p.2.kept p.1))).filter (fun p => decide (p.2 ≠ laneInit p.1)) }
    pk := { units := (s.pk.units.map (fun p => (p.1, p.2.kept))).filter (fun p => decide (p.2 ≠ {})) }
    pt := { ports := (s.pt.ports.map (fun p => (p.1, ({ cal := p.2.cal } : Port)))).filter (fun p => decide (p.2 ≠ {})) }
    lim := { locks := s.lim.locks.filter (fun p => (p.2.confirmed || p.2.due.isNone) && decide (p.1 ∉ s.lim.clears)), ceilings := s.lim.ceilings, nextCeilings := s.lim.nextCeilings
             tables := s.lim.tables, armedTables := s.lim.armedTables }
    ks := { storeGen := s.ks.storeGen, format := s.ks.format, newest := ((rootSlot s).map (·.format)).getD s.ks.newest, slots := s.ks.slots, slotSeq := s.ks.slotSeq, snapSeq := s.ks.snapSeq, state := if s.ks.state = 4 then 4 else 0 } }

/-- POWER_GOOD's part that a restart shares: the sequence begins (R442, R565, R566). -/
def powerOn (s : State) : State :=
  let s : State := { s with pin.mainPower := true, pin.pwrGood := true, tm.rcSince := s.tick, lc.pgTick := s.tick, tk.sampleTick := s.tick, lc.stage := 0, rc.live := true, rc.liveCause := 1 }
  refreshHealth s

/-- POWER_GOOD (R442, R565 to R567): every core rail is in range; the address straps are read. -/
def execPowerGood (addr0 addr1 : Bool) (s : State) : Res :=
  whenOk (!s.pin.mainPower) s (powerOn { s with pin.smbAddr0 := addr0, pin.smbAddr1 := addr1 })

/-- POWER_FAIL_SAVE_END (R557, R558, R569): the save is whole, or none was due; the module stays off, or starts again when the input
is back. -/
def execPowerFailSaveEnd (back : Bool) (s : State) : Res :=
  whenOk (s.pin.shedding && (s.ac.lossTick.isNone || s.ac.saving.isSome)) s
    (if back then powerOn (powerOff s) else powerOff s)

/-! ### Stages 1 to 3 (R442, R439, R460, R469) -/

/-- The sequence stands before a stage: power is there, nothing stopped the start. -/
def atStage (n : Nat) (s : State) : Bool :=
  s.pin.mainPower && !s.pin.shedding && decide (s.lc.stage + 1 = n) && s.lc.startFail.isNone

/-- A stage ended. -/
def stageDone (n : Nat) (s : State) : State := { s with lc.stage := n }

/-- The start stops (R444); the recovery mailbox serves the frame that waits. -/
def startFails (stage cause : Nat) (s : State) : State := resumeWaiting { s with lc.startFail := some (stage, cause) }

/-- STAGE1_BELLOWS_LOCKED (R26, R442): the bellows takes over at the next whole tick. -/
def execStage1BellowsLocked (s : State) : Res :=
  whenOk (atStage 1 s) s
    (stageDone 1 { s with tick := s.tick + 1, tm.accFrac := 0, hc.a := .selftest, hc.b := .selftest })

/-- STAGE2_SELFTEST_END (R442, R444, R508): a pair that fails is held out; HC-B is preferred when HC-A fails. -/
def execStage2SelftestEnd (aOk bOk : Bool) (s : State) : Res :=
  if !atStage 2 s then noEvent s else
  let st := fun (ok : Bool) => if ok then PairState.loading else .heldOut
  let s : State := { s with hc.a := st aOk, hc.b := st bOk, hc.preferred := if aOk then 0 else 1 }
  .next (if !aOk && !bOk then startFails 2 1 s
    else
      let s := if aOk && bOk then s else note 0x0E07 1 (if aOk then 1 else 0) 2 0 s
      stageDone 2 s)

/-- Torn slots before the append point are reported (R469). -/
def tornEvid (s : State) : State :=
  let ap := (nonBlankFrom s.tm.evid s.tm.evid.length 0).length
  let bad := (s.tm.evid.filter (fun p => decide (p.1 < ap) && (match p.2 with | .torn => true | _ => false))).map (·.1)
  let s : State := { s with tm.append := ap, tm.full := decide (mainSlots ≤ ap), tm.torn := !bad.isEmpty }
  bad.foldl (fun s k => evidAppend (evidNow 8 0 0x27 k 0 1 s) s) s

/-- The battery-time events are appended, in order, and the buffer is emptied (R460). -/
def battAppend (s : State) : State :=
  let one := fun (s : State) (e : BattEvt) =>
    let seq := s.tm.evidNext
    let x := evidNow e.kind e.cls e.source e.valA e.valB e.detail s
    let s := evidAppend { x with tick := e.tick, utc := 0, batt := true, band := 0, split := decide (e.kind = 2) } s
    let s := tmLast e.cls e.source (if e.kind = 1 then e.detail % 256 else 0) (decide (e.kind = 2)) s
    tamperReport e.cls (decide (e.kind = 2)) seq { s with tm.lastTick := e.tick }
  let any := !s.tm.battBuf.isEmpty || decide (s.tm.battLost ≠ 0)
  let lost := s.tm.battLost
  let s := s.tm.battBuf.foldl one s
  let s := if lost = 0 then s else evidAppend { evidNow 12 0 0 lost 0 0 s with batt := true } s
  { s with tm.battBuf := [], tm.battLost := 0, tm.battEvents := any }

/-- Every action left is carried out (R439). -/
def runActions : Nat → State → State
  | 0, s => s
  | n + 1, s => if (nextAction (lcRec s)).isSome then runActions n (runAction s) else s

/-- A transition goes forward to its commit at a start; a frame that waits is left alone (R439, R442). -/
def finishAtStart (s : State) : State :=
  let held := s.mb.held
  let s := commitTransition (runActions 16 { s with mb.held := none })
  { s with mb.held := held }

/-- The notice of a resolution at start (R439): origin, target, outcome (1 committed, 2 undone). -/
def resolved (origin target : Lc) (outcome : Nat) (s : State) : State :=
  note 0x1401 1 0xFFFF (origin.code + 256 * target.code) outcome s

/-- The ember is gone though the record does not say so: ZEROIZED, whatever transition the record held (R439, R458). -/
def zeroAtStart (s : State) : State :=
  let o := lcState s
  resolved o .zeroized 1 (finishAtStart (beginTransition .zeroized 3 s.tm.evidNext { s with lc.zeroAfter := none, lc.lockAfter := none }))

/-- The ember is missed in this state (R433, R439). -/
def emberDue (s : State) : Bool := decide (lcState s ≠ .manufacture ∧ lcState s ≠ .zeroized ∧ lcState s ≠ .decommissioned)

/-- An intent found at start is resolved (R439). -/
def resolveIntent (s : State) : State :=
  let r := lcRec s
  let t := r.target.getD r.state
  if !s.tm.ember && !s.tm.emberLost && emberDue s then zeroAtStart s
  else if !r.intent then s
  else if r.dir = 1 then resolved r.state t 1 (finishAtStart s)
  else resolved r.state t 2 (undoOpening s)

/-- A class L event on battery that no record covers: LOCKED, from the state reached (R439, R460). -/
def lockAtStart (s : State) : State :=
  let o := lcState s
  let l := s.tm.lSeen
  let s : State := { s with tm.lSeen := false }
  if l && responds s 2 then resolved o .locked 1 (finishAtStart (beginTransition .locked 2 (s.tm.evidNext - 1) s)) else s

/-- STAGE3_LC_RECORD_READ (R439, R442, R444, R460): whether the DIGEST of each copy verifies as read. -/
def execStage3LcRecordRead (aOk bOk : Bool) (s : State) : Res :=
  if !atStage 3 s then noEvent s else
  let s : State := { s with lc.aValid := s.lc.aValid && aOk, lc.bValid := s.lc.bValid && bOk }
  .next (if !s.lc.aValid && !s.lc.bValid then startFails 3 1 s
    else
      let s := setLive 2 (battAppend (tornEvid s))
      let s := lockAtStart (resolveIntent s)
      stageDone 3 { s with lc.shownLc := (lcState s).code, rc.liveCause := 1 })

/-! ### Stages 4 to 7 (R202 to R204, R368, R371, R442, R447, R458) -/

/-- STAGE4_ROOT_DERIVED (R202, R204, R442, R458): whether one of the three PUF reconstructions succeeds. -/
def execStage4RootDerived (pufOk : Bool) (s : State) : Res :=
  if !atStage 4 s then noEvent s else
  let s := if s.tm.emberLost then
      let s : State := evidAppend (evidNow 11 0 13 (readingNat (lastReading s 13 0)) (readingNat (lastReading s 13 1)) 4 s) { s with tm.emberLost := false }
      if emberDue s then zeroAtStart s else s
    else if !s.tm.ember && emberDue s then zeroAtStart s
    else s
  if !emberDue s then .next (stageDone 4 s)
  else if !pufOk then .next (startFails 4 1 { s with ks.state := 3 })
  else .next (stageDone 4 { s with lc.frk := rootKey s })

/-- STAGE5_RANDOM_READY (R203, R368, R371, R372, R442): which sources pass their start-up tests, and whether the known answers of
the conditioner and of the instances stand. -/
def execStage5RandomReady (srcOk : List Bool) (katOk : Bool) (s : State) : Res :=
  if !atStage 5 s then noEvent s else
  let s := (List.range 4).foldl (fun s k => if srcOk.getD k true then s else sourceFails k 3 s) s
  if sourcesOn s = 0 then .next (startFails 5 1 s)
  else if !katOk then .next (startFails 5 2 s)
  else
    let q := draw (drbgCall 64 1 (instantiateAll s))
    .next (stageDone 5 { q.2 with rn.ready := true, lc.bootNonce := q.1, dg.wrap := !s.lc.frk.isEmpty, dg.nonce := 0 })

/-- The slot that the start runs: ACTIVE_SLOT when it passes and is not on trial, else the other when that passes (R447). -/
def chosenSlot (s : State) : Option Nat :=
  let r := lcRec s
  let a := r.activeSlot
  if slotPasses s a && !r.trial then some a
  else if slotPasses s (1 - a) then some (1 - a)
  else if slotPasses s a then some a
  else none

/-- STAGE6_SLOT_DECIDED (R440, R442, R444, R447): `fault` turns the second decision over. -/
def execStage6SlotDecided (fault : Bool) (s : State) : Res :=
  if !atStage 6 s then noEvent s else
  let r := lcRec s
  if fault then .next (startFails 6 2 (lockClass 0x26 St.decisionSplit s)) else
  match chosenSlot s with
  | none => .next (startFails 6 1 s)
  | some k =>
    let start := fun (i : Nat) (p : PairState) =>
      if p = .loading then (if i = s.hc.preferred then PairState.active else .standby) else p
    let s := if k = r.activeSlot then s else note 0x1402 1 0xFFFF k r.activeSlot (writeLc { r with activeSlot := k, trial := false } s)
    let s : State := { s with hc.a := start 0 s.hc.a, hc.b := start 1 s.hc.b, hc.active := some s.hc.preferred, lc.runSlot := k, lc.trialStart := s.tick }
    .next (afterTakeover (stageDone 6 s))

/-- STAGE7_HBM_READY (R442): every record reads as empty, every counter of the tree as zero. -/
def execStage7HbmReady (s : State) : Res :=
  whenOk (atStage 7 s) s (stageDone 7 { s with ks.recs := [], ks.minors := [], ks.majors := [] })

/-! ### Stages 8 and 9 (R241, R442 to R444, R484, R560) -/

/-- A lane that fails at start is quarantined, or retired when it failed before (R265). -/
def lanesAtStart (bad : List Nat) (s : State) : State :=
  let s := bad.foldl (fun s n => if n < 160 ∧ (lane s n).state ≠ 4 then faultNote n 0xFFFF 0xFFFF 0 (faultLane n s) else s) s
  (List.range 128).foldl (fun s k => match slotLane s k with
    | some _ => s
    | none => match pickSpare s (laneDie k) with
      | some sp => modLane sp (fun l => { l with state := 0, slot := some k, stTick := s.tick, since := s.tick }) s
      | none => s) s

/-- A unit that fails at start is retired (R391). -/
def unitsAtStart (bad : List Nat) (s : State) : State :=
  bad.foldl (fun s u => if u < 64 ∧ (pkUnit s u).retired = false then note 0x1301 1 u 0 0 (modPk u (fun x => { x with retired := true }) s) else s) s

/-- A cluster as it comes up (R147): its load passed, or it stays DRAINED with a notice. -/
def clusterAtStart (bad : List Nat) (c : Nat) (s : State) : State :=
  let s := modCluster c (fun x => { x with vendVer := vendorVersion s, custVer := loadedSet s }) s
  let s := if (List.range 16).all (fun i => decide ((engine s (16 * c + i)).estate = 2)) then setClusterState c 5 s else s
  if c ∈ bad then note 0x0F04 1 c 0 0 (setClusterState c 1 s) else s

/-- Clusters that hold an engine in service. -/
def clustersUp (s : State) : Nat := ((List.range 64).filter (fun c => decide ((cluster s c).state = 0) && decide (0 < clusterActive s c))).length

/-- Some lane of an I/O die passes. -/
def dieServes (s : State) (d : Nat) : Bool := (dieLanes d).any (fun n => decide ((lane s n).state ≤ 1))

/-- STAGE8_UNITS_TESTED (R442, R444): the engines, lanes and public-key units that fail their known-answer tests, and the clusters
whose load fails its check. -/
def execStage8UnitsTested (engs lanes pks clusters : List Nat) (s : State) : Res :=
  if !atStage 8 s then noEvent s else
  let s := engs.foldl (fun s e => if e < 1024 ∧ (engine s e).estate ≠ 2 then retireEngine e s else s) s
  let s := (List.range 64).foldl (fun s c => clusterAtStart clusters c s) s
  let s := refreshPool (unitsAtStart pks (lanesAtStart lanes s))
  .next (if clustersUp s < 16 ∨ dieServes s 0 = false ∨ dieServes s 1 = false then startFails 8 1 s else stageDone 8 s)

/-- The store as the root slots leave it (R204, R241, R442). -/
def storeAtStart (s : State) : State :=
  if !emberDue s then { s with ks.state := 4 } else
  match rootSlot s with
  | some r =>
    if r.changeSeq = 0 then { s with ks.state := 2, ks.scrubStart := s.tick }
    else { s with ks.state := 0, ks.changeSeq := r.changeSeq, ks.durableSeq := r.changeSeq, ks.chain := r.chain }
  | none => { s with ks.state := 2, ks.scrubStart := s.tick }

/-- Torn slots of the record areas are erased and reported (R484). -/
def tornRecords (s : State) : State :=
  let torn := fun (t : Tbl RecSlot) => (t.filter (fun p => match p.2 with | .torn => true | _ => false)).map (·.1)
  let a := torn s.rc.sillage
  let b := torn s.rc.fixative
  let s : State := { s with rc.sillage := a.foldl (fun t k => tblDel t k) s.rc.sillage, rc.fixative := b.foldl (fun t k => tblDel t k) s.rc.fixative }
  b.foldl (fun s k => note 0x0703 1 0xFFFF k 1 s) (a.foldl (fun s k => note 0x0703 1 0xFFFF k 0 s) s)

/-- A member that has restarted joins its group again on its own (R524). -/
def rejoin (s : State) : State := if s.gp.role = 3 then sendHello true s else s

/-- STAGE9_READY (R177, R442, R443, R484, R560): the store, the counters and the limiter; READY is set. -/
def execStage9Ready (s : State) : Res :=
  if !atStage 9 s then noEvent s else
  let s := restoreCounters (restoreRecords (tornRecords (storeAtStart s)))
  let s : State := { s with lim.running := true, lim.starting := true, lim.window := windowOf s.tick }
  .next (rejoin (refreshRegime (stageDone 9 { s with lc.ready := true, lc.readyTick := s.tick, hc.beat := some s.tick })))

end Sys2Proof.Machine
end

