-- ==== Sys2Proof/Machine/Groups.lean ====
section
/-!
DEFINITION. The hearth group: frames between members, joining, commands, replication, spread batches, loss and promotion (R518 to
R546).
-/
namespace Sys2Proof.Machine

/-! ### Frames (R518 to R521) -/

/-- A frame from a member was accepted: contact, and for an ORPHAN that hears its manager a rejoin (R521, R527, R538). -/
def heard (h : GpHead) (s : State) : State :=
  let s := modMember h.src (fun x => { x with seen := s.tick, rxSeq := h.seq, echo := h.tick }) s
  if h.src = s.gp.manager ∧ (s.gp.role = 2 ∨ s.gp.role = 3 ∨ s.gp.role = 4) then
    let s : State := { s with gp.lastMgr := s.tick }
    if s.gp.role = 4 ∧ s.gp.rejoining = false then sendHello false s else s
  else s

/-- The header of a frame is no frame of this group, or is not new (R520). -/
def headBad (s : State) (h : GpHead) : Bool :=
  decide (h.ver ≠ 1) || decide (s.gp.role = 0) || decide (h.group ≠ s.gp.groupId) || decide (8192 < h.len) ||
  decide ((member s h.src).state = 0) || decide (h.seq ≤ (member s h.src).rxSeq)

/-! ### Parts (R532 to R537) -/

/-- The slice of a batch is in reset. -/
def batchInReset (s : State) (bid : Nat) : Bool :=
  match work s bid with
  | none => false
  | some w => match w.src with
    | .queue n _ => (slice s (qp s n).slice).resetAt.isSome
    | _ => false

/-- Running a part twice does no harm (R534). -/
def idempotent (f : Nat) : Bool := !changesKeys f && (limitedField f).isNone && !isCustomer f

/-- A part ends IN_DOUBT; its entry is held while there is room (R535, R537). -/
def doubtPart (m bid idx id : Nat) (w : Work) (res : Nat) (s : State) : State :=
  let head := work s bid
  let where_ : Nat × Nat := match head.map (fun w => w.src) with
    | some (WSrc.queue n seq) => (n, seq)
    | _ => (0, 0)
  let d : Doubt := { qp := where_.1, part := idx, member := m, res, seq := where_.2, ctag := (head.map (·.sub.ctag)).getD 0, batch := bid
                     mgen := s.gp.mgen, tick := s.tick, rec_ := { status := St.inDoubt, detail := if res = 2 then 0xFFFF else m } }
  let s : State := if s.gp.doubts.length < 262144 then { s with gp.doubts := s.gp.doubts ++ [d] } else s
  settleBatch bid (endPart id bid idx { w with phase := .ended } { status := St.inDoubt, detail := m } (dropAway bid idx s))

/-- One part of a member that is gone: run here again, or in doubt; a part not yet sent simply stays (R535). -/
def losePart (keep : Bool) (s : State) (a : Away) : State :=
  match ((batch s a.batch).bind (fun b => tblGet b.works a.idx)).bind (fun id => (work s id).map (fun w => (id, w))) with
  | none => dropAway a.batch a.idx s
  | some (id, w) =>
    if w.phase ≠ .away then dropAway a.batch a.idx s
    else if keep && idempotent w.sub.func && !batchInReset s a.batch then
      modWork id (fun w => { w with phase := .waiting }) (dropAway a.batch a.idx
        { s with gp.reassigned := satAdd 32 s.gp.reassigned 1 })
    else doubtPart a.member a.batch a.idx id w (if keep then 0 else 2) s

/-- Every part a member holds: the entries in doubt of it afterwards are new (R535). -/
def loseParts (m : Nat) (s : State) : State := (s.gp.away.filter (fun a => decide (a.member = m))).foldl (losePart true) s

/-- Entries of a member still held. -/
def heldDoubts (s : State) (m : Nat) : List Doubt := s.gp.doubts.filter (fun d => decide (d.member = m ∧ d.res = 0))

/-- An entry becomes unresolvable (R537). -/
def Doubt.lost (d : Doubt) : Doubt :=
  if d.res = 0 then { d with res := 2, rec_ := { status := St.inDoubt, detail := 0xFFFF } } else d

/-- The held entries a condition names become unresolvable. -/
def loseDoubts (c : Doubt → Bool) (s : State) : State :=
  { s with gp.doubts := s.gp.doubts.map (fun d => if c d then d.lost else d) }

/-- Every entry of a member becomes unresolvable, which is a reconciliation (R537). -/
def memberRestarted (m : Nat) (s : State) : State :=
  let n := (heldDoubts s m).length
  if n = 0 then s else note 0x1105 1 m 0 n (loseDoubts (fun d => decide (d.member = m)) s)

/-- A GP_RELAY in flight to a member that is gone (R526). -/
def relayLost (m : Nat) (s : State) : State :=
  if s.gp.relay = some m then
    let s : State := { s with gp.relay := none }
    if s.mb.held.any (fun (h : Held) => decide (h.stage = .running ∧ h.frame.code = 0x0D08)) then refuse St.workerLost 0 s else s
  else s

/-- A manager has seen a higher MGEN (R540). -/
def depose (g : Nat) (s : State) : State :=
  let s : State := s.gp.away.foldl (losePart false) s
  let s := match s.gp.relay with
    | some m => relayLost m s
    | none => s
  note 0x1107 1 s.gp.member g 0 (loseDoubts (fun _ => true)
    { s with gp.role := 5, gp.frozen := false, gp.majority := false, gp.spread := [] })

/-- The header of R520, with its TYPE. -/
def GpHead.bytes (h : GpHead) (type : Nat) : List Byte :=
  beBytes 1 h.ver ++ beBytes 1 type ++ beBytes 1 h.src ++ beBytes 1 h.dst ++ beBytes 4 h.group ++ beBytes 4 h.mgen ++ beBytes 4 h.len ++
  beBytes 8 h.seq ++ beBytes 8 h.tick

/-- The group unit takes a frame that the port passed to it and that bears this header (R288, R520). -/
def takeFrame (p k type : Nat) (h : GpHead) (s : State) : Option State :=
  (s.gp.frames.find? (fun f => decide (f.1 = p ∧ f.2.1 = k ∧ octets f.2.2 14 32 = h.bytes type))).map
    (fun f => { s with gp.frames := s.gp.frames.erase f })

/-- What happens to a group frame before its own rule: it is dropped, ignored, deposes this manager, or is taken (R518, R520, R535,
R540). `from_`: 0 any member, 1 the manager, 2 a worker. -/
def withFrame (from_ type p k : Nat) (h : GpHead) (s : State) (f : State → State) : Res :=
  match takeFrame p k type h s with
  | none => noEvent s
  | some s =>
  if headBad s h then .next (dropOther p s)
  else if h.mgen < s.gp.mgen then .next s
  else if h.dst ≠ s.gp.member ∧ h.dst ≠ 255 then .next s
  else if s.gp.mgen < h.mgen then .next (if s.gp.role = 1 then depose h.mgen s else s)
  else if s.gp.role = 1 ∧ (member s h.src).state = 4 then .next s
  else if from_ = 1 ∧ (h.src ≠ s.gp.manager ∨ s.gp.role = 1) then .next (dropOther p s)
  else if from_ = 2 ∧ s.gp.role ≠ 1 then .next (dropOther p s)
  else .next (f (heard h s))

/-! ### Changes sent and applied (R524, R525, R528) -/

/-- The octets of a decimalisation table (R178). -/
def decTabBytes (t : DecTab) : List Byte :=
  t.digits.map (fun n => BitVec.ofNat 8 n) ++ beBytes 1 t.start ++ beBytes 1 t.len ++ beBytes 1 t.pad ++ beBytes 1 (b2n t.valid)

/-- The octets of the ceilings (R178). -/
def ceilingBytes (c : Ceilings) : List Byte :=
  c.classes.flatMap (fun k => beBytes 4 k.useCeil ++ beBytes 4 k.failCeil ++ beBytes 1 k.lockWindows) ++
  [c.pin, c.card].flatMap (fun g => beBytes 2 g.ratio ++ beBytes 4 g.min ++ beBytes 1 g.windows)

/-- An item as this module sends it. -/
def itemBytes (s : State) : ReplItem → List Byte
  | .key i r => beBytes 1 1 ++ counted (r.plain i ++ r.material)
  | .erase i => beBytes 1 2 ++ beBytes 4 i
  | .domain d e => beBytes 1 3 ++ domBytes s.tick d e ++ beBytes 2 e.cur ++ beBytes 2 e.oldest
  | .epoch c => beBytes 1 4 ++ epochBytes c
  | .creds l => beBytes 1 5 ++ l.flatMap (fun c => beBytes 1 c.role ++ beBytes 1 c.alg ++ beBytes 1 c.state ++ octets c.label 0 32 ++
      counted c.key ++ beBytes 8 c.enrolled)
  | .rules l => beBytes 1 6 ++ l.flatMap (fun r => beBytes 1 r.so ++ beBytes 1 r.kc ++ beBytes 1 r.au ++ beBytes 1 r.op)
  | .isSealed b => beBytes 1 7 ++ beBytes 1 (b2n b)
  | .progKeys t => beBytes 1 8 ++ t.flatMap (fun p => beBytes 1 p.1 ++ beBytes 1 p.2.alg ++ counted p.2.key)
  | .policy c t => beBytes 1 9 ++ ceilingBytes c ++ t.flatMap decTabBytes
  | .programs l => beBytes 1 10 ++ l.flatMap (fun p => beBytes 2 p.func ++ beBytes 4 p.version ++ counted p.code)
  | .members l => beBytes 1 11 ++ l.flatMap (fun m => beBytes 1 m.1 ++ beBytes 1 (b2n m.2.1) ++ octets m.2.2 0 48)
  | .lockout i u => beBytes 1 12 ++ lockoutBytes i u

/-- The configured members, as every member is told them. -/
def memberList (s : State) : List (Nat × Bool × List Byte) := s.gp.members.map (fun p => (p.1, p.2.deputy, p.2.identity))

/-- The group tables as they stand. -/
def tablesNow (s : State) : SentTables :=
  { creds := s.prov.creds, rules := s.prov.rules, isSealed := s.prov.isSealed, progKeys := s.prov.progKeys, ceilings := s.lim.ceilings
    tables := s.lim.tables, progs := s.en.progs, members := memberList s }

/-- The tables that differ from those last sent. -/
def tableChanges (old new : SentTables) : List ReplItem :=
  (if old.members = new.members then [] else [.members new.members]) ++
  (if old.creds = new.creds then [] else [.creds new.creds]) ++
  (if old.rules = new.rules then [] else [.rules new.rules]) ++
  (if old.isSealed = new.isSealed then [] else [.isSealed new.isSealed]) ++
  (if old.ceilings = new.ceilings ∧ old.tables = new.tables then [] else [.policy new.ceilings new.tables]) ++
  (if old.progKeys = new.progKeys then [] else [.progKeys new.progKeys]) ++
  (if old.progs = new.progs then [] else [.programs new.progs])

/-- Lockouts in force, at group ticks (R524). -/
def lockoutItems (s : State) : List ReplItem :=
  (s.lim.locks.filter (fun p => p.2.confirmed && decide (p.1 < 2 ^ 27) && decide (s.tick < p.2.until_))).map
    (fun p => .lockout p.1 (groupTick s p.2.until_))

/-- Everything a full resync carries, in its order (R524). -/
def fullItems (s : State) : List ReplItem :=
  [.members (memberList s), .creds s.prov.creds, .rules s.prov.rules, .isSealed s.prov.isSealed, .policy s.lim.ceilings s.lim.tables,
   .progKeys s.prov.progKeys, .programs s.en.progs] ++
  s.ks.doms.map (fun p => .domain p.1 p.2) ++ s.ks.epochs.map .epoch ++ s.ks.recs.map (fun p => .key p.1 p.2) ++ lockoutItems s

/-- Octets of a change go to a member under its link key (R521). -/
def sendChange (m seq : Nat) (bytes : List Byte) (s : State) : State := gpSend m 0x20 (beBytes 8 seq ++ Config.flueSeal m seq bytes) s

/-- Changes kept for partial resyncs (R525). -/
def keepChanges (s : State) (l : List ReplChange) : List ReplChange :=
  let l := l.filter (fun c => decide (s.tick < c.tick + 2 ^ 26))
  l.drop (l.length - 1048576)

/-- A change is numbered, kept, and sent to every member in contact (R525, R528). -/
def addChange (ks : Nat) (bytes : List Byte) (s : State) : State :=
  let seq := s.gp.replSeq + 1
  let s : State := { s with gp.replSeq := seq, gp.history := keepChanges s (s.gp.history ++ [⟨seq, s.tick, bytes, ks⟩]) }
  (contacts s).foldl (fun s m => sendChange m seq bytes s) s

/-- The manager sends what was committed since its last sample point (R528). -/
def replicate (s : State) : State :=
  if s.gp.role ≠ 1 then s else
  let new := s.ks.entries.filter (fun e => !e.mark && decide (s.gp.sentKs < e.seq))
  let s := new.foldl (fun s e => addChange e.seq e.bytes s) s
  let now := tablesNow s
  let s := (tableChanges s.gp.tables now).foldl (fun s i => addChange 0 (itemBytes s i) s) s
  { s with gp.sentKs := s.ks.changeSeq, gp.tables := now }

/-- One item takes effect on a worker (R524, R528, R531); a list of credentials or rules is the whole of them. -/
def applyItem (s : State) (i : ReplItem) : State :=
  match i with
  | .key i r => { putRec i r s with ks.quar := s.ks.quar.filter (· ≠ i), ks.cache := tblDel s.ks.cache i }
  | .erase i => (eraseSet s i).foldl eraseIndex s
  | .domain d e => setDom d e s
  | .epoch c => { s with ks.epochs := s.ks.epochs ++ [{ c with tick := ownTick s c.tick }] }
  | .creds l => if l.length = 32 then { s with prov.creds := l } else s
  | .rules l => if l.length = 16 then { s with prov.rules := l } else s
  | .isSealed b => { s with prov.isSealed := b }
  | .progKeys t => { s with prov.progKeys := t }
  | .policy c t => { s with lim.nextCeilings := some c, lim.tables := t }
  | .programs l => { s with en.progs := l }
  | .members l =>
    let old := s.gp.members
    { s with gp.members := l.foldl (fun t m => tblPut t m.1 { tget {} old m.1 with
        deputy := m.2.1, identity := m.2.2, state := if m.1 = s.gp.manager ∨ m.2.1 = true then 3 else max 1 (tget {} old m.1).state }) [] }
  | .lockout i u => { s with lim.locks := tblPut s.lim.locks i ⟨true, ownTick s u, none⟩ }

/-- What came in since the last sample point is applied, in order, and acknowledged (R528). -/
def applyInbox (s : State) : State :=
  if s.gp.inbox.isEmpty then s else
  let items := s.gp.inbox
  let s : State := items.foldl (fun s q => applyItem s q.2) { s with gp.inbox := [] }
  let last := items.foldl (fun n q => max n q.1) s.gp.replSeq
  if s.gp.role = 1 ∨ items.all (fun q => decide (q.1 = 0)) then s
  else gpSend s.gp.manager 0x21 (beBytes 8 last) { s with gp.replSeq := last }

/-! ### What happens at a sample point -/

/-- A PART_CANCEL takes effect on the parts this worker holds (R536). -/
def applyStop (s : State) (c : PartStop) : State :=
  match s.wk.works.find? (fun q => decide (q.2.src = .spread c.batch c.idx)) with
  | none => s
  | some (id, w) => if c.mode = 0 then cancelWork id w s else resetWork c.mode id w s

/-- N counts the configured members (R530). -/
def groupN (s : State) : Nat := s.gp.members.length

/-- LIVE members, self included (R530). -/
def liveN (s : State) : Nat := if s.gp.role = 1 then 1 + (liveWorkers s).length else 0

/-- The manager may commit: LIVE members are a majority, and a promotion has its acknowledgements (R530, R539). -/
def hasMajority (s : State) : Bool := decide ((groupN s + 1) / 2 ≤ liveN s) && decide (s.gp.needAcks ≤ s.gp.acks.length)

/-- MAJORITY and FROZEN follow the LIVE members (R530). -/
def refreshMajority (s : State) : State :=
  if s.gp.role ≠ 1 then s else
  let ok := hasMajority s
  let s' : State := { s with gp.majority := ok, gp.frozen := !ok }
  if ok = s.gp.majority then s' else note 0x1106 1 0xFFFF (b2n ok) (liveN s) s'

/-- A relayed command enters the mailbox command path when no other command is held (R526). -/
def placeRelayed (s : State) : State :=
  match s.gp.relayed with
  | none => s
  | some (inner, cls, signers) =>
    if s.mb.busy then s else
    let f := (parseHeader (octets inner 0 64)).withBody (inner.drop 64)
    let h : Held := { frame := f, stage := .ready, cls, since := s.tick, nonce := none, signers, len := inner.length, relay := true }
    { s with gp.relayed := none, mb.busy := true, mb.held := some h, mb.ledger := .received }

/-- Parts that were granted, in the part journal (R533). -/
def markGranted (s : State) : State :=
  { s with gp.journal := s.gp.journal.map (fun j => if j.state = 0 ∧
      s.wk.works.any (fun q => decide (q.2.src = .spread j.batch j.idx) && q.2.granted) = true then { j with state := 1 } else j) }

/-- Entries whose part is with a worker no longer. -/
def staleAway (s : State) : State :=
  { s with gp.away := s.gp.away.filter (fun a => (batch s a.batch).any (fun b => (tblGet b.works a.idx).isSome)) }

/-! ### The flue associations (R519) -/

/-- The group domain: the manager's own, or the owner of the sub-port a member joined on (R519). -/
def groupDomain (s : State) : Nat := if s.gp.role = 1 then s.gp.domain else (port s s.gp.joinPort).owner

/-- The group SAK: a class 9 record of type 5 in the group domain that may send and receive, its handle and material; while a resync runs, the
one that came with JOIN_ACCEPT (R257, R519, R524). -/
def groupSak (s : State) : Option (Nat × List Byte) :=
  let fits := fun (q : Nat × KRec) =>
    let r := q.2
    decide (usageClass r.usage = 9) && usageIs r 'D' '0' && modeIn r ['B'] && decide (r.type = 5) &&
    (keyTests (groupDomain s) [(1, keyRead s (r.gen * 2 ^ 27 + q.1), false, true)]).isNone
  match s.ks.recs.find? fits with
  | some q => some (q.2.gen * 2 ^ 27 + q.1, q.2.material)
  | none => if s.gp.resync ∧ s.gp.sak ≠ [] then some (0, s.gp.sak) else none

/-- The members this module receives from: the manager from every one, any other from the manager and the deputies (R519). -/
def peers (s : State) : List Nat :=
  (s.gp.members.filter (fun q => decide (q.1 ≠ s.gp.member ∧ q.2.state ≠ 0) &&
    (decide (s.gp.role = 1) || q.2.deputy || decide (q.1 = s.gp.manager)))).map (·.1)

/-- The channels of the flue network: one to send on each sub-port, one to receive for each peer (R255, R519). -/
def flueChannels (s : State) : List (Nat × Nat × Nat × Nat) :=
  (((peers s).map (fun m => ((linkOf s m).1, (linkOf s m).2, 1, Config.flueSci s.gp.groupId s.gp.member))).eraseDups ++
    (peers s).map (fun m => ((linkOf s m).1, (linkOf s m).2, 0, Config.flueSci s.gp.groupId m))).filter
    (fun c => decide ((port s c.1).role = 3 ∧ (port s c.1).owner = groupDomain s))

/-- The group unit installs and rolls over the flue associations from the group SAK: a new SAK takes the next AN, and the associations of the
AN before it stay while their record serves (R257, R519). -/
def flueSync (s : State) : State :=
  match groupSak s with
  | none => s
  | some (h, key) =>
    if s.gp.role = 0 then s else
    let an := if s.gp.sak = key ∨ s.gp.sak = [] then s.gp.an else (s.gp.an + 1) % 4
    let want := flueChannels s
    let chan := fun (a : Sa) => (a.port, a.subport, a.dir, a.sci)
    let keep := (s.ln.sas.filter (fun a => decide ((port s a.port).role ≠ 3) ||
      (decide (chan a ∈ want) && (decide (a.an = an ∧ s.gp.an = an) || decide (a.an ≠ an ∧ a.an = (an + 3) % 4))))).map
        (fun a => if (port s a.port).role = 3 ∧ a.an = an then { a with sak := h } else a)
    let new := (want.filter (fun c => !keep.any (fun a => decide (chan a = c ∧ a.an = an)))).map (fun c =>
      ({ dir := c.2.2.1, suite := 2, an, flags := 3, port := c.1, subport := c.2.1, sak := h, ssci := 0, sci := c.2.2.2, salt := [], window := 0
         nextPn := 1, low := 1, tick := s.tick } : Sa))
    { s with gp.sak := key, gp.an := an, ln.sas := keep ++ new }

/-- A worker asks the manager for the records that it has quarantined, once each (R528; log entry 30). -/
def askRecords (s : State) : State :=
  if s.gp.role ≠ 2 then s else
  let new := s.ks.quar.filter (fun i => decide (i ∉ s.gp.asked))
  let s : State := { s with gp.asked := s.ks.quar }
  if new.isEmpty then s else gpSend s.gp.manager 0x21 (beBytes 8 s.gp.replSeq ++ new.flatMap (beBytes 4)) s

/-- The manager sends a record that a worker asks for (R528). -/
def sendRecord (m : Nat) (s : State) (i : Nat) : State :=
  sendChange m s.gp.replSeq (itemBytes s (if (krec s i).type = 0 then .erase i else .key i (krec s i))) s

/-- Before a full resync the member's store is empty, its domain table and epoch schedule with it (R524, R525). -/
def emptyForResync (s : State) : State :=
  if s.gp.emptyDue then emptyStore { s with gp.emptyDue := false, ks.doms := [], ks.epochs := [], ks.domArmed := [] } else s

/-! ### Commands (R522 to R526) -/

/-- The owner domain of every FLUE port is the group domain (R519). -/
def ownFlue (d : Nat) (s : State) : State :=
  { s with gp.domain := d, pt.ports := s.pt.ports.map (fun p => if p.2.role = 3 then (p.1, { p.2 with owner := d }) else p) }

/-- A new group (R522). -/
def formGroup (p : List Byte) (s : State) : State :=
  let own := be p 4 1
  let s := drawIdentity s
  let s : State := { s with
    gp.role := 1, gp.member := own, gp.manager := own, gp.groupId := be p 0 4, gp.mgen := 1, gp.expel := 0, gp.acks := []
    gp.needAcks := 0, gp.frozen := false, gp.majority := true, gp.replSeq := 0, gp.history := []
    gp.members := [(own, { state := 3, identity := identityDigest s })]
    gp.sentKs := s.ks.changeSeq, gp.offset := 0 }
  let s := ownFlue (be p 6 2) s
  respond St.ok 0 s.tick [] { s with gp.tables := tablesNow s }

/-- The PROMOTE payload: the signed command, its nonce and the module it was signed for (R521). -/
def promoteBytes (h : Held) (p : List Byte) : List Byte :=
  beBytes 8 Config.serial ++ octets ((h.nonce.map (·.value)).getD []) 0 32 ++ beBytes 4 h.frame.nonceId ++ counted p ++
  h.frame.sigs.flatMap (fun b => beBytes 1 b.cred ++ beBytes 1 b.alg ++ counted b.sig)

/-- A deputy is promoted (R539). -/
def promoteSelf (h : Held) (p : List Byte) (s : State) : State :=
  let expel := be p 16 8
  let own := s.gp.member
  let left := s.gp.members.filter (fun q => decide (q.1 = own) || !bitOf expel q.1)
  let s : State := { s with
    gp.role := 1, gp.mgen := be p 8 4, gp.manager := own, gp.expel := expel, gp.acks := [own], gp.needAcks := left.length / 2 + 1
    gp.members := left.map (fun q => (q.1, { q.2 with state := if q.1 = own then 3 else 1, port := s.gp.joinPort, subport := s.gp.joinSub }))
    gp.frozen := true, gp.majority := false, gp.rejoining := false, gp.resync := false, gp.offset := 0, gp.history := []
    gp.sentKs := s.ks.changeSeq }
  let s := flueSync (ownFlue (be p 6 2) s)
  let s := (left.filter (fun q => decide (q.1 ≠ own))).foldl (fun s q => gpSend q.1 0x40 (promoteBytes h p) s) s
  let s := refreshMajority (note 0x1104 1 own s.gp.mgen expel { s with gp.tables := tablesNow s })
  respond St.ok 0 s.tick [] s

/-- GP_FORM (R522, R539). -/
def gpFormCmd (h : Held) (p : List Byte) (s : State) : State :=
  if s.gp.role = 0 then
    if be p 8 4 ≠ 1 then refuse St.grateRange 72 s
    else if be p 16 8 ≠ 0 then refuse St.grateRange 80 s
    else formGroup p s
  else if s.gp.role = 4 ∧ (member s s.gp.member).deputy = true then
    if be p 0 4 ≠ s.gp.groupId then refuse St.grateRange 64 s
    else if be p 4 1 ≠ s.gp.member then refuse St.grateRange 68 s
    else if be p 8 4 ≠ s.gp.mgen + 1 then refuse St.grateRange 72 s
    else promoteSelf h p s
  else refuse St.groupRole 0 s

/-- GP_FORM (R522). -/
def execGpForm (s : State) : Res := withCmd 0x0D01 s gpFormCmd

/-- The command is the manager's alone (R518). -/
def asManager (s : State) (f : State → State) : State := if s.gp.role = 1 then f s else refuse St.groupRole 0 s

/-- GP_ADMIT (R518, R519, R524). -/
def gpAdmitCmd (_ : Held) (p : List Byte) (s : State) : State :=
  asManager s (fun s =>
    let m := be p 0 1
    let dep := bitOf (be p 1 1) 0
    if 1 < be p 1 1 then refuse St.grateFormat 65 s
    else if 31 < be p 2 1 then refuse St.grateRange 66 s
    else if 7 < be p 3 1 then refuse St.grateRange 67 s
    else if (member s m).state ≠ 0 then refuse St.groupJoinRefused 6 s
    else if dep ∧ 3 ≤ (s.gp.members.filter (fun q => q.2.deputy)).length then refuse St.grateRange 65 s
    else if 32 ≤ (s.gp.members.filter (fun q => decide (q.1 ≠ s.gp.member ∧ q.2.port = be p 2 1))).length then refuse St.grateRange 66 s
    else
      let x : Member := { state := 1, deputy := dep, port := be p 2 1, subport := be p 3 1, identity := octets p 8 48 }
      respond St.ok 0 s.tick [] (modMember m (fun _ => x) s))

/-- GP_ADMIT (R524). -/
def execGpAdmit (s : State) : Res := withCmd 0x0D02 s gpAdmitCmd

/-- GP_JOIN (R522 to R524): answered when the handshake ends. -/
def gpJoinCmd (_ : Held) (p : List Byte) (s : State) : State :=
  if s.gp.role ≠ 0 ∧ s.gp.role ≠ 5 then refuse St.groupRole 0 s
  else if 31 < be p 4 1 then refuse St.grateRange 68 s
  else if 7 < be p 5 1 then refuse St.grateRange 69 s
  else if s.gp.role = 0 ∧ s.ks.recs.any (fun q => decide (q.2.type ≠ 0)) then refuse St.groupJoinRefused 3 s
  else
    let s : State := { drawIdentity s with
      gp.groupId := be p 0 4, gp.joinPort := be p 4 1, gp.joinSub := be p 5 1, gp.mgrDigest := octets p 8 48, gp.rejoining := true }
    let q := draw s
    setStage .running (joinFrame 255 0x01 (Config.flueJoin 1 q.2.gp.groupId (q.2.gp.identity.getD 0) q.1 []) q.2)

/-- GP_JOIN (R524). -/
def execGpJoin (s : State) : Res := withCmd 0x0D03 s gpJoinCmd

/-- GP_REMOVE (R541): out of N at once; its parts are handled as a loss. -/
def gpRemoveCmd (_ : Held) (p : List Byte) (s : State) : State :=
  asManager s (fun s =>
    let m := be p 0 1
    if m = s.gp.member ∨ (member s m).state = 0 then refuse St.grateRange 64 s else
    let s := loseParts m s
    respond St.ok 0 s.tick [] (settle (refreshMajority { s with gp.members := tblDel s.gp.members m })))

/-- GP_REMOVE (R541). -/
def execGpRemove (s : State) : Res := withCmd 0x0D04 s gpRemoveCmd

/-- GP_SPREAD (R532). -/
def gpSpreadCmd (_ : Held) (p : List Byte) (s : State) : State :=
  asManager s (fun s =>
    let i := be p 0 2
    let rest := s.gp.spread.filter (· ≠ i)
    let spread := if be p 2 1 = 1 then rest ++ [i] else rest
    respond St.ok 0 s.tick [] { s with gp.spread := spread })

/-- GP_SPREAD (R532). -/
def execGpSpread (s : State) : Res := withCmd 0x0D05 s gpSpreadCmd

/-- GP_STATUS (R522, R523). -/
def gpStatusCmd (_ : Held) (_ : List Byte) (s : State) : State :=
  let s := drawIdentity s
  respond St.ok 0 s.tick (beBytes 1 s.gp.role ++ beBytes 1 s.gp.member ++ beBytes 2 0 ++ beBytes 4 s.gp.groupId ++ beBytes 4 s.gp.mgen ++
    beBytes 4 0 ++ identityDigest s) s

/-- GP_STATUS (R522). -/
def execGpStatus (s : State) : Res := withCmd 0x0D06 s gpStatusCmd

/-- An entry in doubt as GP_DOUBTS returns it (R537). -/
def Doubt.bytes (d : Doubt) : List Byte :=
  beBytes 2 d.qp ++ beBytes 2 d.part ++ beBytes 1 d.member ++ beBytes 1 d.res ++ beBytes 2 0 ++ beBytes 4 d.seq ++ beBytes 4 d.ctag ++ d.rec_.bytes

/-- GP_DOUBTS (R537): oldest first; entries resolved or unresolvable are released. -/
def gpDoubtsCmd (_ : Held) (p : List Byte) (s : State) : State :=
  asManager s (fun s =>
    let n := be p 0 2
    respond St.ok 0 s.tick ((s.gp.doubts.take n).flatMap Doubt.bytes)
      { s with gp.doubts := (s.gp.doubts.take n).filter (fun d => decide (d.res = 0)) ++ s.gp.doubts.drop n })

/-- GP_DOUBTS (R537). -/
def execGpDoubts (s : State) : Res := withCmd 0x0D07 s gpDoubtsCmd

/-- Inner commands no member takes by relay (R526). -/
def relayBarred (code : Nat) : Bool := decide (code / 256 = 0x0D) || decide (code ∈ [0x0603, 0x0604, 0x0605])

/-- Octets the inner response of a relayed command can have: of ECHO as many as its payload and a header, of any other command not more than
a response takes (R402, R413, R526). -/
def relayResult (f : Frame) : Nat := if f.code = 0x0002 then 64 + f.payLen else 3968

/-- GP_RELAY (R526): the inner frame passes the frame grate and the gate of the manager; its signatures are evaluated by the units before
QUORUM_CHECK_DONE sends it on. -/
def gpRelayCmd (h : Held) (p : List Byte) (s : State) : State :=
  asManager s (fun s =>
    let m := be p 0 1
    let inner := p.drop 8
    let f := parseHeader (octets inner 0 64)
    if inner.length < 64 then refuse St.lengthInvalid 16 s
    else match headerCheck (octets inner 0 64) inner.length with
    | some e => refuse e.1 e.2 s
    | none =>
      if f.ext then refuse St.grateFormat 6 s
      else match bodyCheck f (inner.drop 64) with
      | some e => refuse e.1 e.2 s
      | none =>
        if relayBarred f.code then refuse St.groupRole 0 s
        else if m = s.gp.member ∨ (member s m).state ≠ 3 then refuse St.workerLost 0 s
        else if 3968 < relayResult f ∧ (h.frame.out = false ∨ h.frame.outLen < relayResult f) then refuse St.lengthInvalid 48 s
        else
          match gateEntry { frame := f.withBody (inner.drop 64), stage := .waiting, cls := 0, since := s.tick, nonce := none, signers := 0 } s with
          | (some e, _, s) => refuse e.1 e.2 s
          | (none, i, s) =>
            if i.stage = .quorum then giveBlocks i.frame (setStage .quorum { s with mb.inner := some i }) else relaySend i s)

/-- GP_RELAY (R526). -/
def execGpRelay (s : State) : Res := withCmd 0x0D08 s gpRelayCmd

/-! ### Joining (R524, R525) -/

/-- The manager still holds every change after one (R525). -/
def historyHas (s : State) (ack : Nat) : Bool :=
  decide (s.gp.replSeq ≤ ack) || ((keepChanges s s.gp.history).head?).any (fun c => decide (c.seq ≤ ack + 1))

/-- The resync is streamed: everything, or the changes after the member's last REPL_ACK, then the lockouts in force (R524, R525). -/
def streamResync (m : Nat) (full : Bool) (s : State) : State :=
  let ack := (member s m).ack
  let items := if full then (fullItems s).map (fun i => (s.gp.replSeq, itemBytes s i))
    else (s.gp.history.filter (fun c => decide (ack < c.seq))).map (fun c => (c.seq, c.bytes)) ++
      (lockoutItems s).map (fun i => (s.gp.replSeq, itemBytes s i))
  let s := items.foldl (fun s q => sendChange m q.1 q.2 s) s
  modMember m (fun x => { x with goal := s.gp.replSeq, sent := items.length }) s

/-- JOIN_HELLO (R524, R525): on the sub-port `k` of port `p`, with the identity digest of the sender, whether its signature holds, and
whether it has restarted. Only the manager answers, and only a member it has admitted. -/
def execJoinHello (p k : Nat) (group : Nat) (digest : List Byte) (sigOk restarted : Bool) (s : State) : Res :=
  if !flueOk s p k then noEvent s
  else if s.gp.role ≠ 1 ∨ group ≠ s.gp.groupId ∨ sigOk = false then .next s
  else match s.gp.members.find? (fun q => decide (q.1 ≠ s.gp.member ∧ q.2.identity = digest ∧ q.2.port = p ∧ q.2.subport = k)) with
  | none => .next s
  | some (m, x) =>
    let full := restarted || decide (x.state = 1) || !historyHas s x.ack
    let s := if restarted then memberRestarted m (loseParts m s) else s
    let s := modMember m (fun x => { x with state := 2, rxSeq := 0, txSeq := 0, seen := s.tick, synced := s.tick, full }) s
    let q := draw s
    let s := joinFrame m 0x02 (Config.flueJoin 2 q.2.gp.groupId (q.2.gp.identity.getD 0) q.1 q.2.gp.sak) q.2
    .next (settle (refreshMajority (streamResync m full s)))

/-- The first reason of R545 to refuse a JOIN_ACCEPT. -/
def joinFault (s : State) (digest : List Byte) (sigOk : Bool) (lc rtt : Nat) : Option Nat :=
  if digest ≠ s.gp.mgrDigest then some 1
  else if lc ≠ (lcState s).code then some 2
  else if 64 < rtt then some 4
  else if !sigOk then some 5
  else none

/-- The part journal as PART_JOURNAL carries it (R537). -/
def journalBytes (s : State) : List Byte :=
  s.gp.journal.flatMap (fun j => beBytes 4 j.batch ++ beBytes 2 j.idx ++ beBytes 1 j.state ++ beBytes 1 0 ++ j.rec_.bytes)

/-- The member is joined: what it knows of its manager, and that its store is emptied at the next sample point, before a full resync (R30, R524,
R525). -/
def joined (h : GpHead) (full : Bool) (s : State) : State :=
  let s : State := { s with
    gp.emptyDue := s.gp.emptyDue || full
    gp.mgen := h.mgen, gp.manager := h.src, gp.member := h.dst, gp.lastMgr := s.tick, gp.rejoining := false, gp.resync := true
    gp.inbox := [], gp.stops := [], gp.asked := [] }
  modMember h.src (fun x => { x with state := 3, seen := s.tick, rxSeq := h.seq, txSeq := 0, port := s.gp.joinPort
                                     subport := s.gp.joinSub, identity := s.gp.mgrDigest }) s

/-- JOIN_ACCEPT (R524, R525, R545): the header, the manager's identity digest, whether its signature holds, its life-cycle state, the round
trip measured, whether a full resync follows, and the group SAK it wraps. -/
def execJoinAccept (p k : Nat) (h : GpHead) (digest : List Byte) (sigOk : Bool) (lc rtt : Nat) (full : Bool) (sak : List Byte) (s : State) : Res :=
  if !flueOk s p k || !s.gp.rejoining then noEvent s
  else if h.group ≠ s.gp.groupId then .next (dropOther p s)
  else
    let asked := s.mb.held.any (fun (x : Held) => decide (x.stage = .running ∧ x.frame.code = 0x0D03))
    match joinFault s digest sigOk lc rtt with
    | some d => .next (if asked then refuse St.groupJoinRefused d { s with gp.rejoining := false } else s)
    | none =>
      if asked then
        let s := joined h true { s with gp.sak := sak, gp.role := 3, gp.members := [], gp.replSeq := 0, gp.journal := [], gp.history := [] }
        .next (respond St.ok 0 s.tick [] s)
      else
        let s := joined h full { s with gp.sak := sak }
        let s : State := if s.gp.journal.isEmpty then s else gpSend h.src 0x33 (journalBytes s)
          { s with gp.journal := s.gp.journal.map (fun j => if 2 ≤ j.state then { j with sent := some s.tick } else j) }
        .next s

/-- RESYNC_DONE (R524, R525): on the manager, member `m` has applied its resync; on a member, it has itself. -/
def execResyncDone (m : Nat) (s : State) : Res :=
  if s.gp.role = 1 then
    let x := member s m
    whenOk (decide (x.state = 2 ∧ x.goal ≤ x.ack)) s
      (refreshMajority (note 0x1102 1 m (if x.full then 0 else 1) x.sent (modMember m (fun x => { x with state := 3 }) s)))
  else whenOk (s.gp.resync && !s.gp.emptyDue && s.gp.inbox.isEmpty && decide (m = s.gp.member)) s { s with gp.role := 2, gp.resync := false }

/-! ### Heartbeats and relayed commands (R521, R526, R527) -/

/-- A HEARTBEAT to a member: the tick of its last frame, P, the heart backlog, the last change applied (R521). -/
def heartTo (m : Nat) (s : State) : State :=
  gpSend m 0x10 (beBytes 8 (member s m).echo ++ beBytes 4 (if lcState s = .locked then 0 else s.tk.pool) ++
    beBytes 4 (heartWaiting s).length ++ beBytes 8 s.gp.replSeq) s

/-- HEARTBEAT_SEND (R521): every 2^10 ticks on each link. -/
def execHeartbeatSend (s : State) : Res :=
  whenOk (decide (1 ≤ s.gp.role ∧ s.gp.role ≤ 4) && decide (s.tick % 1024 = 0) && decide (s.gp.heartTick ≠ s.tick)) s
    ((if s.gp.role = 1 then contacts s else [s.gp.manager]).foldl (fun s m => heartTo m s) { s with gp.heartTick := s.tick })

/-- HEARTBEAT (R521, R527, R533): the tick echoed, the round trip, P, the heart backlog, and the last change applied. Results
sent no later than the tick the manager echoes have reached it. -/
def execHeartbeat (p k : Nat) (h : GpHead) (echo rtt pool _backlog last : Nat) (s : State) : Res :=
  withFrame 0 0x10 p k h s (fun s =>
    let s := modMember h.src (fun x => { x with pool, ack := if s.gp.role = 1 then max x.ack last else x.ack }) s
    if s.gp.role = 1 then settle s
    else if h.src = s.gp.manager then
      { s with gp.offset := (h.tick : Int) + (rtt / 2 : Nat) - (s.tick : Int)
               gp.journal := s.gp.journal.filter (fun j => !(decide (2 ≤ j.state) && j.sent.any (fun t => decide (t ≤ echo)))) }
    else s)

/-- CONTROL (R526): an inner frame with its class and the signers the manager's gate accepted. -/
def execControl (p k : Nat) (h : GpHead) (inner : List Byte) (cls signers : Nat) (s : State) : Res :=
  withFrame 1 0x11 p k h s (fun s => placeRelayed { s with gp.relayed := some (inner, cls, signers) })

/-- CONTROL_RESP (R526): the inner response is the payload of the GP_RELAY response. -/
def execControlResp (p k : Nat) (h : GpHead) (response : List Byte) (s : State) : Res :=
  withFrame 2 0x12 p k h s (fun s =>
    if s.gp.relay = some h.src then
      let s : State := { s with gp.relay := none }
      if s.mb.held.any (fun (x : Held) => decide (x.stage = .running ∧ x.frame.code = 0x0D08)) then respond St.ok 0 s.tick response s else s
    else s)

/-! ### Replication frames (R528, R531) -/

/-- REPL (R528): changes with their numbers, applied at the next sample point. -/
def execRepl (p k : Nat) (h : GpHead) (items : List (Nat × ReplItem)) (s : State) : Res :=
  withFrame 1 0x20 p k h s (fun s => { s with gp.inbox := s.gp.inbox ++ items })

/-- REPL_ACK (R528): the last change a worker has applied, and the records it asks for. -/
def execReplAck (p k : Nat) (h : GpHead) (last : Nat) (wants : List Nat) (s : State) : Res :=
  withFrame 2 0x21 p k h s (fun s =>
    wants.foldl (sendRecord h.src) (settle (modMember h.src (fun x => { x with ack := max x.ack last }) s)))

/-- LOCKOUT (R531): an index and its end, a group tick. The manager passes it on to the other members. -/
def execLockout (p k : Nat) (h : GpHead) (index until_ : Nat) (s : State) : Res :=
  withFrame 0 0x22 p k h s (fun s =>
    let s : State := { s with gp.inbox := s.gp.inbox ++ [(0, .lockout index until_)] }
    if s.gp.role = 1 then
      ((contacts s).filter (· ≠ h.src)).foldl (fun s m => gpSend m 0x22 (lockoutBytes index until_) s) s
    else s)

/-! ### Spread batches (R532 to R537) -/

/-- One part received: journaled and admitted, or returned when the journal is full (R532, R533). -/
def takePartIn (port m : Nat) (s : State) (x : PartIn) : State :=
  if 262144 ≤ s.gp.journal.length then gpSend m 0x31 (partResultBytes x.batch x.idx true {} []) s
  else
    let w : Work := { newWork s (.spread x.batch x.idx) 0 (4096 + port) x.sub with input := x.input, staged := true }
    addWork w { s with gp.journal := s.gp.journal ++ [⟨x.batch, x.idx, 0, {}, none⟩] }

/-- PART_REQ (R532, R533). -/
def execPartReq (p k : Nat) (h : GpHead) (parts : List PartIn) (s : State) : Res :=
  withFrame 1 0x30 p k h s (fun s => parts.foldl (takePartIn p h.src) s)

/-- The request as its worker ran it, from its part record (R101, R532). -/
def ranAway (w : Work) (r : PartRec) : Work :=
  { w with phase := .ended, runNote := r.disp / 2 ^ 28 % 4, dem := bitOf r.disp 27, age := bitOf r.disp 26, rty := bitOf r.disp 25
           late := bitOf r.disp 24, cons := bitOf r.disp 23, band := r.disp / 2 ^ 21 % 4, endTicks := r.disp % 65536
           grant := if r.disp / 2 ^ 28 % 4 = 3 then none else some (w.elig + r.disp % 65536) }

/-- One result: the record and output stand, or a part refused there runs here (R532, R533). -/
def takePartOut (m : Nat) (s : State) (x : PartOut) : State :=
  if awayAt s x.batch x.idx ≠ some m then s else
  let s := dropAway x.batch x.idx s
  match ((batch s x.batch).bind (fun b => tblGet b.works x.idx)).bind (fun id => (work s id).map (fun w => (id, w))) with
  | none => s
  | some (id, w) =>
    if w.phase ≠ .away then s
    else if x.refused then modWork id (fun w => { w with phase := .waiting }) s
    else
      let r := x.rec_
      let out := if decide (48 < w.sub.outMax) || usesOut w.sub.func then x.out else r.result.take r.outBytes
      settleBatch x.batch (endPart id x.batch x.idx (ranAway w r)
        { status := r.status, detail := r.detail, info := r.info % 2 ^ 31, out, effects := bitOf r.info 31 } s)

/-- PART_RESULT (R532). -/
def execPartResult (p k : Nat) (h : GpHead) (results : List PartOut) (s : State) : Res :=
  withFrame 2 0x31 p k h s (fun s => slicesFlush (results.foldl (takePartOut h.src) s))
where
  /-- Slice resets that wait for parts go on once every one is back (R536). -/
  slicesFlush (s : State) : State := (s.hl.slices.map (·.1)).foldl (fun s i => flushSlice i s) s

/-- PART_CANCEL (R536): applied at the next sample point. -/
def execPartCancel (p k : Nat) (h : GpHead) (stops : List PartStop) (s : State) : Res :=
  withFrame 1 0x32 p k h s (fun s => { s with gp.stops := s.gp.stops ++ stops })

/-- One entry in doubt against a worker's part journal (R537). A part that still runs stays held. -/
def reconcile (m : Nat) (entries : List JPart) (d : Doubt) : Doubt :=
  if d.member ≠ m ∨ d.res ≠ 0 then d else
  match entries.find? (fun j => decide (j.batch = d.batch ∧ j.idx = d.part)) with
  | none => { d with res := 1, rec_ := { status := St.workerLost } }
  | some j =>
    if j.state = 2 then { d with res := 1, rec_ := j.rec_ }
    else if j.state = 3 then { d with res := 1, rec_ := { status := St.workerLost } }
    else d

/-- PART_JOURNAL (R537, R546). -/
def execPartJournal (p k : Nat) (h : GpHead) (entries : List JPart) (s : State) : Res :=
  withFrame 2 0x33 p k h s (fun s =>
    let before := (heldDoubts s h.src).length
    let s : State := { s with gp.doubts := s.gp.doubts.map (reconcile h.src entries) }
    if before = 0 then s else note 0x1105 1 h.src (before - (heldDoubts s h.src).length) 0 s)

/-- An entry has not been resolved within 2^32 ticks (R537). -/
def oldDoubt (s : State) (d : Doubt) : Bool := decide (d.res = 0 ∧ d.tick + 2 ^ 32 ≤ s.tick)

/-- A member's entries of that age become unresolvable (R537, R546). -/
def expireDoubts (m : Nat) (s : State) : State :=
  let mine := fun (e : Doubt) => oldDoubt s e && decide (e.member = m)
  note 0x1105 1 m 0 (s.gp.doubts.filter mine).length (loseDoubts mine s)

/-- DOUBT_EXPIRY (R537): entries not resolved within 2^32 ticks, of one member at a time. -/
def execDoubtExpiry (s : State) : Res :=
  match s.gp.doubts.find? (oldDoubt s) with
  | none => noEvent s
  | some d => .next (expireDoubts d.member s)

/-! ### Loss and promotion (R533, R535, R538 to R540) -/

/-- A member has been silent, or lags a change sent to it, for 2^14 ticks (R535); its resync sends it what is older. -/
def memberSilent (s : State) (m : Nat) : Bool :=
  let x := member s m
  decide (x.state = 2 ∨ x.state = 3) && (decide (x.seen + 2 ^ 14 ≤ s.tick) ||
    s.gp.history.any (fun c => decide (x.ack < c.seq ∧ max c.tick x.synced + 2 ^ 14 ≤ s.tick)))

/-- A member is declared lost (R535, R546). -/
def loseMember (m : Nat) (s : State) : State :=
  let n := (heldDoubts s m).length
  let s := modMember m (fun x => { x with state := 4 }) s
  let s := loseParts m { s with gp.losses := satAdd 32 s.gp.losses 1 }
  let s := note 0x1101 1 m (member s m).seen ((heldDoubts s m).length - n) s
  settle (refreshMajority (relayLost m s))

/-- The manager has a member to declare lost. -/
def memberLost (s : State) (m : Nat) : Bool := decide (s.gp.role = 1 ∧ m ≠ s.gp.member) && memberSilent s m

/-- MEMBER_LOST (R535, R546). -/
def execMemberLost (m : Nat) (s : State) : Res := whenOk (memberLost s m) s (loseMember m s)

/-- Parts a worker holds and has not granted. -/
def ungrantedParts (s : State) : List (Nat × Work) :=
  s.wk.works.filter (fun q => (match q.2.src with | .spread _ _ => true | _ => false) && !q.2.granted && decide (q.2.phase ≠ .ended))

/-- They are withdrawn, with no side effects (R533). -/
def withdrawParts (s : State) : State :=
  (ungrantedParts s).foldl (fun s q =>
    let s := dropWork q.1 (refund q.2 s)
    { s with gp.journal := s.gp.journal.map (fun j => if q.2.src = .spread j.batch j.idx then { j with state := 3 } else j) }) s

/-- A worker holds ungranted parts and has had no frame from its manager for 2^12 ticks (R533). -/
def partsLapsed (s : State) : Bool := decide (2 ≤ s.gp.role ∧ s.gp.lastMgr + 2 ^ 12 ≤ s.tick) && !(ungrantedParts s).isEmpty

/-- PART_WITHDRAW_TIMEOUT (R533). -/
def execPartWithdrawTimeout (s : State) : Res := whenOk (partsLapsed s) s (withdrawParts s)

/-- A worker has had no frame from its manager for 2^16 ticks (R538). -/
def managerSilent (s : State) : Bool := decide (s.gp.role = 2 ∧ s.gp.lastMgr + 2 ^ 16 ≤ s.tick)

/-- A worker becomes ORPHAN (R538, R546). -/
def orphaned (s : State) : State := note 0x1103 1 s.gp.manager s.gp.lastMgr 0 { s with gp.role := 4, gp.rejoining := false }

/-- MANAGER_LOST (R538, R546). -/
def execManagerLost (s : State) : Res := whenOk (managerSilent s) s (orphaned s)

/-- What has been silent too long at a sample point: members, this worker's manager, entries in doubt (R533, R535, R537, R538). -/
def silences (s : State) : State :=
  let s := (((s.gp.doubts.filter (oldDoubt s)).map (·.member)).eraseDups).foldl (fun s m => expireDoubts m s) s
  let s := (s.gp.members.map (·.1)).foldl (fun s m => if memberLost s m then loseMember m s else s) s
  let s := if partsLapsed s then withdrawParts s else s
  if managerSilent s then orphaned s else s

/-- The group unit at a sample point: what has fallen silent is declared so, what arrived is applied, the flue associations follow, then what was committed is sent. -/
def groupPoint (s : State) : State :=
  let s := applyInbox (emptyForResync (silences s))
  let stops := s.gp.stops
  let s : State := flueSync (stops.foldl applyStop { s with gp.stops := [] })
  askRecords (placeRelayed (refreshMajority (replicate (staleAway (markGranted s)))))

/-- The signatures of a promotion hold against the replicated credentials (R410, R539). -/
def promoteOk (s : State) (f : Frame) (serial : Nat) (nonce : List Byte) : Bool :=
  let cls := effClass s f
  let msg := messageFor serial f nonce cls
  decide (f.code = 0x0D01) && (decide (cls = 0) || ((credCheck s.prov.creds [] f.sigs).isNone &&
    f.sigs.all (fun b => Config.sigOk b.alg (s.prov.creds.getD b.cred {}).key msg b.sig) &&
    ruleFilled s { frame := f, stage := .quorum, cls, since := 0, nonce := none, signers := 0 }))

/-- A member accepts a promotion (R539): the new manager, its MGEN, and the acknowledgement. -/
def acceptPromotion (p k : Nat) (h : GpHead) (expel : Nat) (s : State) : State :=
  let s : State := { s with gp.mgen := h.mgen, gp.manager := h.src, gp.expel := expel, gp.lastMgr := s.tick, gp.rejoining := false
                            gp.mgrDigest := (member s h.src).identity, gp.joinPort := p, gp.joinSub := k }
  let s := modMember h.src (fun x => { x with state := 3, seen := s.tick, rxSeq := h.seq, echo := h.tick, txSeq := 0 }) s
  gpSend h.src 0x41 [] s

/-- PROMOTE (R539, R540): the promoted deputy's GP_FORM as it was signed, with the serial number and nonce it was signed for. -/
def execPromote (p k : Nat) (h : GpHead) (f : Frame) (serial : Nat) (nonce : List Byte) (s : State) : Res :=
  match takeFrame p k 0x40 h s with
  | none => noEvent s
  | some s =>
  if h.ver ≠ 1 ∨ s.gp.role = 0 ∨ h.group ≠ s.gp.groupId ∨ 8192 < h.len then .next (dropOther p s)
  else if h.mgen ≤ s.gp.mgen ∨ (h.dst ≠ s.gp.member ∧ h.dst ≠ 255) then .next s
  else if !promoteOk s f serial nonce ∨ be f.payload 8 4 ≠ h.mgen ∨ be f.payload 0 4 ≠ s.gp.groupId then .next s
  else if s.gp.role = 1 then .next (depose h.mgen s)
  else if s.gp.role = 5 ∨ bitOf (be f.payload 16 8) s.gp.member = true ∨ (member s h.src).deputy = false then .next s
  else .next (acceptPromotion p k h (be f.payload 16 8) s)

/-- PROMOTE_ACK (R539): counted toward the majority of the promoted deputy. -/
def execPromoteAck (p k : Nat) (h : GpHead) (s : State) : Res :=
  withFrame 2 0x41 p k h s (fun s =>
    let s : State := if h.src ∈ s.gp.acks then s else { s with gp.acks := s.gp.acks ++ [h.src] }
    refreshMajority (modMember h.src (fun x => { x with state := if x.state = 1 then 3 else x.state, ack := s.gp.replSeq }) s))

end Sys2Proof.Machine
end

