-- ==== Sys2Proof/Machine/Watch.lean ====
section
/-!
DEFINITION. Watermarks, and the clear of the record areas (R487, R490 to R492).
-/
namespace Sys2Proof.Machine

/-! ### Levels (R490) -/

/-- Octets of terminated messages that wait as heart or base note (R60). -/
def waitingOctets (s : State) : Nat := ((s.ad.msgs.filter (fun p => decide (p.2.note ≠ 0))).map (fun p => p.2.size)).sum

/-- Granules of the shared completion staging of a link in use (R60, R490). -/
def stagedGranules (s : State) (l : Nat) : Nat := min (complCap false) (granulesOf s (stagers s l false))

/-- DMA reads outstanding on both links, as they were issued (R76, R490): fetches, inputs and chunks, those of ended requests, a command's
body, flushes. -/
def readsOut (s : State) : Nat :=
  let fetchReads := fun (q : Qp) => q.fetch.elim 0 (fun f => (readPieces (fetchAddr q f.seq) (128 * f.n)).length)
  let bodyReads := fun (h : Held) => if h.stage = .body then (readPieces h.frame.extAddr h.frame.bodyLen).length else 0
  (s.hl.qps.map (fun p => fetchReads p.2)).sum + ((s.wk.works.filter (fun p => p.2.asked)).map (fun p => p.2.reads)).sum +
  (s.hl.orphans.map (·.reads)).sum + s.mb.held.elim 0 bodyReads + (s.hl.slices.map (fun p => p.2.flushAt.length)).sum

/-- The level a watermark watches (R490). -/
def wmLevel (s : State) (k : Nat) : Nat :=
  min (maxOf 24) (match k with
    | 0 => s.nq.queue.length
    | 1 => s.rc.staging.length
    | 2 => stagedUnits s
    | 3 => (waitingOctets s + 1023) / 1024
    | 4 => s.pt.held.length
    | 5 => s.ad.forwards.length
    | 6 => s.ad.referrals.length
    | 7 => stagedGranules s 0
    | 8 => stagedGranules s 1
    | 9 => ((heartWaiting s).map (fun p => stepCost s (probe s p.1 p.2))).sum
    | 10 => (s.lim.counts.filter (fun p => p.2.place)).length
    | 11 => s.ks.quar.length
    | 12 => pinCount s none
    | 13 => s.rn.inst.foldl (fun m p => max m p.2.calls) 0
    | 14 => readsOut s
    | _ => (hottestDie s).2.toNat)

/-! ### Crossings (R491, R492) -/

/-- Change a watermark. -/
def modWm (k : Nat) (f : Wm → Wm) (s : State) : State := { s with nq.wms := listMod s.nq.wms k f }

/-- A watermark. -/
def wm (s : State) (k : Nat) : Wm := s.nq.wms.getD k {}

/-- A crossing of an armed or latched watermark (R491). -/
def crossing (k level : Nat) (s : State) : State :=
  if (wm s k).latched then
    modWm k (fun w => { w with crossings := satAdd 16 w.crossings 1, peak := max w.peak level }) s
  else
    let s := modWm k (fun w => { w with latched := true, crossings := 1, peak := level }) s
    let quiet := s.nq.queue.isEmpty
    let s := note 0x0201 1 k level (wm s k).mark s
    if quiet then s else vector 1 s

/-- The comparator looks at one level. -/
def lookAt (s : State) (k : Nat) : State :=
  let w := wm s k
  let v := wmLevel s k
  let s := if !w.en then s
    else if w.last < w.mark ∧ w.mark ≤ v then crossing k v s
    else if w.latched then modWm k (fun w => { w with peak := max w.peak v }) s
    else s
  modWm k (fun w => { w with last := v }) s

/-- Every watermark at a sample point. -/
def watermarks (s : State) : State := (List.range 16).foldl lookAt s

/-- NQ_WM_CFG (R491, R492): a write of EN and MARK of watermark `k`. -/
def execNqWmCfg (k value : Nat) (s : State) : Res := viaPf0 s <|
  if 16 ≤ k then .next s else
  let was := (wm s k).en
  let en := bitOf value 31
  let v := wmLevel s k
  let s := modWm k (fun w => { w with en := en, mark := bits value 23 0, last := v }) s
  .next (if en && !was && decide (bits value 23 0 ≤ v) then crossing k v s else s)

/-- NQ_WM_REARM (R492): 1 is written to LATCHED of watermark `k`. -/
def execNqWmRearm (k : Nat) (s : State) : Res := viaPf0 s <|
  if 16 ≤ k then .next s else
  let v := wmLevel s k
  let s := modWm k (fun w => { w with latched := false, crossings := 0, peak := v, last := v }) s
  .next (if (wm s k).en && decide ((wm s k).mark ≤ v) then crossing k v s else s)

/-! ### The clear of the record areas (R487) -/

/-- EV_CLEAR (R487): it takes effect at the next sample point, and is answered after the erasure. -/
def evClearCmd (h : Held) (p : List Byte) (s : State) : State :=
  if s.rc.clearing.isSome then refuse St.busy 0 s
  else setStage .running (arm (s.tick + 1) { s with rc.clearing := some ⟨be p 0 1, h.signers, s.tick + 1, false⟩ })

/-- EV_CLEAR (R487). -/
def execEvClear (s : State) : Res := withCmd 0x0A01 s evClearCmd

/-- The clear takes effect (R487 steps 1 to 5). -/
def clearPoint (s : State) : State :=
  match s.rc.clearing with
  | none => s
  | some c =>
    if c.began ∨ s.tick < c.tick then s else
    let s := flushStaging (closeWhere (fun _ => true) s)
    let fix := bitOf c.scope 0
    let sil := bitOf c.scope 1
    let n := (if fix then s.rc.fixative.length else 0) + (if sil then s.rc.sillage.length else 0)
    let q := s.rc.nextSeq
    let s := report { event := 0x0701, argA := n, argB := c.scope, argC := c.signers } s
    let s : State := if fix then { s with rc.fixative := [], rc.fixFirst := q, rc.fixCount := 0 } else s
    let s : State := if sil then { s with rc.sillage := [], rc.oldest := q } else s
    let s := evidAppend (evidNow 4 0 0 n 0 c.signers s) s
    refreshRegime { s with rc.clears := satAdd 32 s.rc.clears 1, rc.clearTick := s.tick, rc.clearing := some { c with began := true, tick := s.tick }
                           rc.snapValid := false }

/-- EV_CLEAR_DONE (R485, R487): the erasure ends; the response goes out, and the read regime settles. -/
def execEvClearDone (s : State) : Res :=
  match s.rc.clearing with
  | none => noEvent s
  | some c =>
    if !c.began then noEvent s else
    let s := refreshRegime { s with rc.clearing := none }
    .next (if s.mb.held.any (fun h => decide (h.frame.code = 0x0A01 ∧ h.stage = .running)) then respond St.ok 0 c.tick [] s else s)

end Sys2Proof.Machine
end

