-- ==== Sys2Proof/Machine/RegsHost.lean ====
section
/-!
DEFINITION. What the registers read as: identity, mailbox, notices, tick, slices, queue pairs, clusters, fences (R38, R74, R80,
R84, R87, R107, R152, R395, R428, R499). A view names the register that starts at an offset: its size in octets and its value.
-/
namespace Sys2Proof.Machine

/-- A register: size and value; none where no register starts. -/
abbrev View := Option (Nat × Nat)

/-- A word made of fields: lowest bit, width, value. -/
def pack (fs : List (Nat × Nat × Nat)) : Nat := fs.foldl (fun a f => a + (f.2.2 % 2 ^ f.2.1) * 2 ^ f.1) 0

/-- A 32-bit register. -/
def r4 (v : Nat) : View := some (4, v % 2 ^ 32)

/-- A 64-bit register. -/
def r8 (v : Nat) : View := some (8, v % 2 ^ 64)

/-- A 32-bit register of fields. -/
def p4 (fs : List (Nat × Nat × Nat)) : View := r4 (pack fs)

/-- A 64-bit register of fields. -/
def p8 (fs : List (Nat × Nat × Nat)) : View := r8 (pack fs)

/-- A bit mask of the numbers below n that a test picks. -/
def mask (n : Nat) (f : Nat → Bool) : Nat := (List.range n).foldl (fun a k => a + b2n (f k) * 2 ^ k) 0

/-! ### Identity (R80) -/

/-- What a physical function reports of itself: vendor and device, class code and subclass (R14). -/
structure PciIdentity where
  vendor : Nat
  device : Nat
  cls    : Nat
  sub    : Nat
  deriving DecidableEq, Repr

/-- The identity PF0 and both instances of PF1 report (R14, R36): an encryption controller. -/
def pciIdentity : PciIdentity := ⟨0x1EA5, 0x5120, 0x10, 0x80⟩

/-- ID_LINK0 and ID_LINK1. -/
def linkWord (l : HostLink) : List (Nat × Nat × Nat) := [(31, 1, b2n l.up), (30, 1, b2n l.recov), (19, 5, l.width), (16, 3, l.speed)]

/-- The identity window. -/
def idView (s : State) (o : Nat) : View :=
  match o with
  | 0x00 => p4 [(16, 16, pciIdentity.device), (0, 16, pciIdentity.vendor)]
  | 0x04 => p4 [(24, 8, Config.hwStep), (0, 24, Config.fwBuild (fwSlot s s.lc.runSlot).image)]
  | 0x08 => r8 Config.serial
  | 0x10 => p4 [(31, 1, b2n s.lc.ready), (0, 4, s.lc.shownLc)]
  | 0x14 => p4 (linkWord s.hl.link0)
  | 0x18 => p4 (linkWord s.hl.link1)
  | 0x20 => p4 [(16, 16, 8192), (0, 16, 4096)]
  | 0x28 => r4 s.hl.link0.corr
  | 0x2C => r4 s.hl.link1.corr
  | 0x30 => r4 s.hl.link0.uncorr
  | 0x34 => r4 s.hl.link1.uncorr
  | _ => none

/-! ### Mailbox (R394, R395) -/

/-- The registers of the command window, its buffer aside. -/
def mbCmdView (s : State) (o : Nat) : View :=
  match o with
  | 0xFC0 => r4 0
  | 0xFC4 => p4 [(31, 1, b2n s.mb.busy), (30, 1, b2n s.mb.overrun), (29, 1, b2n s.mb.bufDrop)]
  | 0xFC8 => r8 s.mb.cmdCount
  | _ => none

/-- The registers of the response window, its buffer aside. -/
def mbRspView (s : State) (o : Nat) : View :=
  match o with
  | 0xFC0 => p4 [(31, 1, b2n s.mb.rspValid), (30, 1, b2n s.mb.rspStale), (0, 13, s.mb.rspBuf.length)]
  | 0xFC4 => r4 s.mb.rspTag
  | 0xFC8 => r4 0
  | 0xFD0 => r8 s.mb.rspCount
  | _ => none

/-! ### Notices and watermarks (R499) -/

/-- The highest severity waiting. -/
def topSev (s : State) : Nat := (s.nq.queue.head?.map (·.sev)).getD 0

/-- The registers of watermark k. -/
def wmView (s : State) (k o : Nat) : View :=
  let w := wm s k
  match o with
  | 0x0 => p4 [(31, 1, b2n w.en), (0, 24, w.mark)]
  | 0x4 => p4 [(0, 24, wmLevel s k)]
  | 0x8 => p8 [(63, 1, b2n w.latched), (32, 16, w.crossings), (0, 24, w.peak)]
  | _ => none

/-- The NQ window; NQ_POP is read by its own row. -/
def nqView (s : State) (o : Nat) : View :=
  match o with
  | 0x00 => r8 ((s.nq.queue.head?.map Notice.word).getD 0)
  | 0x08 => r8 s.nq.seq
  | 0x10 => r8 s.nq.tick
  | 0x18 => r8 s.nq.arg
  | 0x20 => p4 [(31, 1, b2n s.nq.lost), (30, 1, b2n (!s.nq.queue.isEmpty)), (28, 2, topSev s), (0, 11, s.nq.queue.length)]
  | 0x24 => r4 s.nq.nLost
  | 0x28 => r8 s.nq.posted
  | _ => if 0x100 ≤ o ∧ o < 0x200 then wmView s ((o - 0x100) / 16) (o % 16) else none

/-! ### Tick and time (R74) -/

/-- TK_COST of the selected function and band: the value in force now, or the band's calibrated value, else its factory value. -/
def costView (s : State) : View :=
  let f := s.tk.costSel
  let b := s.tk.costBand
  let c := calOf s f b
  if !fnDefined s f then r4 0 else
  p4 [(31, 1, 1), (30, 1, b2n (fnTopOk s f)), (29, 1, b2n (if b = 3 then !entryCons s f else c.stepCu.isSome))
     , (24, 4, ((fnRow s f).map (·.steps)).getD 0)
     , (16, 8, if b = 3 then fetchCu s f else c.fetch.getD (factoryFetch b))
     , (0, 16, if b = 3 then stepCu s f else c.stepCu.getD (factoryStep s f))]

/-- The TK window. -/
def tkView (s : State) (o : Nat) : View :=
  let t := s.tk
  let a := if t.acctSel ≤ 4127 then acct s t.acctSel else {}
  match o with
  | 0x000 => r8 s.tick
  | 0x008 => r4 t.countHi
  | 0x010 => p8 [(0, 48, t.utcSec)]
  | 0x018 => p4 [(0, 30, t.utcNs)]
  | 0x01C => p4 [(31, 1, b2n t.shValid), (29, 2, t.shSrc), (0, 5, if t.shSrc = 2 then t.shPort else 0)]
  | 0x020 => r8 t.utcTick
  | 0x040 => p4 [(31, 1, b2n t.cfg.lend), (16, 7, t.cfg.heartLimit), (0, 6, t.cfg.topHbm)]
  | 0x044 => p4 [(0, 14, t.cfg.ageWait)]
  | 0x048 => p4 [(0, 20, t.pool)]
  | 0x04C => p4 [(0, 20, t.cfg.tTop)]
  | 0x050 => p4 [(16, 7, ((List.range 64).filter (fun c => decide ((cluster s c).state = 1 ∨ (cluster s c).state = 3))).length), (0, 11, enginesIn s)]
  | 0x060 => p4 [(20, 12, t.powerW), (12, 1, b2n t.pwrFault), (11, 1, b2n t.cons), (8, 2, bandCal s 2), (6, 2, bandCal s 1)
                , (4, 2, bandCal s 0), (0, 2, t.band)]
  | 0x064 => r4 t.bandChanges
  | 0x080 => p8 [(60, 4, t.grantTick), (40, 20, t.grantBase), (20, 20, t.grantHeart), (0, 20, t.grantTop)]
  | 0x088 => p4 [(31, 1, b2n t.hkOverdue), (0, 20, t.hkCu)]
  | 0x0A0 => r4 t.nServed
  | 0x0A4 => r4 t.nDelayed
  | 0x0A8 => r4 t.nDemoted
  | 0x0AC => r4 t.nAged
  | 0x0B0 => r4 t.nRefused
  | 0x0B4 => r4 t.nCancelled
  | 0x0B8 => r4 t.nCancelLate
  | 0x0BC => r4 t.nOverdue
  | 0x0C0 => p4 [(0, 13, t.acctSel)]
  | 0x0C8 => p8 [(32, 20, a.topDepth), (0, 20, a.topRate)]
  | 0x0D0 => p8 [(32, 20, a.baseDepth), (0, 20, a.baseRate)]
  | 0x0D8 => p8 [(32, 20, a.baseAllow), (0, 20, a.topAllow)]
  | 0x0E0 => p4 [(16, 2, t.costBand), (0, 16, t.costSel)]
  | 0x0E4 => costView s
  | _ => none

/-! ### Slices and queue pairs (R84, R87, R107) -/

/-- The SL window of slice i. -/
def slView (s : State) (i o : Nat) : View :=
  let l := slice s i
  match o with
  | 0x00 => p4 [(28, 4, l.state), (27, 1, b2n l.flushTmo), (0, 14, if l.state = 0 then 0 else sliceNqp s i)]
  | 0x04 => p4 [(31, 1, b2n l.pv), (0, 20, l.pasid)]
  | 0x08 => p4 [(16, 16, l.domN), (0, 16, l.domLo)]
  | 0x0C => p4 [(16, 1, b2n l.detok), (0, 12, l.group)]
  | 0x10 => r4 l.spoof
  | 0x14 => p4 [(0, 20, sliceInflight s i)]
  | 0x18 => r8 l.resetTick
  | _ => none

/-- The QP window of queue pair n. -/
def qpView (s : State) (n o : Nat) : View :=
  let q := qp s n
  match o with
  | 0x00 => r8 q.sqBase
  | 0x08 => r8 q.cqBase
  | 0x10 => p4 [(24, 5, q.cqLog), (16, 5, q.sqLog)]
  | 0x14 => p4 [(31, 1, b2n q.en), (30, 1, b2n q.top), (29, 1, q.link), (28, 1, b2n q.roData), (12, 12, q.slice), (0, 11, q.vector)]
  | 0x18 => p4 [(24, 8, q.topSlots), (12, 12, q.cqWait), (0, 12, q.cqThresh)]
  | 0x1C => p4 [(29, 3, q.state), (24, 5, if q.state = 2 then q.cause else 0), (0, 16, q.inflight)]
  | _ => none

/-- The doorbell page of a queue pair (R83, R84). -/
def pageView (s : State) (q : Qp) (o : Nat) : View :=
  match o with
  | 0x00 => r4 0
  | 0x04 => r4 0
  | 0x08 => r8 0
  | 0x10 => r8 (pollWord s q)
  | 0x18 => p4 [(31, 1, b2n q.ovf), (0, 5, q.cancels.length)]
  | 0x1C => r4 q.miss
  | _ => none

/-! ### Clusters (R151, R152) -/

/-- Mismatches within 2^20 ticks of the first of the last three. -/
def engScore (e : Eng) : Nat := (e.scores.filter (fun t => decide (t ≤ e.scores.headD 0 + 2 ^ 20))).length

/-- CL_ENG_i. -/
def engView (s : State) (e : Nat) : View :=
  let x := engine s e
  p8 [(61, 3, x.estate), (60, 1, b2n x.readmit), (52, 5, min 16 (x.latents.filter (fun t => decide (s.tick < t + 2 ^ 24))).length)
     , (50, 2, engScore x), (0, 48, x.lastTick)]

/-- The CL window of cluster c. -/
def clView (s : State) (c o : Nat) : View :=
  let x := cluster s c
  match o with
  | 0x000 => p4 [(29, 3, x.state), (24, 5, clusterActive s c)]
  | 0x004 => p4 [(16, 16, mask 16 (fun i => (engine s (16 * c + i)).retest.isSome)), (0, 16, mask 16 (fun i => decide ((engine s (16 * c + i)).estate = 0)))]
  | 0x008 => p4 [(16, 16, x.vendVer), (0, 16, x.custVer)]
  | 0x00C => p4 [(0, 7, slotsUsed s c)]
  | 0x010 => r8 x.granted
  | 0x018 => r4 x.spill
  | 0x01C => r4 x.mismatch
  | 0x020 => r4 x.retryOk
  | 0x024 => r4 x.twinFail
  | 0x028 => r4 x.latent
  | 0x02C => r4 x.pfault
  | 0x030 => r8 x.stTick
  | 0x038 => r4 x.gates
  | 0x03C => r4 0
  | _ => if 0x40 ≤ o ∧ o < 0xC0 ∧ o % 8 = 0 then engView s (16 * c + (o - 0x40) / 8) else none

/-! ### Fences (R428) -/

/-- FN_LAST_INFO and FN_FIRST_INFO. -/
def fenceWord (i : FenceInfo) : List (Nat × Nat × Nat) :=
  [(31, 1, b2n i.valid), (19, 12, i.master), (17, 2, i.access), (14, 3, i.reason), (9, 5, i.region), (6, 3, i.sub)]

/-- The three words of a region. -/
def regionView (r : Region) (j : Nat) : View :=
  match j with
  | 0 => p8 [(12, 52, r.base), (11, 1, b2n r.en), (10, 1, b2n r.lock), (9, 1, b2n r.vlock), (8, 1, b2n r.rd), (7, 1, b2n r.wr)]
  | 8 => p8 [(12, 52, r.limit), (0, 8, r.subOff)]
  | 16 => p8 [(44, 12, r.mHi), (32, 12, r.mLo), (20, 1, b2n r.pv), (0, 20, r.pasid)]
  | _ => none

/-- The FN window of fence f. -/
def fnView (s : State) (f o : Nat) : View :=
  let x := tget ({} : FenceRep) s.fn.reports f
  let count := fun (c : Region → Bool) => ((regionsOf s f).filter (fun p => c p.2)).length
  match o with
  | 0x00 => p4 [(30, 2, if f < 32 then 0 else if f < 48 then 1 else 2), (8, 8, count (·.en)), (0, 8, count (fun r => r.lock || r.vlock))]
  | 0x04 => r4 x.viol
  | 0x08 => r8 x.last.tick
  | 0x10 => r8 x.last.addr
  | 0x18 => p4 (fenceWord x.last)
  | 0x1C => p4 (fenceWord x.first)
  | 0x20 => r8 x.first.addr
  | 0x28 => r8 x.first.tick
  | _ => if 0x100 ≤ o then regionView (region s f ((o - 0x100) / 24)) ((o - 0x100) % 24) else if 0x30 ≤ o ∧ o % 4 = 0 then r4 0 else none

end Sys2Proof.Machine
end

