-- ==== Sys2Proof/Machine/RegsUnits.lean ====
section
/-!
DEFINITION. What the registers of the units read as: digest, random, lanes, ports, key store, controllers, monitor, accounts, group,
records, trace (R246, R271, R312, R351, R374, R473, R498, R515, R543, R561).
-/
namespace Sys2Proof.Machine

/-! ### Digest and random (R351, R352, R354, R374, R375) -/

/-- The page of a claimed unit. -/
def dgPageView (x : DgUnit) (o : Nat) : View :=
  match o with
  | 0x00 => r4 0
  | 0x04 => p4 [(31, 1, b2n x.wait.isSome), (30, 1, b2n x.active), (29, 1, b2n x.done), (28, 1, b2n x.saved), (27, 1, b2n x.keyed)
               , (24, 3, x.alg), (0, 16, x.status)]
  | 0x08 => r4 x.key
  | 0x0C => p4 [(0, 16, x.domain)]
  | 0x10 => r8 0
  | 0x18 => r8 0
  | 0x20 => r4 0
  | 0x28 => r8 x.count
  | _ => if o % 8 ≠ 0 then none
    else if 0x80 ≤ o ∧ o < 0xC0 then r8 (le x.out (o - 0x80) 8)
    else if 0xC0 ≤ o ∧ o < 0x1C0 then r8 (le x.regs (o - 0xC0) 8)
    else none

/-- The DG window. -/
def dgView (s : State) (o : Nat) : View :=
  match o with
  | 0x00 => r4 0
  | 0x04 => p4 [(31, 1, b2n s.dg.refused), (8, 8, mask 8 (fun u => (dgUnit s u).pend)), (0, 8, mask 8 (fun u => (dgUnit s u).claimed))]
  | 0x08 => p4 [(16, 16, s.dg.domN), (0, 16, s.dg.domLo)]
  | 0x0C => p4 [(0, 6, (s.wk.works.filter (fun p => decide (p.2.unit = .digest ∧ p.2.phase = .unit) && p.2.place.isSome)).length)]
  | 0x10 => r8 s.dg.bytes
  | _ => if 0x100 ≤ o ∧ o < 0xF00 ∧ (dgUnit s ((o - 0x100) / 0x1C0)).claimed = true then
      dgPageView (dgUnit s ((o - 0x100) / 0x1C0)) ((o - 0x100) % 0x1C0) else none

/-- RN_SRC_k. -/
def srcView (x : Noise) (o : Nat) : View :=
  match o with
  | 0x0 => p4 [(29, 3, x.state), (28, 1, b2n x.bias), (27, 1, b2n x.corr), (25, 2, x.cause)]
  | 0x4 => p4 [(0, 21, x.ones)]
  | 0x8 => p4 [(0, 21, x.agree)]
  | 0xC => r4 x.fails
  | _ => none

/-- The RN window; RN_DATA is read by its own row. -/
def rnView (s : State) (o : Nat) : View :=
  let i := drbg s s.rn.sel
  match o with
  | 0x00 => r8 0
  | 0x08 => p4 [(31, 1, b2n s.rn.underrun), (30, 1, b2n s.rn.low), (29, 1, b2n s.rn.ready), (20, 4, mask 4 (fun k => decide ((noise s k).state = 0)))]
  | 0x0C => r4 s.rn.nUnderrun
  | 0x10 => p4 [(16, 2, s.rn.reserve), (0, 7, s.rn.blocks)]
  | 0x14 => r4 s.rn.stretch
  | 0x18 => r8 s.rn.reseeds
  | 0x20 => p4 [(0, 7, s.rn.sel)]
  | 0x24 => if 65 < s.rn.sel then r4 0 else p4 [(31, 1, b2n i.pend), (30, 1, b2n i.limit), (0, 17, i.calls)]
  | 0x28 => p4 [(16, 16, 812), (8, 8, 61)]
  | _ => if 0x40 ≤ o ∧ o < 0x80 then srcView (noise s ((o - 0x40) / 16)) (o % 16) else none

/-- A schedule register, which the sample points after READY keep up; it is handed over as 0 (R12). -/
def sinceReady (s : State) (v : Nat) : Nat := if handed s then v else 0

/-! ### Lanes (R271, R272) -/

/-- The occupancy a lane shows (R272): for a port-side lane what is left of its replay set, of which part may have been delivered since (log
entry 34); for a host lane the chunks it holds. -/
def laneOcc (s : State) (n : Nat) : Nat :=
  if 152 ≤ n then hostChunks s n
  else (ebb (lane s n).occ s).1

/-- A lane carries nothing and runs the known-answer vectors: a spare, an idle host lane, a lane of a port in OFF (R266). -/
def testing (s : State) (n : Nat) : Bool :=
  let l := lane s n
  decide (l.state = 1) || (decide (l.state = 0) && (if 152 ≤ n then hostIdle s n else l.slot.any (fun k => decide ((port s (k / 4)).state = 0))))

/-- LN_KAT (R266, R272): how many passes a testing lane has completed since the last look is a free value (log entry 34). -/
def katNow (s : State) (n : Nat) : Bool × Nat :=
  let k := if testing s n then sinceReady s (Config.freeNat s.freeCtr % 2 ^ 24) else 0
  ((lane s n).katOk || decide (0 < k), min (maxOf 24) ((lane s n).passes + k))

/-- The LN window of lane n. -/
def lnView (s : State) (n o : Nat) : View :=
  let x := lane s n
  match o with
  | 0x00 => p4 [(29, 3, x.state), (27, 2, if 152 ≤ n then 2 else laneDie n), (26, 1, b2n x.readmit)
               , (24, 2, min 2 (x.faults.filter (fun t => decide (s.tick < t + 2 ^ 32))).length)]
  | 0x04 => p4 [(31, 1, b2n x.slot.isSome), (0, 7, x.slot.getD 0)]
  | 0x08 => p4 [(28, 4, (placed s .hostLane n).length), (0, 12, laneOcc s n)]
  | 0x0C => p4 [(0, 12, if 152 ≤ n then max x.peak (laneOcc s n) else x.peak)]
  | 0x10 => r8 x.stTick
  | 0x18 => r8 x.lastFault
  | 0x20 => r8 x.inBytes
  | 0x28 => r8 x.outBytes
  | 0x30 => r8 x.units
  | 0x38 => r4 x.mismatch
  | 0x3C => r4 x.icvFail
  | 0x40 => r4 x.lenDrop
  | 0x44 => r4 x.replays
  | 0x48 => r4 x.holdPeak
  | 0x4C => p4 [(31, 1, b2n (katNow s n).1), (0, 24, (katNow s n).2)]
  | 0x50 => r4 x.rotations
  | 0x54 => r4 0
  | 0x58 => r8 (if s.ln.rotEn = false ∨ 152 ≤ n then 0 else sinceReady s (nextMultiple (2 ^ s.ln.rotLog) s.tick))
  | _ => none

/-! ### Ports (R312, R313) -/

/-- The sixteen event counters, in their order. -/
def portCounters (c : PortCnt) : List Nat :=
  [c.rxDropFull, c.txDrop, c.ctrlDrop, c.otherDrop, c.noSectag, c.unknownSa, c.macReplay, c.hdrDrop, c.noSession, c.tpcReplay,
   c.tpcRefuse, c.hsOk, c.hsFail, c.fecUncorr, c.linkDowns, c.resumeDiscard]

/-- PT_LANE_k: a link that has trained holds alignment, while it waits for 2^12 ticks or for a remote fault to clear as well; corrected symbols are counted on the line, and no command brings them (log entry 34). -/
def serdesView (s : State) (p k : Nat) : View :=
  let x := port s p
  let up := ((x.links[k * x.links.length / 8]?).any (fun l => l.up || (l.training.isNone && !l.held && !outOfService x)))
  let train := ((x.links[k * x.links.length / 8]?).any (fun l => l.training.isSome))
  p4 [(31, 1, b2n up), (30, 1, b2n (up || train)), (0, 24, min (maxOf 24) (x.corr.getD k 0 + (if x.trainTick ≠ 0 then Config.freeNat s.freeCtr % 2 ^ 24 else 0)))]

/-- The PT window of port p. -/
def ptView (s : State) (p o : Nat) : View :=
  let x := port s p
  match o with
  | 0x000 => p4 [(29, 3, x.state), (27, 2, x.role), (25, 2, x.split), (20, 5, if x.role = 1 then x.partner else 0), (16, 4, x.cause)]
  | 0x004 => p4 [(16, 16, x.owner), (0, 16, x.udpPort)]
  | 0x008 => p4 [(30, 2, x.band), (29, 1, b2n x.auto), (28, 1, b2n x.sdCons), (27, 1, b2n x.pend), (24, 3, x.cal)]
  | 0x00C => p4 [(16, 8, mask 8 (fun k => (x.links[k]?).isSome)), (8, 8, mask 8 (fun k => (x.links[k]?).any (·.held)))
                , (0, 8, mask 8 (fun k => (x.links[k]?).any (·.up)))]
  | 0x010 => r8 x.stTick
  | 0x018 => r8 x.trainTick
  | 0x020 => r8 x.rxBytes
  | 0x028 => r8 x.txBytes
  | 0x030 => r8 x.rxFrames
  | 0x038 => r8 x.txFrames
  | 0x080 => p4 [(0, 17, (s.pt.held.filter (fun m => decide (m.port = p))).length)]
  | 0x084 => p4 [(0, 19, (s.pt.eps.filter (fun q => decide (q.2.state = 3 ∧ q.2.port = p))).length)]
  | 0x088 => p4 [(31, 1, b2n (decide (s.pt.source = some p))), (30, 1, b2n x.ptp.lock), (28, 2, if x.ptpPri then 1 else if x.ptpSec then 2 else 0)
                , (8, 16, x.ptp.reject), (0, 8, s.pt.ptpDomain)]
  | 0x08C => r4 0
  | 0x090 => r8 (twos 64 x.ptp.offset)
  | 0x098 => r8 0
  | _ => if o % 4 ≠ 0 then none
    else if 0x40 ≤ o ∧ o < 0x80 then r4 ((portCounters x.cnt).getD ((o - 0x40) / 4) 0)
    else if 0xA0 ≤ o ∧ o < 0xC0 then serdesView s p ((o - 0xA0) / 4)
    else none

/-! ### Key store (R246, R247) -/

/-- The domain's next scheduled rollover. -/
def nextEpochTick (s : State) (d : Nat) : Nat :=
  (s.ks.epochs.filter (fun c => decide (c.domain = d))).foldl (fun m c => if m = 0 ∨ c.tick < m then c.tick else m) 0

/-- The KS window. -/
def ksView (s : State) (o : Nat) : View :=
  let k := s.ks
  let e := dom s k.domSel
  match o with
  | 0x00 => p4 [(29, 3, k.state), (28, 1, b2n k.snap.isSome), (27, 1, b2n (migrating s)), (0, 8, newestFormat s)]
  | 0x04 => r4 k.storeGen
  | 0x08 => p4 [(0, 28, (k.recs.filter (fun p => decide (p.2.type ≠ 0))).length)]
  | 0x0C => p4 [(0, 28, k.held.length)]
  | 0x10 => p4 [(0, 28, k.quar.length)]
  | 0x14 => p4 [(31, 1, b2n k.ring.isSome), (30, 1, b2n k.full), (0, 24, ringFree s)]
  | 0x18 => r8 k.changeSeq
  | 0x20 => r8 k.durableSeq
  | 0x28 => r8 k.snapSeq
  | 0x30 => p8 [(36, 17, s.tk.cfg.pinLimit), (19, 17, (k.recs.filter (fun p => p.2.pinned)).length)
               , (0, 19, min cacheSize (k.cache.length + (k.recs.filter (fun p => p.2.pinned && (tblGet k.cache p.1).isNone)).length))]
  | 0x38 => r8 k.hits
  | 0x40 => r8 k.misses
  | 0x48 => r4 k.integ
  | 0x4C => r4 k.scrubs
  | 0x50 => p4 [(24, 8, (k.mig.map (·.target)).getD 0), (16, 8, (k.mig.map (·.done.length)).getD 0)]
  | 0x54 => match k.cer with
    | none => r4 0
    | some c => p4 [(29, 3, if c.parts.length = c.needed then 2 else 1), (20, 4, c.needed), (16, 4, c.parts.length)]
  | 0x58 => p4 [(0, 16, k.domSel)]
  | 0x5C => p4 [(0, 24, k.jhead)]
  | 0x60 => p8 [(63, 1, b2n e.isOpen), (28, 28, e.quota), (0, 28, (k.recs.filter (fun p => decide (p.2.type ≠ 0 ∧ p.2.owner = k.domSel))).length)]
  | 0x68 => p8 [(48, 16, e.cur), (32, 16, e.oldest), (28, 4, e.limPin), (24, 4, e.limTok), (0, 17, e.pinQuota)]
  | 0x70 => r8 (nextEpochTick s k.domSel)
  | _ => none

/-! ### Controllers (R515, R516) -/

/-- One pair is ACTIVE and the other is not STANDBY (R507). -/
def singlePair (s : State) : Bool := decide ((s.hc.a = .active ∧ s.hc.b ≠ .standby) ∨ (s.hc.b = .active ∧ s.hc.a ≠ .standby))

/-- The HC window. -/
def hcView (s : State) (o : Nat) : View :=
  let h := s.hc
  let gapped := fun (g : Nat) => min g 8191
  match o with
  | 0x00 => p4 [(30, 2, match h.active with | none => 0 | some i => i + 1), (29, 1, h.preferred), (28, 1, b2n (h.gap || h.headless))
               , (27, 1, b2n (singlePair s)), (26, 1, b2n (lcRec s).trial), (23, 3, h.a.code), (20, 3, h.b.code)]
  | 0x04 => r4 h.switches
  | 0x08 => r8 h.lastTick
  | 0x10 => p4 [(28, 4, h.lastCause), (26, 2, h.lastFrom), (24, 2, h.lastTo), (0, 13, gapped h.lastGap)]
  | 0x14 => p4 [(16, 16, h.aStops), (0, 16, h.bStops)]
  | 0x18 => r8 (sinceReady s (nextMultiple (2 ^ 35) s.tick))
  | 0x20 => r8 (revertTick s)
  | 0x28 => p4 [(0, 13, min (s.tick - h.beat.getD s.tick) 8191)]
  | 0x2C => p4 [(0, 13, gapped h.gapPeak)]
  | _ => none

/-! ### The monitor (R473, R474) -/

/-- The highest class among the conditions present on a sensor instance; 0 with none. -/
def presentClass (s : State) (sensor inst : Nat) : Nat :=
  let cs := if sensor = 6 then dieConds 0 0 else condsOf s ⟨sensor, inst, 0, true, true⟩
  (cs.filter (fun c => condOn s sensor inst c.idx)).foldl (fun m c => max m c.cls) 0

/-- TM_SENSOR. -/
def sensorView (s : State) : View :=
  let sensor := s.tm.sensorSel % 256
  let inst := s.tm.sensorSel / 256
  let x := tget ({} : SensorSt) s.tm.sensors (sensorKey sensor inst)
  let c := presentClass s sensor inst
  if 15 < sensor then r4 0 else
  p4 [(30, 2, if !x.seen then 3 else if x.faulty then 2 else if c ≠ 0 then 1 else 0), (28, 2, c), (0, 16, twos 16 x.reading)]

/-- The reading of greatest magnitude among a sensor's instances. -/
def worstReading (s : State) (sensor n : Nat) : Int :=
  (List.range n).foldl (fun m i => if m.natAbs < (lastReading s sensor i).natAbs then lastReading s sensor i else m) 0

/-- The highest reading of a sensor's two instances. -/
def highReading (s : State) (sensor : Nat) : Int := max (lastReading s sensor 0) (lastReading s sensor 1)

/-- CAL bits of a band: bit 0 mesh, bit 1 pressure, bit 2 vibration. -/
def calBits (s : State) (band : Nat) : Nat :=
  let ok := fun (ss : List Nat) => (baselineKeys.filter (fun k => decide (k / 64 ∈ ss))).all (fun k => (tblGet s.tm.baselines (band * 1024 + k)).isSome)
  b2n (ok [0, 1]) + 2 * b2n (ok [3]) + 4 * b2n (ok [5])

/-- TM_SUMMARY. -/
def summaryView (s : State) : View := p4 (summaryFields s)

/-- The TM window. -/
def tmView (s : State) (o : Nat) : View :=
  let t := s.tm
  match o with
  | 0x00 => summaryView s
  | 0x04 => p4 [(24, 8, t.lastSource), (16, 8, t.lastInst), (14, 2, t.lastClass), (13, 1, b2n t.lastSplit)]
  | 0x08 => r8 t.lastTick
  | 0x10 => r4 t.nCount
  | 0x14 => r4 t.lCount
  | 0x18 => r4 t.zCount
  | 0x1C => r4 t.splits
  | 0x20 => p4 [(16, 16, twos 16 (lastReading s 13 0)), (0, 16, twos 16 (lastReading s 13 1))]
  | 0x24 => p4 [(31, 1, b2n t.selB), (30, 1, b2n (cellOk s 0)), (29, 1, b2n (cellOk s 1)), (0, 7, twos 7 (lastReading s 14 0))]
  | 0x28 => r8 t.battTicks
  | 0x30 => p4 [(16, 16, twos 16 (lastReading s 8 0)), (0, 16, twos 16 (lastReading s 9 0))]
  | 0x34 => p4 [(28, 4, (hottestDie s).1), (16, 12, twos 12 (hottestDie s).2), (0, 12, twos 12 (highReading s 7))]
  | 0x38 => p4 [(16, 16, twos 16 (lastReading s 3 0)), (0, 16, twos 16 (baselineOf s 3 0))]
  | 0x3C => p4 [(16, 16, twos 16 (max (lastReading s 5 0 - baselineOf s 5 0) (lastReading s 5 1 - baselineOf s 5 1)))]
  | 0x40 => p4 [(20, 12, twos 12 (lastReading s 10 0)), (12, 8, twos 8 (worstReading s 11 12)), (0, 12, twos 12 (lastReading s 12 0))]
  | 0x44 => p4 [(24, 3, calBits s 2), (20, 3, calBits s 1), (16, 3, calBits s 0), (0, 16, min (maxOf 16) ((t.collects.foldl (fun m p => max m p.2.count) 0) / 16))]
  | 0x48 => p4 [(0, 16, t.sensorSel)]
  | 0x4C => sensorView s
  | 0x50 => p4 [(31, 1, b2n t.full), (30, 1, b2n t.torn), (0, 17, t.append)]
  | 0x54 => p4 [(0, 18, t.evidSel)]
  | 0x58 => p4 [(31, 1, b2n t.evidReady), (29, 2, t.evidResult)]
  | 0x5C => r4 t.ringCount
  | _ => if 0x60 ≤ o ∧ o < 0xA0 ∧ o % 8 = 0 then r8 (le t.evidData (o - 0x60) 8) else none

/-! ### Accounts (R561) and the group (R543, R544) -/

/-- AC_NEXT_CLOSE: under MODE 2, the first tick at which UTC stands at the next boundary, as UTC runs now. -/
def nextClose (s : State) : Nat :=
  if s.ac.mode = 1 then nextMultiple (2 ^ s.ac.intLog) s.tick
  else if s.ac.mode = 2 then
    match s.tk.refNs with
    | none => 0
    | some r =>
      let goal : Int := ((utcSecsNow s / max 1 s.ac.intSec + 1) * max 1 s.ac.intSec : Nat) * 10 ^ 9
      s.tk.refTick + ((goal - r + 2047) / 2048).toNat
  else 0

/-- The AC window. -/
def acView (s : State) (o : Nat) : View :=
  let a := s.ac
  match o with
  | 0x00 => p4 [(30, 2, a.mode), (29, 1, b2n (streaming s)), (28, 1, b2n a.held.isSome), (27, 1, b2n a.pending.isSome), (26, 1, b2n a.ring.isSome)
               , (25, 1, b2n a.ringFull), (24, 1, b2n (!a.rated))]
  | 0x04 => p4 [(0, 16, dirtyEntries s)]
  | 0x08 => r8 a.interval
  | 0x10 => r8 a.intStart
  | 0x18 => r8 (nextClose s)
  | 0x20 => r8 ((a.pending.map (·.1)).getD 0)
  | 0x28 => r8 a.ckptTick
  | 0x30 => p4 [(0, 24, a.rhead)]
  | 0x34 => p4 [(0, 24, uringFree s)]
  | 0x38 => r4 a.heldCnt
  | 0x3C => r4 a.forced
  | 0x40 => r8 (a.rseq - 1)
  | _ => none

/-- The selected member as GP_MEMBER shows it: a module that is no manager shows the manager and the deputies alone. -/
def shownMember (s : State) : Member :=
  let m := member s s.gp.sel
  if !handed s then {} else if s.gp.role = 1 ∨ s.gp.sel = s.gp.manager ∨ m.deputy = true then m else {}

/-- The GP window. -/
def gpView (s : State) (o : Nat) : View :=
  let g := s.gp
  let m := shownMember s
  match o with
  | 0x00 => p4 [(29, 3, g.role), (23, 6, g.member), (22, 1, b2n g.majority), (21, 1, b2n g.frozen)
               , (20, 1, b2n (g.resync || g.members.any (fun p => decide (p.2.state = 2)))), (13, 7, groupN s), (6, 7, liveN s)]
  | 0x04 => r4 g.groupId
  | 0x08 => r4 g.mgen
  | 0x0C => p4 [(0, 19, g.doubts.length)]
  | 0x10 => r8 (sinceReady s (mask 64 (fun k => (tblGet g.members k).isSome)))
  | 0x18 => r8 (mask 64 (fun k => decide ((member s k).state = 3)))
  | 0x20 => r8 (sinceReady s (mask 64 (fun k => (member s k).deputy)))
  | 0x28 => r8 (if g.role = 1 then 0 else twos 64 g.offset)
  | 0x30 => r8 g.replSeq
  | 0x38 => r8 g.lastMgr
  | 0x40 => r4 g.losses
  | 0x44 => r4 g.nSplit
  | 0x48 => r4 g.reassigned
  | 0x4C => p4 [(0, 6, g.sel)]
  | 0x50 => p4 [(29, 3, m.state), (28, 1, b2n m.deputy), (23, 5, m.port), (20, 3, m.subport)]
  | 0x54 => r4 0
  | 0x58 => r8 m.seen
  | 0x60 => r8 m.ack
  | _ => none

/-! ### Records and trace (R496, R498) -/

/-- The EV window. -/
def evView (s : State) (o : Nat) : View :=
  let r := s.rc
  match o with
  | 0x0000 => p4 [(31, 1, b2n r.live), (28, 3, r.liveCause), (27, 1, b2n (decide (fixativeSlots ≤ r.fixCount))), (0, 13, r.fixCount)]
  | 0x0008 => r8 r.nextSeq
  | 0x0010 => r8 r.oldest
  | 0x0018 => r8 r.fixFirst
  | 0x0020 => p4 [(16, 11, r.staging.length), (0, 9, (openRecs s).length)]
  | 0x0024 => r4 r.clears
  | 0x0028 => r8 r.clearTick
  | 0x0030 => r4 r.coalCnt
  | 0x0034 => r4 r.dropped
  | 0x0040 => p4 [(31, 1, b2n r.snapValid), (29, 1, b2n r.snapRefused)]
  | 0x0048 => r8 r.snapHigh
  | 0x0050 => r8 r.snapTick
  | 0x0060 => r8 r.sel
  | 0x0068 => r4 0
  | 0x006C => p4 [(31, 1, b2n r.rdReady), (30, 1, b2n r.rdLive), (29, 1, b2n r.rdSnap), (0, 7, r.returned)]
  | _ => if o % 8 ≠ 0 then none
    else if 0x100 ≤ o ∧ o < 0x140 then r8 (leNat ((List.range 8).map (fun j => BitVec.ofNat 8 (r.rstat.getD (o - 0x100 + j) 0))))
    else if 0x1000 ≤ o ∧ o < 0x2000 then r8 (le (r.buf.getD ((o - 0x1000) / 64) []) (o % 64) 8)
    else none

/-- A trace packet's 16 octets (R493). -/
def Packet.bytes (p : Packet) : List Byte := leBytes 1 p.type ++ leBytes 1 p.source ++ leBytes 2 p.code ++ leBytes 4 p.tickLo ++ leBytes 8 p.data

/-- The trace window. -/
def trView (s : State) (o : Nat) : View :=
  let t := s.tr
  match o with
  | 0x0000 => p4 [(31, 1, b2n t.isOpen), (30, 1, b2n t.dev), (0, 5, t.groups)]
  | 0x0008 => r8 t.endTick
  | 0x0010 => r8 t.write
  | 0x0018 => r8 t.read
  | 0x0020 => r4 t.lost
  | _ => if 0x8000 ≤ o ∧ o < 0x20000 ∧ o % 8 = 0 then
      r8 (le (((tblGet t.buf ((o - 0x8000) / 16)).map Packet.bytes).getD []) (o % 16) 8) else none

end Sys2Proof.Machine
end

