-- ==== Sys2Proof/Machine/Registers.lean ====
section
/-!
DEFINITION. Accesses to registers: where each lies, what a read clears, what a write does, and the accesses that are refused (R11,
R13, R38, R83); resets of a PCIe function and PERST# (R79, R567, R568).
-/
namespace Sys2Proof.Machine

/-! ### Where a register lies (R38) -/

/-- The register of BAR0 that starts at an offset. -/
def regAt (s : State) (o : Nat) : View :=
  let w := o % 0x1000
  if o < 0x1000 then idView s w
  else if o < 0x2000 then mbCmdView s w
  else if o < 0x3000 then mbRspView s w
  else if o < 0x4000 then nqView s w
  else if o < 0x5000 then tkView s w
  else if o < 0x6000 then dgView s w
  else if o < 0x7000 then rnView s w
  else if o < 0x8000 then hcView s w
  else if o < 0x9000 then tmView s w
  else if o < 0xA000 then ksView s w
  else if o < 0xB000 then acView s w
  else if o < 0xC000 then gpView s w
  else if o < 0x10000 then none
  else if o < 0x20000 then evView s (o - 0x10000)
  else if o < 0x38000 then fnView s ((o - 0x20000) / 0x400) (o % 0x400)
  else if o < 0x40000 then none
  else if o < 0x60000 then trView s (o - 0x40000)
  else if o < 0x70000 then clView s ((o - 0x60000) / 0x400) (o % 0x400)
  else if o < 0x78000 then ptView s ((o - 0x70000) / 0x400) (o % 0x400)
  else if o < 0x7D000 then lnView s ((o - 0x78000) / 0x80) (o % 0x80)
  else if o < 0x80000 then none
  else if o < 0xA0000 then slView s ((o - 0x80000) / 0x20) (o % 0x20)
  else if o < 0xE0000 then qpView s ((o - 0xA0000) / 0x20) (o % 0x20)
  else none

/-- A 32-bit or 64-bit access, aligned (R13). -/
def sizeOk (o size : Nat) : Bool := decide (size = 4 ∨ size = 8) && decide (o % size = 0)

/-- An access inside a byte-addressed buffer of the mailbox (R394). -/
def inBuf (base o size : Nat) : Bool := sizeOk o size && decide (base ≤ o) && decide (o + size ≤ base + 4032)

/-- A 64-bit register that may not be read in halves: NQ_POP (R488). -/
def wholeOnly (o : Nat) : Bool := decide (o = 0x3000)

/-- The value a read of BAR0 finds, or none where R13 refuses it. -/
def regRead (s : State) (o size : Nat) : Option Nat :=
  if inBuf 0x1000 o size then some (leNat ((List.range size).map (fun j => tget 0 s.mb.cmdBuf (o - 0x1000 + j))))
  else if inBuf 0x2000 o size then some (le s.mb.rspBuf (o - 0x2000) size)
  else if !sizeOk o size then none
  else match regAt s o with
    | some (n, v) => if n = size then some v else if n = 8 ∧ !wholeOnly o then some (v % 2 ^ 32) else none
    | none =>
      if size = 4 ∧ o % 8 = 4 then
        match regAt s (o - 4) with
        | some (8, v) => if wholeOnly (o - 4) then none else some (v / 2 ^ 32)
        | _ => none
      else none

/-! ### Fields that a read clears (R11) -/

/-- The counters of a cluster that a read clears. -/
def clClear (o : Nat) (x : Cluster) : Cluster :=
  match o with
  | 0x018 => { x with spill := 0 }
  | 0x01C => { x with mismatch := 0 }
  | 0x020 => { x with retryOk := 0 }
  | 0x024 => { x with twinFail := 0 }
  | 0x028 => { x with latent := 0 }
  | 0x02C => { x with pfault := 0 }
  | 0x038 => { x with gates := 0 }
  | _ => x

/-- The counters of a lane that a read clears. -/
def lnClear (o : Nat) (x : Lane) : Lane :=
  match o with
  | 0x0C => { x with peak := 0 }
  | 0x38 => { x with mismatch := 0 }
  | 0x3C => { x with icvFail := 0 }
  | 0x40 => { x with lenDrop := 0 }
  | 0x44 => { x with replays := 0 }
  | 0x48 => { x with holdPeak := 0 }
  | 0x50 => { x with rotations := 0 }
  | _ => x

/-- The event counters of a port that a read clears. -/
def cntClear (j : Nat) (c : PortCnt) : PortCnt :=
  match j with
  | 0 => { c with rxDropFull := 0 }
  | 1 => { c with txDrop := 0 }
  | 2 => { c with ctrlDrop := 0 }
  | 3 => { c with otherDrop := 0 }
  | 4 => { c with noSectag := 0 }
  | 5 => { c with unknownSa := 0 }
  | 6 => { c with macReplay := 0 }
  | 7 => { c with hdrDrop := 0 }
  | 8 => { c with noSession := 0 }
  | 9 => { c with tpcReplay := 0 }
  | 10 => { c with tpcRefuse := 0 }
  | 11 => { c with hsOk := 0 }
  | 12 => { c with hsFail := 0 }
  | 13 => { c with fecUncorr := 0 }
  | 14 => { c with linkDowns := 0 }
  | 15 => { c with resumeDiscard := 0 }
  | _ => c

/-- The fields of a port that a read clears. -/
def ptClear (o : Nat) (x : Port) : Port :=
  if 0x40 ≤ o ∧ o < 0x80 then { x with cnt := cntClear ((o - 0x40) / 4) x.cnt }
  else if o = 0x88 then { x with ptp := { x.ptp with reject := 0 } }
  else if 0xA0 ≤ o ∧ o < 0xC0 then { x with corr := (x.corr ++ List.replicate (8 - x.corr.length) 0).set ((o - 0xA0) / 4) 0 }
  else x

/-- The counters of the TK window that a read clears. -/
def tkClear (o : Nat) (t : TickSt) : TickSt :=
  match o with
  | 0x064 => { t with bandChanges := 0 }
  | 0x0A0 => { t with nServed := 0 }
  | 0x0A4 => { t with nDelayed := 0 }
  | 0x0A8 => { t with nDemoted := 0 }
  | 0x0AC => { t with nAged := 0 }
  | 0x0B0 => { t with nRefused := 0 }
  | 0x0B4 => { t with nCancelled := 0 }
  | 0x0B8 => { t with nCancelLate := 0 }
  | 0x0BC => { t with nOverdue := 0 }
  | _ => t

/-- What a read of BAR0 clears or latches beside the value it returns. -/
def afterRead (o : Nat) (s : State) : State :=
  let w := o % 0x1000
  if o < 0x1000 then
    match w with
    | 0x28 => modLink 0 (fun l => { l with corr := 0 }) s
    | 0x2C => modLink 1 (fun l => { l with corr := 0 }) s
    | 0x30 => modLink 0 (fun l => { l with uncorr := 0 }) s
    | 0x34 => modLink 1 (fun l => { l with uncorr := 0 }) s
    | _ => s
  else if o = 0x3024 then { s with nq.nLost := 0 }
  else if 0x4000 ≤ o ∧ o < 0x5000 then { s with tk := tkClear w s.tk }
  else if o = 0x600C then { s with rn.nUnderrun := 0 }
  else if o = 0x6014 then { s with rn.stretch := 0 }
  else if 0x6040 ≤ o ∧ o < 0x6080 ∧ o % 16 = 0xC then modNoise ((o - 0x6040) / 16) (fun x => { x with fails := 0 }) s
  else if o = 0x7014 then { s with hc.aStops := 0, hc.bStops := 0 }
  else if o = 0x702C then { s with hc.gapPeak := 0 }
  else if o = 0x8010 then { s with tm.nCount := 0 }
  else if o = 0x801C then { s with tm.splits := 0 }
  else if o = 0x9048 then { s with ks.integ := 0 }
  else if o = 0xA038 then { s with ac.heldCnt := 0 }
  else if o = 0xA03C then { s with ac.forced := 0 }
  else if o = 0xB040 then { s with gp.losses := 0 }
  else if o = 0xB044 then { s with gp.nSplit := 0 }
  else if o = 0xB048 then { s with gp.reassigned := 0 }
  else if o = 0x10030 then { s with rc.coalCnt := 0 }
  else if o = 0x10034 then { s with rc.dropped := 0 }
  else if o = 0x40020 then { s with tr.lost := 0 }
  else if 0x20000 ≤ o ∧ o < 0x38000 then
    if o % 0x400 = 4 then
      let f := (o - 0x20000) / 0x400
      { s with fn.reports := tset {} s.fn.reports f { tget ({} : FenceRep) s.fn.reports f with viol := 0 } }
    else s
  else if 0x60000 ≤ o ∧ o < 0x70000 then modCluster ((o - 0x60000) / 0x400) (clClear (o % 0x400)) s
  else if 0x70000 ≤ o ∧ o < 0x78000 then modPort ((o - 0x70000) / 0x400) (ptClear (o % 0x400)) s
  else if 0x78000 ≤ o ∧ o < 0x7D000 then
    let n := (o - 0x78000) / 0x80
    if o % 0x80 = 8 then modLane n (fun x => { x with peak := if 152 ≤ n then hostChunks s n else x.peak }) s
    else if o % 0x80 = 0x4C then modLane n (fun x => { x with katOk := (katNow s n).1, passes := (katNow s n).2 }) s
    else modLane n (lnClear (o % 0x80)) s
  else if 0x80000 ≤ o ∧ o < 0xA0000 then
    if o % 0x20 = 0x10 then modSlice ((o - 0x80000) / 0x20) (fun l => { l with spoof := 0 }) s else s
  else s

/-- A free value that a view may have shown is used up. -/
def usedFree (s : State) : State := { s with freeCtr := s.freeCtr + 1 }

/-- The notice queue, the record reader and the trace window are exits (R38, R422, R476). -/
def exitWindow (o : Nat) : Bool := decide ((0x3000 ≤ o ∧ o < 0x4000) ∨ (0x10000 ≤ o ∧ o < 0x20000) ∨ (0x40000 ≤ o ∧ o < 0x60000))

/-- A read of a register without behaviour of its own, or one that R13 refuses. -/
def plainRead (o size : Nat) (s : State) : State :=
  match regRead s o size with
  | some v => usedFree ((if exitWindow o then send else emit) (.readData o v) (afterRead o s))
  | none => badRead o size s

/-- Half of the 64 bits a read of RN_DATA takes (R13, R370). -/
def halfData (o : Nat) : List Output → List Output
  | .readData _ v :: t => .readData o (if o % 8 = 4 then v / 2 ^ 32 else v % 2 ^ 32) :: t
  | l => l

/-- A read of BAR0. -/
def readBar0 (o size : Nat) (s : State) : Res :=
  if o = 0x3000 ∧ size = 8 then execNqPop s
  else if o = 0x4000 ∧ size = 4 then execTkCountLowRead s
  else if o = 0x6000 ∧ size = 8 then execRnData s
  else if (o = 0x6000 ∨ o = 0x6004) ∧ size = 4 then
    match execRnData s with
    | .next t => .next { t with out := halfData o t.out }
    | r => r
  else .next (plainRead o size s)

/-- A read of the page of queue pair n in BAR2, through the PF1 instance of a link (R83). -/
def readBar2 (l o size : Nat) (s : State) : Res :=
  let n := o / 4096
  let bad := emit (.readData o (2 ^ (32 * max 1 (size / 4)) - 1)) (doorbellNotice (if l = (qp s n).link then 0x0902 else 0x0901) n l s)
  if 8192 ≤ n then noEvent s else
  if l ≠ (qp s n).link ∨ sizeOk o size = false then .next bad else
  let r := o % 4096
  match pageView s (qp s n) r with
  | some (k, v) =>
    if k = size ∨ k = 8 then
      let s := if r = 0x1C then modQp n (fun q => { q with miss := 0 }) s else s
      .next (emit (.readData o (v % 2 ^ (8 * size))) s)
    else .next bad
  | none =>
    match size, pageView s (qp s n) (r - 4) with
    | 4, some (8, v) => .next (if r % 8 = 4 then emit (.readData o (v / 2 ^ 32)) s else bad)
    | _, _ => .next bad

/-- COUNTER_READ_CLEAR (R11): a read of a register of BAR0 (`bar2` none), or of a queue pair's page through the PF1 instance of a
link; a field with access ROC is cleared in the same access. -/
def execCounterReadClear (bar2 : Option Nat) (off size : Nat) (s : State) : Res :=
  match bar2 with
  | none => viaPf0 s (readBar0 off size s)
  | some l => readBar2 l off size s

/-! ### Writes (R11, R13) -/

/-- Bits that a W1C write clears. -/
def w1c (flag : Bool) (value bit : Nat) : Bool := flag && !bitOf value bit

/-- DG_CTRL (R354, R355): exactly one action bit. -/
def writeDgCtrl (u value : Nat) (s : State) : Res :=
  match bitOf value 31, bitOf value 30, bitOf value 29, bitOf value 28 with
  | true, false, false, false => execDgStart u (value % 16) (bitOf value 4) s
  | false, true, false, false => execDgSave u s
  | false, false, true, false => execDgRestore u s
  | false, false, false, true => execDgAbort u s
  | _, _, _, _ => .next (dgStatus u St.digestSequence s)

/-- A write to the page of a claimed digest unit (R354 to R357). -/
def writeDgPage (u o value : Nat) (s : State) : Res :=
  match o with
  | 0x00 => writeDgCtrl u value s
  | 0x08 => .next (modDg u (fun x => { x with key := value }) s)
  | 0x0C => .next (modDg u (fun x => { x with domain := value % 2 ^ 16 }) s)
  | 0x10 => execDgData u value s
  | 0x18 =>
    if (dgUnit s u).active then .next (modDg u (fun x => { x with last := leBytes 8 value }) s)
    else .next (dgStatus u St.digestSequence s)
  | 0x20 => execDgLastCtl u (value % 16) s
  | _ => if 0xC0 ≤ o then .next (modDg u (fun x => { x with regs := overwrite (octets x.regs 0 256) (o - 0xC0) (leBytes 8 value) }) s) else .next s

/-- DG_CLAIM (R352): a write that sets both bits claims and then releases nothing: CLAIM is taken. -/
def writeDgClaim (value : Nat) (s : State) : Res :=
  if bitOf value 31 then execDgClaim (value % 8) s else if bitOf value 30 then execDgRelease (value % 8) s else .next s

/-- EV_SNAP (R486, R498): REFUSED is cleared before TAKE acts. -/
def writeEvSnap (value : Nat) (s : State) : Res :=
  let s : State := { s with rc.snapRefused := w1c s.rc.snapRefused value 29 }
  if bitOf value 30 then execEvSnapTake s else .next s

/-- A write to a noise source's W1C fields (R373, R375). -/
def writeSrc (k value : Nat) (s : State) : State :=
  modNoise k (fun x => { x with bias := w1c x.bias value 28, corr := w1c x.corr value 27 }) s

/-- A write to a register of BAR0 that has the width of the access. -/
def writeReg (o value : Nat) (s : State) : Res :=
  if o = 0x1FC0 then execMbCmdSubmit value s
  else if o = 0x1FC4 then .next { s with mb.overrun := w1c s.mb.overrun value 30, mb.bufDrop := w1c s.mb.bufDrop value 29 }
  else if o = 0x2FC8 then execMbRspAck value s
  else if o = 0x3020 then .next { s with nq.lost := w1c s.nq.lost value 31 }
  else if o = 0x40C0 then .next { s with tk.acctSel := value % 2 ^ 13 }
  else if o = 0x40E0 then .next { s with tk.costSel := value % 2 ^ 16, tk.costBand := bits value 17 16 }
  else if o = 0x5000 then writeDgClaim value s
  else if o = 0x5004 then .next { s with dg.refused := w1c s.dg.refused value 31 }
  else if o = 0x6008 then .next { s with rn.underrun := w1c s.rn.underrun value 31 }
  else if o = 0x6020 then .next { s with rn.sel := value % 2 ^ 7 }
  else if o = 0x6040 then .next (writeSrc 0 value s)
  else if o = 0x6050 then .next (writeSrc 1 value s)
  else if o = 0x6060 then .next (writeSrc 2 value s)
  else if o = 0x6070 then .next (writeSrc 3 value s)
  else if o = 0x8048 then .next { s with tm.sensorSel := value % 2 ^ 16 }
  else if o = 0x8054 then execTmEvidSel value s
  else if o = 0x9058 then .next { s with ks.domSel := value % 2 ^ 16 }
  else if o = 0x905C then execKsJhead value s
  else if o = 0xA030 then execAcRhead value s
  else if o = 0xB04C then .next { s with gp.sel := value % 64 }
  else if o = 0x10040 then writeEvSnap value s
  else if o = 0x10060 then .next { s with rc.sel := value }
  else if o = 0x10068 then execEvGo value s
  else if o = 0x40018 then .next { s with tr.read := value }
  else if 0x3100 ≤ o ∧ o < 0x3200 then
    let k := (o - 0x3100) / 16
    if o % 16 = 0 then execNqWmCfg k value s
    else if o % 16 = 8 ∧ bitOf value 63 = true ∧ (wm s k).latched = true then execNqWmRearm k s
    else .next s
  else if 0x5100 ≤ o ∧ o < 0x5F00 then writeDgPage ((o - 0x5100) / 0x1C0) ((o - 0x5100) % 0x1C0) value s
  else if 0x20000 ≤ o ∧ o < 0x38000 ∧ o % 0x400 = 0x1C ∧ bitOf value 31 = true then
    let f := (o - 0x20000) / 0x400
    .next { s with fn.reports := tset {} s.fn.reports f { tget ({} : FenceRep) s.fn.reports f with first := {} } }
  else .next s

/-- A write of octets to MB_CMD_BUF; while BUSY it is discarded (R396). -/
def writeCmdBuf (o size value : Nat) (s : State) : State :=
  if s.mb.busy then { s with mb.bufDrop := true }
  else { s with mb.cmdBuf := (List.range size).foldl (fun t j => tset 0 t (o - 0x1000 + j) ((leBytes size value).getD j 0)) s.mb.cmdBuf }

/-- A write to BAR0. -/
def writeBar0 (o size value : Nat) (s : State) : Res :=
  let v := value % 2 ^ (8 * size)
  if inBuf 0x1000 o size then .next (writeCmdBuf o size v s)
  else if inBuf 0x2000 o size then .next s
  else if !sizeOk o size then .next (badWrite o s)
  else match regAt s o with
    | some (n, _) => if n = size then writeReg o v s else .next (badWrite o s)
    | none => .next (badWrite o s)

/-- A write to the page of a queue pair in BAR2 (R83, R84). -/
def writeBar2 (l o size value : Nat) (s : State) : Res :=
  let n := o / 4096
  let v := value % 2 ^ (8 * size)
  if 8192 ≤ n then noEvent s else
  match o % 4096, size with
  | 0x00, 4 => execQpSqTail n l v s
  | 0x04, 4 => execQpCqHead n l v s
  | 0x08, 8 => execQpCancel n l v s
  | 0x10, 8 => match doorbellOpen n l s with
    | .error s => .next s
    | .ok () => .next s
  | 0x18, 4 => match doorbellOpen n l s with
    | .error s => .next s
    | .ok () => .next (modQp n (fun q => { q with ovf := w1c q.ovf v 31 }) s)
  | 0x1C, 4 => match doorbellOpen n l s with
    | .error s => .next s
    | .ok () => .next s
  | _, _ => match doorbellOpen n l s with
    | .error s => .next s
    | .ok () => .next (doorbellNotice 0x0902 n l s)

/-- REGISTER_WRITE (R11): a write to a register of BAR0 (`bar2` none), or of a queue pair's page through the PF1 instance of a link.
A register that has a row of its own is written as that row says. -/
def execRegisterWrite (bar2 : Option Nat) (off size value : Nat) (s : State) : Res :=
  match bar2 with
  | none => viaPf0 s (writeBar0 off size value s)
  | some l => writeBar2 l off size value s

/-- BAR0_ACCESS_INVALID (R13): an access to BAR0 that no register takes; a write is discarded, a read returns ones. An access that a
register does take is that register's. -/
def execBar0AccessInvalid (write : Bool) (off size value : Nat) (s : State) : Res :=
  viaPf0 s (if write then writeBar0 off size value s else readBar0 off size s)

/-! ### PERST# and function resets (R79, R353, R395, R567, R568) -/

/-- A held response was written before the reset (R395). -/
def markStale (s : State) : State := { s with mb.rspStale := s.mb.rspStale || s.mb.rspValid }

/-- PERST_ASSERT (R568): the link is in reset; nothing else of the module is. -/
def execPerstAssert (l : Nat) (s : State) : Res :=
  if 1 < l then noEvent s else
  let s := modLink l (fun k => { k with perst := true, up := false, recov := false, width := 0, speed := 0 }) s
  let s := linkDown l s
  .next (if l = 0 then pf0Down (markStale (releaseAll s)) else s)

/-- PERST_DEASSERT (R567): the link may train, from power-good on (HOST_LINK_UP). -/
def execPerstDeassert (l : Nat) (s : State) : Res :=
  if 1 < l then noEvent s else .next (modLink l (fun k => { k with perst := false }) s)

/-- FUNCTION_LEVEL_RESET (R79, R353, R395): function 0 is PF0, 1 and 2 the PF1 instances of links 0 and 1. -/
def execFunctionLevelReset (fn : Nat) (s : State) : Res :=
  match fn with
  | 0 => .next (markStale (releaseAll s))
  | 1 => .next (linkDown 0 (modLink 0 (fun k => { k with bme := false }) s))
  | 2 => .next (linkDown 1 (modLink 1 (fun k => { k with bme := false }) s))
  | _ => noEvent s

end Sys2Proof.Machine
end

