-- ==== Sys2Proof/Machine/Smbus.lean ====
section
/-!
DEFINITION. The SMBus health port (R573, R574).
-/
namespace Sys2Proof.Machine

/-- The 7-bit address the port answers at (R573). -/
def smbAddress (s : State) : Nat := 0x58 + 2 * b2n s.pin.smbAddr1 + b2n s.pin.smbAddr0

/-- The port is powered and the transfer names it (R573, R574). -/
def smbHears (s : State) (addr : Nat) : Bool := s.pin.mainPower && decide (addr = smbAddress s)

/-- Eight steps of the CRC-8 of SMBus. PRESUMED, log entry 32: polynomial 0x07, from 0. -/
def crc8Step : Nat → Nat → Nat
  | 0, c => c
  | n + 1, c => crc8Step n (if 128 ≤ c then (c * 2 % 256) ^^^ 7 else c * 2)

/-- The packet error code over octets. -/
def crc8 (bs : List Byte) : Nat := bs.foldl (fun c b => crc8Step 8 (c ^^^ b.toNat)) 0

/-- The octets answered to a read of a command code, with their PEC when the reader clocks it (R573). -/
def smbAnswer (addr cmd : Nat) (pec : Bool) (data : List Byte) (s : State) : State :=
  let head := beBytes 1 (2 * addr) ++ beBytes 1 cmd ++ beBytes 1 (2 * addr + 1)
  emit (.smbus (some (data ++ if pec then beBytes 1 (crc8 (head ++ data)) else []))) { s with pin.smbCmd := cmd }

/-- A transfer that nothing acknowledges. -/
def smbSilent (s : State) : State := emit (.smbus none) s

/-- A value the spec leaves open, as one octet (log entry 32). -/
def smbFree (s : State) : Byte × State := (BitVec.ofNat 8 (draw s).1, (draw s).2)

/-- SMBUS_READ_BYTE (R573, R574): 7-bit address, command code, whether the reader clocks a PEC. -/
def execSmbusReadByte (addr cmd : Nat) (pec : Bool) (s : State) : Res :=
  if !smbHears s addr then .next (smbSilent s)
  else if cmd < 0x20 then .next (smbAnswer addr cmd pec (octets s.pin.smbFresh cmd 1) s)
  else if cmd = 0x80 then let q := smbFree s
                          .next (smbAnswer addr cmd pec [q.1] q.2)
  else .next (smbSilent s)

/-- SMBUS_READ_WORD (R573, R574): both octets are of one refresh; nothing stands beyond the block's last octet. -/
def execSmbusReadWord (addr cmd : Nat) (pec : Bool) (s : State) : Res :=
  if !smbHears s addr then .next (smbSilent s)
  else if cmd < 0x1F then .next (smbAnswer addr cmd pec (octets s.pin.smbFresh cmd 2) s)
  else if cmd = 0x1F then let q := smbFree s
                          .next (smbAnswer addr cmd pec (octets s.pin.smbFresh cmd 1 ++ [q.1]) q.2)
  else if cmd = 0x80 then let q := smbFree s
                          let r := smbFree q.2
                          .next (smbAnswer addr cmd pec [q.1, r.1] r.2)
  else .next (smbSilent s)

/-- SMBUS_BLOCK_READ (R573, R574): at 0x80, the count and all 32 octets. -/
def execSmbusBlockRead (addr cmd : Nat) (pec : Bool) (s : State) : Res :=
  if !smbHears s addr then .next (smbSilent s)
  else if cmd = 0x80 then .next (smbAnswer addr cmd pec (beBytes 1 32 ++ octets s.pin.smbFresh 0 32) s)
  else if cmd < 0x20 then let q := smbFree s
                          .next (smbAnswer addr cmd pec [q.1] q.2)
  else .next (smbSilent s)

/-- SMBUS_DATA_WRITE (R573): not acknowledged from its data octet on; nothing changes. -/
def execSmbusDataWrite (_addr _cmd : Nat) (s : State) : Res := .next (smbSilent s)

/-- SMBUS_CLOCK_STUCK (R574): SMB_CLK was low for 35 ms: SMB_DAT is released and the port's state machine reset. -/
def execSmbusClockStuck (s : State) : Res := .next { s with pin.smbCmd := 0 }

end Sys2Proof.Machine
end

