-- ==== Sys2Proof/Machine/Sample.lean ====
section
/-!
DEFINITION. The arbitration sample point: hub cycle 0 of a tick (R25, R31, R49).
-/
namespace Sys2Proof.Machine

/-- Control tables whose switch tick has come (R30, R31). -/
def tableSwitches (s : State) : State :=
  loadBandPoint (calPoint (vendorPoint (routesPoint (accordsPoint (limiterPoint (applyDomains (applyFences (applyAdmission s))))))))

/-- UTC, the limiter's window, the tariff and the interval, as far as they turn at this tick (R73, R172, R550, R551): work granted
at this sample point counts in the new window and interval. -/
def tickBoundaries (s : State) : State :=
  let s := if s.tick % 512 = 0 then utcUpdate s else s
  let s := if s.lim.running then windowBoundary s else s
  closesPoint (intervalClose (tariffSwitch s))

/-- The supervisors at a sample point: clusters, lanes, ports, noise sources, public-key units. -/
def supervisors (s : State) : State := pkPoint (noisePoint (bandPoint (buffersPoint (lanesPoint (clustersPoint s)))))

/-- Slice resets and cancels, which withdraw work before the grants (R69, R109). -/
def withdrawals (s : State) : State := applyCancels (slicesPoint s)

/-- What was committed at this sample point, and what follows from it: changes of the key store, the group, associations, sessions and verdicts,
a snapshot (R33, R240, R244, R525). -/
def commits (s : State) : State := startMigration (takeSnap (verdictsPoint (sessionsPoint (saPoint (groupPoint (commitChanges (migrationPoint s)))))))

/-- The lock-class event of an evidence append that met a slot not blank (R464, R469). -/
def blankPoint (s : State) : State := if s.tm.blankHit then lockClass 0x27 0 { s with tm.blankHit := false } else s

/-- The hearth controller's own progress: a transition, a switch-over put off, a clear, the end of a trace (R438, R487, R494, R511). -/
def controls (s : State) : State := resumeWaiting (answerPoint (clearPoint (retryPlanned (stepTransition (restartPairs (blankPoint (traceEndPoint s)))))))

/-- The grants, and what they leave to look at (R49, R149, R556). -/
def grants (s : State) : State := forcedPoint (heldPoint (gatingHistory (grantPasses { s with ks.missGrants := 0 })))

/-- After the grants: drains that end in this tick, completions that can leave, the journal's and the usage ring's room, watermarks, fetches (R86,
R238, R490, R554). -/
def afterGrants (s : State) : State :=
  let s := settle s
  let s := if s.ks.ring.isSome then updateFull s else s
  pump (watermarks (streamPoint (drainPoint s)))

/-- Whether the active pair writes its heartbeat in this tick is its own doing, a free value (R500; log entry 34). -/
def heartbeat (s : State) : State :=
  if s.hc.active.isSome && s.hc.beat.isSome then
    let q := draw s
    if q.1 % 2 = 0 then q.2 else { q.2 with hc.beat := some s.tick }
  else s

/-! ### Trace points (R493, R495) -/

/-- A trace point of a source's firmware (R422, R495): outside DEVELOPMENT its DATA is zero. `pin` says that its beat carries a tagged or a
key-register value: the filter stops it. -/
def tracePoint (source code data : Nat) (pin : Bool) (s : State) : State :=
  if !s.tr.isOpen then s
  else if pin then egressStop 0 (fwVersion s) 3 s
  else tracePacket 1 source code (if lcState s = .development then data else 0) s

/-- The sources whose group is open: a gated cluster writes nothing (R493). -/
def traceSources (s : State) : List Nat :=
  (if traceGroup s 0 then s.hc.active.toList else []) ++
  (if traceGroup s 1 then ((List.range 64).filter (fun c => decide ((cluster s c).state ∉ [3, 4]))).map (0x10 + ·) else []) ++
  (if traceGroup s 2 then (List.range 32).map (0x50 + ·) else []) ++ (if traceGroup s 3 then [0x70] else []) ++
  (if traceGroup s 4 then [0x71] else [])

/-- One trace point of some open source's firmware: source, CODE, DATA and tags are free values (log entry 97). -/
def firmwarePoint (s : State) : State :=
  let a := draw s
  let b := draw a.2
  let c := draw b.2
  let d := draw c.2
  match (traceSources s)[a.1 % max 1 (traceSources s).length]? with
  | none => d.2
  | some src => tracePoint src (b.1 % 65536) (c.1 % 2 ^ 64) (decide (d.1 % 2 = 1)) d.2

/-- The trace points that firmware has written since the last sample point: how many is free (R495, log entry 97). -/
def firmwareTrace (s : State) : State :=
  if !s.tr.isOpen then s else
  let q := draw s
  (List.range q.1).foldl (fun s _ => firmwarePoint s) q.2

/-- All of a sample point of the tick that stands. -/
def samplePoint (s : State) : State :=
  summaryPoint (firmwareTrace (heartbeat (afterGrants (grants (stagePump (powerAbsent (controls (commits (withdrawals (supervisors (tickBoundaries (tableSwitches (lanesStopPoint (fencePoint s))))))))))))))

/-- SAMPLE_POINT (R6, R25, R26, R49): a tick begins, and its sample point is taken. It comes once the bellows runs, with main power. -/
def execSamplePoint (s : State) : Res :=
  whenOk (s.pin.mainPower && decide (1 ≤ s.lc.stage)) s (samplePoint { s with tick := s.tick + 1 })

end Sys2Proof.Machine
end

