-- ==== Sys2Proof/Machine/Dispatch.lean ====
section
/-!
DEFINITION. The meaning of each command, by constructor.
-/
namespace Sys2Proof.Machine

/-- The effect of a command on everything but the queue of waiting commands. -/
def exec (i : Instr) (s : State) : Host.Outcome State Fault Refusal :=
  match i with
  | .samplePoint => Sys2Proof.Machine.execSamplePoint s
  | .powerSample mv ma => Sys2Proof.Machine.execPowerSample mv ma s
  | .utcUpdate => Sys2Proof.Machine.execUtcUpdate s
  | .utcValidExpiry => Sys2Proof.Machine.execUtcValidExpiry s
  | .tkCountLowRead => Sys2Proof.Machine.execTkCountLowRead s
  | .counterReadClear bar2 off size => Sys2Proof.Machine.execCounterReadClear bar2 off size s
  | .registerWrite bar2 off size value => Sys2Proof.Machine.execRegisterWrite bar2 off size value s
  | .bar0AccessInvalid write off size value => Sys2Proof.Machine.execBar0AccessInvalid write off size value s
  | .qpSqTail n inst value => Sys2Proof.Machine.execQpSqTail n inst value s
  | .qpCqHead n inst value => Sys2Proof.Machine.execQpCqHead n inst value s
  | .qpCancel n inst value => Sys2Proof.Machine.execQpCancel n inst value s
  | .qpPoll n inst => Sys2Proof.Machine.execQpPoll n inst s
  | .submissionFetchDone n r => Sys2Proof.Machine.execSubmissionFetchDone n r s
  | .inputReadDone id r => Sys2Proof.Machine.execInputReadDone id r s
  | .dmaReadTimeout r => Sys2Proof.Machine.execDmaReadTimeout r s
  | .lateCompletion => Sys2Proof.Machine.execLateCompletion s
  | .cqWaitExpiry n => Sys2Proof.Machine.execCqWaitExpiry n s
  | .hostLinkUp l width speed => Sys2Proof.Machine.execHostLinkUp l width speed s
  | .hostLinkDown l => Sys2Proof.Machine.execHostLinkDown l s
  | .perstAssert l => Sys2Proof.Machine.execPerstAssert l s
  | .perstDeassert l => Sys2Proof.Machine.execPerstDeassert l s
  | .functionLevelReset fn => Sys2Proof.Machine.execFunctionLevelReset fn s
  | .busMasterClear l => Sys2Proof.Machine.execBusMasterClear l s
  | .hostLinkError l correctable => Sys2Proof.Machine.execHostLinkError l correctable s
  | .sliceFlushDone n => Sys2Proof.Machine.execSliceFlushDone n s
  | .batchPartInputRead bid idx r => Sys2Proof.Machine.execBatchPartInputRead bid idx r s
  | .engineStepEnd id o => Sys2Proof.Machine.execEngineStepEnd id o s
  | .machineCheck id second => Sys2Proof.Machine.execMachineCheck id second s
  | .engineCycleOverrun id both second => Sys2Proof.Machine.execEngineCycleOverrun id both second s
  | .retestEnd e passed => Sys2Proof.Machine.execRetestEnd e passed s
  | .clLoadDone c ok => Sys2Proof.Machine.execClLoadDone c ok s
  | .gatingDecision c => Sys2Proof.Machine.execGatingDecision c s
  | .clusterWakeEnd c => Sys2Proof.Machine.execClusterWakeEnd c s
  | .limiterSecondDecision n fault => Sys2Proof.Machine.execLimiterSecondDecision n fault s
  | .limiterWindowBoundary => Sys2Proof.Machine.execLimiterWindowBoundary s
  | .limiterLockoutEnd n => Sys2Proof.Machine.execLimiterLockoutEnd n s
  | .keyFetchDone n e => Sys2Proof.Machine.execKeyFetchDone n e s
  | .keystoreScrub a b c d => Sys2Proof.Machine.execKeystoreScrub a b c d s
  | .journalStream => Sys2Proof.Machine.execJournalStream s
  | .rootSlotWrite => Sys2Proof.Machine.execRootSlotWrite s
  | .ksJhead value => Sys2Proof.Machine.execKsJhead value s
  | .holdDownExpiry n => Sys2Proof.Machine.execHoldDownExpiry n s
  | .migrationSegmentSwitch seg => Sys2Proof.Machine.execMigrationSegmentSwitch seg s
  | .ceremonyExpiry => Sys2Proof.Machine.execCeremonyExpiry s
  | .laneBeatMismatch n => Sys2Proof.Machine.execLaneBeatMismatch n s
  | .laneReplayDone n hold => Sys2Proof.Machine.execLaneReplayDone n hold s
  | .hostLaneMismatch n id => Sys2Proof.Machine.execHostLaneMismatch n id s
  | .hostLaneChunkEnd id r a => Sys2Proof.Machine.execHostLaneChunkEnd id r a s
  | .laneRetestStart n => Sys2Proof.Machine.execLaneRetestStart n s
  | .laneRetestEnd n passed => Sys2Proof.Machine.execLaneRetestEnd n passed s
  | .spareKatFault n => Sys2Proof.Machine.execSpareKatFault n s
  | .laneRotationStart d => Sys2Proof.Machine.execLaneRotationStart d s
  | .handoverEnd d => Sys2Proof.Machine.execHandoverEnd d s
  | .handoverRetestEnd d => Sys2Proof.Machine.execHandoverRetestEnd d s
  | .macsecFrame p k f => Sys2Proof.Machine.execMacsecFrame p k f s
  | .macControlFrame p k frame => Sys2Proof.Machine.execMacControlFrame p k frame s
  | .arpRequest p k f => Sys2Proof.Machine.execArpRequest p k f s
  | .neighborSolicitation p k f => Sys2Proof.Machine.execNeighborSolicitation p k f s
  | .otherFrame p k f => Sys2Proof.Machine.execOtherFrame p k f s
  | .tpcHello p k f => Sys2Proof.Machine.execTpcHello p k f s
  | .tpcRequest p k f => Sys2Proof.Machine.execTpcRequest p k f s
  | .tpcReply p k f => Sys2Proof.Machine.execTpcReply p k f s
  | .tpcKeepalive p k f => Sys2Proof.Machine.execTpcKeepalive p k f s
  | .tpcClose p k f => Sys2Proof.Machine.execTpcClose p k f s
  | .handshakeDone e => Sys2Proof.Machine.execHandshakeDone e s
  | .acceptTimeout e => Sys2Proof.Machine.execAcceptTimeout e s
  | .sessionIdleTimeout e => Sys2Proof.Machine.execSessionIdleTimeout e s
  | .dormantTimeout e => Sys2Proof.Machine.execDormantTimeout e s
  | .certExpiry e => Sys2Proof.Machine.execCertExpiry e s
  | .responseReady id => Sys2Proof.Machine.execResponseReady id s
  | .resumeWindowEnd e => Sys2Proof.Machine.execResumeWindowEnd e s
  | .forwardClose id => Sys2Proof.Machine.execForwardClose id s
  | .referralVerdictExpiry id => Sys2Proof.Machine.execReferralVerdictExpiry id s
  | .lossOfSignal p k => Sys2Proof.Machine.execLossOfSignal p k s
  | .lossOfAlignment p k => Sys2Proof.Machine.execLossOfAlignment p k s
  | .remoteFault p k => Sys2Proof.Machine.execRemoteFault p k s
  | .linkUp p k => Sys2Proof.Machine.execLinkUp p k s
  | .fecUncorrectable p k => Sys2Proof.Machine.execFecUncorrectable p k s
  | .trainingEnd p k ok => Sys2Proof.Machine.execTrainingEnd p k ok s
  | .serdesBandApply => Sys2Proof.Machine.execSerdesBandApply s
  | .autoRetrainStart p => Sys2Proof.Machine.execAutoRetrainStart p s
  | .ptpSync p k f t2 => Sys2Proof.Machine.execPtpSync p k f t2 s
  | .ptpFollowUp p k f => Sys2Proof.Machine.execPtpFollowUp p k f s
  | .ptpDelayResp p k f t3 => Sys2Proof.Machine.execPtpDelayResp p k f t3 s
  | .ptpAnnounce p k f => Sys2Proof.Machine.execPtpAnnounce p k f s
  | .ptpExchangeTimeout p => Sys2Proof.Machine.execPtpExchangeTimeout p s
  | .ptpLockLoss p => Sys2Proof.Machine.execPtpLockLoss p s
  | .dgClaim u => Sys2Proof.Machine.execDgClaim u s
  | .dgRelease u => Sys2Proof.Machine.execDgRelease u s
  | .dgClaimComplete u => Sys2Proof.Machine.execDgClaimComplete u s
  | .dgStart u alg isSealed => Sys2Proof.Machine.execDgStart u alg isSealed s
  | .dgSealedKeyReady u => Sys2Proof.Machine.execDgSealedKeyReady u s
  | .dgSave u => Sys2Proof.Machine.execDgSave u s
  | .dgRestore u => Sys2Proof.Machine.execDgRestore u s
  | .dgAbort u => Sys2Proof.Machine.execDgAbort u s
  | .dgData u v => Sys2Proof.Machine.execDgData u v s
  | .dgLastCtl u vb => Sys2Proof.Machine.execDgLastCtl u vb s
  | .dgBlockDone u => Sys2Proof.Machine.execDgBlockDone u s
  | .dgMessageDone u => Sys2Proof.Machine.execDgMessageDone u s
  | .digestChunkEnd id => Sys2Proof.Machine.execDigestChunkEnd id s
  | .rnData => Sys2Proof.Machine.execRnData s
  | .entropyBlock => Sys2Proof.Machine.execEntropyBlock s
  | .noiseSourceFail k cause => Sys2Proof.Machine.execNoiseSourceFail k cause s
  | .sourceRetest k passed => Sys2Proof.Machine.execSourceRetest k passed s
  | .noSourceTimeout => Sys2Proof.Machine.execNoSourceTimeout s
  | .sourceWindowEnd k ones equal => Sys2Proof.Machine.execSourceWindowEnd k ones equal s
  | .pkUnitStep u failed a => Sys2Proof.Machine.execPkUnitStep u failed a s
  | .mbRspAck tag => Sys2Proof.Machine.execMbRspAck tag s
  | .mbBodyReadDone r => Sys2Proof.Machine.execMbBodyReadDone r s
  | .quorumCheckDone faults => Sys2Proof.Machine.execQuorumCheckDone faults s
  | .longCommandEnd op img => Sys2Proof.Machine.execLongCommandEnd op img s
  | .nonce => Sys2Proof.Machine.execNonce s
  | .echo => Sys2Proof.Machine.execEcho s
  | .status => Sys2Proof.Machine.execStatus s
  | .cmdStatus => Sys2Proof.Machine.execCmdStatus s
  | .credEnrol => Sys2Proof.Machine.execCredEnrol s
  | .credRevoke => Sys2Proof.Machine.execCredRevoke s
  | .credList => Sys2Proof.Machine.execCredList s
  | .quorumSet => Sys2Proof.Machine.execQuorumSet s
  | .quorumGet => Sys2Proof.Machine.execQuorumGet s
  | .credSeal => Sys2Proof.Machine.execCredSeal s
  | .stateChange => Sys2Proof.Machine.execStateChange s
  | .unlock => Sys2Proof.Machine.execUnlock s
  | .fwLoad => Sys2Proof.Machine.execFwLoad s
  | .fwActivate => Sys2Proof.Machine.execFwActivate s
  | .fwStandbyLoaded => Sys2Proof.Machine.execFwStandbyLoaded s
  | .fwTrialCommit => Sys2Proof.Machine.execFwTrialCommit s
  | .progKeySet => Sys2Proof.Machine.execProgKeySet s
  | .progLoad => Sys2Proof.Machine.execProgLoad s
  | .progWithdraw => Sys2Proof.Machine.execProgWithdraw s
  | .evClear => Sys2Proof.Machine.execEvClear s
  | .traceOpen => Sys2Proof.Machine.execTraceOpen s
  | .traceClose => Sys2Proof.Machine.execTraceClose s
  | .traceEndTick => Sys2Proof.Machine.execTraceEndTick s
  | .traceSync => Sys2Proof.Machine.execTraceSync s
  | .fenceSet => Sys2Proof.Machine.execFenceSet s
  | .fenceLock => Sys2Proof.Machine.execFenceLock s
  | .clDrain => Sys2Proof.Machine.execClDrain s
  | .clLoad => Sys2Proof.Machine.execClLoad s
  | .clReturn => Sys2Proof.Machine.execClReturn s
  | .clGating => Sys2Proof.Machine.execClGating s
  | .readmit passed => Sys2Proof.Machine.execReadmit passed s
  | .laneSet => Sys2Proof.Machine.execLaneSet s
  | .unitQuery => Sys2Proof.Machine.execUnitQuery s
  | .domainSet => Sys2Proof.Machine.execDomainSet s
  | .epoch => Sys2Proof.Machine.execEpoch s
  | .journalSet => Sys2Proof.Machine.execJournalSet s
  | .snapshot => Sys2Proof.Machine.execSnapshot s
  | .reload => Sys2Proof.Machine.execReload s
  | .storeEmpty => Sys2Proof.Machine.execStoreEmpty s
  | .cerOpen => Sys2Proof.Machine.execCerOpen s
  | .cerComponent => Sys2Proof.Machine.execCerComponent s
  | .cerCommit => Sys2Proof.Machine.execCerCommit s
  | .cerAbort => Sys2Proof.Machine.execCerAbort s
  | .pinPolicySet => Sys2Proof.Machine.execPinPolicySet s
  | .limitQuery => Sys2Proof.Machine.execLimitQuery s
  | .limitClear => Sys2Proof.Machine.execLimitClear s
  | .digestDomwin => Sys2Proof.Machine.execDigestDomwin s
  | .admitSet => Sys2Proof.Machine.execAdmitSet s
  | .acctSet => Sys2Proof.Machine.execAcctSet s
  | .timeSet => Sys2Proof.Machine.execTimeSet s
  | .sliceBind => Sys2Proof.Machine.execSliceBind s
  | .sliceStart => Sys2Proof.Machine.execSliceStart s
  | .sliceReset => Sys2Proof.Machine.execSliceReset s
  | .sliceUnbind => Sys2Proof.Machine.execSliceUnbind s
  | .qpSet => Sys2Proof.Machine.execQpSet s
  | .portSet => Sys2Proof.Machine.execPortSet s
  | .saSet => Sys2Proof.Machine.execSaSet s
  | .saRemove => Sys2Proof.Machine.execSaRemove s
  | .epLoad => Sys2Proof.Machine.execEpLoad s
  | .epRemove => Sys2Proof.Machine.execEpRemove s
  | .epQuery => Sys2Proof.Machine.execEpQuery s
  | .ptpSet => Sys2Proof.Machine.execPtpSet s
  | .accordLoad => Sys2Proof.Machine.execAccordLoad s
  | .accordRemove => Sys2Proof.Machine.execAccordRemove s
  | .accordQuery => Sys2Proof.Machine.execAccordQuery s
  | .routeSet => Sys2Proof.Machine.execRouteSet s
  | .verdict => Sys2Proof.Machine.execVerdict s
  | .acConfig => Sys2Proof.Machine.execAcConfig s
  | .acRateLoad => Sys2Proof.Machine.execAcRateLoad s
  | .acTariffArm => Sys2Proof.Machine.execAcTariffArm s
  | .acTariffCancel => Sys2Proof.Machine.execAcTariffCancel s
  | .acRingSet => Sys2Proof.Machine.execAcRingSet s
  | .acCloseNow => Sys2Proof.Machine.execAcCloseNow s
  | .acRhead value => Sys2Proof.Machine.execAcRhead value s
  | .intervalClose => Sys2Proof.Machine.execIntervalClose s
  | .tariffSwitch => Sys2Proof.Machine.execTariffSwitch s
  | .usageStream n => Sys2Proof.Machine.execUsageStream n s
  | .checkpointStart => Sys2Proof.Machine.execCheckpointStart s
  | .checkpointEnd => Sys2Proof.Machine.execCheckpointEnd s
  | .inputLossDetected => Sys2Proof.Machine.execInputLossDetected s
  | .powerFailSave => Sys2Proof.Machine.execPowerFailSave s
  | .powerFailSaveEnd back => Sys2Proof.Machine.execPowerFailSaveEnd back s
  | .gpForm => Sys2Proof.Machine.execGpForm s
  | .gpAdmit => Sys2Proof.Machine.execGpAdmit s
  | .gpJoin => Sys2Proof.Machine.execGpJoin s
  | .gpRemove => Sys2Proof.Machine.execGpRemove s
  | .gpSpread => Sys2Proof.Machine.execGpSpread s
  | .gpStatus => Sys2Proof.Machine.execGpStatus s
  | .gpDoubts => Sys2Proof.Machine.execGpDoubts s
  | .gpRelay => Sys2Proof.Machine.execGpRelay s
  | .joinHello p k group digest sigOk restarted => Sys2Proof.Machine.execJoinHello p k group digest sigOk restarted s
  | .joinAccept p k h digest sigOk lc rtt full sak => Sys2Proof.Machine.execJoinAccept p k h digest sigOk lc rtt full sak s
  | .heartbeatSend => Sys2Proof.Machine.execHeartbeatSend s
  | .heartbeat p k h echo rtt pool backlog last => Sys2Proof.Machine.execHeartbeat p k h echo rtt pool backlog last s
  | .control p k h inner cls signers => Sys2Proof.Machine.execControl p k h inner cls signers s
  | .controlResp p k h response => Sys2Proof.Machine.execControlResp p k h response s
  | .repl p k h items => Sys2Proof.Machine.execRepl p k h items s
  | .replAck p k h last wants => Sys2Proof.Machine.execReplAck p k h last wants s
  | .lockout p k h index until_ => Sys2Proof.Machine.execLockout p k h index until_ s
  | .partReq p k h parts => Sys2Proof.Machine.execPartReq p k h parts s
  | .partResult p k h results => Sys2Proof.Machine.execPartResult p k h results s
  | .partCancel p k h stops => Sys2Proof.Machine.execPartCancel p k h stops s
  | .partJournal p k h entries => Sys2Proof.Machine.execPartJournal p k h entries s
  | .promote p k h f serial nonce => Sys2Proof.Machine.execPromote p k h f serial nonce s
  | .promoteAck p k h => Sys2Proof.Machine.execPromoteAck p k h s
  | .resyncDone m => Sys2Proof.Machine.execResyncDone m s
  | .memberLost m => Sys2Proof.Machine.execMemberLost m s
  | .partWithdrawTimeout => Sys2Proof.Machine.execPartWithdrawTimeout s
  | .managerLost => Sys2Proof.Machine.execManagerLost s
  | .doubtExpiry => Sys2Proof.Machine.execDoubtExpiry s
  | .hcPairStop pair cause a => Sys2Proof.Machine.execHcPairStop pair cause a s
  | .hcHeartbeatTimeout pair => Sys2Proof.Machine.execHcHeartbeatTimeout pair s
  | .takeoverFirstCommand gap => Sys2Proof.Machine.execTakeoverFirstCommand gap s
  | .pairRestartDone pair failStep => Sys2Proof.Machine.execPairRestartDone pair failStep s
  | .revertBoundary => Sys2Proof.Machine.execRevertBoundary s
  | .rotationBoundary => Sys2Proof.Machine.execRotationBoundary s
  | .decisionSecond fault => Sys2Proof.Machine.execDecisionSecond fault s
  | .powerGood addr0 addr1 => Sys2Proof.Machine.execPowerGood addr0 addr1 s
  | .stage1BellowsLocked => Sys2Proof.Machine.execStage1BellowsLocked s
  | .stage2SelftestEnd aOk bOk => Sys2Proof.Machine.execStage2SelftestEnd aOk bOk s
  | .stage3LcRecordRead aOk bOk => Sys2Proof.Machine.execStage3LcRecordRead aOk bOk s
  | .stage4RootDerived pufOk => Sys2Proof.Machine.execStage4RootDerived pufOk s
  | .stage5RandomReady srcOk katOk => Sys2Proof.Machine.execStage5RandomReady srcOk katOk s
  | .stage6SlotDecided fault => Sys2Proof.Machine.execStage6SlotDecided fault s
  | .stage7HbmReady => Sys2Proof.Machine.execStage7HbmReady s
  | .stage8UnitsTested engs lanes pks clusters => Sys2Proof.Machine.execStage8UnitsTested engs lanes pks clusters s
  | .stage9Ready => Sys2Proof.Machine.execStage9Ready s
  | .tamperSample rs => Sys2Proof.Machine.execTamperSample rs s
  | .tamperSecondDecision fault => Sys2Proof.Machine.execTamperSecondDecision fault s
  | .batterySample rs => Sys2Proof.Machine.execBatterySample rs s
  | .vibrationWake => Sys2Proof.Machine.execVibrationWake s
  | .monitorCrystalPeriod => Sys2Proof.Machine.execMonitorCrystalPeriod s
  | .crystalStop => Sys2Proof.Machine.execCrystalStop s
  | .crystalRestored => Sys2Proof.Machine.execCrystalRestored s
  | .cellSelectChange cellA cellB detail => Sys2Proof.Machine.execCellSelectChange cellA cellB detail s
  | .supplyExhausted => Sys2Proof.Machine.execSupplyExhausted s
  | .baselineComplete sensor inst => Sys2Proof.Machine.execBaselineComplete sensor inst s
  | .tmEvidSel value => Sys2Proof.Machine.execTmEvidSel value s
  | .recordFlush seq => Sys2Proof.Machine.execRecordFlush seq s
  | .recordCloseTimeout seq => Sys2Proof.Machine.execRecordCloseTimeout seq s
  | .recordStagingRoom => Sys2Proof.Machine.execRecordStagingRoom s
  | .evSnapTake => Sys2Proof.Machine.execEvSnapTake s
  | .evGo value => Sys2Proof.Machine.execEvGo value s
  | .nqPop => Sys2Proof.Machine.execNqPop s
  | .nqWmRearm k => Sys2Proof.Machine.execNqWmRearm k s
  | .nqWmCfg k value => Sys2Proof.Machine.execNqWmCfg k value s
  | .smbusReadByte addr cmd pec => Sys2Proof.Machine.execSmbusReadByte addr cmd pec s
  | .smbusReadWord addr cmd pec => Sys2Proof.Machine.execSmbusReadWord addr cmd pec s
  | .smbusBlockRead addr cmd pec => Sys2Proof.Machine.execSmbusBlockRead addr cmd pec s
  | .smbusDataWrite addr cmd => Sys2Proof.Machine.execSmbusDataWrite addr cmd s
  | .smbusClockStuck => Sys2Proof.Machine.execSmbusClockStuck s
  | .mbCmdSubmit value => Sys2Proof.Machine.execMbCmdSubmit value s
  | .tpcOtherType p k f => Sys2Proof.Machine.execTpcOtherType p k f s
  | .thermalRailRemoval => Sys2Proof.Machine.execThermalRailRemoval s
  | .hostLinkRecovery l enters => Sys2Proof.Machine.execHostLinkRecovery l enters s
  | .evClearDone => Sys2Proof.Machine.execEvClearDone s

end Sys2Proof.Machine
end

