-- ==== Sys2Proof/Machine/Step.lean ====
section
/-!
DEFINITION. One step: the command at the front of the queue takes effect; with an empty queue the block idles.
-/
namespace Sys2Proof.Machine

/-- One step (log entry 36: an empty queue changes nothing; time passes only with the commands that stand for it). -/
def step (s : State) : Host.Outcome State Fault Refusal :=
  match s.pending with
  | [] => .next s
  | c :: rest => exec c { s with pending := rest }

/-- A command put in front of the queue. -/
def State.enqueueFront (s : State) (c : Instr) : State := { s with pending := c :: s.pending }

/-- The state whose very next step runs the command a word spells; unchanged where the word spells none. -/
def State.withFetchWord (s : State) (nbits w : Nat) : State :=
  match Sys2Proof.decodeTableWord nbits w with
  | some c => s.enqueueFront c
  | none => s

end Sys2Proof.Machine
end

