-- ==== Sys2Proof/WellFormed.lean ====
section
/-!
DEFINITION. Which commands can be sent at all: every number names a unit the block has, every written value fits its register.
The queue is expected to hold well-formed commands; `exec` is total and does not look at this (log entry 35).
-/
namespace Sys2Proof

/-! ### How many of each unit there are -/

/-- Host links (R80). -/
def linkCount : Nat := 2
/-- Queue pairs (R80). -/
def queuePairCount : Nat := 8192
/-- Slices (R80). -/
def sliceCount : Nat := 4096
/-- Octets of the larger base address register (R14). -/
def barSize : Nat := 2 ^ 25
/-- Transaction engines, and their clusters (R19). -/
def engineCount : Nat := 1024
def clusterCount : Nat := 64
/-- Key indexes (R214). -/
def keyIndexCount : Nat := 2 ^ 27
/-- Indexes with a suspension of their own: the key indexes and the two guards (R174, R175). -/
def limitedCount : Nat := keyIndexCount + 2
/-- Fences (R425). -/
def fenceCount : Nat := 80
/-- Cipher lanes: port-side, spare and host lanes (R19). -/
def laneCount : Nat := 160
/-- I/O dies (R19). -/
def ioDieCount : Nat := 2
/-- Ports, and the sub-ports a port can be split into (R19, R274). -/
def portCount : Nat := 32
def subportCount : Nat := 8
/-- Endpoint contexts (R296). -/
def endpointCount : Nat := 262144
/-- Digest units, noise sources and public-key units (R19, R349, R366). -/
def digestCount : Nat := 8
def noiseCount : Nat := 4
def pkUnitCount : Nat := 64
/-- Watermarks (R490). -/
def watermarkCount : Nat := 16
/-- Controller pairs (R500). -/
def pairCount : Nat := 2
/-- Members of a group (R518). -/
def memberCount : Nat := 64

/-- The read a timeout names can exist. -/
def ReadId.wf : ReadId → Bool
  | .fetch qp => decide (qp < queuePairCount)
  | .input _ => true
  | .body => true
  | .image => true
  | .flush slice link => decide (slice < sliceCount) && decide (link < linkCount)

/-- A fence guards the access, at an address of 64 bits, and its kind is one of three (R425, R426). -/
def Access.wf (a : Access) : Bool := decide (a.fence < fenceCount) && decide (a.addr < 2 ^ 64) && decide (a.kind < 3)

/-- The same of an access that there may be. -/
def accessWf : Option Access → Bool
  | none => true
  | some a => a.wf

/-- A step's differences stand in the 32 entries of FIELDS and the side-effect bit (R129, R130). -/
def StepOut.wf (o : StepOut) : Bool := decide (o.diff < 2 ^ 33) && accessWf o.access

/-- The fields of a group frame's header fit their widths (R520). -/
def headWf (h : Machine.GpHead) : Bool :=
  decide (h.src < 2 ^ 8) && decide (h.dst < 2 ^ 8) && decide (h.group < 2 ^ 32) && decide (h.mgen < 2 ^ 32)

/-- The check of a command's operands. -/
def Instr.wf : Instr → Bool
  | .samplePoint => true
  | .powerSample _ _ => true
  | .utcUpdate => true
  | .utcValidExpiry => true
  | .tkCountLowRead => true
  | .counterReadClear bar2 off size => (match bar2 with | none => true | some l => decide (l < linkCount)) && decide (off < barSize) && decide (0 < size) && decide (size ≤ 8)
  | .registerWrite bar2 off size value => (match bar2 with | none => true | some l => decide (l < linkCount)) && decide (off < barSize) && decide (0 < size) && decide (size ≤ 8) && decide (value < 2 ^ (8 * size))
  | .bar0AccessInvalid _ off size value => decide (off < barSize) && decide (0 < size) && decide (size ≤ 8) && decide (value < 2 ^ (8 * size))
  | .qpSqTail n inst value => decide (n < queuePairCount) && decide (inst < linkCount) && decide (value < 2 ^ 32)
  | .qpCqHead n inst value => decide (n < queuePairCount) && decide (inst < linkCount) && decide (value < 2 ^ 32)
  | .qpCancel n inst value => decide (n < queuePairCount) && decide (inst < linkCount) && decide (value < 2 ^ 64)
  | .qpPoll n inst => decide (n < queuePairCount) && decide (inst < linkCount)
  | .submissionFetchDone n _ => decide (n < queuePairCount)
  | .inputReadDone _ _ => true
  | .dmaReadTimeout r => r.wf
  | .lateCompletion => true
  | .cqWaitExpiry n => decide (n < queuePairCount)
  | .hostLinkUp l width speed => decide (l < linkCount) && decide (width ∈ [1, 2, 4, 8, 16]) && decide (1 ≤ speed) && decide (speed ≤ 6)
  | .hostLinkDown l => decide (l < linkCount)
  | .perstAssert l => decide (l < linkCount)
  | .perstDeassert l => decide (l < linkCount)
  | .functionLevelReset fn => decide (fn ≤ linkCount)
  | .busMasterClear l => decide (l < linkCount)
  | .hostLinkError l _ => decide (l < linkCount)
  | .sliceFlushDone n => decide (n < sliceCount)
  | .batchPartInputRead _ idx _ => decide (idx < 256)
  | .engineStepEnd _ o => o.wf
  | .machineCheck _ _ => true
  | .engineCycleOverrun _ _ _ => true
  | .retestEnd e _ => decide (e < engineCount)
  | .clLoadDone c _ => decide (c < clusterCount)
  | .gatingDecision c => decide (c < clusterCount)
  | .clusterWakeEnd c => decide (c < clusterCount)
  | .limiterSecondDecision n _ => decide (n < limitedCount)
  | .limiterWindowBoundary => true
  | .limiterLockoutEnd n => decide (n < limitedCount)
  | .keyFetchDone n _ => decide (n < keyIndexCount)
  | .keystoreScrub _ _ _ _ => true
  | .journalStream => true
  | .rootSlotWrite => true
  | .ksJhead value => decide (value < 2 ^ 32)
  | .holdDownExpiry n => decide (n < keyIndexCount)
  | .migrationSegmentSwitch seg => decide (seg < 128)
  | .ceremonyExpiry => true
  | .laneBeatMismatch n => decide (n < laneCount)
  | .laneReplayDone n _ => decide (n < laneCount)
  | .hostLaneMismatch n _ => decide (n < laneCount)
  | .hostLaneChunkEnd _ _ a => accessWf a
  | .laneRetestStart n => decide (n < laneCount)
  | .laneRetestEnd n _ => decide (n < laneCount)
  | .spareKatFault n => decide (n < laneCount)
  | .laneRotationStart d => decide (d < ioDieCount)
  | .handoverEnd d => decide (d < ioDieCount)
  | .handoverRetestEnd d => decide (d < ioDieCount)
  | .macsecFrame p k _ => decide (p < portCount) && decide (k < subportCount)
  | .macControlFrame p k _ => decide (p < portCount) && decide (k < subportCount)
  | .arpRequest p k _ => decide (p < portCount) && decide (k < subportCount)
  | .neighborSolicitation p k _ => decide (p < portCount) && decide (k < subportCount)
  | .otherFrame p k _ => decide (p < portCount) && decide (k < subportCount)
  | .tpcHello p k _ => decide (p < portCount) && decide (k < subportCount)
  | .tpcRequest p k _ => decide (p < portCount) && decide (k < subportCount)
  | .tpcReply p k _ => decide (p < portCount) && decide (k < subportCount)
  | .tpcKeepalive p k _ => decide (p < portCount) && decide (k < subportCount)
  | .tpcClose p k _ => decide (p < portCount) && decide (k < subportCount)
  | .handshakeDone e => decide (e < endpointCount)
  | .acceptTimeout e => decide (e < endpointCount)
  | .sessionIdleTimeout e => decide (e < endpointCount)
  | .dormantTimeout e => decide (e < endpointCount)
  | .certExpiry e => decide (e < endpointCount)
  | .responseReady _ => true
  | .resumeWindowEnd e => decide (e < endpointCount)
  | .forwardClose _ => true
  | .referralVerdictExpiry _ => true
  | .lossOfSignal p k => decide (p < portCount) && decide (k < subportCount)
  | .lossOfAlignment p k => decide (p < portCount) && decide (k < subportCount)
  | .remoteFault p k => decide (p < portCount) && decide (k < subportCount)
  | .linkUp p k => decide (p < portCount) && decide (k < subportCount)
  | .fecUncorrectable p k => decide (p < portCount) && decide (k < subportCount)
  | .trainingEnd p k _ => decide (p < portCount) && decide (k < subportCount)
  | .serdesBandApply => true
  | .autoRetrainStart p => decide (p < portCount)
  | .ptpSync p k _ _ => decide (p < portCount) && decide (k < subportCount)
  | .ptpFollowUp p k _ => decide (p < portCount) && decide (k < subportCount)
  | .ptpDelayResp p k _ _ => decide (p < portCount) && decide (k < subportCount)
  | .ptpAnnounce p k _ => decide (p < portCount) && decide (k < subportCount)
  | .ptpExchangeTimeout p => decide (p < portCount)
  | .ptpLockLoss p => decide (p < portCount)
  | .dgClaim u => decide (u < digestCount)
  | .dgRelease u => decide (u < digestCount)
  | .dgClaimComplete u => decide (u < digestCount)
  | .dgStart u alg _ => decide (u < digestCount) && decide (alg < 16)
  | .dgSealedKeyReady u => decide (u < digestCount)
  | .dgSave u => decide (u < digestCount)
  | .dgRestore u => decide (u < digestCount)
  | .dgAbort u => decide (u < digestCount)
  | .dgData u v => decide (u < digestCount) && decide (v < 2 ^ 64)
  | .dgLastCtl u vb => decide (u < digestCount) && decide (vb < 16)
  | .dgBlockDone u => decide (u < digestCount)
  | .dgMessageDone u => decide (u < digestCount)
  | .digestChunkEnd _ => true
  | .rnData => true
  | .entropyBlock => true
  | .noiseSourceFail k cause => decide (k < noiseCount) && decide (cause < 8)
  | .sourceRetest k _ => decide (k < noiseCount)
  | .noSourceTimeout => true
  | .sourceWindowEnd k ones equal => decide (k < noiseCount) && decide (ones ≤ 2 ^ 20) && decide (equal ≤ 2 ^ 20)
  | .pkUnitStep u _ a => decide (u < pkUnitCount) && accessWf a
  | .mbRspAck tag => decide (tag < 2 ^ 32)
  | .mbBodyReadDone _ => true
  | .quorumCheckDone _ => true
  | .longCommandEnd op _ => decide (op < 2 ^ 32)
  | .nonce => true
  | .echo => true
  | .status => true
  | .cmdStatus => true
  | .credEnrol => true
  | .credRevoke => true
  | .credList => true
  | .quorumSet => true
  | .quorumGet => true
  | .credSeal => true
  | .stateChange => true
  | .unlock => true
  | .fwLoad => true
  | .fwActivate => true
  | .fwStandbyLoaded => true
  | .fwTrialCommit => true
  | .progKeySet => true
  | .progLoad => true
  | .progWithdraw => true
  | .evClear => true
  | .traceOpen => true
  | .traceClose => true
  | .traceEndTick => true
  | .traceSync => true
  | .fenceSet => true
  | .fenceLock => true
  | .clDrain => true
  | .clLoad => true
  | .clReturn => true
  | .clGating => true
  | .readmit _ => true
  | .laneSet => true
  | .unitQuery => true
  | .domainSet => true
  | .epoch => true
  | .journalSet => true
  | .snapshot => true
  | .reload => true
  | .storeEmpty => true
  | .cerOpen => true
  | .cerComponent => true
  | .cerCommit => true
  | .cerAbort => true
  | .pinPolicySet => true
  | .limitQuery => true
  | .limitClear => true
  | .digestDomwin => true
  | .admitSet => true
  | .acctSet => true
  | .timeSet => true
  | .sliceBind => true
  | .sliceStart => true
  | .sliceReset => true
  | .sliceUnbind => true
  | .qpSet => true
  | .portSet => true
  | .saSet => true
  | .saRemove => true
  | .epLoad => true
  | .epRemove => true
  | .epQuery => true
  | .ptpSet => true
  | .accordLoad => true
  | .accordRemove => true
  | .accordQuery => true
  | .routeSet => true
  | .verdict => true
  | .acConfig => true
  | .acRateLoad => true
  | .acTariffArm => true
  | .acTariffCancel => true
  | .acRingSet => true
  | .acCloseNow => true
  | .acRhead value => decide (value < 2 ^ 32)
  | .intervalClose => true
  | .tariffSwitch => true
  | .usageStream n => decide (0 < n)
  | .checkpointStart => true
  | .checkpointEnd => true
  | .inputLossDetected => true
  | .powerFailSave => true
  | .powerFailSaveEnd _ => true
  | .gpForm => true
  | .gpAdmit => true
  | .gpJoin => true
  | .gpRemove => true
  | .gpSpread => true
  | .gpStatus => true
  | .gpDoubts => true
  | .gpRelay => true
  | .joinHello p k group digest _ _ => decide (p < portCount) && decide (k < subportCount) && decide (group < 2 ^ 32) && decide (digest.length = 48)
  | .joinAccept p k h digest _ _ _ _ _ => decide (p < portCount) && decide (k < subportCount) && headWf h && decide (digest.length = 48)
  | .heartbeatSend => true
  | .heartbeat p k h _ _ _ _ _ => decide (p < portCount) && decide (k < subportCount) && headWf h
  | .control p k h _ cls _ => decide (p < portCount) && decide (k < subportCount) && headWf h && decide (cls < 2 ^ 8)
  | .controlResp p k h _ => decide (p < portCount) && decide (k < subportCount) && headWf h
  | .repl p k h _ => decide (p < portCount) && decide (k < subportCount) && headWf h
  | .replAck p k h _ w => decide (p < portCount) && decide (k < subportCount) && headWf h && w.all (fun i => decide (i < 2 ^ 27))
  | .lockout p k h index _ => decide (p < portCount) && decide (k < subportCount) && headWf h && decide (index < keyIndexCount)
  | .partReq p k h _ => decide (p < portCount) && decide (k < subportCount) && headWf h
  | .partResult p k h _ => decide (p < portCount) && decide (k < subportCount) && headWf h
  | .partCancel p k h _ => decide (p < portCount) && decide (k < subportCount) && headWf h
  | .partJournal p k h _ => decide (p < portCount) && decide (k < subportCount) && headWf h
  | .promote p k h _ _ _ => decide (p < portCount) && decide (k < subportCount) && headWf h
  | .promoteAck p k h => decide (p < portCount) && decide (k < subportCount) && headWf h
  | .resyncDone m => decide (m < memberCount)
  | .memberLost m => decide (m < memberCount)
  | .partWithdrawTimeout => true
  | .managerLost => true
  | .doubtExpiry => true
  | .hcPairStop pair cause a => decide (pair < pairCount) && (decide (cause = 1) || decide (cause = 3) || decide (cause = 4)) && accessWf a
  | .hcHeartbeatTimeout pair => decide (pair < pairCount)
  | .takeoverFirstCommand _ => true
  | .pairRestartDone pair failStep => decide (pair < pairCount) && (decide (failStep = 0) || decide (failStep = 2) || decide (failStep = 3))
  | .revertBoundary => true
  | .rotationBoundary => true
  | .decisionSecond _ => true
  | .powerGood _ _ => true
  | .stage1BellowsLocked => true
  | .stage2SelftestEnd _ _ => true
  | .stage3LcRecordRead _ _ => true
  | .stage4RootDerived _ => true
  | .stage5RandomReady srcOk _ => decide (srcOk.length = noiseCount)
  | .stage6SlotDecided _ => true
  | .stage7HbmReady => true
  | .stage8UnitsTested engs lanes pks clusters => engs.all (fun e => decide (e < engineCount)) && lanes.all (fun n => decide (n < laneCount)) && pks.all (fun u => decide (u < pkUnitCount)) && clusters.all (fun c => decide (c < clusterCount))
  | .stage9Ready => true
  | .tamperSample _ => true
  | .tamperSecondDecision _ => true
  | .batterySample _ => true
  | .vibrationWake => true
  | .monitorCrystalPeriod => true
  | .crystalStop => true
  | .crystalRestored => true
  | .cellSelectChange _ _ detail => decide (detail ≤ 3)
  | .supplyExhausted => true
  | .baselineComplete _ _ => true
  | .tmEvidSel value => decide (value < 2 ^ 32)
  | .recordFlush _ => true
  | .recordCloseTimeout _ => true
  | .recordStagingRoom => true
  | .evSnapTake => true
  | .evGo value => decide (value < 2 ^ 32)
  | .nqPop => true
  | .nqWmRearm k => decide (k < watermarkCount)
  | .nqWmCfg k value => decide (k < watermarkCount) && decide (value < 2 ^ 32)
  | .smbusReadByte addr cmd _ => decide (addr < 2 ^ 7) && decide (cmd < 2 ^ 8)
  | .smbusReadWord addr cmd _ => decide (addr < 2 ^ 7) && decide (cmd < 2 ^ 8)
  | .smbusBlockRead addr cmd _ => decide (addr < 2 ^ 7) && decide (cmd < 2 ^ 8)
  | .smbusDataWrite addr cmd => decide (addr < 2 ^ 7) && decide (cmd < 2 ^ 8)
  | .smbusClockStuck => true
  | .mbCmdSubmit value => decide (value < 2 ^ 32)
  | .tpcOtherType p k _ => decide (p < portCount) && decide (k < subportCount)
  | .thermalRailRemoval => true
  | .hostLinkRecovery l _ => decide (l < linkCount)
  | .evClearDone => true

end Sys2Proof
end

