-- ==== Sys2Proof/Safety.lean ====
section
/-!
DEFINITION. The terms the statements are made in: when a mailbox command is carried out, and what every reachable state keeps.
-/
namespace Sys2Proof.Machine

/-- The mailbox holds `h`, which passed the frame grate and the quorum gate, its code is `code`, a pair is in control, and neither
the start, the life-cycle state nor the group refuses it (R415, R431, R444, R504, R518): the command is carried out. -/
def CmdTaken (code : Nat) (h : Held) (s : State) : Prop :=
  s.mb.held = some h ∧ h.stage = .ready ∧ h.relay = false ∧ h.frame.code = code ∧
  (noController s = false ∨ s.lc.startFail ≠ none) ∧ refusedFirst code h.frame.payload s = none ∧
  groupRefuses s false code = none

/-- Queues and tables of fixed size, and codes within their range: the notice queue (R489), the watermarks (R490), the group role
(R518), and the commands that wait (log entry 35). -/
def InBounds (s : State) : Prop :=
  s.nq.queue.length ≤ noticeMax ∧ s.nq.wms.length = watermarkCount ∧ s.gp.role ≤ 5 ∧ ∀ c ∈ s.pending, c.wf = true

/-- The addressed stores are in their canonical form, and the provisioning block has its 32 credentials and 16 rules (R404, R411). -/
def StoresCanonical (s : State) : Prop :=
  tblCanon {} s.ks.recs = true ∧ tblCanon 0 s.mb.cmdBuf = true ∧ tblCanon {} s.fn.regions = true ∧ s.prov.creds.length = 32 ∧ s.prov.rules.length = 16

end Sys2Proof.Machine
end

