-- ==== Sys2Proof/Certificates/Slice0/Obligations.lean ====
section
/-!
DEFINITION. The statements: rules of spec/ as propositions about the model. Each names its rules; where it rests on a choice of
the model, its text names the log entry. "s" is any state, not only one a run reaches.
-/
open Sys2Proof Sys2Proof.Machine

/-- A step runs the command at the front of the queue on the state without it (log entry 36). -/
def Obligations.StepRunsFrontCommand : Prop :=
  ∀ (c : Instr) (rest : List Instr) (s : State),
    step { s with pending := c :: rest } = exec c { s with pending := rest }

/-- With no command waiting a step changes nothing: the model's choice (log entry 36). -/
def Obligations.EmptyQueueIdles : Prop :=
  ∀ s : State, s.pending = [] → step s = .next s

/-- No command adds to, takes from or reorders the commands that wait (log entry 36). -/
def Obligations.CommandsLeaveQueue : Prop :=
  ∀ (c : Instr) (s t : State), exec c s = .next t → t.pending = s.pending

/-- Every command answers a next state, in every state: what the spec refuses is answered by a status, and an event that cannot arise leaves the state (log entry 19). -/
def Obligations.EveryCommandIsCarriedOut : Prop :=
  ∀ (c : Instr) (s : State), ∃ t, exec c s = .next t

/-- The tick count rises by one with a sample point that takes place, does not fall with a crystal period nor when the bellows takes over (R26), and changes with nothing else but the loss of every supply, after which it is open (log entry 5). -/
def Obligations.TickRisesOnlyWithTime : Prop :=
  ∀ (c : Instr) (s t : State), exec c s = .next t →
    (c = .samplePoint → t.tick = s.tick ∨ t.tick = s.tick + 1) ∧ (c = .monitorCrystalPeriod → s.tick ≤ t.tick) ∧
    (c = .stage1BellowsLocked → s.tick ≤ t.tick ∧ t.tick ≤ s.tick + 1) ∧
    (c ≠ .samplePoint → c ≠ .monitorCrystalPeriod → c ≠ .stage1BellowsLocked → c ≠ .supplyExhausted → t.tick = s.tick)

/-- Every step keeps the bounds: 1,024 notices (R489), 16 watermarks (R490), roles 0 to 5 (R518); that the waiting commands are well formed is the model's own clause (log entry 35). -/
def Obligations.QueuesAndCodesStayInBounds : Prop :=
  ∀ s t : State, InBounds s → step s = .next t → InBounds t

/-- The state after reset is in bounds. -/
def Obligations.ResetIsInBounds : Prop :=
  InBounds State.reset

/-- Every step keeps the addressed stores in their canonical form, and the provisioning block at 32 credentials and 16 rules (R404, R411). -/
def Obligations.StoresStayCanonical : Prop :=
  ∀ s t : State, StoresCanonical s → step s = .next t → StoresCanonical t

/-- The state after reset has its stores in canonical form. -/
def Obligations.ResetStoresAreCanonical : Prop :=
  StoresCanonical State.reset

/-- The values that the register tables state for reset (R74, R395, R411, R499, and the tables of each window). -/
def Obligations.ResetHoldsStatedValues : Prop :=
  State.reset.tk.cfg.lend = true ∧ State.reset.tk.cfg.heartLimit = 16 ∧ State.reset.tk.cfg.topHbm = 4 ∧
  State.reset.tk.cfg.ageWait = 512 ∧ State.reset.tk.pool = 81185 ∧ State.reset.tk.utcValid = false ∧
  State.reset.lc.ready = false ∧ State.reset.nq.queue = [] ∧ (∀ w ∈ State.reset.nq.wms, w.en = false) ∧
  State.reset.mb.busy = false ∧ State.reset.mb.rspValid = false ∧ State.reset.prov.creds = List.replicate 32 {} ∧
  State.reset.prov.rules.getD 4 ⟨0, 0, 0, 0⟩ = ⟨2, 0, 0, 0⟩ ∧ State.reset.hl.qps = [] ∧ State.reset.hl.slices = [] ∧
  State.reset.ks.recs = [] ∧ State.reset.pt.eps = [] ∧ State.reset.gp.role = 0

/-- What answering a held command does (R37, R76, R396 item 3, R402, R429); the frame of everything else is in the equation of `respond`. That a response with a payload waits while the exits are stopped is log entry 100. -/
def Obligations.ResponseAnswersHeldCommand : Prop :=
  ∀ (s : State) (h : Held) (status detail tick : Nat) (payload : List Byte), s.mb.held = some h → h.relay = false →
    (s.tm.exitStop = true → payload ≠ [] → respond status detail tick payload s =
      { s with mb := { s.mb with held := some { h with stage := .answered status detail tick payload } } }) ∧
    ((s.tm.exitStop = false ∨ payload = []) →
    (payload.length ≤ 3968 →
      (respond status detail tick payload s).mb.rspBuf = responseBytes h.frame status detail tick 0 payload ∧
      octets (responseBytes h.frame status detail tick 0 payload) 3 1 = [2] ∧
      octets (responseBytes h.frame status detail tick 0 payload) 4 2 = beBytes 2 h.frame.code ∧
      octets (responseBytes h.frame status detail tick 0 payload) 6 2 = [0, 0] ∧
      octets (responseBytes h.frame status detail tick 0 payload) 8 4 = beBytes 4 h.frame.tag ∧
      octets (responseBytes h.frame status detail tick 0 payload) 12 4 = [0, 0, 0, 0] ∧
      octets (responseBytes h.frame status detail tick 0 payload) 52 2 = beBytes 2 status ∧
      octets (responseBytes h.frame status detail tick 0 payload) 54 2 = beBytes 2 detail ∧
      (responseBytes h.frame status detail tick 0 payload).drop 64 = payload) ∧
    (3968 < payload.length →
      ((hcFence 1 h.frame.outAddr payload.length s).1 = false →
        (respond status detail tick payload s).mb.rspBuf = responseBytes h.frame status detail tick payload.length [] ∧
        (s.hl.link0.up = true → ∀ o ∈ writeBeats 0 none false h.frame.outAddr payload, o ∈ (respond status detail tick payload s).out) ∧
        (s.hl.link0.up = false →
          (respond status detail tick payload s).mb.outHeld = (writeBeats 0 none false h.frame.outAddr payload).reverse ++ s.mb.outHeld)) ∧
      ((hcFence 1 h.frame.outAddr payload.length s).1 = true →
        (respond status detail tick payload s).mb.rspBuf = responseBytes h.frame St.fenceViolation 0 0 0 [] ∧
        (respond status detail tick payload s).mb.outHeld = s.mb.outHeld)) ∧
    (respond status detail tick payload s).mb.rspValid = true ∧ (respond status detail tick payload s).mb.rspStale = false ∧
    (respond status detail tick payload s).mb.rspTag = h.frame.tag ∧ (respond status detail tick payload s).mb.held = none ∧
    (s.hl.link0.up = true → (tget {} s.hl.msix (msixKey 0 0)).masked = false →
      (respond status detail tick payload s).out.head? = some (.msix 0 none 0)))

/-- The refusals before a command's own chapter looks at it (R415, R431, R444, R518), for one command of each of five groups. -/
def Obligations.CommandsTheStateForbids : Prop :=
  ∀ (s : State) (h : Held), s.mb.held = some h → h.stage = .ready → h.relay = false →
    (noController s = false ∨ s.lc.startFail ≠ none) →
    ∀ p ∈ [(Instr.echo, 0x0002), (.stateChange, 0x0201), (.sliceBind, 0x0401), (.cerOpen, 0x0607), (.quorumSet, 0x0104)],
      h.frame.code = p.2 →
      (∀ st d, refusedFirst p.2 h.frame.payload s = some (st, d) → exec p.1 s = .next (respond st d 0 [] s)) ∧
      (∀ st, refusedFirst p.2 h.frame.payload s = none → groupRefuses s false p.2 = some st → exec p.1 s = .next (respond st 0 0 [] s))

/-- NQ_POP (R488): the whole next state, so the frame with it. The answer leaves through `send`, which holds it while the exits are stopped (R461, log entry 100). -/
def Obligations.NoticeReadTakesFirstInOrder : Prop :=
  (∀ s : State, s.hl.link0.up = true → s.nq.queue = [] →
    exec .nqPop s = .next (send (.readData 0x3000 0) { s with nq := { s.nq with seq := 0, tick := 0, arg := 0 } })) ∧
  (∀ (s : State) (n : Notice) (q : List Notice), s.hl.link0.up = true → s.nq.queue = n :: q →
    exec .nqPop s = .next (send (.readData 0x3000 n.word) { s with
      nq := { s.nq with queue := q, seq := n.seq, tick := (noticeTickArg s n).1, arg := (noticeTickArg s n).2 } })) ∧
  (∀ (o : Output) (s : State), s.tm.exitStop = false → send o s = { s with out := o :: s.out }) ∧
  (∀ (o : Output) (s : State), s.tm.exitStop = true → send o s = { s with exitHeld := o :: s.exitHeld }) ∧
  (∀ s : State, s.hl.link0.up = false → exec .nqPop s = .next s)

/-- Entering a notice (R489), in every case of the queue. -/
def Obligations.NoticeQueueFullKeepsHigher : Prop :=
  ∀ (n : Notice) (s : State), s.nq.queue.Pairwise (fun a b => a.before b = true) → s.nq.queue.length ≤ 1024 →
    s.nq.queue.Nodup → (∀ m ∈ s.nq.queue, m.seq < n.seq) →
    let t := (enterNotice n s).2
    t.nq.queue.Pairwise (fun a b => a.before b = true) ∧
    (s.nq.queue.length < 1024 → t.nq.queue.length = s.nq.queue.length + 1 ∧ n ∈ t.nq.queue ∧ (∀ m ∈ s.nq.queue, m ∈ t.nq.queue) ∧
      t.nq.lost = s.nq.lost ∧ t.nq.nLost = s.nq.nLost ∧ (s.nq.queue = [] → (tget {} s.hl.msix (msixKey 0 1)).masked = false → t.out = .msix 0 none 1 :: s.out)) ∧
    (∀ m, s.nq.queue.length = 1024 → s.nq.queue.getLast? = some m → m.sev < n.sev →
      n ∈ t.nq.queue ∧ t.nq.queue.length = 1024 ∧ m ∉ t.nq.queue ∧ (∀ x ∈ s.nq.queue, x ≠ m → x ∈ t.nq.queue) ∧
      t.nq.lost = true ∧ t.nq.nLost = satAdd 32 s.nq.nLost 1) ∧
    (∀ m, s.nq.queue.length = 1024 → s.nq.queue.getLast? = some m → n.sev ≤ m.sev →
      t.nq.queue = s.nq.queue ∧ t.nq.lost = true ∧ t.nq.nLost = satAdd 32 s.nq.nLost 1)

/-- Watermark writes (R491, R492). When the comparator looks is the model's choice (log entry 44). -/
def Obligations.WatermarkWrites : Prop :=
  (∀ (k value : Nat) (s : State), k < 16 → s.hl.link0.up = true →
    exec (.nqWmCfg k value) s = .next
      (let t := modWm k (fun w => { w with en := bitOf value 31, mark := bits value 23 0, last := wmLevel s k }) s
       if bitOf value 31 = true ∧ (wm s k).en = false ∧ bits value 23 0 ≤ wmLevel s k then crossing k (wmLevel s k) t else t)) ∧
  (∀ (k : Nat) (s : State), k < 16 → s.hl.link0.up = true →
    exec (.nqWmRearm k) s = .next
      (let t := modWm k (fun w => { w with latched := false, crossings := 0, peak := wmLevel s k, last := wmLevel s k }) s
       if (wm t k).en = true ∧ (wm t k).mark ≤ wmLevel s k then crossing k (wmLevel s k) t else t)) ∧
  (∀ (k v : Nat) (s : State), k < 16 → s.nq.wms.length = 16 → (wm s k).latched = false → s.nq.queue ≠ [] →
    crossing k v s = vector 1 (note 0x0201 1 k v (wm s k).mark (modWm k (fun w => { w with latched := true, crossings := 1, peak := v }) s))) ∧
  (∀ (k v : Nat) (s : State), k < 16 → s.nq.wms.length = 16 → (wm s k).latched = true →
    crossing k v s = modWm k (fun w => { w with crossings := satAdd 16 w.crossings 1, peak := max w.peak v }) s)

/-- The record unit's own work and its reader: whole next states. One read of EV_GO is complete at once (R486 gives it 2,048 hub cycles). -/
def Obligations.RecordUnitWork : Prop :=
  (∀ (seq : Nat) (r : Rec) (s : State), s.rc.staging.find? (fun x => decide (x.seq = seq)) = some r →
    s.rc.clearing = none →
    (r.progTick = none → exec (.recordFlush seq) s = .next (programRec r { s with tk := { s.tk with flushCu := s.tk.flushCu + 1 } })) ∧
    (∀ t, r.progTick = some t → t + 2 ^ 16 ≤ s.tick → exec (.recordFlush seq) s = .next (programRec r s))) ∧
  (∀ (seq : Nat) (r : Rec) (s : State), s.rc.staging.find? (fun x => decide (x.seq = seq)) = some r → r.isOpen = true →
    r.lastTick + 2 ^ 20 ≤ s.tick → (s.nq.lost = false ∨ r.event ≠ 0x0202) →
    exec (.recordCloseTimeout seq) s = .next (closeWhere (fun x => decide (x.seq = seq)) s)) ∧
  (∀ s : State, 0 < s.rc.dropRun → s.rc.staging.length < 1024 →
    exec .recordStagingRoom s = .next (report { event := 0x0702, argA := s.rc.dropRun } { s with rc := { s.rc with dropRun := 0 } })) ∧
  (∀ s : State, s.hl.link0.up = true → s.rc.live = true → exec .evSnapTake s = .next { s with rc := { s.rc with snapRefused := true } }) ∧
  (∀ s : State, s.hl.link0.up = true → s.rc.live = false → exec .evSnapTake s = .next { s with rc := { s.rc with
      snapValid := true, snapHigh := s.rc.nextSeq - 1, snapTick := s.tick, snapCopy := openRecs s } }) ∧
  (∀ (value : Nat) (s : State), s.hl.link0.up = true → bitOf value 31 = true → 1 ≤ bits value 6 0 → bits value 6 0 ≤ 64 →
    exec (.evGo value) s = .next { s with rc := { s.rc with
      rstat := (List.range (bits value 6 0)).map (fun j => (readRec s (s.rc.sel + j)).1) ++ s.rc.rstat.drop (bits value 6 0)
      buf := (List.range (bits value 6 0)).map (fun j => (readRec s (s.rc.sel + j)).2) ++ s.rc.buf.drop (bits value 6 0)
      rdReady := true, rdLive := s.rc.live, rdSnap := s.rc.snapValid, returned := bits value 6 0 } }) ∧
  (∀ (value : Nat) (s : State), s.hl.link0.up = true → (bitOf value 31 = false ∨ bits value 6 0 = 0 ∨ 64 < bits value 6 0) →
    exec (.evGo value) s = .next s)

/-- EV_CLEAR and the end of its erasure (R487). -/
def Obligations.RecordAreasAreCleared : Prop :=
  (∀ (h : Held) (s : State), CmdTaken 0x0A01 h s → s.rc.clearing = none →
    exec .evClear s = .next (setStage .running (arm (s.tick + 1)
      { s with rc := { s.rc with clearing := some ⟨be h.frame.payload 0 1, h.signers, s.tick + 1, false⟩ } }))) ∧
  (∀ (c : ClearOp) (h : Held) (s : State), s.rc.clearing = some c → c.began = true → s.mb.held = some h → h.frame.code = 0x0A01 →
    h.stage = .running →
    (s.lc.ready = true → s.hc.gap = false → s.ks.loadOp = none →
      exec .evClearDone s = .next (respond St.ok 0 c.tick [] (setSettled { s with rc := { s.rc with clearing := none } }))) ∧
    (s.lc.ready = true → s.hc.gap = false → s.ks.loadOp ≠ none →
      exec .evClearDone s = .next (respond St.ok 0 c.tick [] (setLive 2 { s with rc := { s.rc with clearing := none } }))))

/-- The trace unit (R493, R494). Its TYPE 1 packets are written at sample points (log entry 97). -/
def Obligations.TraceRuns : Prop :=
  (∀ (h : Held) (s : State), CmdTaken 0x0A02 h s → (lcState s = .operational ∨ lcState s = .maintenance) →
    be h.frame.payload 0 1 < 32 → 16 ≤ be h.frame.payload 1 1 → be h.frame.payload 1 1 ≤ 30 → s.tr.isOpen = false →
    exec .traceOpen s = .next (respond St.ok 0 s.tick (beBytes 8 s.tick ++ beBytes 8 (s.tick + 2 ^ be h.frame.payload 1 1))
      (traceSync { s with tr := { isOpen := true, dev := false, groups := be h.frame.payload 0 1, openTick := s.tick
                                  endTick := s.tick + 2 ^ be h.frame.payload 1 1, write := 0, read := 0, lost := 0, buf := [] } }))) ∧
  (∀ (h : Held) (s : State), CmdTaken 0x0A03 h s →
    exec .traceClose s = .next (respond St.ok 0 s.tick [] { s with tr := { s.tr with isOpen := false, dev := false } })) ∧
  (∀ s : State, s.tr.isOpen = true → s.tr.endTick ≠ 0 → s.tr.endTick ≤ s.tick →
    exec .traceEndTick s = .next { s with tr := { s.tr with isOpen := false, dev := false } }) ∧
  (∀ s : State, s.tr.isOpen = true → s.tick % 2 ^ 16 = 0 → exec .traceSync s = .next (tracePacket 5 0xFF 0 s.tick s))

/-- Doorbell pages (R83 to R85, R97, R103, R104): whole next states. -/
def Obligations.DoorbellWritesAreTakenOrDiscarded : Prop :=
  (∀ (n l v : Nat) (s : State), (qp s n).link = l → (qp s n).state = 1 → (slice s (qp s n).slice).resetAt = none →
    (v % 2 ^ 16 < 2 ^ (qp s n).sqLog → exec (.qpSqTail n l v) s = .next (pump (modQp n (fun q => { q with
        tail := v % 2 ^ 16, announced := q.announced + (v % 2 ^ 16 + 2 ^ (qp s n).sqLog - (qp s n).tail) % 2 ^ (qp s n).sqLog }) s))) ∧
    (2 ^ (qp s n).sqLog ≤ v % 2 ^ 16 → ((qp s n).badTails.filter (fun t => decide (s.tick < t + 2 ^ 19))).length < 7 →
      exec (.qpSqTail n l v) s = .next (modQp n (fun q => { q with
        discarded := satAdd 32 q.discarded 1
        badTails := (qp s n).badTails.filter (fun t => decide (s.tick < t + 2 ^ 19)) ++ [s.tick] }) s)) ∧
    (v % 2 ^ 18 < 2 ^ (qp s n).cqLog →
      (v % 2 ^ 18 + 2 ^ (qp s n).cqLog - (qp s n).head % 2 ^ (qp s n).cqLog) % 2 ^ (qp s n).cqLog ≤ (qp s n).written - (qp s n).head →
      exec (.qpCqHead n l v) s = .next (pump (modQp n (fun q => { q with
        head := q.head + (v % 2 ^ 18 + 2 ^ (qp s n).cqLog - (qp s n).head % 2 ^ (qp s n).cqLog) % 2 ^ (qp s n).cqLog
        entries := q.entries.filter (fun e => decide (q.head +
          (v % 2 ^ 18 + 2 ^ (qp s n).cqLog - (qp s n).head % 2 ^ (qp s n).cqLog) % 2 ^ (qp s n).cqLog ≤ e)) }) s))) ∧
    (2 ^ (qp s n).cqLog ≤ v % 2 ^ 18 → exec (.qpCqHead n l v) s = .next (note 0x0903 0 n (v % 2 ^ 18) 0 s)) ∧
    ((qp s n).cancels.length < 16 → exec (.qpCancel n l v) s =
      .next (modQp n (fun q => { q with cancels := q.cancels ++ [⟨v / 2 ^ 32, v % 2 ^ 32, s.tick⟩] }) s)) ∧
    (16 ≤ (qp s n).cancels.length → exec (.qpCancel n l v) s = .next (modQp n (fun q => { q with ovf := true }) s))) ∧
  (∀ (n : Nat) (s : State), exec (.qpPoll n (qp s n).link) s = .next (emit (.readData (n * 4096 + 16) (pollWord s (qp s n))) s)) ∧
  (∀ (n l v : Nat) (s : State), ∀ c ∈ [Instr.qpSqTail n l v, .qpCqHead n l v, .qpCancel n l v],
    (l ≠ (qp s n).link → exec c s = .next (doorbellNotice 0x0901 n l s)) ∧
    (l = (qp s n).link → (qp s n).state ≠ 1 →
      exec c s = .next (doorbellNotice 0x0902 n l (modQp n (fun q => { q with discarded := satAdd 32 q.discarded 1 }) s))) ∧
    (l = (qp s n).link → (qp s n).state = 1 → (slice s (qp s n).slice).resetAt ≠ none →
      exec c s = .next (modSlice (qp s n).slice (fun x => { x with discards := satAdd 32 x.discards 1 }) s)))

/-- Reads that return, fail or come too late (R77, R78, R86, R88, R100, R112), and CQ_WAIT (R98). `noRead id` marks that no read of request `id` is outstanding. -/
def Obligations.FetchedEntriesAreTakenUp : Prop :=
  (∀ (n : Nat) (f : FetchRead) (bs : List Byte) (s : State), (qp s n).fetch = some f →
    exec (.submissionFetchDone n .error) s = .next (pump (fetchFailed n f St.hostDmaError s)) ∧
    exec (.submissionFetchDone n (.data bs)) s = .next (pump ((List.range f.n).foldl (fun s j =>
      takeEntry n ((f.seq + j) % 2 ^ 32) (octets bs (128 * j) 128) (modQp n (fun q => { q with fetched := q.fetched + 1 }) s))
      (modQp n (fun q => { q with fetch := none, failRun := 0 }) s))) ∧
    (f.issued + 64 ≤ s.tick → exec (.dmaReadTimeout (.fetch n)) s =
      .next (pump (fetchFailed n f St.grateTimeout { s with hl := { s.hl with
        timedOut := s.hl.timedOut + (readPieces (fetchAddr (qp s n) f.seq) (128 * f.n)).length } })))) ∧
  (∀ (id n q : Nat) (w : Work) (bs : List Byte) (s : State), (∀ o ∈ s.hl.orphans, o.work ≠ id) → work s id = some w →
    w.phase = .reading → w.src = .queue n q →
    exec (.inputReadDone id .error) s = .next (pump (landed n (refuseSub n q w.sub St.hostDmaError 0 (dropWork id (noRead id s))))) ∧
    (w.sub.func / 256 ≠ 0x0B → exec (.inputReadDone id (.data bs)) s =
      .next (pump (settle (makeEligible id (modWork id (fun w' => { w' with input := octets bs 0 w.sub.inLen }) (noRead id s)))))) ∧
    (w.sub.func / 256 = 0x0B → exec (.inputReadDone id (.data bs)) s =
      .next (pump (settle (buildBatch id { w with asked := false } (octets bs 0 w.sub.inLen) (noRead id s))))) ∧
    (w.asked = true → w.readTick + 64 ≤ s.tick → exec (.dmaReadTimeout (.input id)) s =
      .next (pump (landed n (refuseSub n q w.sub St.grateTimeout 0
        (dropWork id (noRead id { s with hl := { s.hl with timedOut := s.hl.timedOut + w.reads } }))))))) ∧
  (∀ (bid idx id : Nat) (b : Batch) (w : Work) (bs : List Byte) (s : State), (∀ o ∈ s.hl.orphans, o.part ≠ some (bid, idx) ∧ o.work ≠ id) →
    batch s bid = some b → tblGet b.works idx = some id → work s id = some w → w.asked = true → w.staged = false →
    exec (.batchPartInputRead bid idx .error) s = .next (stagePump (stageFailed bid idx id St.hostDmaError 0 (noRead id s))) ∧
    exec (.batchPartInputRead bid idx (.data bs)) s = .next (stagePump (stagePart bid idx id (octets bs 0 w.sub.inLen) (noRead id s))) ∧
    (w.src = .part bid idx → w.unit ≠ .hostLane → w.readTick + 64 ≤ s.tick → exec (.dmaReadTimeout (.input id)) s =
      .next (stagePump (stageFailed bid idx id St.grateTimeout 0 (noRead id { s with hl := { s.hl with timedOut := s.hl.timedOut + w.reads } }))))) ∧
  (∀ (i k t : Nat) (s : State), (k, t) ∈ (slice s i).flushAt → t + 64 ≤ s.tick → exec (.dmaReadTimeout (.flush i k)) s =
    .next (orphansReady (modSlice i (fun l => { l with flushTmo := true, flushAt := l.flushAt.filter (fun f => decide (f.1 ≠ k)) })
      { s with hl := { s.hl with timedOut := s.hl.timedOut + 1 } }))) ∧
  (∀ (op prior : Nat) (s : State), s.ks.loadOp = some (op, prior) → s.ks.loadSince + 64 ≤ s.tick → exec (.dmaReadTimeout .image) s =
    .next (imageFails St.grateTimeout op prior { s with hl := { s.hl with timedOut := s.hl.timedOut + 1 } })) ∧
  (∀ s : State, 0 < s.hl.timedOut → exec .lateCompletion s =
    .next { s with hl := { s.hl with timedOut := s.hl.timedOut - 1, late := satAdd 32 s.hl.late 1 } }) ∧
  (∀ (n : Nat) (s : State), 0 < (qp s n).unsig → (qp s n).cqWait ≠ 0 → (qp s n).unsigSince + (qp s n).cqWait ≤ s.tick →
    (qp s n).state ≠ 3 → exec (.cqWaitExpiry n) s = .next (qpVector n s))

/-- Host-link events and function resets (R75, R78, R79, R395, R567, R568). Bus Master Enable is set again with the link: log entry 33. -/
def Obligations.HostLinkEvents : Prop :=
  (∀ (l w v : Nat) (s : State), l ≤ 1 → s.pin.mainPower = true → (hostLink s l).up = false → (hostLink s l).perst = false →
    w ∈ [1, 2, 4, 8, 16] → 1 ≤ v → v ≤ 6 →
    exec (.hostLinkUp l w v) s = .next
      (let t := modLink l (fun k => { k with up := true, recov := false, bme := true, width := w, speed := v }) s
       let t := if w < 16 ∨ v < 6 then note 0x1501 0 l w v t else t
       let t := if l = 0 then { t with out := t.mb.outHeld ++ t.out, mb := { t.mb with outHeld := [] } } else t
       if l = 0 ∧ t.mb.vecOwed = true then vector 0 { t with mb := { t.mb with vecOwed := false } } else t)) ∧
  (∀ (l : Nat) (s : State), l ≤ 1 → (hostLink s l).up = true →
    exec (.hostLinkDown l) s = .next ((if l = 0 then pf0Down else id)
      (linkDown l (modLink l (fun k => { k with up := false, recov := false, width := 0, speed := 0 }) s)))) ∧
  (∀ s : State, s.ks.loadOp = none →
    ((∀ h, s.mb.held = some h → h.stage ≠ .body) → pf0Down s = s) ∧
    (∀ h, s.mb.held = some h → h.stage = .body →
      pf0Down s = respond St.hostDmaError 32 0 [] s)) ∧
  (∀ (l : Nat) (s : State), l ≤ 1 →
    exec (.busMasterClear l) s = .next (linkDown l (modLink l (fun k => { k with bme := false }) s)) ∧
    exec (.functionLevelReset (l + 1)) s = .next (linkDown l (modLink l (fun k => { k with bme := false }) s)) ∧
    exec (.perstDeassert l) s = .next (modLink l (fun k => { k with perst := false }) s) ∧
    exec (.hostLinkError l true) s = .next (modLink l (fun k => { k with corr := satAdd 32 k.corr 1 }) s) ∧
    exec (.hostLinkError l false) s = .next (note 0x1502 1 l 0 0 (modLink l (fun k => { k with uncorr := satAdd 32 k.uncorr 1 }) s))) ∧
  (∀ s : State, exec (.functionLevelReset 0) s = .next (markStale (releaseAll s))) ∧
  (∀ s : State, exec (.perstAssert 0) s = .next (pf0Down (markStale (releaseAll
      (linkDown 0 (modLink 0 (fun k => { k with perst := true, up := false, recov := false, width := 0, speed := 0 }) s)))))) ∧
  (∀ s : State, exec (.perstAssert 1) s =
      .next (linkDown 1 (modLink 1 (fun k => { k with perst := true, up := false, recov := false, width := 0, speed := 0 }) s))) ∧
  (∀ (l : Nat) (e : Bool) (s : State), l ≤ 1 → (hostLink s l).up = true → (hostLink s l).recov ≠ e →
    exec (.hostLinkRecovery l e) s = .next (modLink l (fun k => { k with recov := e }) s)) ∧
  (∀ (i : Nat) (s : State), (slice s i).flushing = true → (∀ o ∈ s.hl.orphans, o.slice ≠ i) →
    exec (.sliceFlushDone i) s = .next (sliceReady i (masters i s)))

/-- The slice commands (R105 to R109), with the states that refuse them. -/
def Obligations.SlicesAreBoundStartedAndReset : Prop :=
  (∀ (h : Held) (s : State), CmdTaken 0x0401 h s → s.lc.ready = true → (slice s (be h.frame.payload 0 2)).state ≤ 1 →
    exec .sliceBind s = .next (respond St.ok 0 s.tick [] (modSlice (be h.frame.payload 0 2) (fun l => { l with
      state := 1, pv := bitOf (be h.frame.payload 8 4) 31, pasid := be h.frame.payload 8 4 % 2 ^ 20
      domLo := be h.frame.payload 2 2, domN := be h.frame.payload 4 2, group := be h.frame.payload 6 2
      detok := bitOf (be h.frame.payload 12 1) 0 }) s))) ∧
  (∀ (h : Held) (s : State), CmdTaken 0x0402 h s → s.lc.ready = true → (slice s (be h.frame.payload 0 2)).state = 1 →
    exec .sliceStart s = .next (pump (respond St.ok 0 s.tick [] (modSlice (be h.frame.payload 0 2) (fun l => { l with state := 2 }) s)))) ∧
  (∀ (h : Held) (s : State), CmdTaken 0x0403 h s → s.lc.ready = true →
    ((slice s (be h.frame.payload 0 2)).state = 2 ∨ (be h.frame.payload 2 1 = 1 ∧ (slice s (be h.frame.payload 0 2)).state = 3)) →
    exec .sliceReset s = .next (setStage .running (arm (s.tick + 1) (modSlice (be h.frame.payload 0 2)
      (fun l => { l with state := (if be h.frame.payload 2 1 = 1 then 4 else 3), resetAt := some (s.tick + 1), applied := false, flushTmo := false
                         discards := satAdd 32 l.discards
                           ((s.hl.qps.filter (fun q => decide (q.2.slice = be h.frame.payload 0 2))).map (fun q => q.2.cancels.length)).sum })
      { s with hl := { s.hl with qps := s.hl.qps.map (fun q =>
        if q.2.slice = be h.frame.payload 0 2 then (q.1, { q.2 with cancels := [] }) else q) } })))) ∧
  (∀ (h : Held) (s : State), CmdTaken 0x0404 h s → s.lc.ready = true → (slice s (be h.frame.payload 0 2)).state = 1 →
    exec .sliceUnbind s = .next (respond St.ok 0 s.tick [] (modSlice (be h.frame.payload 0 2) (fun l => { l with state := 0 })
      { s with hl := { s.hl with qps := s.hl.qps.map (fun q => if q.2.slice = be h.frame.payload 0 2 then (q.1, q.2.disable) else q) } }))) ∧
  (∀ (h : Held) (s : State), ∀ c ∈ [(0x0402, Instr.sliceStart), (0x0404, .sliceUnbind)], CmdTaken c.1 h s →
    (s.lc.ready = false ∨ (slice s (be h.frame.payload 0 2)).state ≠ 1) → exec c.2 s = .next (respond St.stateForbids 0 0 [] s))

/-- QP_SET (R81, R82, R106). A queue pair in ERROR or LINKDOWN keeps its state: log entry 46. -/
def Obligations.QueuePairsAreConfigured : Prop :=
  ∀ (h : Held) (s : State), CmdTaken 0x0405 h s → s.lc.ready = true → 
    ((qp s (be h.frame.payload 0 2)).slice = be h.frame.payload 2 2 ∨ (qp s (be h.frame.payload 0 2)).state = 0) →
    (slice s (be h.frame.payload 2 2)).state = 1 →
    (bitOf (be h.frame.payload 6 1) 0 = false →
      exec .qpSet s = .next (respond St.ok 0 s.tick [] (modQp (be h.frame.payload 0 2) Qp.disable s))) ∧
    (bitOf (be h.frame.payload 6 1) 0 = true → topOver s (be h.frame.payload 0 2) h.frame.payload = true →
      exec .qpSet s = .next (respond St.grateRange 71 0 [] s)) ∧
    (bitOf (be h.frame.payload 6 1) 0 = true → topOver s (be h.frame.payload 0 2) h.frame.payload = false →
      ∃ q : Qp, exec .qpSet s = .next (respond St.ok 0 s.tick [] (modQp (be h.frame.payload 0 2) (fun _ => q) s)) ∧
        q.en = true ∧ q.slice = be h.frame.payload 2 2 ∧ q.sqLog = be h.frame.payload 4 1 ∧ q.cqLog = be h.frame.payload 5 1 ∧
        q.sqBase = be h.frame.payload 8 8 ∧ q.cqBase = be h.frame.payload 16 8 ∧ q.vector = be h.frame.payload 24 2 ∧
        q.top = bitOf (be h.frame.payload 6 1) 1 ∧ q.topSlots = be h.frame.payload 7 1 ∧ q.roData = bitOf (be h.frame.payload 6 1) 3 ∧
        q.link = b2n (bitOf (be h.frame.payload 6 1) 2) ∧ q.cqWait = be h.frame.payload 26 2 ∧ q.cqThresh = be h.frame.payload 28 2 ∧
        q.tail = 0 ∧ q.head = 0 ∧ q.written = 0 ∧ q.cancels = [] ∧
        ((qp s (be h.frame.payload 0 2)).state ≤ 1 → q.state = if (hostLink s q.link).up then 1 else 3))

/-- Admission switches (R31, R47, R48). -/
def Obligations.AdmissionIsSetAtASwitchTick : Prop :=
  (∀ (h : Held) (s : State), CmdTaken 0x0301 h s →
    budgetsFrom s (insertArmed (switchAt (be h.frame.payload 0 8) s, admCfg h.frame.payload) s.tk.cfgArmed) s.tk.acctArmed
      (switchAt (be h.frame.payload 0 8) s) = true →
    exec .admitSet s = .next (respondAt (switchAt (be h.frame.payload 0 8) s) [] { s with tk := { s.tk with cfgArmed := insertArmed (switchAt (be h.frame.payload 0 8) s, admCfg h.frame.payload) s.tk.cfgArmed } })) ∧
  (∀ p : List Byte, (admCfg p).tTop = be p 8 4 ∧ (admCfg p).heartLimit = be p 12 1 ∧ (admCfg p).topHbm = be p 13 1 ∧
    (admCfg p).lend = decide (be p 14 1 = 1) ∧ (admCfg p).ageWait = be p 16 2 ∧ (admCfg p).pinLimit = be p 20 4) ∧
  (∀ (h : Held) (s : State), CmdTaken 0x0302 h s →
    budgetsFrom s s.tk.cfgArmed (insertArmed (switchAt (be h.frame.payload 0 8) s, acctEntries h.frame.payload) s.tk.acctArmed)
      (switchAt (be h.frame.payload 0 8) s) = true →
    exec .acctSet s = .next (respondAt (switchAt (be h.frame.payload 0 8) s) [] { s with tk := { s.tk with acctArmed := insertArmed (switchAt (be h.frame.payload 0 8) s, acctEntries h.frame.payload) s.tk.acctArmed } })) ∧
  (∀ (k : Nat) (s : State), (k ≤ s.tick → switchAt k s = s.tick + 1) ∧ (s.tick < k → switchAt k s = k)) ∧
  (∀ (k : Nat) (c : AdmCfg) (s : State), s.tk.cfgArmed = [(k, c)] →
    (k ≤ s.tick → (applyAdmission s).tk.cfg = c ∧ (applyAdmission s).tk.cfgArmed = []) ∧
    (s.tick < k → (applyAdmission s).tk.cfg = s.tk.cfg ∧ (applyAdmission s).tk.cfgArmed = [(k, c)]))

/-- UTC and the tick count registers (R73, R74). -/
def Obligations.TimeIsSetAndRead : Prop :=
  (∀ (h : Held) (s : State), CmdTaken 0x0303 h s → be h.frame.payload 0 8 < 2 ^ 48 → be h.frame.payload 8 4 ≤ 999999999 →
    (ptpLocked s = false → exec .timeSet s = .next (respond St.ok 0 s.tick [] { s with tk := { s.tk with
      refNs := some ((be h.frame.payload 0 8 * 10 ^ 9 + be h.frame.payload 8 4 : Nat) : Int), refTick := s.tick, corrTick := s.tick
      utcValid := true, utcSrc := 1, utcPort := 0 } })) ∧
    (ptpLocked s = true → exec .timeSet s = .next (respond St.stateForbids 0 0 [] s))) ∧
  (∀ (r : Int) (s : State), s.tick % 512 = 0 → s.tk.refNs = some r → exec .utcUpdate s = .next { s with tk := { s.tk with
      utcSec := ((r + ((s.tick - s.tk.refTick) * 2048 : Nat)) / 10 ^ 9).toNat % 2 ^ 48
      utcNs := ((r + ((s.tick - s.tk.refTick) * 2048 : Nat)) % 10 ^ 9).toNat, utcTick := s.tick
      shValid := s.tk.utcValid, shSrc := s.tk.utcSrc, shPort := s.tk.utcPort } }) ∧
  (∀ s : State, s.tk.utcValid = true → s.tk.corrTick + 2 ^ 19 ≤ s.tick →
    exec .utcValidExpiry s = .next { s with tk := { s.tk with utcValid := false } }) ∧
  (∀ s : State, s.hl.link0.up = true → exec .tkCountLowRead s = .next { s with
    out := .readData 0x4000 (s.tick % 2 ^ 32) :: s.out, tk := { s.tk with countHi := s.tick / 2 ^ 32 % 2 ^ 32 } })

/-- Register accesses (R11, R13): reads, clear-on-read counters, write fields, and accesses that no register takes; none of BAR0 while host link 0 is down (R37). -/
def Obligations.RegistersAreReadAndWritten : Prop :=
  (∀ (o size v : Nat) (s : State), s.hl.link0.up = true → regRead s o size = some v → ¬(o = 0x3000 ∧ size = 8) →
    ¬(o = 0x4000 ∧ size = 4) → o ≠ 0x6000 → o ≠ 0x6004 →
    exec (.counterReadClear none o size) s =
      .next (usedFree ((if exitWindow o then send else emit) (.readData o v) (afterRead o s)))) ∧
  (∀ (o size v : Nat) (s : State), s.hl.link0.up = true → regRead s o size = none → ¬(o = 0x3000 ∧ size = 8) →
    ¬(o = 0x4000 ∧ size = 4) → o ≠ 0x6000 → o ≠ 0x6004 →
    exec (.counterReadClear none o size) s = .next (badRead o size s) ∧
    exec (.bar0AccessInvalid false o size v) s = .next (badRead o size s)) ∧
  (∀ s : State, afterRead 0xA038 s = { s with ac.heldCnt := 0 } ∧ afterRead 0x3024 s = { s with nq.nLost := 0 } ∧
    afterRead 0x8010 s = { s with tm.nCount := 0 } ∧ afterRead 0x40020 s = { s with tr.lost := 0 } ∧
    afterRead 0x28 s = modLink 0 (fun l => { l with corr := 0 }) s ∧ afterRead 0x0 s = s) ∧
  (∀ (v : Nat) (s : State), s.hl.link0.up = true → v < 2 ^ 32 →
    exec (.registerWrite none 0x40C0 4 v) s = .next { s with tk.acctSel := v % 2 ^ 13 } ∧
    exec (.registerWrite none 0x9058 4 v) s = .next { s with ks.domSel := v % 2 ^ 16 } ∧
    exec (.registerWrite none 0xB04C 4 v) s = .next { s with gp.sel := v % 64 } ∧
    exec (.registerWrite none 0x3020 4 v) s = .next { s with nq.lost := w1c s.nq.lost v 31 } ∧
    exec (.registerWrite none 0x0 4 v) s = .next s) ∧
  (∀ (o v : Nat) (s : State), s.hl.link0.up = true → o % 4 = 0 → 0x1000 ≤ o → o + 4 ≤ 0x1000 + 4032 →
    (s.mb.busy = true → exec (.registerWrite none o 4 v) s = .next { s with mb.bufDrop := true }) ∧
    (s.mb.busy = false → exec (.registerWrite none o 4 v) s = .next (writeCmdBuf o 4 (v % 2 ^ 32) s)) ∧
    exec (.registerWrite none (o + 0x1000) 4 v) s = .next s) ∧
  (∀ (o size v : Nat) (s : State), s.hl.link0.up = true → sizeOk o size = false →
    exec (.registerWrite none o size v) s = .next (bar0Notice o s) ∧
    exec (.bar0AccessInvalid true o size v) s = .next (bar0Notice o s)) ∧
  (∀ (o size v : Nat) (w : Bool) (s : State), s.hl.link0.up = false →
    ∀ c ∈ [Instr.counterReadClear none o size, .registerWrite none o size v, .bar0AccessInvalid w o size v, .mbCmdSubmit v,
           .mbRspAck v, .evSnapTake, .evGo v, .rnData, .tmEvidSel v, .ksJhead v, .acRhead v],
      exec c s = .next s) ∧
  (∀ (n l o size : Nat) (s : State), n < 8192 → o < 4096 → l ≠ (qp s n).link →
    exec (.counterReadClear (some l) (4096 * n + o) size) s =
      .next (emit (.readData (4096 * n + o) (2 ^ (32 * max 1 (size / 4)) - 1)) (doorbellNotice 0x0901 n l s)))

/-- SMBus (R573, R574). The packet error code and what an unspecified code answers: log entry 32. -/
def Obligations.BoardManagementAnswersReads : Prop :=
  (∀ (addr c : Nat) (pec : Bool) (s : State), s.pin.mainPower = true → addr = smbAddress s →
    (c < 0x20 → exec (.smbusReadByte addr c pec) s = .next (smbAnswer addr c pec (octets s.pin.smbFresh c 1) s)) ∧
    (c < 0x1F → exec (.smbusReadWord addr c pec) s = .next (smbAnswer addr c pec (octets s.pin.smbFresh c 2) s)) ∧
    exec (.smbusBlockRead addr 0x80 pec) s = .next (smbAnswer addr 0x80 pec (32#8 :: octets s.pin.smbFresh 0 32) s) ∧
    (0x20 ≤ c → c ≠ 0x80 → ∀ i ∈ [Instr.smbusReadByte addr c pec, .smbusReadWord addr c pec, .smbusBlockRead addr c pec],
      exec i s = .next (emit (.smbus none) s))) ∧
  (∀ (addr c : Nat) (pec : Bool) (s : State), s.pin.mainPower = false ∨ addr ≠ smbAddress s →
    ∀ i ∈ [Instr.smbusReadByte addr c pec, .smbusReadWord addr c pec, .smbusBlockRead addr c pec],
      exec i s = .next (emit (.smbus none) s)) ∧
  (∀ (addr c : Nat) (s : State), exec (.smbusDataWrite addr c) s = .next (emit (.smbus none) s)) ∧
  (∀ s : State, exec .smbusClockStuck s = .next { s with pin.smbCmd := 0 })

/-- Power samples and bands (R64, R65), and the sample point (R25, R26). Samples are in mV and mA, their products in uW. The mean before 256 samples, and the band on return from a fault: log entry 89. The order of a sample point: log entry 37. -/
def Obligations.PowerSamplesSetTheBand : Prop :=
  (∀ (mv ma : Int) (n : Nat) (s : State), -500 ≤ mv → mv ≤ 65000 → 0 ≤ ma → ma ≤ 40000 →
    n = (if s.tk.lastV = mv ∧ s.tk.lastI = ma then s.tk.sameRun + 1 else 1) → n < 2 ^ 16 →
    (s.tk.pwrFault = true → s.tk.validRun + 1 < 256 → exec (.powerSample mv ma) s = .next { s with tk := { s.tk with
      lastV := mv, lastI := ma, sameRun := n, sampleTick := s.tick, samples := (mv * ma :: s.tk.samples).take 256
      validRun := s.tk.validRun + 1 } }) ∧
    ((s.tk.pwrFault = false ∨ 256 ≤ s.tk.validRun + 1) → exec (.powerSample mv ma) s = .next (refreshCons { s with tk := { s.tk with
      lastV := mv, lastI := ma, sameRun := n, sampleTick := s.tick, samples := (mv * ma :: s.tk.samples).take 256
      validRun := s.tk.validRun + 1, pwrFault := false, powerW := meanWatts ((mv * ma :: s.tk.samples).take 256) } }))) ∧
  (∀ (mv ma : Int) (s : State), (mv < -500 ∨ 65000 < mv ∨ ma < 0 ∨ 40000 < ma) → s.tk.pwrFault = false →
    ∃ t, exec (.powerSample mv ma) s = .next t ∧ t.tk.pwrFault = true ∧ t.tk.samples = [] ∧ t.tk.validRun = 0 ∧ t.tk.band = s.tk.band ∧
      t.tick = s.tick ∧ t.wk = s.wk ∧ t.hl.qps = s.hl.qps ∧ t.hl.slices = s.hl.slices ∧ t.ks = s.ks ∧ t.lc = s.lc ∧ t.en = s.en) ∧
  (∀ (n : Nat) (p : Int), bandFor 0 p n = (if 900000000 * n < p then 2 else if 400000000 * n < p then 1 else 0) ∧
    bandFor 1 p n = (if 900000000 * n < p then 2 else if p < 375000000 * n then 0 else 1) ∧
    bandFor 2 p n = (if p < 375000000 * n then 0 else if p < 875000000 * n then 1 else 2)) ∧
  (∀ s : State, (loadBandPoint s).tk.band = (if s.tk.pwrFault then 2 else if s.tk.samples = [] then s.tk.band
      else bandFor s.tk.band s.tk.samples.sum s.tk.samples.length) ∧
    (loadBandPoint s).tk.bandChanges = (if (loadBandPoint s).tk.band = s.tk.band then s.tk.bandChanges else satAdd 32 s.tk.bandChanges 1)) ∧
  (∀ s : State, s.pin.mainPower = true → 1 ≤ s.lc.stage → exec .samplePoint s =
    .next (summaryPoint (firmwareTrace (heartbeat (afterGrants (grants (stagePump (powerAbsent (controls (commits (withdrawals (supervisors
      (tickBoundaries (tableSwitches (lanesStopPoint (fencePoint { s with tick := s.tick + 1 }))))))))))))))))

/-- Engine steps and their checks (R129 to R135, R139, R429). Which engine of a pair differs, and whether the tick has cycles for the retry, is the event's. -/
def Obligations.EngineStepsEnd : Prop :=
  (∀ (id : Nat) (w : Work) (o : StepOut) (s : State), work s id = some w → stepping w = true → fetchOpen s w = false →
    (o.access = none → o.diff = 0 → exec (.engineStepEnd id o) s = .next (settle (stepGood id w o none s))) ∧
    (o.access = none → o.diff ≠ 0 → workTwin s w = true → consumed s w o.diff = false →
      exec (.engineStepEnd id o) s = .next (settle (stepGood id w o (some o.diff) s))) ∧
    (o.access = none → o.diff ≠ 0 → workTwin s w = true → consumed s w o.diff = true → (o.bad1 = true ∨ o.bad2 = true) →
      (w.phase ≠ .retrying → exec (.engineStepEnd id o) s = .next (settle (startRetry id w o.bad1 o.bad2 true s))) ∧
      (w.phase = .retrying → exec (.engineStepEnd id o) s = .next (settle (twinFail id w
        (scoreIf (!w.mc1) w.old1 (scoreIf (!w.mc2) w.old2 (scoreEngine w.e1 (scoreEngine w.e2 s)))))))) ∧
    ((workTwin s w = true ∨ o.diff = 0) → (stepFence w o s).1 = true →
      exec (.engineStepEnd id o) s = .next (settle (finish id { status := St.fenceViolation } (stepFence w o s).2))) ∧
    (∀ a b, o.access = some a → workTwin s w = false → fenceBlocks s (w.grant.getD s.tick) a w.e1 = some b →
      stepFence w o s = (true, violate (w.grant.getD s.tick) a w.e1 b s)) ∧
    (∀ a b, o.access = some a → workTwin s w = true → fenceBlocks s (w.grant.getD s.tick) a w.e1 = some b → (stepFence w o s).1 = true) ∧
    (∀ second : Bool, w.phase ≠ .retrying → exec (.machineCheck id second) s =
      .next (settle (startRetry id w (!second) second true (modWork id (fun w => { w with mc1 := true, mc2 := true })
        (scoreEngine (if second then w.e2 else w.e1) s))))) ∧
    (∀ second : Bool, w.phase = .retrying → exec (.machineCheck id second) s = .next (machineCheck id w second true s)) ∧
    (∀ second : Bool, workTwin s w = true → exec (.engineCycleOverrun id true second) s = .next (settle (programFault id w s)) ∧
      exec (.engineCycleOverrun id false second) s = .next (machineCheck id w second false s)) ∧
    (∀ both second : Bool, workTwin s w = false →
      (w.phase ≠ .retrying → exec (.engineCycleOverrun id both second) s =
        .next (settle (startRetry id w false false false (modWork id (fun w => { w with overruns := 1 }) s)))) ∧
      (w.phase = .retrying → 0 < w.overruns → exec (.engineCycleOverrun id both second) s = .next (settle (programFault id w s))))) ∧
  (∀ (s : State) (w : Work) (d : Nat), bitOf d 32 = true → consumed s w d = true) ∧
  (∀ (e t : Nat) (s : State), (engine s e).retest = some t → t + 2 ≤ s.tick →
    (exec (.retestEnd e false) s = .next (
      modEng e (fun x => { x with estate := if (engine s e).back then 2 else 1, retireDue := !(engine s e).back, back := false }) (modEng e (fun x => { x with retest := none, refEng := none })
        { s with tk.tasks := s.tk.tasks.filter (fun t => decide (¬ (t.kind = 3 ∧ t.arg = e))) }))) ∧
    ((cluster s (e / 16)).state ≠ 5 → exec (.retestEnd e true) s = .next
      (modEng e (fun x => { x with latents := [], estate := 0, back := false, readmit := x.readmit || (engine s e).back,
                                    scores := if (engine s e).back then [] else x.scores })
        (modEng e (fun x => { x with retest := none, refEng := none }) { s with tk.tasks := s.tk.tasks.filter (fun t => decide (¬ (t.kind = 3 ∧ t.arg = e))) }))))

/-- Clusters (R146, R147, R149, R150). -/
def Obligations.ClustersAreDrainedLoadedAndGated : Prop :=
  (∀ (h : Held) (s : State), CmdTaken 0x0501 h s → (cluster s (be h.frame.payload 0 1)).state = 0 →
    (cluster s (be h.frame.payload 0 1)).drainAt = none →
    retestIn s (be h.frame.payload 0 1) = false →
    2 * s.tk.cfg.tTop ≤ poolOf (enginesAfter s (be h.frame.payload 0 1)) →
    exec .clDrain s = .next (respondAt (switchAt (be h.frame.payload 8 8) s) [] (modCluster (be h.frame.payload 0 1) (fun x => { x with drainAt := some (switchAt (be h.frame.payload 8 8) s) }) s))) ∧
  (∀ (h : Held) (s : State), CmdTaken 0x0501 h s → (cluster s (be h.frame.payload 0 1)).state ≠ 0 →
    exec .clDrain s = .next (respond St.busy 0 0 [] s)) ∧
  (∀ (h : Held) (s : State), CmdTaken 0x0502 h s → (cluster s (be h.frame.payload 0 1)).state = 1 →
    exec .clLoad s = .next (respond St.ok 0 s.tick [] (modCluster (be h.frame.payload 0 1)
      (fun x => { x with loadOk := false, loadTick := s.tick, returnAt := none }) (setClusterState (be h.frame.payload 0 1) 2 s)))) ∧
  (∀ (h : Held) (s : State), CmdTaken 0x0502 h s → (cluster s (be h.frame.payload 0 1)).state ≠ 1 →
    exec .clLoad s = .next (respond St.stateForbids 0 0 [] s)) ∧
  (∀ (h : Held) (s : State), CmdTaken 0x0503 h s → (cluster s (be h.frame.payload 0 1)).state = 1 →
    (cluster s (be h.frame.payload 0 1)).returnAt = none → (cluster s (be h.frame.payload 0 1)).loadOk = true →
    exec .clReturn s = .next (respondAt (switchAt (be h.frame.payload 8 8) s) [] (modCluster (be h.frame.payload 0 1) (fun x => { x with returnAt := some (switchAt (be h.frame.payload 8 8) s) }) s))) ∧
  (∀ (h : Held) (s : State), CmdTaken 0x0504 h s → exec .clGating s = .next (respond St.ok 0 s.tick [] { s with
      en.gating := decide (be h.frame.payload 0 1 = 1), en.wakeAsk := false })) ∧
  (∀ (c : Nat) (s : State), (cluster s c).state = 2 →
    exec (.clLoadDone c true) s = .next (modCluster c (fun x => { x with
      loadOk := true, custVer := loadedSet s, vendVer := vendorVersion s }) (setClusterState c 1 s)) ∧
    exec (.clLoadDone c false) s = .next (note 0x0F04 1 c 0 0 (setClusterState c 1 s))) ∧
  (∀ (c : Nat) (s : State), s.en.gating = true → c < 64 → (cluster s c).state = 3 → (s.en.wakeAsk = true ∨ 16 ≤ s.en.highTicks.length) →
    exec (.gatingDecision c) s = .next (setClusterState c 4 { s with en.wakeAsk := false, en.highTicks := [] })) ∧
  (∀ (c : Nat) (s : State), (cluster s c).state = 4 → (cluster s c).stTick + 16 ≤ s.tick →
    exec (.clusterWakeEnd c) s = .next (traceResume c (setClusterState c 0 s)))

/-- The PIN limiter (R172 to R175, R178, R179). -/
def Obligations.PinLimitsCountLockAndClear : Prop :=
  (∀ (h : Held) (s : State), CmdTaken 0x0701 h s →
      exec .pinPolicySet s = .next (respondAt (s.tick + 1) [] { s with
        lim.nextCeilings := some { classes := (List.range 16).map (parseClass h.frame.payload)
                                   pin := parseGuard h.frame.payload 0x108, card := parseGuard h.frame.payload 0x110 }
        lim.armedTables := some (s.tick + 1, (List.range 8).map (parseTable h.frame.payload)) })) ∧
  (∀ (h : Held) (s : State), CmdTaken 0x0702 h s →
    (be h.frame.payload 0 4 ≤ 0x08000001 →
      exec .limitQuery s = .next (respond St.ok 0 s.tick (limStatus s (be h.frame.payload 0 4)) s)) ∧
    (0x08000001 < be h.frame.payload 0 4 → exec .limitQuery s = .next (respond St.grateRange 64 0 [] s))) ∧
  (∀ (h : Held) (s : State), CmdTaken 0x0703 h s →
    (0x08000001 < be h.frame.payload 0 4 → exec .limitClear s = .next (respond St.grateRange 64 0 [] s)) ∧
    (be h.frame.payload 0 4 ≤ 0x08000001 → lockOf s (be h.frame.payload 0 4) = none →
      exec .limitClear s = .next (respond St.ok 0 s.tick (limStatus s (be h.frame.payload 0 4)) s)) ∧
    (∀ l, be h.frame.payload 0 4 ≤ 0x08000001 → lockOf s (be h.frame.payload 0 4) = some l →
      exec .limitClear s = .next (respondAt (s.tick + 1) (limStatus { s with lim.locks := tblDel s.lim.locks (be h.frame.payload 0 4) } (be h.frame.payload 0 4))
        { s with lim.clears := s.lim.clears ++ [be h.frame.payload 0 4],
                 lim.locks := tblPut s.lim.locks (be h.frame.payload 0 4) { l with due := none } }))) ∧
  (∀ s : State, s.lim.window ≠ s.tick / 2 ^ 19 → exec .limiterWindowBoundary s = .next { s with
    lim.window := s.tick / 2 ^ 19
    lim.counts := s.lim.counts.filter (fun p => (lockOf s p.1).any (·.confirmed))
    lim.pinV := 0, lim.pinF := 0, lim.cardV := 0, lim.cardF := 0, lim.fullNoted := false
    lim.starting := s.lim.starting && !s.lim.running
    lim.ceilings := s.lim.nextCeilings.getD s.lim.ceilings, lim.nextCeilings := none }) ∧
  (∀ (i : Nat) (l : LimLock) (s : State), tblGet s.lim.locks i = some l →
    (l.until_ ≤ s.tick → exec (.limiterLockoutEnd i) s = .next { s with lim.locks := tblDel s.lim.locks i }) ∧
    (∀ d, l.due = some d → d ≤ s.tick →
      exec (.limiterSecondDecision i true) s = .next (lockClass 0x20 St.refusedLimit
        { s with lim.locks := tblPut s.lim.locks i { l with confirmed := false, due := none } }) ∧
      (i < 2 ^ 27 → exec (.limiterSecondDecision i false) s = .next (sendLockout i l.until_ (note 0x1201 1 0xFFFF i l.until_
        { s with lim.locks := tblPut s.lim.locks i { l with confirmed := true, due := none } }))) ∧
      (i = pinGuard → exec (.limiterSecondDecision i false) s = .next (note 0x1202 1 0xFFFF i l.until_
        (evidAppend (evidNow 6 0 0x20 s.lim.pinF s.lim.pinV i
          { s with lim.locks := tblPut s.lim.locks i { l with confirmed := true, due := none } })
          { s with lim.locks := tblPut s.lim.locks i { l with confirmed := true, due := none } })))))

/-- The key store between grants (R207 to R210, R215, R219, R221, R236 to R239, R244, R247). An epoch is journaled when it is accepted: DESIGN CHOICE, log entry 50. -/
def Obligations.KeyStoreReadsAndJournal : Prop :=
  (∀ (i : Nat) (e : FetchEnd) (s : State), i ∈ s.ks.fetching →
    (e = .good ∨ e = .corrected → exec (.keyFetchDone i e) s =
      .next (touch i (touchNode i { s with ks.fetching := s.ks.fetching.erase i }))) ∧
    (e ≠ .good → e ≠ .corrected → (e = .badNode → nodeCached s i = false) →
      exec (.keyFetchDone i e) s = .next (recordRead i e { s with ks.fetching := s.ks.fetching.erase i }))) ∧
  (∀ s : State, s.ks.state = 2 → s.ks.scrubGrant = some s.tick → s.ks.scrubPos + 4 < 2 ^ 27 →
    exec (.keystoreScrub .good .good .corrected .good) s = .next (rewriteRecord (s.ks.scrubPos + 2) { s with
      ks.scrubGrant := none, ks.scrubPos := s.ks.scrubPos + 4, ks.scrubSeen := tblPut s.ks.scrubSeen (s.ks.scrubPos / 4) s.tick })) ∧
  (∀ (h : Held) (s : State), CmdTaken 0x0601 h s → domFault s h.frame.payload = none → s.ks.ring.isSome = true →
    exec .domainSet s = .next (respondAt (switchAt (be h.frame.payload 0 8) s) [] { s with ks.domArmed := s.ks.domArmed ++ [⟨switchAt (be h.frame.payload 0 8) s, be h.frame.payload 8 2, parseDom h.frame.payload⟩] })) ∧
  (∀ (h : Held) (s : State), CmdTaken 0x0602 h s → be h.frame.payload 10 2 ≤ 0xFFFE → be h.frame.payload 12 2 ≤ be h.frame.payload 10 2 →
    hasWorkers s = false → s.ks.ring.isSome = true → s.ks.epochs.length < 4096 →
    exec .epoch s = .next (respondAt (switchAt (be h.frame.payload 0 8) s) [] (journal (switchAt (be h.frame.payload 0 8) s) 4 1 s.ks.format (be h.frame.payload 8 2)
        (octets (epochBytes ⟨switchAt (be h.frame.payload 0 8) s, be h.frame.payload 8 2, be h.frame.payload 10 2, be h.frame.payload 12 2⟩) 0 256)
        { s with ks.epochs := s.ks.epochs ++
          [⟨switchAt (be h.frame.payload 0 8) s, be h.frame.payload 8 2, be h.frame.payload 10 2, be h.frame.payload 12 2⟩] }))) ∧
  (∀ (h : Held) (s : State), CmdTaken 0x0603 h s →
    exec .journalSet s = .next (respond St.ok 0 s.tick [] { s with
      ks.ring := some ⟨be h.frame.payload 0 8, be h.frame.payload 8 1, be h.frame.payload 9 1,
        if bitOf (be h.frame.payload 12 4) 31 then some (be h.frame.payload 12 4 % 2 ^ 20) else none⟩
      ks.wpos := 0, ks.jhead := 0, ks.full := false, ks.entries := s.ks.entries.map (fun e => { e with sent := false }) })) ∧
  (∀ (r : JRing) (s : State), s.ks.ring = some r → s.ks.entries.all (·.sent) = false → s.ks.streamTick = s.tick →
    (linkOpen s r.link = false → exec .journalStream s = .next (updateFull s)) ∧
    (linkOpen s r.link = true → s.ks.wpos ≠ s.ks.jhead → exec .journalStream s = .next (updateFull { (sendEntries r s.ks.entries s).2 with
      ks.entries := (sendEntries r s.ks.entries s).1.filter (fun e => !(e.mark && e.sent)) }))) ∧
  (∀ (e : JEntry) (s : State), sentUpTo s = some e → s.tick % 16 = 0 → s.ks.durableSeq < e.seq →
    exec .rootSlotWrite s = .next (settle { writeSlot e.seq e.chain s with
      ks.durableSeq := e.seq, ks.entries := s.ks.entries.filter (fun x => x.mark || decide (e.seq < x.seq)) })) ∧
  (∀ (r : JRing) (v : Nat) (s : State), s.hl.link0.up = true → s.ks.ring = some r → v < 2 ^ r.log → r.log ≤ 24 →
    ((v + 2 ^ r.log - s.ks.jhead) % 2 ^ r.log ≤ (s.ks.wpos + 2 ^ r.log - s.ks.jhead) % 2 ^ r.log →
      exec (.ksJhead v) s = .next (updateFull { s with ks.jhead := v })) ∧
    ((s.ks.wpos + 2 ^ r.log - s.ks.jhead) % 2 ^ r.log < (v + 2 ^ r.log - s.ks.jhead) % 2 ^ r.log →
      exec (.ksJhead v) s = .next (note 0x0D03 0 0xFFFF v 0 s))) ∧
  (∀ (v : Nat) (s : State), s.hl.link0.up = true → s.ks.ring = none → exec (.ksJhead v) s = .next (note 0x0D03 0 0xFFFF (v % 2 ^ 24) 0 s)) ∧
  (∀ (i t : Nat) (s : State), tblGet s.ks.held i = some t → t ≤ s.tick →
    exec (.holdDownExpiry i) s = .next { s with ks.held := tblDel s.ks.held i, ks.freed := tblPut s.ks.freed i t }) ∧
  (∀ (seg : Nat) (m : Migration) (s : State), s.ks.mig = some m → seg ∈ copying m → seg ∉ m.copied →
    (∀ i ∈ m.again, i / 2 ^ 20 ≠ seg) →
    exec (.migrationSegmentSwitch seg) s = .next { s with ks.mig := some { m with copied := m.copied ++ [seg] } }) ∧
  (∀ (seg : Nat) (m : Migration) (s : State), s.ks.mig = some m → m.copied = [seg] →
    (migrationPoint s).ks.recs = s.ks.recs.map (fun p => if p.1 / 2 ^ 20 = seg then (p.1, { p.2 with format := m.target }) else p) ∧
    (migrationPoint s).ks.mig = some { m with done := m.done ++ [seg], copied := [], again := [] } ∧
    (migrationPoint s).ks.format = if m.done.length + 1 = 128 then m.target else s.ks.format)

/-- Long commands of the key store (R240, R241) and its emptying (R243). Buffers too small: GRATE_RANGE, log entry 52. -/
def Obligations.TheStoreIsSavedReloadedAndEmptied : Prop :=
  (∀ (h : Held) (s : State), CmdTaken 0x0604 h s →
    (s.ks.state = 2 → migrating s = false → s.ks.snap = none → longsRunning s < 4 →
      (imageSize (segments s.ks.recs).length ≤ ((parseBufs (be h.frame.payload 0 4) (h.frame.payload.drop 8)).map (·.2)).sum →
        exec .snapshot s = .next (respond St.ok 0 s.tick (beBytes 8 (beginLong h.frame.code h.frame.payload s).1)
          { (beginLong h.frame.code h.frame.payload s).2 with
            ks.snap := some { opId := (beginLong h.frame.code h.frame.payload s).1, seq := s.ks.snapSeq + 1
                              bufs := parseBufs (be h.frame.payload 0 4) (h.frame.payload.drop 8) } })) ∧
      (((parseBufs (be h.frame.payload 0 4) (h.frame.payload.drop 8)).map (·.2)).sum < imageSize (segments s.ks.recs).length →
        exec .snapshot s = .next (respond St.grateRange 64 0 [] s))) ∧
    ((s.ks.state ≠ 2 ∨ migrating s = true ∨ s.ks.snap ≠ none ∨ 4 ≤ longsRunning s) →
      exec .snapshot s = .next (respond St.busy 0 0 [] s))) ∧
  (∀ (h : Held) (s : State), CmdTaken 0x0605 h s →
    (s.ks.state ≠ 4 → s.ks.loadOp = none → s.ks.snap = none → longsRunning s < 4 →
      exec .reload s = .next (respond St.ok 0 s.tick (beBytes 8 (beginLong h.frame.code h.frame.payload s).1)
        (refreshRegime { (beginLong h.frame.code h.frame.payload s).2 with
          ks.loadOp := some ((beginLong h.frame.code h.frame.payload s).1, s.ks.state), ks.loadSince := s.tick, ks.state := 1 }))) ∧
    (s.lc.ready = true → s.hc.gap = false → s.ks.loadOp ≠ none → refreshRegime s = setLive 2 s)) ∧
  (∀ (h : Held) (s : State), CmdTaken 0x0605 h s →
    (s.ks.state = 4 → exec .reload s = .next (respond St.stateForbids 0 0 [] s)) ∧
    (s.ks.state ≠ 4 → (s.ks.loadOp ≠ none ∨ s.ks.snap ≠ none ∨ 4 ≤ longsRunning s) →
      exec .reload s = .next (respond St.busy 0 0 [] s))) ∧
  (∀ (h : Held) (s : State), CmdTaken 0x0606 h s →
    (s.ks.state ≠ 4 → exec .storeEmpty s = .next (respond St.ok 0 s.tick [] (emptyStore s))) ∧
    (s.ks.state = 4 → exec .storeEmpty s = .next (respond St.stateForbids 0 0 [] s))) ∧
  (∀ s : State, (emptyStore s).ks.recs = [] ∧ (emptyStore s).ks.cache = [] ∧ (emptyStore s).ks.changes = [] ∧
    (emptyStore s).ks.storeGen = (s.ks.storeGen + 1) % 2 ^ 32 ∧ (emptyStore s).ks.held = s.ks.held ∧
    (emptyStore s).lc = s.lc ∧ (emptyStore s).prov = s.prov ∧ (emptyStore s).tick = s.tick)

/-- Component ceremonies (R234). The ceremony keys are drawn: free values (log entry 1, Config.cerEk and cerX25519). -/
def Obligations.CeremoniesOpenCollectAndCommit : Prop :=
  (∀ (h : Held) (s : State), CmdTaken 0x0607 h s → firstBad (placeNew [1, 2, 3, 4, 5] h.frame.payload) = none →
    (s.ks.cer = none → exec .cerOpen s = .next
      (let c : Ceremony := { id := s.ks.nextCer, place := octets h.frame.payload 0 64, domain := be h.frame.payload 64 2,
                             nonce := beBytes 32 (draw (draw s).2).1, seed := (draw s).1,
                             needed := (s.prov.rules.getD 5 ⟨0, 0, 0, 0⟩).kc, opened := s.tick }
       respond St.ok 0 s.tick (beBytes 8 c.id ++ c.nonce ++ octets (Config.cerEk c.seed) 0 1184 ++ octets (Config.cerX25519 c.seed) 0 32)
         { (draw (draw s).2).2 with ks.nextCer := c.id + 1, ks.cer := some c })) ∧
    (s.ks.cer ≠ none → exec .cerOpen s = .next (respond St.busy 0 0 [] s))) ∧
  (∀ (h : Held) (c : Ceremony) (s : State), CmdTaken 0x0608 h s → openCer s h.frame.payload = some c →
    1 ≤ be h.frame.payload 8 1 → be h.frame.payload 8 1 ≤ c.needed → (∀ q ∈ c.parts, q.1 ≠ be h.frame.payload 8 1) →
    be h.frame.payload 9 1 = kcvLenOf (le c.place 4 1) →
    ((∃ k ∈ custodians s h, k ∈ c.used) → exec .cerComponent s = .next (respond St.notAuthorised 0 0 [] s)) ∧
    ((∀ k ∈ custodians s h, k ∉ c.used) → exec .cerComponent s = .next
      (match cerOpened c (be h.frame.payload 8 1) (octets h.frame.payload 24 1088) (octets h.frame.payload 1112 32)
          (h.frame.payload.drop 1152) with
       | none => respond St.keyBlockInvalid 0 0 [] s
       | some m =>
         if lengthFits (le c.place 4 1) m.length = false then respond St.keyBlockInvalid 0 0 [] s
         else if octets (kcvOf (le c.place 4 1) m) 0 (kcvLenOf (le c.place 4 1)) ≠ octets h.frame.payload 16 (kcvLenOf (le c.place 4 1)) then
           respond St.keyCheckFailed 0 0 [] s
         else respond St.ok 0 s.tick []
           (let d := { c with parts := c.parts ++ [(be h.frame.payload 8 1, m)], used := c.used ++ custodians s h }
            { s with ks.cer := some d })))) ∧
  (∀ (h : Held) (c : Ceremony) (s : State), CmdTaken 0x0609 h s → openCer s h.frame.payload = some c → s.ks.ring.isSome = true →
    c.needed ≤ c.parts.length →
    ((∃ q ∈ c.parts, q.2 = combined c) → exec .cerCommit s = .next (respond St.keyCheckFailed 0 0 [] s)) ∧
    ((∀ q ∈ c.parts, q.2 ≠ combined c) → isTdes (le c.place 4 1) = false → exec .cerCommit s = .next
      (match placement s c.domain c.place (namedKey c.place 4 (combined c)) with
       | .inl e => respond e.1 e.2 0 [] s
       | .inr (i, r) => respondAt (s.tick + 1) (beBytes 4 (r.gen * 2 ^ 27 + i) ++ beBytes 4 0 ++ octets r.kcv 0 8) { s with ks.cer := none, ks.changes := s.ks.changes ++ [{ kind := .place i r }] }))) ∧
  (∀ (h : Held) (c : Ceremony) (s : State), CmdTaken 0x060A h s → openCer s h.frame.payload = some c →
    exec .cerAbort s = .next (respond St.ok 0 s.tick [] { s with ks.cer := none })) ∧
  (∀ (c : Ceremony) (s : State), s.ks.cer = some c → c.opened + 2 ^ 29 ≤ s.tick →
    exec .ceremonyExpiry s = .next { s with ks.cer := none }) ∧
  (∀ (h : Held) (s : State), ∀ c ∈ [(0x0608, Instr.cerComponent), (0x0609, .cerCommit), (0x060A, .cerAbort)], CmdTaken c.1 h s →
    openCer s h.frame.payload = none → exec c.2 s = .next (respond St.grateRange 64 0 [] s))

/-- Lanes (R261 to R270) and READMIT (R137, R265, R391). -/
def Obligations.LanesFaultRetestAndRotate : Prop :=
  (∀ (n k : Nat) (s : State), n < 152 → (lane s n).state = 0 → (lane s n).slot = some k → s.ln.slotDue = [] → s.ln.replays = [] →
    s.ln.hands = [] → exec (.laneBeatMismatch n) s = .next (refillSlot n k [⟨n, k, 0, false⟩] (faultLane n s))) ∧
  (∀ (n hold : Nat) (r : LaneReplay) (s : State), s.ln.replays.find? (fun x => decide (x.lane = n)) = some r → r.reserved = false →
    exec (.laneReplayDone n hold) s = .next (faultNote n r.slot r.runs hold (releaseHold (r.slot / 4)
      (modLane n (fun l => { l with holdPeak := max l.holdPeak hold }) (modLane r.runs (fun l => { l with replays := satAdd 32 l.replays 1 })
        { s with ln.replays := s.ln.replays.filter (fun x => decide (x.lane ≠ n)) }))))) ∧
  (∀ (n id : Nat) (w : Work) (s : State), work s id = some w → w.unit = .hostLane → w.phase = .unit → w.place = some n →
    unitHead s .hostLane n = some id → (lane s n).state = 0 →
    (w.rerun = true → exec (.hostLaneMismatch n id) s =
      .next (settle (moveOps n (laneEnd id { status := St.laneFault, detail := n, wrote := some w.pos } (faultLane n s))))) ∧
    (w.rerun = false → exec (.hostLaneMismatch n id) s =
      .next (settle (moveOps n (modWork id (fun w => { w with rerun := true }) (faultLane n s)))))) ∧
  (∀ (n id : Nat) (w : Work) (s : State), work s id = some w → w.unit = .hostLane → w.phase = .unit → w.place = some n →
    unitHead s .hostLane n = some id → w.asked = true → fetchOpen s w = false → (w.pos ≠ 0 ∨ w.aad = true) →
    ((w.key 0).bad = false → exec (.hostLaneChunkEnd id .error none) s =
      .next (settle (laneEnd id { status := St.hostDmaError, wrote := some w.pos } (modWork id (fun w => { w with asked := false }) s)))) ∧
    ((w.key 0).bad = true → ∀ r, exec (.hostLaneChunkEnd id r none) s =
      .next (settle (laneEnd id { status := St.keyIntegrity, detail := 1, wrote := some w.pos }
        (modWork id (fun w => { w with asked := false }) s)))) ∧
    (∀ r a x, fenceBlocks (modWork id (fun w => { w with asked := false }) s) (w.grant.getD s.tick) a (0x500 + n) = some x → exec (.hostLaneChunkEnd id r (some a)) s =
      .next (settle (laneEnd id { status := St.fenceViolation, wrote := some w.pos }
        (violate (w.grant.getD s.tick) a (0x500 + n) x (modWork id (fun w => { w with asked := false }) s)))))) ∧
  (∀ (n id : Nat) (w : Work) (bs : List Byte) (s : State), work s id = some w → w.unit = .hostLane → w.phase = .unit → w.place = some n →
    unitHead s .hostLane n = some id → w.asked = true → fetchOpen s w = false → (w.key 0).bad = false →
    (w.pos ≠ 0 ∨ w.aad = true) → w.rerun = false → w.squash = 0 →
    w.pos + (if (nextChunk w).1 then 0 else (octets bs 0 (nextChunk w).2.2).length) < w.sub.inLen →
    exec (.hostLaneChunkEnd id (.data bs) none) s = .next
      (let d := octets bs 0 (nextChunk w).2.2
       let y := runChunk w (w.key 0).rec_.material d
       let w' := { w with pos := w.pos + (if (nextChunk w).1 then 0 else d.length), aad := w.aad || (nextChunk w).1, ckpt := y.2, rerun := false
                          asked := false }
       laneReads n (toBack id (modWork id (fun _ => w') (addUsage w.sub.domain 8 0 0 d.length
         (writeBulk w (w.sub.outAddr + w.pos) y.1 (laneFrame n d.length y.1.length (modWork id (fun w => { w with asked := false }) s)))))))) ∧
  (∀ (n : Nat) (s : State), 152 ≤ n → n < 160 → (lane s n).state = 0 → (lane s n).slot = none → hostIdle s n = true →
    exec (.spareKatFault n) s = .next (faultNote n 0xFFFF 0xFFFF 0 (modLane n (fun l => { l with katOk := false }) (faultLane n s)))) ∧
  (∀ (n : Nat) (s : State), n < 160 →
    ((lane s n).state = 2 → (lane s n).stTick + 16 ≤ s.tick →
      exec (.laneRetestStart n) s = .next (modLane n (fun l => { l with state := 3, stTick := s.tick }) s)) ∧
    ((lane s n).state = 3 → (lane s n).stTick + 2 ^ 16 ≤ s.tick → exec (.laneRetestEnd n false) s =
      .next (modLane n (fun l => { l with stTick := s.tick, katOk := false, state := 4, since := s.tick, back := false, mismatch := satAdd 32 l.mismatch 1 }) s)) ∧
    ((lane s n).state = 3 → (lane s n).stTick + 2 ^ 16 ≤ s.tick → 152 ≤ n → exec (.laneRetestEnd n true) s =
      .next (modLane n (fun l => { l with stTick := s.tick, katOk := true, passes := satAdd 24 l.passes 1, state := 0, since := s.tick,
                                          readmit := l.readmit || l.back, back := false }) s))) ∧
  (∀ (d o i k r : Nat) (s : State), d < 2 → s.ln.rotEn = true → s.tick % 2 ^ s.ln.rotLog = 0 → s.tick ≠ 0 →
    tblGet s.ln.rotTick d ≠ some s.tick → 2 ≤ (spares s d).length → (∀ h ∈ s.ln.hands, h.die ≠ d) → outgoing s d = some o →
    longest s (spares s d) = some i → (lane s o).slot = some k → longest s ((spares s d).filter (fun n => decide (n ≠ i))) = some r →
    ∃ t, exec (.laneRotationStart d) s = .next t ∧ t.ln.hands = s.ln.hands ++ [⟨d, o, r, k, none⟩] ∧ t.ln.rotTick = tblPut s.ln.rotTick d s.tick ∧
      t.pt = s.pt ∧ t.wk = s.wk ∧ t.tick = s.tick) ∧
  (∀ (d : Nat) (h : Handover) (s : State), s.ln.hands.find? (fun h => decide (h.die = d)) = some h → (lane s h.out).state = 5 →
    (h.emptied = none → (∀ r ∈ s.ln.replays, r.runs ≠ h.out) → exec (.handoverEnd d) s = .next { s with
      ln.hands := s.ln.hands.map (fun x => if x.die = d then { x with emptied := some s.tick } else x) }) ∧
    (∀ t, h.emptied = some t → t + 2 ^ 10 ≤ s.tick → exec (.handoverRetestEnd d) s = .next
      { modLane h.out (fun l => { l with state := 1, stTick := s.tick, since := s.tick, katOk := true, passes := satAdd 24 l.passes 1 }) s with
        ln.hands := s.ln.hands.filter (fun x => decide (x.die ≠ d)) })) ∧
  (∀ (h : Held) (s : State), CmdTaken 0x0506 h s → exec .laneSet s = .next (respond St.ok 0 s.tick []
    { s with ln.rotEn := decide (be h.frame.payload 0 1 = 1), ln.rotLog := be h.frame.payload 1 1, ln.duty := be h.frame.payload 2 1 })) ∧
  (∀ (h : Held) (p : Bool) (s : State), CmdTaken 0x0505 h s →
    (be h.frame.payload 0 1 = 1 → be h.frame.payload 2 2 < 160 → (lane s (be h.frame.payload 2 2)).state = 4 →
      (lane s (be h.frame.payload 2 2)).readmit = false → exec (.readmit p) s = .next (respond St.ok 0 s.tick []
        (modLane (be h.frame.payload 2 2) (fun l => { l with state := 3, stTick := s.tick, back := true }) s))) ∧
    (be h.frame.payload 0 1 = 2 → be h.frame.payload 2 2 < 64 → (pkUnit s (be h.frame.payload 2 2)).retired = true →
      (pkUnit s (be h.frame.payload 2 2)).readmit = false → exec (.readmit p) s = .next (respond St.ok 0 s.tick []
        (if p then modPk (be h.frame.payload 2 2) (fun k => { k with retired := false, readmit := true, scores := [], retireDue := false }) s else s))) ∧
    (be h.frame.payload 0 1 = 0 → be h.frame.payload 2 2 < 1024 → (engine s (be h.frame.payload 2 2)).estate = 2 →
      (engine s (be h.frame.payload 2 2)).readmit = false → (engine s (be h.frame.payload 2 2)).retest = none →
      (∀ t ∈ s.tk.tasks, ¬(t.kind = 3 ∧ t.arg = be h.frame.payload 2 2)) → exec (.readmit p) s = .next (respond St.ok 0 s.tick []
        (raiseRetest (be h.frame.payload 2 2) s))))

/-- Ports and links (R276 to R283). -/
def Obligations.PortsAreSetTrainedAndFail : Prop :=
  (∀ (h : Held) (s : State), CmdTaken 0x0801 h s →
    (outOfService (port s (be h.frame.payload 0 1)) = false →
      (be h.frame.payload 1 1 = 0 → portRange s h.frame.payload = none → exec .portSet s = .next (respond St.ok 0 s.tick []
        (setPort (be h.frame.payload 0 1) 1 7 (stopTraffic (be h.frame.payload 0 1) s)))) ∧
      (be h.frame.payload 1 1 ≠ 0 → exec .portSet s = .next (respond St.stateForbids 0 0 [] s))) ∧
    (outOfService (port s (be h.frame.payload 0 1)) = true →
      (∀ d, portRange s h.frame.payload = some d → exec .portSet s = .next (respond St.grateRange d 0 [] s)) ∧
      (portRange s h.frame.payload = none → exec .portSet s = .next
        (let n := be h.frame.payload 0 1
         let t := chooseSource (modPort n (fun x => newPort x h.frame.payload s) s)
         respond St.ok 0 t.tick [] (if be h.frame.payload 1 1 = 0 then setPort n 0 7 t
           else if (dirLanes t n 0).isEmpty || (dirLanes t n 1).isEmpty then setPort n 6 5 t else startTraining n t))))) ∧
  (∀ (p k : Nat) (l : Lnk) (s : State), lnk s p k = some l → outOfService (port s p) = false → l.held = false →
    (l.up = true → exec (.lossOfSignal p k) s = .next (linkGoesDown p k 1 s) ∧ exec (.lossOfAlignment p k) s = .next (linkGoesDown p k 2 s) ∧
      exec (.remoteFault p k) s = .next (linkGoesDown p k 3 s)) ∧
    (l.up = false → l.training = none → ∀ i ∈ [Instr.lossOfSignal p k, .lossOfAlignment p k],
      exec i s = .next (modLnk p k (fun l => { l with training := some s.tick, fresh := false, remote := false }) s)) ∧
    (l.up = false → l.training = none → l.since + 2 ^ 12 ≤ s.tick → exec (.linkUp p k) s =
      .next (portFromLinks p 0 (modLnk p k (fun l => { l with up := true, remote := false }) s)))) ∧
  (∀ (p k t : Nat) (l : Lnk) (s : State), lnk s p k = some l → l.training = some t → outOfService (port s p) = false →
    (s.tick < t + 2 ^ 17 → exec (.trainingEnd p k true) s = .next (portFromLinks p 0
      (modLnk p k (fun l => { l with training := none, since := s.tick, up := l.fresh, fresh := false })
        (modPort p (fun x => { x with cal := x.cal ||| 2 ^ s.tk.band, sdCons := false, band := s.tk.band, trainTick := s.tick, pend := false }) s)))) ∧
    (t + 2 ^ 17 ≤ s.tick → ∀ b : Bool, exec (.trainingEnd p k b) s = .next (linkGoesDown p k 6 s))) ∧
  (∀ (p k : Nat) (l : Lnk) (s : State), linkUp s p k = true → lnk s p k = some l →
    ((l.fecTicks.filter (fun t => decide (s.tick < t + 2 ^ 16))).length < 16 → exec (.fecUncorrectable p k) s =
      .next (modLnk p k (fun x => { x with fecTicks := l.fecTicks.filter (fun t => decide (s.tick < t + 2 ^ 16)) ++ [s.tick] })
        (modCnt p (fun c => { c with fecUncorr := satAdd 32 c.fecUncorr 1 }) s))) ∧
    (16 ≤ (l.fecTicks.filter (fun t => decide (s.tick < t + 2 ^ 16))).length → exec (.fecUncorrectable p k) s =
      .next (note 0x0B02 1 p k 0 (modLnk p k (fun x => { x with fecTicks := [] }) (modCnt p (fun c => { c with fecUncorr := satAdd 32 c.fecUncorr 1 }) s))))) ∧
  (∀ (t : Nat) (s : State), s.pt.serdesAt = some t → t + 4 ≤ s.tick → s.pt.serdesLane < 127 →
    (s.pt.serdesLane % 8 ≠ 7 → exec .serdesBandApply s = .next { s with pt.serdesAt := some s.tick, pt.serdesLane := s.pt.serdesLane + 1 }) ∧
    (s.pt.serdesLane % 8 = 7 → bitOf (port s (s.pt.serdesLane / 8)).cal s.tk.band = true →
      bitOf (port s (16 + s.pt.serdesLane / 8)).cal s.tk.band = true → exec .serdesBandApply s = .next
        (let u := modPort (16 + s.pt.serdesLane / 8) (fun x => { x with band := s.tk.band })
          (modPort (s.pt.serdesLane / 8) (fun x => { x with band := s.tk.band }) s)
         { u with pt.serdesAt := some s.tick, pt.serdesLane := s.pt.serdesLane + 1 }))) ∧
  (∀ (p : Nat) (s : State), (port s p).pend = true → (port s p).auto = true → outOfService (port s p) = false →
    s.tk.bandTick + 2 ^ 20 ≤ s.tick → (∀ q ∈ s.pt.ports, q.1 ≠ p → q.1 / 16 = p / 16 → q.2.state ≠ 2) → s.pt.source ≠ some p →
    exec (.autoRetrainStart p) s = .next (startTraining p (stopTraffic p s)))

/-- Frames (R258, R279, R288, R289) and associations (R256, R257, R413). The frame layout is that of IEEE 802.1AE: PRESUMED, log entry 27. Which lane of a pair takes a frame is free: log entry 26. -/
def Obligations.FramesArePassedAnsweredOrDropped : Prop :=
  (∀ (p k : Nat) (f : List Byte) (s : State), linkUp s p k = true → ((port s p).role = 1 ∨ ((port s p).role = 3 ∧ isJoin f = false)) →
    lanesStopped s = false → onlyPtp s = false →
    (inRoom (port (rxFrame p f.length s) p) ⟨k, false, [], f, f.length, s.tick⟩ = true → exec (.macsecFrame p k f) s =
      .next (ingress p (modPort p (fun x => { x with inq := x.inq ++ [⟨k, false, [], f, f.length, s.tick⟩] }) (rxFrame p f.length s)))) ∧
    (inRoom (port (rxFrame p f.length s) p) ⟨k, false, [], f, f.length, s.tick⟩ = false →
      exec (.macsecFrame p k f) s = .next (dropFull p (rxFrame p f.length s)))) ∧
  (∀ (p k : Nat) (f : List Byte) (s : State), lanesStopped s = true → onlyPtp s = false →
    exec (.macsecFrame p k f) s = .next s) ∧
  (∀ (p : Nat) (f : InFrame) (s : State),
    (lanesStopped s = true → ingress p s = s) ∧
    (lanesStopped s = false → ingressHeld s p = false → (port s p).inq = [f] →
      (∀ n t, dispatchIn p f (modPort p (fun x => { x with inq := [] }) s) = (some n, t) →
        ingress p s = modPort p (fun x => { x with inq := [] }) (laneRun p n f t)) ∧
      (∀ t, dispatchIn p f (modPort p (fun x => { x with inq := [] }) s) = (none, t) →
        ingress p s = modPort p (fun x => { x with inq := [f] }) t)) ∧
    (∀ n, f.tpc = false → laneRun p n f s = receiveMacsec p f.sub n f.data s)) ∧
  (∀ (p k n : Nat) (f : List Byte) (s : State),
    (f.length < (if (decide (be f 12 2 = 0x88E5)) && bitOf (be f 14 1) 5 then 44 else 36) ∨ 9216 < f.length →
      receiveMacsec p k n f s = modLane n (fun l => { l with lenDrop := satAdd 32 l.lenDrop 1 }) s) ∧
    (36 ≤ f.length → f.length ≤ 9216 → be f 12 2 ≠ 0x88E5 →
      receiveMacsec p k n f s = modCnt p (fun c => { c with noSectag := satAdd 32 c.noSectag 1 }) s) ∧
    (44 ≤ f.length → f.length ≤ 9216 → be f 12 2 = 0x88E5 → bitOf (be f 14 1) 5 = true → (port s p).role = 1 →
      (∀ a ∈ s.ln.sas, a.place ≠ (p, k, 0, be f 14 1 % 4, be f 20 8)) →
      receiveMacsec p k n f s = modCnt p (fun c => { c with unknownSa := satAdd 32 c.unknownSa 1 }) s)) ∧
  (∀ (p k : Nat) (f : List Byte) (s : State), linkUp s p k = true →
    exec (.macControlFrame p k f) s = .next (modCnt p (fun c => { c with ctrlDrop := satAdd 32 c.ctrlDrop 1 }) (rxFrame p f.length s)) ∧
    (termTakes s p k = true → acceptedFrame s p k f = false →
      inRoom (port (rxFrame p f.length s) p) ⟨k, false, [], f, f.length, s.tick⟩ = true →
      exec (.otherFrame p k f) s = .next (dropOther p (rxFrame p f.length s)))) ∧
  (∀ (p k : Nat) (f : List Byte) (s : State), termTakes s p k = true → onlyPtp s = false → (subAddr s p k).vlan = 0 →
    inRoom (port (rxFrame p f.length s) p) ⟨k, false, [], f, f.length, s.tick⟩ = true →
    be f 12 2 = 0x0806 → octets (f.drop 14) 0 8 = beBytes 8 0x0001080006040001 → be (subAddr s p k).ip4 0 4 ≠ 0 →
    octets (f.drop 14) 24 4 = (subAddr s p k).ip4 →
    exec (.arpRequest p k f) s = .next
      (let answer := etherHead (subAddr s p k) (octets (f.drop 14) 8 6) 0x0806 ++ beBytes 8 0x0001080006040002 ++ (subAddr s p k).mac ++
        (subAddr s p k).ip4 ++ octets (f.drop 14) 8 6 ++ octets (f.drop 14) 14 4
       portOut p k answer.length (.frame p k answer) none (rxFrame p f.length s))) ∧
  (∀ (p k : Nat) (f : List Byte) (s : State), termTakes s p k = true → onlyPtp s = false → (subAddr s p k).vlan = 0 →
    inRoom (port (rxFrame p f.length s) p) ⟨k, false, [], f, f.length, s.tick⟩ = true →
    be f 12 2 = 0x86DD → be f 20 1 = 58 → be f 21 1 = 255 → be f 54 2 = 0x8700 → be (subAddr s p k).ip6 0 16 ≠ 0 →
    octets (f.drop 54) 8 16 = (subAddr s p k).ip6 → ∃ answer, exec (.neighborSolicitation p k f) s =
      .next (portOut p k answer.length (.frame p k answer) none (rxFrame p f.length s))) ∧
  (∀ (h : Held) (s : State), CmdTaken 0x0802 h s →
    exec .saSet s = .next
      (let k := switchAt (be h.frame.payload 0x30 8) s
       let a := parseSa h.frame.payload k
       let x := port s a.port
       if x.role ≠ 1 ∧ x.role ≠ 3 then respond St.grateRange 68 0 [] s
       else if 2 ^ x.split ≤ a.subport then respond St.grateRange 69 0 [] s
       else if saRoom s a = false then respond St.grateRange 80 0 [] s
       else match keyTests x.owner [(1, keyRead s a.sak, false, sakRole a (keyRead s a.sak).rec_)] with
         | some e => respond (if e.1 = St.keyIntegrity then e.1 else St.usageForbidden) 1 0 [] s
         | none => respondAt k [] { s with ln.saArmed := s.ln.saArmed ++ [a] })) ∧
  (∀ (h : Held) (s : State), CmdTaken 0x0803 h s →
    ((∃ a ∈ s.ln.sas ++ s.ln.saArmed, a.place = (be h.frame.payload 0 1, be h.frame.payload 1 1, be h.frame.payload 2 1, be h.frame.payload 3 1,
        be h.frame.payload 8 8)) →
      exec .saRemove s = .next (respondAt (switchAt (be h.frame.payload 16 8) s) [] { s with ln.saGone := s.ln.saGone ++ [⟨be h.frame.payload 0 1, be h.frame.payload 1 1, be h.frame.payload 2 1, be h.frame.payload 3 1,
          be h.frame.payload 8 8, switchAt (be h.frame.payload 16 8) s⟩] })) ∧
    ((∀ a ∈ s.ln.sas ++ s.ln.saArmed, a.place ≠ (be h.frame.payload 0 1, be h.frame.payload 1 1, be h.frame.payload 2 1, be h.frame.payload 3 1,
        be h.frame.payload 8 8)) → exec .saRemove s = .next (respond St.grateRange 72 0 [] s)))

/-- Endpoint messages (R285, R293, R301, R303 to R305, R340). -/
def Obligations.EndpointMessagesAreOpenedAndPassed : Prop :=
  (∀ (p k : Nat) (f src d : List Byte) (s : State), termTakes s p k = true → tpcOf s p k f = some (src, d) →
    (∀ c ∈ [(0x10, Instr.tpcRequest p k f), (0x14, .tpcReply p k f), (0x20, .tpcKeepalive p k f), (0x21, .tpcClose p k f)],
      be d 1 1 = c.1 → exec c.2 s = .next (match arrive p k src d s with
        | .dropped t => t
        | .held t => ingress p t
        | .clear _ _ t => t)) ∧
    (be d 1 1 ∉ [0x01, 0x10, 0x14, 0x20, 0x21] → exec (.tpcOtherType p k f) s = .next (match arrive p k src d s with
      | .dropped t => t
      | .held t => ingress p t
      | .clear _ x t => refuseEarly (infoOf t p x (octets d 0 32)) (headerNote d) St.grateRange 0 65535 t)) ∧
    (be d 1 1 = 0x01 → exec (.tpcHello p k f) s = .next (match arrive p k src d s with
      | .dropped t => t
      | .held t => ingress p t
      | .clear e x t =>
        let h : Hello := { header := octets d 0 32, payload := octets d 32 (be d 18 2), port := p, subport := k, src }
        if x.helloSeq.any (fun q => decide (be d 8 8 ≤ q)) then modCnt p (fun c => { c with tpcReplay := satAdd 32 c.tpcReplay 1 }) t
        else if (port t p).hsRate ≤ hsStarted t p then
          sendReject e h St.refusedLoad 0 (refuseDisp t 1 (min 65535 ((hsWindow t + 1) * 2 ^ 19 - t.tick))) t
        else if x.hello.isSome then sendReject e h St.refusedLoad 0 (refuseDisp t 1 t.tk.cfg.heartLimit) t
        else
          let w : Work := { src := .handshake e, sub := { func := 0, note := 1, domain := x.domain }, acct := 4096 + p, reqNote := 1, note := 1,
                            elig := t.tick + 1, since := t.tick + 1, staged := true, unit := .pk }
          let u := modPort p (fun y => { y with hsWindow := hsWindow t, hsCount := hsStarted t p + 1 }) t
          addWork w (modEp e (fun x => { x with helloSeq := some (be d 8 8), hello := some h }) u)))) ∧
  (∀ (p n : Nat) (f : InFrame) (x : Ep) (new : Bool) (set : KeySet) (s : State), f.tpc = true → sessionOf s p f.data = some (x, some (new, set)) →
    (Config.gcmOpen set.kem (set.sem ++ octets f.data 8 8) (octets f.data 0 32) (f.data.drop 32) = none →
      laneRun p n f s = modLane n (fun l => { l with icvFail := satAdd 32 l.icvFail 1 }) s) ∧
    (∀ body, Config.gcmOpen set.kem (set.sem ++ octets f.data 8 8) (octets f.data 0 32) (f.data.drop 32) = some body →
      (set.accept (be f.data 8 8) = none → laneRun p n f s =
        modCnt p (fun c => { c with tpcReplay := satAdd 32 c.tpcReplay 1 }) (laneFrame n f.data.length body.length s)) ∧
      (∀ next, set.accept (be f.data 8 8) = some next → laneRun p n f s =
        (let v := verified (be f.data 4 4) p f new next (laneFrame n f.data.length body.length s)
         opened (be f.data 4 4) p (octets f.data 0 32) (octets body 0 (be f.data 18 2)) (if v.1 then sendHeld (be f.data 4 4) v.2 else v.2))))) ∧
  (∀ (e p : Nat) (h body : List Byte) (s : State),
    (be h 1 1 = 0x10 ∨ be h 1 1 = 0x14 → opened e p h body s = messagePass e p h body s) ∧
    (be h 1 1 = 0x20 → opened e p h body s = (badNote e p h s).getD
      (if reachable s e then closeIfSpent e (sendSeq e 0x20 (headerNote h) 0 (be h 20 4) 0 [] none s).2 else s)) ∧
    (be h 1 1 = 0x21 → opened e p h body s = (badNote e p h s).getD (modEp e Ep.idle s)) ∧
    (∀ x, be h 1 1 ∉ [0x10, 0x14, 0x20, 0x21] → ep s e = some x →
      opened e p h body s = refuseEarly (infoOf s p x h) (headerNote h) St.grateRange 0 65535 s)) ∧
  (∀ (id : Nat) (m : OutMsg) (s : State), tblGet s.pt.ready id = some m → (reachable s m.ep = false ∨ outRoom s m = true) →
    exec (.responseReady id) s = .next (deliverOrHold m { s with pt.ready := tblDel s.pt.ready id })) ∧
  (∀ (e : Nat) (m : OutMsg) (s : State), s.pt.held.find? (fun m => decide (m.ep = e)) = some m → m.since + 2 ^ 16 ≤ s.tick →
    exec (.resumeWindowEnd e) s = .next (discardOut m { s with pt.held := s.pt.held.erase m }))

/-- Endpoints and sessions (R296, R297, R301 to R303, R309). What a certificate reads as is the implementation's: Config.certRead (log entry 3). -/
def Obligations.EndpointsAreLoadedAndTheirSessionsEnd : Prop :=
  (∀ (h : Held) (s : State), CmdTaken 0x0804 h s → ep s (be h.frame.payload 0 4) = none →
    exec .epLoad s = .next
      (if anchorOk s (be h.frame.payload 4 2) (be h.frame.payload 8 4) = false then respond St.certRejected 4 0 [] s
       else if s.tk.utcValid = false then respond St.certRejected 5 0 [] s else
       let r := (keyRead s (be h.frame.payload 8 4)).rec_
       match Config.certRead (be h.frame.payload 7 1) r.type r.material (octets h.frame.payload 32 (be h.frame.payload 16 2)) with
       | none => respond St.certRejected 1 0 [] s
       | some (sig, nb, na, fits, spki) =>
         if sig = false then respond St.certRejected 1 0 [] s
         else if utcSeconds s < (nb : Int) ∨ (na : Int) < utcSeconds s then respond St.certRejected 2 0 [] s
         else if fits = false then respond St.certRejected 3 0 [] s
         else
           let x : Ep := { domain := be h.frame.payload 4 2, topOk := bitOf (be h.frame.payload 6 1) 0, baseOk := bitOf (be h.frame.payload 6 1) 1,
                           alg := be h.frame.payload 7 1, anchor := be h.frame.payload 8 4, mask := be h.frame.payload 12 4,
                           spki := Config.sha384 spki, notAfter := na }
           respond St.ok 0 s.tick [] { s with pt.eps := tblPut s.pt.eps (be h.frame.payload 0 4) x })) ∧
  (∀ (h : Held) (s : State), CmdTaken 0x0804 h s → ep s (be h.frame.payload 0 4) ≠ none →
    exec .epLoad s = .next (respond St.stateForbids 0 0 [] s)) ∧
  (∀ (h : Held) (s : State), CmdTaken 0x0805 h s →
    (ep s (be h.frame.payload 0 4) = none → exec .epRemove s = .next (respond St.grateRange 64 0 [] s)) ∧
    (ep s (be h.frame.payload 0 4) ≠ none → exec .epRemove s = .next
      (let t := closeSession (be h.frame.payload 0 4) s
       let u := (t.pt.held.filter (fun m => decide (m.ep = be h.frame.payload 0 4))).foldl (fun s m => discardOut m s)
         { t with pt.held := t.pt.held.filter (fun m => decide (m.ep ≠ be h.frame.payload 0 4)) }
       respond St.ok 0 u.tick [] { u with pt.eps := tblDel u.pt.eps (be h.frame.payload 0 4) }))) ∧
  (∀ (h : Held) (s : State), CmdTaken 0x0806 h s →
    exec .epQuery s = .next (respond St.ok 0 s.tick (epRecord s (be h.frame.payload 0 4)) s)) ∧
  (∀ (e id : Nat) (x : Ep) (w : Work) (h : Hello) (s : State), ep s e = some x → handshakeWork s e = some (id, w) → x.hello = some h →
    (∃ t, h.done = some t ∧ t < s.tick) → exec (.handshakeDone e) s = .next
      (let t := dropWork id (countUsage id s)
       if handshakeOk t x h = true then acceptHello e x h (countStatus (finalStatus w 0) t)
       else sendReject e h St.certRejected 0 (workDisp t w 0) (modEp e (fun x => { x with hello := none }) t))) ∧
  (∀ (e : Nat) (x : Ep) (s : State), ep s e = some x →
    (x.state = 2 → x.acceptAt + 2 ^ 16 ≤ s.tick → exec (.acceptTimeout e) s =
      .next (modEp e (fun x => { x with next := none, nextSrc := none, state := if x.cur.isSome then x.back else 1 }) s)) ∧
    (x.state = 3 → x.lastRx + 2 ^ (port s x.port).idleLog ≤ s.tick → exec (.sessionIdleTimeout e) s =
      .next (modEp e (fun x => { x with state := 4, dormantAt := s.tick }) s)) ∧
    (x.state = 2 → x.back = 3 → x.lastRx + 2 ^ (port s x.port).idleLog ≤ s.tick → exec (.sessionIdleTimeout e) s =
      .next (modEp e (fun x => { x with back := 4, dormantAt := s.tick }) s)) ∧
    (x.state = 4 → x.dormantAt + 2 ^ 24 ≤ s.tick → exec (.dormantTimeout e) s = .next (modEp e Ep.idle s)) ∧
    (x.state = 2 → x.back = 4 → x.dormantAt + 2 ^ 24 ≤ s.tick → exec (.dormantTimeout e) s =
      .next (modEp e (fun x => { x with cur := none, back := 1 }) s)) ∧
    (s.tk.utcValid = true → 2 ≤ x.state → (x.notAfter : Int) < utcSeconds s → exec (.certExpiry e) s = .next (closeSession e s)))

/-- PTP (R310, R311). The layout of the messages is that of IEEE 1588: PRESUMED, log entry 28. -/
def Obligations.TimeIsTakenFromAMaster : Prop :=
  (∀ (p k via : Nat) (f d : List Byte) (t : Int) (s u : State), ptpTakes s p k = true → ptpOf s p k f = some (via, d) →
    u = rxFrame p f.length s → inRoom (port u p) ⟨k, false, [], f, f.length, s.tick⟩ = true →
    (∀ c ∈ [(0, Instr.ptpSync p k f t), (8, .ptpFollowUp p k f), (9, .ptpDelayResp p k f t), (11, .ptpAnnounce p k f)],
      be d 0 1 % 16 = c.1 → (ptpGood c.1 d = false ∨ be d 4 1 ≠ s.pt.ptpDomain) → exec c.2 s = .next (ptpReject p u)) ∧
    (be d 4 1 = s.pt.ptpDomain → ∀ x, (port u p).ptp = x →
      (be d 0 1 % 16 = 11 → ptpGood 11 d = true → x.master = some (senderOf d) → exec (.ptpAnnounce p k f) s =
        .next (modPtp p (fun _ => { x with
          quality := qualityOf d, interval := announceTicks (signedAt d 33 1), heard := s.tick
          utcOff := if bitOf (be d 7 1) 3 then signedAt d 44 2 * 10 ^ 9 else 0 }) u)) ∧
      (be d 0 1 % 16 = 0 → ptpGood 0 d = true → x.master = some (senderOf d) → bitOf (be d 6 1) 1 = true →
        exec (.ptpSync p k f t) s = .next (modPtp p (fun x => { x.clear with
          heard := s.tick, seq := be d 30 2, t2 := some t, followUp := true, exTick := s.tick, via, sub := k, corr := correctionOf d }) u)) ∧
      (x.master = some (senderOf d) → x.seq = be d 30 2 → x.t2 ≠ none → s.tick ≤ x.exTick + 2 ^ 12 →
        (be d 0 1 % 16 = 8 → ptpGood 8 d = true → x.followUp = true → (originSeen p (stampAt d 34) u).1 = false →
          exec (.ptpFollowUp p k f) s = .next (sendDelayReq p (modPtp p (fun x => { x with
            t1 := some (stampAt d 34 + ((port u p).ptp.corr + correctionOf d)), followUp := false, exTick := s.tick })
            (originSeen p (stampAt d 34) u).2))) ∧
        (∀ t1 t2, be d 0 1 % 16 = 9 → ptpGood 9 d = true → x.t1 = some t1 → x.t2 = some t2 →
          octets d 44 10 = ptpIdentity (subAddr u p x.sub) → exec (.ptpDelayResp p k f t) s = .next
            (let v := chooseSource (modPtp p (fun x => { x.clear with lock := true }) u)
             if v.pt.source ≠ some p then v
             else filterOffset p (((t1 - t2) + (stampAt d 34 - correctionOf d - t)) / 2 - x.utcOff + (v.tick * tickNs : Nat) - (utcNow v).getD 0) v))) ∧
      (x.master = some (senderOf d) → x.seq = be d 30 2 → x.t2 ≠ none → x.exTick + 2 ^ 12 < s.tick → be d 0 1 % 16 = 9 → ptpGood 9 d = true →
        exec (.ptpDelayResp p k f t) s = .next (ptpReject p (modPtp p PtpIn.clear u))))) ∧
  (∀ (p : Nat) (t : Int) (s : State), (port s p).ptp.t2 = some t → (port s p).ptp.exTick + 2 ^ 12 < s.tick →
    exec (.ptpExchangeTimeout p) s = .next (ptpReject p (modPtp p PtpIn.clear s))) ∧
  (∀ (p : Nat) (s : State), (port s p).ptp.master ≠ none → (port s p).ptp.heard + 3 * (port s p).ptp.interval ≤ s.tick →
    exec (.ptpLockLoss p) s = .next (ptpUnlock p s)) ∧
  (∀ (h : Held) (s : State), CmdTaken 0x0807 h s →
    (be h.frame.payload 0 1 ≤ 127 → exec .ptpSet s = .next (respond St.ok 0 s.tick [] { s with pt.ptpDomain := be h.frame.payload 0 1 })) ∧
    (127 < be h.frame.payload 0 1 → exec .ptpSet s = .next (respond St.grateRange 64 0 [] s)))

/-- Accord commands and the ends of forwards and referrals (R315, R316, R337, R341, R343, R344, R347). -/
def Obligations.AccordsRoutesAndVerdictsAreArmed : Prop :=
  (∀ (h : Held) (s : State), CmdTaken 0x0901 h s → exec .accordLoad s = .next
    (let k := switchAt (be h.frame.payload 0 8) s
     let b := h.frame.payload.drop 8
     match accordCheck b (fun t => (fnRow s t.func).any (fun r => decide (r.inMin ≤ t.inLen ∧ t.inLen ≤ r.inMax))) with
     | some e => respond e.1 e.2 0 [] s
     | none =>
       if accordBusy s (parseAccord b).num then respond St.busy 0 0 [] s
       else respondAt k [] { s with ad.armed := s.ad.armed ++ [(k, (parseAccord b).num, some (parseAccord b))] })) ∧
  (∀ (h : Held) (s : State), CmdTaken 0x0902 h s →
    (tblGet s.ad.accords (be h.frame.payload 0 2) = none → exec .accordRemove s = .next (respond St.grateRange 64 0 [] s)) ∧
    (tblGet s.ad.accords (be h.frame.payload 0 2) ≠ none → accordBusy s (be h.frame.payload 0 2) = false → exec .accordRemove s =
      .next (respondAt (switchAt (be h.frame.payload 8 8) s) [] { s with ad.armed := s.ad.armed ++ [(switchAt (be h.frame.payload 8 8) s, be h.frame.payload 0 2, none)] }))) ∧
  (∀ (h : Held) (s : State), CmdTaken 0x0903 h s →
    exec .accordQuery s = .next (respond St.ok 0 s.tick (accordRecord s (be h.frame.payload 0 2)) s)) ∧
  (∀ (h : Held) (s : State), CmdTaken 0x0904 h s →
    exec .routeSet s = .next
      (let es := (List.range (be h.frame.payload 0 1)).map (fun j =>
         (switchAt (be h.frame.payload (8 + 80 * j + 8) 8) s, be h.frame.payload (8 + 80 * j) 4, parseRoute h.frame.payload (8 + 80 * j + 16)))
       let k := (es.map (·.1)).foldl max 0
       respondAt k [] { s with ad.routeArmed := s.ad.routeArmed ++ es })) ∧
  (∀ (h : Held) (s : State), CmdTaken 0x0905 h s → be h.frame.payload 0 1 = 1 → exec .verdict s = .next
    (let v := parseVerdict h.frame.payload 8
     let r := verdictResult s [] v (be h.frame.payload 17 1)
     respondAt (s.tick + 1) [BitVec.ofNat 8 r] { s with ad.verdicts := s.ad.verdicts ++ (if r = 0 then [v] else []) })) ∧
  (∀ (id : Nat) (f : Forward) (s : State), tblGet s.ad.forwards id = some f → f.closing ≤ s.tick → exec (.forwardClose id) s =
    .next (writeHeader (outcomeHeader f.info f.note 4 St.forwardTimeout id f.dest f.effects s) f.gran (refuseLater f.info f.note St.forwardTimeout
      (modStat f.info.accord (fun a => { a with fwdTimeouts := satAdd 32 a.fwdTimeouts 1 }) { s with ad.forwards := tblDel s.ad.forwards id })))) ∧
  (∀ (id : Nat) (r : Referral) (s : State), tblGet s.ad.referrals id = some r → r.tick + 2 ^ r.msg.accord.verdictLog ≤ s.tick →
    exec (.referralVerdictExpiry id) s = .next (writeHeader
      (outcomeHeader r.msg.outcome r.msg.note 6 St.verdictTimeout id 0xFFFFFFFF r.effects s) r.msg.granules (refuseLater r.msg.info r.msg.note St.verdictTimeout
        (modStat r.msg.info.accord (fun a => { a with verdictTimeouts := satAdd 32 a.verdictTimeouts 1 }) { s with ad.referrals := tblDel s.ad.referrals id }))))

/-- The digest units (R350 to R362, R365). Digest arithmetic is that of the standards: Config. -/
def Obligations.DigestUnitsAreClaimedAndDigest : Prop :=
  (∀ (u : Nat) (s : State), s.hl.link0.up = true → u < 8 → (dgUnit s u).claimed = false → (dgUnit s u).pend = false →
    (dgClaims s < 6 → exec (.dgClaim u) s = .next (modDg u (fun x => { x with pend := true }) s)) ∧
    (6 ≤ dgClaims s → exec (.dgClaim u) s = .next { s with dg.refused := true }) ∧
    (∀ i ∈ [Instr.dgAbort u, .dgSave u, .dgRestore u], exec i s = .next (badWrite (dgOff u 0) s)) ∧
    (∀ v, exec (.dgData u v) s = .next (badWrite (dgOff u 0x10) s))) ∧
  (∀ (u : Nat) (s : State), (dgUnit s u).pend = true → placed (modDg u (fun _ => { claimed := true }) s) .digest u = [] →
    exec (.dgClaimComplete u) s = .next (modDg u (fun _ => { claimed := true }) s)) ∧
  (∀ (u : Nat) (s : State), s.hl.link0.up = true → exec (.dgRelease u) s = .next (releaseUnit u s)) ∧
  (∀ (u : Nat) (x : DgUnit) (s : State), s.hl.link0.up = true → dgUnit s u = x → x.claimed = true → x.wait = none →
    (∀ alg, x.active = false → 1 ≤ alg → alg ≤ 4 →
      exec (.dgStart u alg false) s = .next (modDg u (fun x => { x with
        active := true, done := false, saved := false, keyed := false, alg := alg, status := 0, count := 0, buf := [], last := []
        chain := octets (Config.dgInit alg) 0 (dgStateLen alg), outer := [] }) s) ∧
      (classL s = false → inDomwin s x.domain = true → exec (.dgStart u alg true) s = .next (modDg u (fun x => { x with
        wait := some (.key alg (dgKeyTest s alg x.key x.domain)), done := false, saved := false, keyed := true, alg := alg, handle := x.key, dom := x.domain
        count := 0, buf := [], last := [] }) s))) ∧
    (∀ alg b, x.active = true → exec (.dgStart u alg b) s = .next (modDg u (fun x => { x with status := St.digestSequence }) s)) ∧
    (∀ v, x.active = true → x.length + 8 < 2 ^ 61 → exec (.dgData u v) s = .next (modDg u (fun y =>
      if x.buf.length + 8 = dgBlockLen x.alg then { y with wait := some (.block (x.buf ++ leBytes 8 v)), buf := [] }
      else { y with buf := x.buf ++ leBytes 8 v }) s)) ∧
    (∀ vb, x.active = true → vb ≤ 8 → x.length + vb < 2 ^ 61 → exec (.dgLastCtl u vb) s =
      .next (modDg u (fun y => { y with wait := some (.final (x.buf ++ octets x.last 0 vb)), buf := [] }) s)) ∧
    exec (.dgAbort u) s = .next (modDg u (fun x => { x.cleared with status := 0, count := 0 }) s) ∧
    (x.active = true → x.buf = [] → x.keyed = false → exec (.dgSave u) s =
      .next (modDg u (fun y => { y.cleared with regs := plainRecord x, saved := true, status := 0 }) s)) ∧
    (x.active = false → stateShape (octets x.regs 0 256) = true → le (octets x.regs 0 256) 9 1 = 0 → exec (.dgRestore u) s = .next
      (let r := octets x.regs 0 256
       let chain := octets (octets r 0x20 128 ++ octets r 0xB0 72) 0 (dgStateLen (le r 8 1))
       modDg u (fun x => { x with
         active := true, done := false, saved := false, keyed := false, alg := le r 8 1, status := 0, count := le r 0 8, buf := [], last := []
         chain := chain, outer := [], handle := le r 12 4, dom := le r 16 2 }) s))) ∧
  (∀ (u alg st : Nat) (k : List Byte) (s : State),
    ((dgUnit s u).wait = some (.key alg (.inl st)) → exec (.dgSealedKeyReady u) s = .next (modDg u (fun x => { x.cleared with status := st }) s)) ∧
    ((dgUnit s u).wait = some (.key alg (.inr k)) → exec (.dgSealedKeyReady u) s = .next
      (if (keyRead s (dgUnit s u).handle).bad then modDg u (fun x => { x.cleared with status := St.keyIntegrity }) s
       else modDg u (fun x => { x with wait := none, active := true, status := 0, chain := hmacPad alg k 0x36, outer := hmacPad alg k 0x5C }) s))) ∧
  (∀ (u : Nat) (b : List Byte) (s : State),
    ((dgUnit s u).wait = some (.block b) → exec (.dgBlockDone u) s = .next (dgBytes b.length
      (modDg u (fun x => { x with wait := none, chain := dgRun x.alg x.chain b, count := x.count + b.length }) s))) ∧
    ((dgUnit s u).wait = some (.final b) → exec (.dgMessageDone u) s = .next (dgBytes b.length
      (modDg u (fun x => { x.cleared with out := octets (x.result b) 0 64, done := true, status := 0, count := x.count + b.length }) s)))) ∧
  (∀ (id n : Nat) (w : Work) (s : State), work s id = some w → w.unit = .digest → w.phase = .unit → w.place = some n →
    unitHead s .digest n = some id → fetchOpen s w = false → (w.sub.key0 ≠ 0 → (w.key 0).bad = false) → w.pos ≠ 0 → w.squash = 0 →
    w.pos + min (digestChunk w.sub) (outstanding w) < w.sub.inLen → exec (.digestChunkEnd id) s = .next
      (let c := min (digestChunk w.sub) (outstanding w)
       toBack id (modWork id (fun _ => { w with pos := w.pos + c }) (dgBytes c (addUsage w.sub.domain 9 0 0 c s))))) ∧
  (∀ (h : Held) (s : State), CmdTaken 0x0704 h s →
    (be h.frame.payload 0 2 + be h.frame.payload 2 2 ≤ 65536 → exec .digestDomwin s = .next (respond St.ok 0 s.tick []
      { s with dg.domLo := be h.frame.payload 0 2, dg.domN := be h.frame.payload 2 2 })) ∧
    (65536 < be h.frame.payload 0 2 + be h.frame.payload 2 2 → exec .digestDomwin s = .next (respond St.grateRange 66 0 [] s)))

/-- The random chain (R366 to R373) and the public-key units (R379, R380, R390, R391). Random words are free: log entry 1 and Config.randomBytes. -/
def Obligations.RandomWordsAndUnitsOfPublicKeys : Prop :=
  (∀ (v : Nat) (t : List Nat) (s : State), s.hl.link0.up = true → s.rn.buf = v :: t → exec .rnData s = .next (emit (.readData 0x6000 v) { s with rn.buf := t })) ∧
  (∀ s : State, s.hl.link0.up = true → s.rn.buf = [] →
    (s.rn.ready = false ∨ (drbg s 65).limit = true → exec .rnData s = .next (emit (.readData 0x6000 0)
      { s with rn.underrun := true, rn.nUnderrun := satAdd 32 s.rn.nUnderrun 1 })) ∧
    (s.rn.ready = true → (drbg s 65).limit = false → exec .rnData s = .next
      (let q := draw (drbgCall 65 1 s)
       let vs := (List.range 8).map (fun j => le (octets (Config.randomBytes q.1 64) 0 64) (8 * j) 8)
       emit (.readData 0x6000 (vs.headD 0)) { q.2 with rn.buf := vs.drop 1 }))) ∧
  (∀ s : State, sourcesOn s ≠ 0 →
    (s.rn.reserve < 2 → exec .entropyBlock s = .next { s with rn.reserve := s.rn.reserve + 1 }) ∧
    (2 ≤ s.rn.reserve → s.rn.blocks < 62 → exec .entropyBlock s = .next { s with rn.blocks := s.rn.blocks + 1 }) ∧
    (2 ≤ s.rn.reserve → 62 ≤ s.rn.blocks → exec .entropyBlock s = .next s)) ∧
  (∀ (k : Nat) (s : State), k < 4 →
    (∀ c, (noise s k).state = 0 → 1 ≤ c → c ≤ 2 → exec (.noiseSourceFail k c) s = .next (sourceFails k c s)) ∧
    (retestDue s (noise s k) = true →
      exec (.sourceRetest k true) s = .next (sourcesChanged (modNoise k (fun x => { x with state := 0 }) s)) ∧
      exec (.sourceRetest k false) s = .next (sourceFails k 3 s)) ∧
    (∀ ones equal, ones ≤ 2 ^ 20 → equal ≤ 2 ^ 20 → exec (.sourceWindowEnd k ones equal) s = .next
      (let out := fun (n : Nat) => decide (n < 471859 ∨ 576717 < n)
       let t := modNoise k (fun x => { x with ones, agree := equal, bias := x.bias || out ones, corr := x.corr || out equal }) s
       let u := if out ones then note 0x0504 0 k 0 ones t else t
       if out equal then note 0x0504 0 k 1 equal u else u))) ∧
  (∀ (k c : Nat) (s : State), ((noise s k).failTicks.filter (fun t => decide (s.tick < t + 2 ^ 24))).length < 2 →
    sourceFails k c s = sourcesChanged (note 0x0501 1 k c 0 (modNoise k (fun x => { x with
      state := 1, cause := c, fails := satAdd 32 x.fails 1
      failTicks := (noise s k).failTicks.filter (fun t => decide (s.tick < t + 2 ^ 24)) ++ [s.tick] }) s))) ∧
  (∀ (t : Nat) (s : State), s.rn.noneSince = some t → t + 2 ^ 16 ≤ s.tick → sourcesOn s = 0 →
    exec .noSourceTimeout s = .next (lockClass 0x22 3 { s with rn.noneSince := none })) ∧
  (∀ (u c id : Nat) (failed : Bool) (w : Work) (s : State), (pkUnit s u).ran ≠ some s.tick → c ≠ 0 → pkNext s u = some c →
    (pkReady s u).find? (fun h => decide (h.1 = c)) = some (c, id, w) →
    exec (.pkUnitStep u failed none) s = .next (settle
      (let t := modPk u (fun k => { k with steps := wrapAdd 64 k.steps 1, last := c, ran := some s.tick }) s
       if failed then pkFailed id u w t else pkAdvance id u w t))) ∧
  (∀ (u c id : Nat) (failed : Bool) (w : Work) (a : Access) (x : Blocked) (s : State), (pkUnit s u).ran ≠ some s.tick → c ≠ 0 →
    pkNext s u = some c → (pkReady s u).find? (fun h => decide (h.1 = c)) = some (c, id, w) →
    fenceBlocks s (w.grant.getD s.tick) a (0x400 + u) = some x →
    exec (.pkUnitStep u failed (some a)) s = .next (settle (finish id { status := St.fenceViolation } (pkUsage id w
      (violate (w.grant.getD s.tick) a (0x400 + u) x
        (modPk u (fun k => { k with steps := wrapAdd 64 k.steps 1, last := c, ran := some s.tick }) s)))))) ∧
  (∀ (u : Nat) (c : PkCtl) (rest : List PkCtl) (a : Option Access) (s : State), (pkUnit s u).ran ≠ some s.tick → pkNext s u = some 0 →
    (pkUnit s u).ctl = c :: rest → 1 < c.left → exec (.pkUnitStep u false a) s = .next
      (modPk u (fun k => { k with steps := wrapAdd 64 k.steps 1, last := 0, ran := some s.tick, ctl := { c with left := c.left - 1 } :: rest }) s)) ∧
  (∀ (id u : Nat) (w : Work) (s : State), w.pkFirst = none → w.squash = 0 → pkFailed id u w s =
    modWork id (fun w => { w with phase := .unitDue, pkFirst := some u, pkUnit := none, pkDone := 0 })
      (modPk u (fun k => { k with checkFail := satAdd 32 k.checkFail 1, lastFail := s.tick }) s)) ∧
  (∀ (h : Held) (s : State), CmdTaken 0x0507 h s → exec .unitQuery s = .next (respond St.ok 0 s.tick
    (let k := pkUnit s (be h.frame.payload 0 1)
     let held := pkHeld s (be h.frame.payload 0 1)
     beBytes 1 (be h.frame.payload 0 1) ++ beBytes 1 (b2n k.retired) ++ beBytes 1 (b2n k.readmit) ++ beBytes 1 k.scores.length ++
       beBytes 1 (held.length + b2n (!k.ctl.isEmpty)) ++ beBytes 1 (held.filter (fun h => decide (h.2.2.note = 2))).length ++
       beBytes 1 (held.filter (fun h => h.2.2.long)).length ++ beBytes 1 0 ++ beBytes 8 k.steps ++ beBytes 4 k.checkFail ++
       beBytes 4 k.restarts ++ beBytes 8 k.lastFail) s))

/-- The mailbox (R396 to R403, R408, R410, R413, R418). -/
def Obligations.MailboxTakesACommandAndAnswersIt : Prop :=
  (∀ (v : Nat) (s : State), s.hl.link0.up = true → (s.mb.busy = true → exec (.mbCmdSubmit v) s = .next { s with mb.overrun := true }) ∧
    (s.mb.busy = false → exec (.mbCmdSubmit v) s = .next
      (let t : State := { s with mb.busy := true, mb.cmdCount := wrapAdd 64 s.mb.cmdCount 1, mb.ledger := .received }
       let h : Held := { frame := parseHeader (cmdBufBytes t 64), stage := .waiting, cls := 0, since := s.tick, nonce := none, signers := 0,
                         len := bits v 12 0 }
       if mailboxServed t then runFrame h t else { t with mb.held := some h }))) ∧
  (∀ (h : Held) (bs : List Byte) (s : State), s.mb.held = some h → h.stage = .body →
    exec (.mbBodyReadDone (.data bs)) s = .next (takeBody h (octets bs 0 h.frame.bodyLen) s) ∧
    exec (.mbBodyReadDone .error) s = .next (respond St.hostDmaError 32 0 [] s)) ∧
  (∀ (h : Held) (f : List (Bool × Bool)) (s : State), s.mb.held = some h → h.stage = .quorum → gateBusy s = false →
    (s.mb.inner = none → exec (.quorumCheckDone f) s = .next (match badBlock s h f with
      | some (c, true) => lockClass 0x23 St.credentialInvalid (respond St.credentialInvalid c 0 [] s)
      | some (c, false) => respond St.credentialInvalid c 0 [] s
      | none =>
        if h.cls ≠ 0 ∧ ruleFilled s h = false then
          (if h.frame.code = 0x0206 then respond St.notAuthorised 0 0 [] (packageRefused h.frame.payload 1 s)
           else respond St.quorumMissing h.cls 0 [] s)
        else setStage .ready s)) ∧
    (∀ i, s.mb.inner = some i → badBlock s i f = none →
      ((i.cls = 0 ∨ ruleFilled s i = true) → exec (.quorumCheckDone f) s = .next (setStage .running
        (gpSend (be h.frame.payload 0 1) 0x11 (counted (h.frame.payload.drop 8) ++ beBytes 1 i.cls ++ beBytes 4 i.signers)
          { s with gp.relay := some (be h.frame.payload 0 1), mb.inner := none }))) ∧
      (i.cls ≠ 0 → ruleFilled s i = false → i.frame.code ≠ 0x0206 →
        exec (.quorumCheckDone f) s = .next (respond St.quorumMissing i.cls 0 [] s)))) ∧
  (∀ (tag : Nat) (s : State), s.hl.link0.up = true → (s.mb.rspValid = true → s.mb.rspTag = tag → exec (.mbRspAck tag) s =
      .next { s with mb.rspValid := false, mb.busy := false, mb.rspStale := false, mb.ledger := .empty }) ∧
    ((s.mb.rspValid = false ∨ s.mb.rspTag ≠ tag) → exec (.mbRspAck tag) s = .next (note 0x0101 0 0xFFFF tag 0 s))) ∧
  (∀ (h : Held) (s : State), CmdTaken 0x0001 h s → (drbg s 64).limit = true → exec .nonce s = .next (respond St.busy 0 0 [] s)) ∧
  (∀ (h : Held) (s : State), CmdTaken 0x0001 h s → (drbg s 64).limit = false → exec .nonce s = .next
    (let q := draw (drbgCall 64 1 s)
     let n : Nonce := ⟨q.2.mb.nextNonce, octets (Config.randomBytes q.1 32) 0 32, q.2.tick + 2 ^ 29⟩
     let kept := if 64 ≤ q.2.mb.nonces.length then q.2.mb.nonces.drop 1 else q.2.mb.nonces
     respond St.ok 0 q.2.tick (beBytes 4 n.id ++ beBytes 4 0 ++ n.value ++ beBytes 8 n.expires ++ beBytes 8 Config.serial)
       { q.2 with mb.nonces := kept ++ [n], mb.nextNonce := q.2.mb.nextNonce + 1 })) ∧
  (∀ (h : Held) (s : State), CmdTaken 0x0002 h s →
    (h.frame.payload.length ≤ 3968 → exec .echo s = .next (respond St.ok 0 s.tick h.frame.payload s)) ∧
    (3968 < h.frame.payload.length → h.frame.out = false → exec .echo s = .next (respond St.lengthInvalid 48 0 [] s))) ∧
  (∀ (h : Held) (s : State), CmdTaken 0x0003 h s → exec .status s = .next (respond St.ok 0 s.tick (beBytes 1 (lcState s).code ++
    beBytes 1 s.ks.state ++ beBytes 1 ((s.hc.active.map (· + 1)).getD 0) ++ beBytes 1 (b2n s.prov.isSealed) ++ beBytes 4 0 ++ beBytes 8 s.tick) s)) ∧
  (∀ (h : Held) (s : State), CmdTaken 0x0004 h s →
    (∀ l, s.mb.longs.find? (fun l => decide (l.opId = be h.frame.payload 0 8)) = some l → exec .cmdStatus s = .next (respond St.ok 0 s.tick
      (beBytes 8 l.opId ++ beBytes 2 l.code ++ beBytes 1 l.state ++ beBytes 1 0 ++ beBytes 2 l.status ++ beBytes 2 l.detail ++ beBytes 8 l.doneTick) s)) ∧
    (s.mb.longs.find? (fun l => decide (l.opId = be h.frame.payload 0 8)) = none →
      exec .cmdStatus s = .next (respond St.grateRange 64 0 [] s))) ∧
  (∀ (op st d : Nat) (img : Option Image) (l : LongCmd) (s t : State),
    s.mb.longs.find? (fun l => decide (l.opId = op ∧ l.state = 0)) = some l → longWork l img s = some (st, d, t) →
    exec (.longCommandEnd op img) s = .next (vector 4 (note 0x0102 1 0xFFFF op st (refreshRegime
      (let u := setLong op st d t
       { u with mb.longs := u.mb.longs.map (fun l => if l.opId = op then { l with state := 1, data := [], doneTick := u.tick } else l) })))))

/-- Credentials, rules (R405 to R407, R412, R413) and fence regions (R427). Whether a key is valid is Config.pubKeyOk (log entry 3). -/
def Obligations.CredentialsAndRulesAreKept : Prop :=
  (∀ (h : Held) (s : State), CmdTaken 0x0101 h s →
    ((s.prov.creds.getD (be h.frame.payload 0 1) {}).state ≠ 0 →
      exec .credEnrol s = .next (respond St.grateRange 64 0 [] s)) ∧
    ((s.prov.creds.getD (be h.frame.payload 0 1) {}).state = 0 →
      exec .credEnrol s = .next
        (let key := octets h.frame.payload 40 (be h.frame.payload 4 2)
         let c : Cred := { role := be h.frame.payload 1 1, alg := be h.frame.payload 2 1, state := 1, label := octets h.frame.payload 8 32, key,
                           enrolled := s.tick }
         if pubKeyValid (if be h.frame.payload 2 1 = 1 then 17 else 24) key = false then respond St.publicKeyInvalid 0 0 [] s
         else respond St.ok 0 s.tick [] { s with prov.creds := s.prov.creds.set (be h.frame.payload 0 1) c }))) ∧
  (∀ (h : Held) (s : State), CmdTaken 0x0102 h s →
    ((s.prov.creds.getD (be h.frame.payload 0 1) {}).state = 1 →
      canSatisfy s.prov.rules (listMod s.prov.creds (be h.frame.payload 0 1) (fun c => { c with state := 2 })) = true →
      exec .credRevoke s = .next (respond St.ok 0 s.tick []
        { s with prov.creds := listMod s.prov.creds (be h.frame.payload 0 1) (fun c => { c with state := 2 }) })) ∧
    (((s.prov.creds.getD (be h.frame.payload 0 1) {}).state ≠ 1 ∨
        canSatisfy s.prov.rules (listMod s.prov.creds (be h.frame.payload 0 1) (fun c => { c with state := 2 })) = false) →
      exec .credRevoke s = .next (respond St.grateRange 64 0 [] s))) ∧
  (∀ (h : Held) (s : State), CmdTaken 0x0103 h s →
    exec .credList s = .next (respond St.ok 0 s.tick ((s.prov.creds.zipIdx).flatMap (fun q => credEntry q.2 q.1)) s)) ∧
  (∀ (h : Held) (s : State), CmdTaken 0x0105 h s → exec .quorumGet s = .next (respond St.ok 0 s.tick
    (s.prov.rules.flatMap (fun r => beBytes 1 r.so ++ beBytes 1 r.kc ++ beBytes 1 r.au ++ beBytes 1 r.op)) s)) ∧
  (∀ (h : Held) (s : State), CmdTaken 0x0106 h s → exec .credSeal s = .next (respond St.ok 0 s.tick [] { s with prov.isSealed := true })) ∧
  (∀ (h : Held) (s : State), CmdTaken 0x0104 h s →
    (s.ks.cer ≠ none → exec .quorumSet s = .next (respond St.busy 0 0 [] s)) ∧
    (s.ks.cer = none → ((parseRules h.frame.payload).zipIdx).find? (fun q => !ruleShapeOk q.2 q.1) = none →
      (canSatisfy (parseRules h.frame.payload) s.prov.creds = true →
        exec .quorumSet s = .next (respond St.ok 0 s.tick [] { s with prov.rules := parseRules h.frame.payload })) ∧
      (canSatisfy (parseRules h.frame.payload) s.prov.creds = false →
        exec .quorumSet s = .next (respond St.grateRange 64 0 [] s)))) ∧
  (∀ (h : Held) (s : State), CmdTaken 0x0B01 h s → exec .fenceSet s = .next
    (let p := h.frame.payload
     let old : Region := tget {} s.fn.regions (32 * be p 0 1 + be p 1 1)
     let r := parseRegion old p
     if old.lock || old.vlock || lockAfter s (32 * be p 0 1 + be p 1 1) then respond St.notAuthorised 0 0 [] s
     else respondAt (switchAt (be p 8 8) s) [] { s with fn.armed := s.fn.armed ++ [⟨32 * be p 0 1 + be p 1 1, r, switchAt (be p 8 8) s⟩] })) ∧
  (∀ (h : Held) (s : State), CmdTaken 0x0B02 h s →
    ((tget {} s.fn.regions (32 * be h.frame.payload 0 1 + be h.frame.payload 1 1)).vlock = true →
      exec .fenceLock s = .next (respond St.notAuthorised 0 0 [] s)) ∧
    ((tget {} s.fn.regions (32 * be h.frame.payload 0 1 + be h.frame.payload 1 1)).vlock = false → exec .fenceLock s = .next
      (let k := 32 * be h.frame.payload 0 1 + be h.frame.payload 1 1
       respondAt (switchAt 0 s) [] { s with
         fn.locks := s.fn.locks ++ [(k, decide (be h.frame.payload 2 1 = 1), switchAt 0 s)] })))

/-- Check 7 of R403 with the layouts of the commands (R15, R74, R81, R107, R178, R256, R276, R337, R343, R427, R553). -/
def Obligations.PayloadsAreHeldToTheirLayouts : Prop :=
  (∀ (code n : Nat) (p : List Byte), payloadLen code p = some n → n ≠ p.length → payloadCheck code p = some (St.grateFormat, 64)) ∧
  (∀ (code : Nat) (p : List Byte), (∀ n, payloadLen code p = some n → n = p.length) → payloadLeast code ≤ p.length →
    (∀ r, (payloadRsv code).find? (fun r => !allZero (octets p r.1 r.2)) = some r → payloadCheck code p = some (St.grateFormat, 64 + r.1)) ∧
    ((∀ r ∈ payloadRsv code, allZero (octets p r.1 r.2) = true) →
      (∀ r, (payloadRange code).find? (fun r => decide (be p r.1 r.2.1 < r.2.2.1) || decide (r.2.2.2 < be p r.1 r.2.1)) = some r →
        payloadCheck code p = some (St.grateRange, 64 + r.1)) ∧
      ((∀ r ∈ payloadRange code, r.2.2.1 ≤ be p r.1 r.2.1 ∧ be p r.1 r.2.1 ≤ r.2.2.2) → payloadCheck code p = payloadLayout code p))) ∧
  (∀ p : List Byte, payloadLayout 0x0101 p = none ↔ be p 4 2 = if be p 2 1 = 1 then 97 else 1952) ∧
  (∀ p : List Byte, payloadLayout 0x0405 p = none ↔ be p 6 1 < 16 ∧ (bitOf (be p 6 1) 0 = true →
    4 ≤ be p 4 1 ∧ be p 4 1 ≤ 16 ∧ 5 ≤ be p 5 1 ∧ be p 5 1 ≤ 18 ∧ (bitOf (be p 6 1) 1 = true ↔ be p 7 1 ≠ 0) ∧ be p 8 8 % 4096 = 0 ∧
    be p 16 8 % 4096 = 0 ∧ be p 24 2 ≤ 2047 ∧ be p 26 2 ≤ 4095 ∧ be p 28 2 ≤ 4095)) ∧
  (∀ p : List Byte, payloadLayout 0x0401 p = none ↔ be p 6 2 % 2 = 0 ∧ be p 6 2 < 4096 ∧ bits (be p 8 4) 30 20 = 0 ∧ be p 12 1 ≤ 1 ∧
    (be p 4 2 ≠ 0 → be p 2 2 + be p 4 2 ≤ 65536)) ∧
  (∀ p : List Byte, payloadLayout 0x0301 p = none ↔ 1 ≤ be p 12 1 ∧ be p 12 1 ≤ 64 ∧ be p 13 1 ≤ 16 ∧ be p 14 1 ≤ 1 ∧
    1 ≤ be p 16 2 ∧ be p 16 2 ≤ 16383 ∧ be p 20 4 ≤ 65536) ∧
  (∀ p : List Byte, payloadLayout 0x0302 p = none ↔ ∀ j < be p 8 2, be p (18 + 24 * j) 2 = 0 ∧ be p (36 + 24 * j) 4 = 0 ∧
    be p (16 + 24 * j) 2 ≤ 4127 ∧ ∀ i < j, be p (16 + 24 * i) 2 ≠ be p (16 + 24 * j) 2) ∧
  (∀ p : List Byte, payloadLayout 0x0801 p = none ↔ be p 13 1 < 8 ∧ (be p 1 1 = 2 → ∀ k < 2 ^ be p 2 1, be p (44 + 32 * k) 4 = 0)) ∧
  (∀ p : List Byte, payloadLayout 0x0802 p = none ↔ be p 3 1 < 16 ∧ (be p 1 1 ≤ 2 → be p 12 4 = 0 ∧ allZero (octets p 24 12) = true) ∧
    be p 36 4 ≤ (if be p 0 1 = 0 then 2 ^ 30 - 1 else 0) ∧ be p 40 8 ≤ (if be p 1 1 ≤ 2 then 2 ^ 32 - 1 else 2 ^ 64 - 1) ∧
    (be p 0 1 = 1 → be p 40 8 ≠ 0)) ∧
  (∀ p : List Byte, payloadLayout 0x0804 p = none ↔ be p 6 1 < 4) ∧
  (∀ p : List Byte, payloadLayout 0x0904 p = none ↔ ∀ j < be p 0 1, (let o := 8 + 80 * j
    be p (o + 4) 4 = 0 ∧ be p (o + 17) 1 < 8 ∧ be p (o + 19) 1 = 0 ∧ be p (o + 32) 16 = 0 ∧ be p o 4 < 2 ^ 20 ∧ be p (o + 16) 1 ≤ 3 ∧
    (bitOf (be p (o + 17) 1) 0 = true → be p (o + 17) 1 / 2 ≠ 3) ∧ (be p (o + 18) 1 = 0 ∨ (10 ≤ be p (o + 18) 1 ∧ be p (o + 18) 1 ≤ 20)) ∧
    be p (o + 20) 4 < 2 ^ 18 ∧ (be p (o + 16) 1 ≠ 1 → be p (o + 20) 4 = 0))) ∧
  (∀ p : List Byte, payloadLayout 0x0905 p = none ↔ ∀ j < be p 0 1, be p (18 + 32 * j) 2 = 0 ∧ be p (20 + 32 * j) 4 < 2 ^ 18) ∧
  (∀ p : List Byte, payloadLayout 0x0B01 p = none ↔ be p 16 8 % 128 = 0 ∧ bits (be p 24 8) 11 8 = 0 ∧ bits (be p 32 8) 63 56 = 0 ∧
    bits (be p 32 8) 31 21 = 0 ∧ be p 16 8 / 4096 ≤ be p 24 8 / 4096 ∧ (fenceRange (be p 0 1)).1 ≤ be p 16 8 / 4096 ∧
    be p 24 8 / 4096 ≤ (fenceRange (be p 0 1)).2 ∧ (be p 24 8 % 256 ≠ 0 → (be p 24 8 / 4096 - be p 16 8 / 4096 + 1) % 8 = 0) ∧
    bits (be p 32 8) 43 32 ≤ bits (be p 32 8) 55 44) ∧
  (∀ p : List Byte, payloadLayout 0x0C01 p = none ↔ be p 2 2 = 0 ∧ be p 0 1 ≤ 2 ∧ (be p 0 1 = 1 → 16 ≤ be p 1 1 ∧ be p 1 1 ≤ 36) ∧
    (be p 0 1 = 2 → be p 4 4 ≠ 0 ∧ 86400 % be p 4 4 = 0)) ∧
  (∀ (h : Held) (body : List Byte) (st d : Nat) (s : State), bodyCheck h.frame body = some (st, d) →
    takeBody h body s = respond st d 0 [] { s with mb.held := some h })

/-- Life cycle, firmware and programs (R123, R126, R434, R440, R446, R449, R466). The ticks between the decisions are drawn: log entry 1. -/
def Obligations.LifeCycleChangesTakeTwoDecisions : Prop :=
  (∀ (h : Held) (t : Lc) (s : State), CmdTaken 0x0201 h s → Lc.ofCode (be h.frame.payload 0 1) = some t → (lcRec s).intent = false →
    s.lc.decision = none → (drbg s 64).limit = false →
    (listed (lcState s) t = true → mayChange s t = true → exec .stateChange s = .next (setStage .decision (beginDecision (.transition t) true s))) ∧
    (listed (lcState s) t = false → exec .stateChange s = .next (respond St.stateForbids 0 0 [] s))) ∧
  (∀ (h : Held) (s : State), CmdTaken 0x0202 h s →
    (∀ t, lcState s = .locked → (lcRec s).origin = some t → (lcRec s).intent = false → s.lc.decision = none → activeL s = false → (drbg s 64).limit = false →
      exec .unlock s = .next (setStage .decision (beginDecision (.transition t) true s))) ∧
    (lcState s = .locked → (lcRec s).origin = none → exec .unlock s = .next (respond St.stateForbids 0 0 [] s))) ∧
  (∀ (h : Held) (s : State), CmdTaken 0x0203 h s → be h.frame.payload 0 1 ≠ (lcRec s).activeSlot → (lcRec s).trial = false →
    (lcRec s).intent = false → s.lc.decision = none → longsRunning s < 4 → (drbg s 64).limit = false →
    exec .fwLoad s = .next
      (let q := beginLong h.frame.code h.frame.payload s
       let t := setFwSlot (be h.frame.payload 0 1) { image := h.frame.payload.drop 8 } q.2
       let u := beginDecision (.fwAccept q.1 (be h.frame.payload 0 1)) (slotPasses t (be h.frame.payload 0 1)) t
       respond St.ok 0 u.tick (beBytes 8 q.1) u)) ∧
  (∀ (h : Held) (s : State), CmdTaken 0x0204 h s → (fwSlot s (be h.frame.payload 0 1)).valid = true →
    (be h.frame.payload 0 1 = (lcRec s).activeSlot →
      exec .fwActivate s = .next (respond St.ok 0 s.tick [] (if (lcRec s).trial then commitTrial s else s))) ∧
    (be h.frame.payload 0 1 ≠ (lcRec s).activeSlot → s.lc.decision = none → (lcRec s).intent = false → hasStandby s = true → (drbg s 64).limit = false →
      exec .fwActivate s = .next (setStage .decision
        (beginDecision (.fwActivate (be h.frame.payload 0 1)) (slotPasses s (be h.frame.payload 0 1)) s)))) ∧
  (∀ (h : Held) (s : State), CmdTaken 0x0204 h s → (fwSlot s (be h.frame.payload 0 1)).valid = false →
    exec .fwActivate s = .next (respond St.fwRejected 2 0 [] s)) ∧
  (∀ (h : Held) (s : State), CmdTaken 0x0205 h s → exec .progKeySet s = .next
    (let key := octets h.frame.payload 8 (keyLen (be h.frame.payload 2 1))
     if pubKeyValid (if be h.frame.payload 2 1 = 1 then 17 else 24) key = false then respond St.publicKeyInvalid 0 0 [] s
     else respond St.ok 0 s.tick [] { s with prov.progKeys := tblPut s.prov.progKeys (be h.frame.payload 0 2) ⟨be h.frame.payload 2 1, key⟩ })) ∧
  (∀ (h : Held) (s : State), CmdTaken 0x0206 h s → s.lc.decision = none →
    (s.en.progs.filter (fun q => decide (q.func = be h.frame.payload 2 2))).length < 2 → longsRunning s < 4 → (drbg s 64).limit = false →
    exec .progLoad s = .next
      (let q := beginLong h.frame.code h.frame.payload s
       let u := beginDecision (.progAccept q.1) (progBad q.2 h.frame.payload).isNone q.2
       respond St.ok 0 u.tick (beBytes 8 q.1) u)) ∧
  (∀ (h : Held) (s : State), CmdTaken 0x0207 h s →
    (isCustomer (be h.frame.payload 0 2) = true → progNow s (be h.frame.payload 0 2) ≠ none → exec .progWithdraw s = .next
      (let v := s.en.setVer + 1
       let progs := s.en.progs.map (fun q => if q.func = be h.frame.payload 0 2 ∧ q.gone.isNone = true then { q with gone := some v } else q)
       respond St.ok 0 s.tick [] { s with en.progs := progs, en.setVer := v, en.rollout := true })) ∧
    ((isCustomer (be h.frame.payload 0 2) = false ∨ progNow s (be h.frame.payload 0 2) = none) →
      exec .progWithdraw s = .next (respond St.grateRange 64 0 [] s))) ∧
  (∀ (h : Held) (s : State), (drbg s 64).limit = true →
    (CmdTaken 0x0203 h s → exec .fwLoad s = .next (respond St.busy 0 0 [] s)) ∧
    (CmdTaken 0x0206 h s → exec .progLoad s = .next (respond St.busy 0 0 [] s)) ∧
    (∀ t, CmdTaken 0x0201 h s → Lc.ofCode (be h.frame.payload 0 1) = some t → listed (lcState s) t = true → mayChange s t = true →
      exec .stateChange s = .next (respond St.busy 0 0 [] s))) ∧
  (∀ (d : Decision) (s : State), s.lc.decision = some d → d.due ≤ s.tick → (noController s = false ∨ s.lc.startFail ≠ none) →
    (evalDecision s d.kind ≠ d.first → exec (.decisionSecond false) s = .next (splitDecision d.kind { s with lc.decision := none })) ∧
    (evalDecision s d.kind = d.first → exec (.decisionSecond true) s = .next (splitDecision d.kind { s with lc.decision := none })) ∧
    (evalDecision s d.kind = true → d.first = true → exec (.decisionSecond false) s = .next (armDecision d.kind { s with lc.decision := none })) ∧
    (evalDecision s d.kind = false → d.first = false → exec (.decisionSecond false) s = .next (turnDown d.kind { s with lc.decision := none }))) ∧
  (∀ (a : Activation) (s : State), s.lc.activation = some a → a.loaded = false → hasStandby s = true → s.hc.active ≠ none →
    exec .fwStandbyLoaded s = .next { s with lc.activation := some { a with loaded := true }, hc.planned := some (7, s.tick) }) ∧
  (∀ s : State, (lcRec s).trial = true → s.lc.rollback = false → s.lc.trialStart + 2 ^ 28 ≤ s.tick →
    exec .fwTrialCommit s = .next (commitTrial s))

/-- Usage accounting (R549 to R556, R561). -/
def Obligations.UsageIsKeptClosedAndStreamed : Prop :=
  (∀ (h : Held) (s : State), CmdTaken 0x0C01 h s → exec .acConfig s = .next
    (let mode := be h.frame.payload 0 1
     let t : State := { s with ac.mode := mode, ac.intLog := be h.frame.payload 1 1, ac.intSec := if mode = 2 then be h.frame.payload 4 4 else 0 }
     respond St.ok 0 t.tick [] { t with ac.closedUtc := utcBoundary t })) ∧
  (∀ (h : Held) (s : State), CmdTaken 0x0C02 h s →
    (be h.frame.payload 0 4 < 983040 → 1 ≤ be h.frame.payload 4 4 → be h.frame.payload 0 4 + be h.frame.payload 4 4 ≤ 983040 →
      exec .acRateLoad s = .next
        (let sh := ((h.frame.payload.drop 8).zipIdx).foldl (fun t q => tset 0xFF t (be h.frame.payload 0 4 + q.2) q.1.toNat) s.ac.shadow
         respond St.ok 0 s.tick [] { s with ac.shadow := sh })) ∧
    (983040 ≤ be h.frame.payload 0 4 → exec .acRateLoad s = .next (respond St.grateRange 64 0 [] s)) ∧
    (be h.frame.payload 0 4 < 983040 → (be h.frame.payload 4 4 = 0 ∨ 983040 < be h.frame.payload 0 4 + be h.frame.payload 4 4) →
      exec .acRateLoad s = .next (respond St.grateRange 68 0 [] s))) ∧
  (∀ (h : Held) (s : State), CmdTaken 0x0C03 h s →
    (s.tick + 2 ^ 20 ≤ be h.frame.payload 0 8 → s.ac.pending = none → s.ac.held = none → exec .acTariffArm s = .next
      (respondAt (be h.frame.payload 0 8) [] { s with ac.pending := some (be h.frame.payload 0 8, s.ac.shadow) })) ∧
    (be h.frame.payload 0 8 < s.tick + 2 ^ 20 → exec .acTariffArm s = .next (respond St.grateRange 64 0 [] s)) ∧
    (s.tick + 2 ^ 20 ≤ be h.frame.payload 0 8 → (s.ac.pending ≠ none ∨ s.ac.held ≠ none) →
      exec .acTariffArm s = .next (respond St.busy 0 0 [] s))) ∧
  (∀ (h : Held) (s : State), CmdTaken 0x0C04 h s → exec .acTariffCancel s = .next (respond St.ok 0 s.tick [] { s with ac.pending := none })) ∧
  (∀ (h : Held) (s : State), CmdTaken 0x0C05 h s → bits (be h.frame.payload 12 4) 30 20 = 0 →
    exec .acRingSet s = .next (respond St.ok 0 s.tick [] { s with
      ac.ring := some ⟨be h.frame.payload 0 8, be h.frame.payload 8 1, be h.frame.payload 9 1,
        if bitOf (be h.frame.payload 12 4) 31 then some (be h.frame.payload 12 4 % 2 ^ 20) else none⟩
      ac.wpos := 0, ac.rhead := 0, ac.ringFull := false })) ∧
  (∀ (h : Held) (s : State), CmdTaken 0x0C06 h s →
    exec .acCloseNow s = .next (respond St.ok 0 (s.tick + 1) [] { s with ac.closeNow := true })) ∧
  (∀ (r : URing) (v : Nat) (s : State), s.hl.link0.up = true → s.ac.ring = some r → v < 2 ^ r.log → r.log ≤ 24 →
    ((v + 2 ^ r.log - s.ac.rhead) % 2 ^ r.log ≤ (s.ac.wpos + 2 ^ r.log - s.ac.rhead) % 2 ^ r.log →
      exec (.acRhead v) s = .next { s with ac.rhead := v, ac.ringFull := s.ac.ringFull && decide (v = s.ac.rhead) }) ∧
    ((s.ac.wpos + 2 ^ r.log - s.ac.rhead) % 2 ^ r.log < (v + 2 ^ r.log - s.ac.rhead) % 2 ^ r.log →
      exec (.acRhead v) s = .next (note 0x1503 0 0xFFFF 0xA030 0 s))) ∧
  (∀ (c : Nat) (s : State), boundaryDue s = some c → exec .intervalClose s = .next
    (let t : State := if c = 2 then { s with ac.closedUtc := utcBoundary s } else s
     if t.ac.intStart = t.tick then t else closeOrDefer c t)) ∧
  (∀ (k : Nat) (t : Tbl Nat) (s : State), s.ac.pending = some (k, t) → k ≤ s.tick → exec .tariffSwitch s = .next (tariffSwitch s)) ∧
  (∀ s : State, s.lc.ready = true → s.tick % 2 ^ 16 = 0 →
    (ckptAllowed s = true → exec .checkpointStart s = .next (startCkpt s)) ∧
    (ckptAllowed s = false → exec .checkpointStart s = .next { s with ac.waits := true })) ∧
  (∀ (r : CkptRun) (s : State), s.ac.run = some r → r.since + ckptTicks s r ≤ s.tick → r.ckpt.close = none →
    exec .checkpointEnd s = .next (let t := setCopy r.copy (some r.ckpt) s
      { t with ac.run := none, ac.lastCopy := r.copy, ac.ckptTick := r.ckpt.tick
               ac.dirty := t.ac.dirty.filter (fun i => decide (cell t i ≠ tget {} r.ckpt.cells i)) })) ∧
  (∀ (n : Nat) (r : URing) (c : Close) (s : State), s.ac.ring = some r → pinnedClose s = some c → 1 ≤ n →
    ((linkOpen s r.link = false ∨ uringFree s = 0) → exec (.usageStream n) s = .next (ringStalls s)) ∧
    (linkOpen s r.link = true → uringFree s ≠ 0 → min n (uringFree s) = (closeCells c).length + 1 - s.ac.streamed →
      exec (.usageStream n) s = .next (streamEnds ((List.range ((closeCells c).length + 1 - s.ac.streamed)).foldl (fun s _ => putRecord r c s)
        { s with ac.ringFull := false }))))

/-- Power (R557, R558, R565, R569) and the monitor's clock (R26, R457 to R459). The tick after a supply was exhausted is free: log entry 5. -/
def Obligations.PowerGoesAndTheMonitorKeepsTime : Prop :=
  (∀ (a b : Bool) (s : State), s.pin.mainPower = false →
    exec (.powerGood a b) s = .next (powerOn { s with pin.smbAddr0 := a, pin.smbAddr1 := b })) ∧
  (∀ s : State, (powerOn s).pin.mainPower = true ∧ (powerOn s).pin.pwrGood = true ∧ (powerOn s).lc.stage = 0 ∧ (powerOn s).lc.pgTick = s.tick ∧
    (powerOn s).tick = s.tick) ∧
  (∀ s : State, s.pin.mainPower = true → s.pin.shedding = false → exec .inputLossDetected s =
    .next { s with pin.shedding := true, pin.pwrGood := false, ac.lossTick := if s.lc.ready then some s.tick else none }) ∧
  (∀ (f : Nat) (s : State), s.ac.lossTick = some f → f + 5 ≤ s.tick → s.ac.saving = none → exec .powerFailSave s = .next
    (let t : State := { s with ac.saving := some s.tick, ac.saveSeq := (saveOf s).seq }
     if (saveOf s).seq % 2 = 1 then { t with ac.saveA := some (saveOf s) } else { t with ac.saveB := some (saveOf s) })) ∧
  (∀ s : State, s.pin.shedding = true → (s.ac.lossTick = none ∨ s.ac.saving ≠ none) →
    exec (.powerFailSaveEnd false) s = .next (powerOff s) ∧ exec (.powerFailSaveEnd true) s = .next (powerOn (powerOff s))) ∧
  (∀ s : State, (powerOff s).pin.mainPower = false ∧ (powerOff s).wk = {} ∧ (powerOff s).mb = {} ∧ (powerOff s).ad = {} ∧
    (powerOff s).lc.stage = 0 ∧ (powerOff s).lc.copyA = s.lc.copyA ∧ (powerOff s).lc.copyB = s.lc.copyB ∧ (powerOff s).prov = s.prov ∧
    (powerOff s).tick = s.tick) ∧
  (∀ s : State, s.pin.mainPower = false ∨ s.lc.stage = 0 → exec .monitorCrystalPeriod s = .next { s with
    tick := s.tick + (s.tm.accFrac + 10 ^ 9) / 2 ^ 26, tm.accFrac := (s.tm.accFrac + 10 ^ 9) % 2 ^ 26
    tm.battTicks := if s.pin.mainPower then s.tm.battTicks else s.tm.battTicks + (s.tm.accFrac + 10 ^ 9) / 2 ^ 26 }) ∧
  (∀ s : State, s.pin.mainPower = false → exec .supplyExhausted s = .next { (draw s).2 with
    tm.ember := false, tm.emberLost := true, tm.battBuf := [], tm.battLost := 0, tm.lSeen := false, tm.accFrac := 0, tick := (draw s).1 }) ∧
  (∀ s : State, s.tm.clockRc = false →
    exec .crystalStop s = .next (summaryPoint (nEvent ⟨1, 15, 0, 0, false, 0, 0, 0, false⟩
      { s with tm.clockRc := true, tm.rcSince := s.tick }))) ∧
  (∀ s : State, s.tm.clockRc = true → s.pin.mainPower = true → s.tm.rcSince + 2 ^ 16 ≤ s.tick →
    exec .crystalRestored s = .next (summaryPoint { s with tm.clockRc := false })) ∧
  (∀ (ca cb d : Nat) (s : State), d ≤ 3 → exec (.cellSelectChange ca cb d) s = .next
    (let put := fun (t : Tbl SensorSt) (i v : Nat) => tblPut t (sensorKey 13 i) { tget {} t (sensorKey 13 i) with reading := v, seen := true }
     let t := { s with
       tm.selB := if s.tm.selB then decide (ca < cb + 50) else decide (ca + 50 ≤ cb)
       tm.bridgeSel := !s.pin.mainPower && decide (ca < 1500 ∧ cb < 1500), tm.sensors := put (put s.tm.sensors 0 ca) 1 cb }
     if s.pin.mainPower then summaryPoint (evidAppend (evidNow 11 1 13 ca cb d t) t) else battEvent ⟨t.tick, 1, 11, 13, ca, cb, d⟩ t))

/-- The start sequence (R442 to R444, R447). Which units fail their tests are operands of the rows: what the environment found. -/
def Obligations.TheModuleStartsInNineStages : Prop :=
  ∀ s : State, s.pin.mainPower = true → s.pin.shedding = false → s.lc.startFail = none →
    (s.lc.stage = 0 → exec .stage1BellowsLocked s = .next
      { s with tick := s.tick + 1, tm.accFrac := 0, hc.a := .selftest, hc.b := .selftest, lc.stage := 1 }) ∧
    (s.lc.stage = 1 →
      exec (.stage2SelftestEnd true true) s = .next { s with hc.a := .loading, hc.b := .loading, hc.preferred := 0, lc.stage := 2 } ∧
      exec (.stage2SelftestEnd true false) s = .next (stageDone 2 (note 0x0E07 1 1 2 0
        { s with hc.a := .loading, hc.b := .heldOut, hc.preferred := 0 })) ∧
      exec (.stage2SelftestEnd false false) s = .next (startFails 2 1 { s with hc.a := .heldOut, hc.b := .heldOut, hc.preferred := 1 })) ∧
    (s.lc.stage = 2 → (s.lc.aValid = true → exec (.stage3LcRecordRead true true) s = .next
        (let t := lockAtStart (resolveIntent (setLive 2 (battAppend (tornEvid { s with lc.aValid := s.lc.aValid && true, lc.bValid := s.lc.bValid && true }))))
         stageDone 3 { t with lc.shownLc := (lcState t).code, rc.liveCause := 1 })) ∧
      exec (.stage3LcRecordRead false false) s = .next (startFails 3 1 { s with lc.aValid := false, lc.bValid := false })) ∧
    (s.lc.stage = 3 → s.tm.emberLost = false → s.tm.ember = true →
      (emberDue s = true → exec (.stage4RootDerived true) s = .next { s with lc.frk := rootKey s, lc.stage := 4 } ∧
        exec (.stage4RootDerived false) s = .next (startFails 4 1 { s with ks.state := 3 })) ∧
      (emberDue s = false → ∀ b, exec (.stage4RootDerived b) s = .next { s with lc.stage := 4 })) ∧
    (s.lc.stage = 4 → sourcesOn s ≠ 0 →
      exec (.stage5RandomReady [true, true, true, true] false) s = .next (startFails 5 2 s) ∧
      exec (.stage5RandomReady [true, true, true, true] true) s = .next
        (let q := draw (drbgCall 64 1 (instantiateAll s))
         { q.2 with rn.ready := true, lc.bootNonce := q.1, dg.wrap := !s.lc.frk.isEmpty, dg.nonce := 0, lc.stage := 5 })) ∧
    (s.lc.stage = 5 → exec (.stage6SlotDecided true) s = .next (startFails 6 2 (lockClass 0x26 St.decisionSplit s)) ∧
      (chosenSlot s = none → exec (.stage6SlotDecided false) s = .next (startFails 6 1 s)) ∧
      (chosenSlot s = some (lcRec s).activeSlot → exec (.stage6SlotDecided false) s = .next
        (let start := fun (i : Nat) (p : PairState) => if p = .loading then (if i = s.hc.preferred then PairState.active else .standby) else p
         afterTakeover { s with
           hc.a := start 0 s.hc.a, hc.b := start 1 s.hc.b, hc.active := some s.hc.preferred, lc.runSlot := (lcRec s).activeSlot
           lc.trialStart := s.tick, lc.stage := 6 }))) ∧
    (s.lc.stage = 6 → exec .stage7HbmReady s = .next { s with ks.recs := [], ks.minors := [], ks.majors := [], lc.stage := 7 }) ∧
    (s.lc.stage = 7 → ∀ lanes pks cls : List Nat, exec (.stage8UnitsTested [] lanes pks cls) s = .next
      (let t := refreshPool (unitsAtStart pks (lanesAtStart lanes ((List.range 64).foldl (fun s c => clusterAtStart cls c s) s)))
       if clustersUp t < 16 ∨ dieServes t 0 = false ∨ dieServes t 1 = false then startFails 8 1 t else stageDone 8 t)) ∧
    (s.lc.stage = 8 → exec .stage9Ready s = .next
      (let t := restoreCounters (restoreRecords (tornRecords (storeAtStart s)))
       rejoin (refreshRegime (stageDone 9 { t with lim.running := true, lim.starting := true, lim.window := windowOf t.tick, lc.ready := true
                                                   lc.readyTick := t.tick, hc.beat := some t.tick }))))

/-- Controller pairs (R500 to R512). The gap of a planned switch-over is free: log entry 34; it shows one tick after the hand-over: log entry 101. -/
def Obligations.PairsStopTakeOverAndReturn : Prop :=
  (∀ (p : Nat) (a : Option Access) (s : State), pairRuns s p = true →
    (∀ c, c = 1 ∨ c = 3 → exec (.hcPairStop p c a) s = .next (stopPair p c s)) ∧
    (∀ b x, fenceBlocks s s.tick b (0x600 + p) = some x →
      (lockedStop (regionFor s s.tick b.fence x.region) x = true →
        exec (.hcPairStop p 4 (some b)) s = .next (stopPair p 4 (endInHand p (violate s.tick b (0x600 + p) x s)))) ∧
      (lockedStop (regionFor s s.tick b.fence x.region) x = false →
        exec (.hcPairStop p 4 (some b)) s = .next (endInHand p (violate s.tick b (0x600 + p) x s)))) ∧
    ((s.hc.active = some p → ∃ t, s.hc.beat = some t ∧ t + 2 ^ 12 ≤ s.tick) → exec (.hcHeartbeatTimeout p) s = .next (stopPair p 2 s))) ∧
  (∀ (i gap : Nat) (s : State), i = (if s.hc.a = .standby then 0 else 1) → s.hc.gap = true → pairState s i = .standby →
    ((s.hc.headless = true ∧ s.lc.rollback = false) ∨ (s.hc.headless = false ∧ gap ≤ 4096)) → exec (.takeoverFirstCommand gap) s = .next
      (let t := setPair i .active { s with
         hc.active := some i, hc.beat := some s.tick, hc.gap := false, hc.headless := false, hc.switches := satAdd 32 s.hc.switches 1
         hc.lastTick := s.tick, hc.lastCause := s.hc.gapCause, hc.lastFrom := s.hc.gapFrom, hc.lastTo := i + 1, hc.lastGap := min gap 8191
         hc.gapPeak := max s.hc.gapPeak (min gap 8191) }
       afterTakeover (answerByLedger (resolveTransition (note 0x0E02 1 i (min gap 8191) s.hc.gapStart (refreshRegime t)))))) ∧
  (∀ (p f : Nat) (s : State), p ≤ 1 → restarting (pairState s p) = true → 6 ≤ s.lc.stage →
    (2 ≤ f → f ≤ 3 → exec (.pairRestartDone p f) s = .next (note 0x0E07 1 p f 0 (setPair p .heldOut s))) ∧
    (s.lc.rollback = false → exec (.pairRestartDone p 0) s = .next (setPair p .standby s)) ∧
    (∀ q, s.lc.rollback = true → s.hc.active = some q → q ≠ p →
      exec (.pairRestartDone p 0) s = .next { setPair p .standby s with hc.planned := some (7, s.tick) })) ∧
  (∀ s : State, s.tick % 2 ^ 19 = 0 → s.hc.active ≠ none → noPlanned s = true →
    ((s.lc.rollback = true ∨ ∃ a, s.lc.activation = some a ∧ a.loaded = true) → exec .revertBoundary s = .next (tryPlanned 7 s.tick s)) ∧
    (s.lc.rollback = false → s.lc.activation = none → (lcRec s).trial = false → s.tick % 2 ^ 35 ≠ 0 →
      (s.hc.rotDue = true → exec .revertBoundary s = .next (rotate s)) ∧
      (s.hc.rotDue = false → exec .revertBoundary s = .next
        (if preferredWaits s then tryPlanned (if s.hc.putOff.any (·.1 == 6) then 6 else 5) s.tick s else { s with hc.putOff := none })))) ∧
  (∀ s : State, s.tick % 2 ^ 35 = 0 →
    ((lcRec s).trial = true → exec .rotationBoundary s = .next { s with hc.rotDue := true }) ∧
    ((lcRec s).trial = false → exec .rotationBoundary s = .next (rotate s)) ∧
    (s.hc.active = some (1 - s.hc.preferred) →
      rotate s = note 0x0E04 0 (1 - s.hc.preferred) 0 0 { s with hc.preferred := 1 - s.hc.preferred, hc.rotDue := false })) ∧
  (∀ (c t i : Nat) (s : State), s.hc.active = some i →
    (putsOff c s = false → pairState s (1 - i) = .standby →
      tryPlanned c t s = { s with hc.planned := none, hc.handing := some (c, t) }) ∧
    (putsOff c s = true → s.tick < t + 2 ^ 12 → tryPlanned c t s = { s with hc.planned := some (c, t) }) ∧
    (s.hc.handing = some (6, t) → s.mb.held = none → retryPlanned s =
      (let q := draw s
       setPair i .standby (setPair (1 - i) .active { q.2 with
         hc.active := some (1 - i), hc.beat := some (s.tick - 1), hc.switches := satAdd 32 s.hc.switches 1, hc.lastTick := s.tick - 1
         hc.lastCause := 6, hc.lastFrom := i + 1, hc.lastTo := 1 - i + 1, hc.lastGap := q.1 % 2049, hc.handing := none, hc.putOff := none }))))

/-- The firebox (R451, R452, R454, R461, R471). -/
def Obligations.TheFireboxSensesAndDecides : Prop :=
  (∀ (rs : List SensorReading) (s : State), s.pin.mainPower = true → s.tick % 500 = 0 → s.tm.arm ≠ 0 →
    exec (.tamperSample rs) s = .next (summaryPoint (refreshHealth (takeHits (takeSample rs s).2 (collectBaselines rs (takeSample rs s).1))))) ∧
  (∀ (rs : List SensorReading) (s : State), s.pin.mainPower = false → (∀ r ∈ rs, r.sensor ∈ batterySensors ∧ r.sensor ≠ 5) →
    exec (.batterySample rs) s = .next (takeHits (takeSample rs s).2 (takeSample rs s).1)) ∧
  (∀ s : State, s.pin.mainPower = false → exec .vibrationWake s = .next { s with tm.wakeLeft := 64 }) ∧
  (∀ (d : TamperDec) (f : Bool) (s t : State), s.tm.pending = some d → d.due ≤ s.tick → t = { s with tm.pending := none } →
    (stillMet d t ≠ f → d.hit.cls = 3 → exec (.tamperSecondDecision f) s = .next (summaryPoint (zeroResponse t.tm.evidNext (recordHit d.hit t)))) ∧
    (stillMet d t ≠ f → d.hit.cls = 2 → d.hit.sensor ≠ 6 → (recordHit d.hit t).pin.mainPower = true →
      exec (.tamperSecondDecision f) s = .next (summaryPoint (lockResponse t.tm.evidNext (recordHit d.hit t)))) ∧
    (stillMet d t = f → s.pin.mainPower = false → exec (.tamperSecondDecision f) s =
      .next (battEvent ⟨s.tick, 2, 2, 0x28, 1, 0, d.hit.sensor⟩ { t with tm.grantStop := false })) ∧
    (stillMet d t = f → s.pin.mainPower = true → exec (.tamperSecondDecision f) s = .next
      (let u := evidAppend { evidNow 2 2 0x28 1 0 d.hit.sensor (releaseExits true t) with split := true } (releaseExits true t)
       summaryPoint (lockResponse t.tm.evidNext (tamperReport 2 true t.tm.evidNext (tmLast 2 0x28 0 true u)))))) ∧
  (∀ (d : TamperDec) (s : State), s.tm.pending = some d → s.tick < d.due → ∀ f, exec (.tamperSecondDecision f) s = noEvent s) ∧
  (∀ (sensor inst : Nat) (s : State), 2 ^ 20 ≤ (tget {} s.tm.collects (sensorKey sensor inst)).count →
    exec (.baselineComplete sensor inst) s = .next
      (let k := sensorKey sensor inst
       let c : Collect := tget {} s.tm.collects k
       let mean := c.sum / (c.count : Int)
       let fac := Config.factoryBaseline s.tk.band sensor inst
       let inside := match sensor with
         | 0 | 1 => decide ((mean - fac).natAbs * 100 ≤ 20 * fac.natAbs)
         | 3 => decide ((mean - fac).natAbs ≤ 1500)
         | _ => decide ((mean - fac).natAbs ≤ 288)
       let t : State := { s with tm.collects := tblDel s.tm.collects k }
       let u : State := if inside then { t with tm.baselines := tblPut t.tm.baselines (t.tk.band * 1024 + k) mean } else t
       let v := evidAppend (evidNow 13 0 sensor u.tk.band (b2n (!inside)) (sensor + inst * 256) u) u
       summaryPoint (if inside then v else tamperReport 1 false u.tm.evidNext v))) ∧
  (∀ (v : Nat) (s : State), s.hl.link0.up = true → ∃ r : Nat × List Byte, exec (.tmEvidSel v) s = .next { s with
      tm.evidSel := v % 2 ^ 18, tm.evidReady := true, tm.evidResult := r.1, tm.evidData := r.2 } ∧
    (v % 2 ^ 18 < mainSlots → (tblGet s.tm.evid (v % 2 ^ 18) = none → r = (1, zero64)) ∧
      (∀ e, tblGet s.tm.evid (v % 2 ^ 18) = some (.whole e true) → r = (0, e.bytes)) ∧
      (∀ e, tblGet s.tm.evid (v % 2 ^ 18) = some (.whole e false) → r = (2, e.bytes)))) ∧
  (∀ (t : Nat) (s : State), s.tm.railsDue = some t → t ≤ s.tick →
    exec .thermalRailRemoval s = .next { s with tm.railsDue := none, tm.railsOff := true })

/-- Frames of a group (R521, R526 to R528, R531 to R533, R536, R537, R539). The payloads are the decoded messages: log entry 30. -/
def Obligations.GroupFramesAreTakenOrDropped : Prop :=
  (∀ (p k : Nat) (h : GpHead) (s u : State), headBad u h = false → h.mgen = u.gp.mgen → (h.dst = u.gp.member ∨ h.dst = 255) →
    (u.gp.role = 1 → (member u h.src).state ≠ 4) →
    (takeFrame p k 0x10 h s = some u →
      (∀ e r pool b last, u.gp.role = 1 → (heard h u).gp.role = 1 → exec (.heartbeat p k h e r pool b last) s =
        .next (settle (modMember h.src (fun x => { x with pool, ack := max x.ack last }) (heard h u)))) ∧
      (∀ e r pool b last, (heard h u).gp.role ≠ 1 → h.src = (heard h u).gp.manager → exec (.heartbeat p k h e r pool b last) s =
        .next (let t := modMember h.src (fun x => { x with pool }) (heard h u)
               { t with gp.offset := (h.tick : Int) + (r / 2 : Nat) - (t.tick : Int)
                        gp.journal := t.gp.journal.filter (fun j => !(decide (2 ≤ j.state) && j.sent.any (fun t => decide (t ≤ e)))) }))) ∧
    (takeFrame p k 0x22 h s = some u → ∀ ix until_, exec (.lockout p k h ix until_) s = .next
      (let t : State := { heard h u with gp.inbox := (heard h u).gp.inbox ++ [(0, .lockout ix until_)] }
       if t.gp.role = 1 then ((contacts t).filter (· ≠ h.src)).foldl (fun s m => gpSend m 0x22 (lockoutBytes ix until_) s) t else t)) ∧
    (h.src = u.gp.manager → u.gp.role ≠ 1 →
      (takeFrame p k 0x11 h s = some u → ∀ inner c sg,
        exec (.control p k h inner c sg) s = .next (placeRelayed { heard h u with gp.relayed := some (inner, c, sg) })) ∧
      (takeFrame p k 0x20 h s = some u → ∀ items,
        exec (.repl p k h items) s = .next { heard h u with gp.inbox := (heard h u).gp.inbox ++ items }) ∧
      (takeFrame p k 0x30 h s = some u → ∀ parts, exec (.partReq p k h parts) s = .next (parts.foldl (takePartIn p h.src) (heard h u))) ∧
      (takeFrame p k 0x32 h s = some u → ∀ stops,
        exec (.partCancel p k h stops) s = .next { heard h u with gp.stops := (heard h u).gp.stops ++ stops })) ∧
    (u.gp.role = 1 →
      (takeFrame p k 0x12 h s = some u → ∀ bs, (heard h u).gp.relay = some h.src →
        ((heard h u).mb.held = none → exec (.controlResp p k h bs) s = .next { heard h u with gp.relay := none }) ∧
        (∀ x, (heard h u).mb.held = some x → x.stage = .running → x.frame.code = 0x0D08 →
          exec (.controlResp p k h bs) s = .next (respond St.ok 0 (heard h u).tick bs { heard h u with gp.relay := none }))) ∧
      (takeFrame p k 0x21 h s = some u → ∀ last wants,
        exec (.replAck p k h last wants) s = .next (wants.foldl (sendRecord h.src)
          (settle (modMember h.src (fun x => { x with ack := max x.ack last }) (heard h u))))) ∧
      (takeFrame p k 0x31 h s = some u → ∀ rs,
        exec (.partResult p k h rs) s = .next (((rs.foldl (takePartOut h.src) (heard h u)).hl.slices.map (·.1)).foldl
          (fun s i => flushSlice i s) (rs.foldl (takePartOut h.src) (heard h u)))) ∧
      (takeFrame p k 0x33 h s = some u → ∀ es, heldDoubts (heard h u) h.src = [] → exec (.partJournal p k h es) s =
        .next { heard h u with gp.doubts := (heard h u).gp.doubts.map (reconcile h.src es) }) ∧
      (takeFrame p k 0x41 h s = some u → exec (.promoteAck p k h) s = .next
        (let t : State := if h.src ∈ (heard h u).gp.acks then heard h u else { heard h u with gp.acks := (heard h u).gp.acks ++ [h.src] }
         refreshMajority (modMember h.src (fun x => { x with state := if x.state = 1 then 3 else x.state, ack := t.gp.replSeq }) t))))) ∧
  (∀ (p k : Nat) (h : GpHead) (s : State), ∀ c ∈ [(0x21, Instr.replAck p k h 0 []), (0x41, .promoteAck p k h), (0x20, .repl p k h []),
      (0x32, .partCancel p k h []), (0x22, .lockout p k h 0 0), (0x10, .heartbeat p k h 0 0 0 0 0), (0x30, .partReq p k h []),
      (0x31, .partResult p k h []), (0x33, .partJournal p k h []), (0x11, .control p k h [] 0 0), (0x12, .controlResp p k h [])],
    (takeFrame p k c.1 h s = none → exec c.2 s = .next s) ∧
    ∀ u, takeFrame p k c.1 h s = some u →
      (headBad u h = true → exec c.2 s = .next (dropOther p u)) ∧
      (headBad u h = false → h.mgen < u.gp.mgen → exec c.2 s = .next u) ∧
      (headBad u h = false → u.gp.mgen < h.mgen → (h.dst = u.gp.member ∨ h.dst = 255) →
        exec c.2 s = .next (if u.gp.role = 1 then depose h.mgen u else u)))

/-- Groups (R520, R522, R524, R526, R532, R537, R541, R545). Identities and signatures are Config's and operands: log entry 30. -/
def Obligations.GroupsAreFormedJoinedAndKept : Prop :=
  (∀ (h : Held) (s : State), CmdTaken 0x0D01 h s →
    (s.gp.role = 0 → be h.frame.payload 8 4 = 1 → be h.frame.payload 16 8 = 0 → exec .gpForm s = .next (formGroup h.frame.payload s)) ∧
    (s.gp.role = 4 → (member s s.gp.member).deputy = true → be h.frame.payload 0 4 = s.gp.groupId → be h.frame.payload 4 1 = s.gp.member →
      be h.frame.payload 8 4 = s.gp.mgen + 1 → exec .gpForm s = .next (promoteSelf h h.frame.payload s)) ∧
    (s.gp.role ≠ 0 → s.gp.role ≠ 4 → exec .gpForm s = .next (respond St.groupRole 0 0 [] s))) ∧
  (∀ (h : Held) (s : State), ∀ c ∈ [(0x0D02, Instr.gpAdmit), (0x0D04, .gpRemove), (0x0D05, .gpSpread), (0x0D07, .gpDoubts), (0x0D08, .gpRelay)],
    CmdTaken c.1 h s → s.gp.role ≠ 1 → exec c.2 s = .next (respond St.groupRole 0 0 [] s)) ∧
  (∀ (h : Held) (s : State), CmdTaken 0x0D02 h s → s.gp.role = 1 → be h.frame.payload 1 1 ≤ 1 → be h.frame.payload 2 1 ≤ 31 →
    be h.frame.payload 3 1 ≤ 7 → (member s (be h.frame.payload 0 1)).state = 0 →
    (bitOf (be h.frame.payload 1 1) 0 = true → (s.gp.members.filter (fun q => q.2.deputy)).length < 3) →
    (s.gp.members.filter (fun q => decide (q.1 ≠ s.gp.member ∧ q.2.port = be h.frame.payload 2 1))).length < 32 →
    exec .gpAdmit s = .next
      (let x : Member := { state := 1, deputy := bitOf (be h.frame.payload 1 1) 0, port := be h.frame.payload 2 1, subport := be h.frame.payload 3 1,
                           identity := octets h.frame.payload 8 48 }
       respond St.ok 0 s.tick [] (modMember (be h.frame.payload 0 1) (fun _ => x) s))) ∧
  (∀ (h : Held) (s : State), CmdTaken 0x0D04 h s → s.gp.role = 1 → be h.frame.payload 0 1 ≠ s.gp.member → (member s (be h.frame.payload 0 1)).state ≠ 0 →
    exec .gpRemove s = .next
      (let t := loseParts (be h.frame.payload 0 1) s
       respond St.ok 0 t.tick [] (settle (refreshMajority { t with gp.members := tblDel t.gp.members (be h.frame.payload 0 1) })))) ∧
  (∀ (h : Held) (s : State), CmdTaken 0x0D05 h s → s.gp.role = 1 → exec .gpSpread s = .next
    (let l := s.gp.spread.filter (· ≠ be h.frame.payload 0 2) ++ (if be h.frame.payload 2 1 = 1 then [be h.frame.payload 0 2] else [])
     respond St.ok 0 s.tick [] { s with gp.spread := l })) ∧
  (∀ (h : Held) (s : State), CmdTaken 0x0D06 h s → exec .gpStatus s = .next
    (let t := drawIdentity s
     respond St.ok 0 t.tick (beBytes 1 t.gp.role ++ beBytes 1 t.gp.member ++ beBytes 2 0 ++ beBytes 4 t.gp.groupId ++ beBytes 4 t.gp.mgen ++
       beBytes 4 0 ++ identityDigest t) t)) ∧
  (∀ (h : Held) (s : State), CmdTaken 0x0D07 h s → s.gp.role = 1 → exec .gpDoubts s = .next
    (let n := be h.frame.payload 0 2
     respond St.ok 0 s.tick ((s.gp.doubts.take n).flatMap Doubt.bytes)
       { s with gp.doubts := (s.gp.doubts.take n).filter (fun d => decide (d.res = 0)) ++ s.gp.doubts.drop n })) ∧
  (∀ (h : Held) (s : State), CmdTaken 0x0D08 h s → s.gp.role = 1 →
    (let inner := h.frame.payload.drop 8
     let f := parseHeader (octets inner 0 64)
     64 ≤ inner.length → headerCheck (octets inner 0 64) inner.length = none → f.ext = false → bodyCheck f (inner.drop 64) = none →
     relayBarred f.code = false → be h.frame.payload 0 1 ≠ s.gp.member → (member s (be h.frame.payload 0 1)).state = 3 →
     (3968 < relayResult f → (h.frame.out = false ∨ h.frame.outLen < relayResult f) → exec .gpRelay s = .next (respond St.lengthInvalid 48 0 [] s)) ∧
     ((3968 < relayResult f → h.frame.out = true ∧ relayResult f ≤ h.frame.outLen) → exec .gpRelay s = .next
       (match gateEntry { frame := f.withBody (inner.drop 64), stage := .waiting, cls := 0, since := s.tick, nonce := none, signers := 0 } s with
        | (some e, _, t) => respond e.1 e.2 0 [] t
        | (none, i, t) =>
          if i.stage = .quorum then giveBlocks i.frame (setStage .quorum { t with mb.inner := some i })
          else setStage .running (gpSend (be h.frame.payload 0 1) 0x11 (counted inner ++ beBytes 1 i.cls ++ beBytes 4 i.signers)
            { t with gp.relay := some (be h.frame.payload 0 1), mb.inner := none }))))) ∧
  (∀ (h : Held) (s : State), CmdTaken 0x0D03 h s → (s.gp.role = 0 ∨ s.gp.role = 5) → be h.frame.payload 4 1 ≤ 31 → be h.frame.payload 5 1 ≤ 7 →
    (s.gp.role = 0 → ∀ q ∈ s.ks.recs, q.2.type = 0) → exec .gpJoin s = .next
      (let t : State := { drawIdentity s with
         gp.groupId := be h.frame.payload 0 4, gp.joinPort := be h.frame.payload 4 1, gp.joinSub := be h.frame.payload 5 1
         gp.mgrDigest := octets h.frame.payload 8 48, gp.rejoining := true }
       let q := draw t
       setStage .running (joinFrame 255 0x01 (Config.flueJoin 1 q.2.gp.groupId (q.2.gp.identity.getD 0) q.1 []) q.2))) ∧
  (∀ (p k m g : Nat) (d : List Byte) (re : Bool) (x : Member) (s : State), flueOk s p k = true →
    (s.gp.role ≠ 1 → exec (.joinHello p k g d true re) s = .next s) ∧
    (s.gp.role = 1 → g = s.gp.groupId → re = false →
      s.gp.members.find? (fun q => decide (q.1 ≠ s.gp.member ∧ q.2.identity = d ∧ q.2.port = p ∧ q.2.subport = k)) = some (m, x) →
      exec (.joinHello p k g d true re) s = .next
        (let full := decide (x.state = 1) || !historyHas s x.ack
         let t := modMember m (fun x => { x with state := 2, rxSeq := 0, txSeq := 0, seen := s.tick, synced := s.tick, full }) s
         let q := draw t
         settle (refreshMajority (streamResync m full
           (joinFrame m 0x02 (Config.flueJoin 2 q.2.gp.groupId (q.2.gp.identity.getD 0) q.1 q.2.gp.sak) q.2)))))) ∧
  (∀ (p k lc rtt : Nat) (h : GpHead) (x : Held) (d sak : List Byte) (ok full : Bool) (s : State), flueOk s p k = true → s.gp.rejoining = true →
    h.group = s.gp.groupId → s.mb.held = some x → x.stage = .running → x.frame.code = 0x0D03 →
    (∀ e, joinFault s d ok lc rtt = some e → exec (.joinAccept p k h d ok lc rtt full sak) s =
      .next (respond St.groupJoinRefused e 0 [] { s with gp.rejoining := false })) ∧
    (joinFault s d ok lc rtt = none → exec (.joinAccept p k h d ok lc rtt full sak) s = .next
      (let t := joined h true { s with gp.sak := sak, gp.role := 3, gp.members := [], gp.replSeq := 0, gp.journal := [], gp.history := [] }
       respond St.ok 0 t.tick [] t)))

/-- Losses and promotion (R535, R537 to R540, R546), heartbeats (R521) and resync (R524, R525). -/
def Obligations.GroupsLoseAndPromoteMembers : Prop :=
  (∀ s : State, 1 ≤ s.gp.role → s.gp.role ≤ 4 → s.tick % 1024 = 0 → s.gp.heartTick ≠ s.tick → exec .heartbeatSend s = .next
    ((if s.gp.role = 1 then contacts s else [s.gp.manager]).foldl (fun s m => heartTo m s) { s with gp.heartTick := s.tick })) ∧
  (∀ (m : Nat) (s : State),
    (s.gp.role = 1 → (member s m).state = 2 → (member s m).goal ≤ (member s m).ack → exec (.resyncDone m) s = .next (refreshMajority
      (note 0x1102 1 m (if (member s m).full then 0 else 1) (member s m).sent (modMember m (fun x => { x with state := 3 }) s)))) ∧
    (s.gp.role ≠ 1 → s.gp.resync = true → s.gp.emptyDue = false → s.gp.inbox = [] → m = s.gp.member →
      exec (.resyncDone m) s = .next { s with gp.role := 2, gp.resync := false })) ∧
  (∀ (m : Nat) (s : State), s.gp.role = 1 → m ≠ s.gp.member → memberSilent s m = true → exec (.memberLost m) s = .next
    (let n := (heldDoubts s m).length
     let t := modMember m (fun x => { x with state := 4 }) s
     let u := loseParts m { t with gp.losses := satAdd 32 t.gp.losses 1 }
     settle (refreshMajority (relayLost m (note 0x1101 1 m (member u m).seen ((heldDoubts u m).length - n) u))))) ∧
  (∀ s : State, s.gp.role = 2 → s.gp.lastMgr + 2 ^ 16 ≤ s.tick →
    exec .managerLost s = .next (note 0x1103 1 s.gp.manager s.gp.lastMgr 0 { s with gp.role := 4, gp.rejoining := false })) ∧
  (∀ (id b i : Nat) (w : Work) (s : State), 2 ≤ s.gp.role → s.gp.lastMgr + 2 ^ 12 ≤ s.tick → s.wk.works = [(id, w)] → w.src = .spread b i →
    w.granted = false → w.phase ≠ .ended → exec .partWithdrawTimeout s = .next
      (let t := dropWork id (refund w s)
       { t with gp.journal := t.gp.journal.map (fun j => if w.src = .spread j.batch j.idx then { j with state := 3 } else j) })) ∧
  (∀ (d : Doubt) (s : State), s.gp.doubts.find? (fun d => decide (d.res = 0 ∧ d.tick + 2 ^ 32 ≤ s.tick)) = some d →
    exec .doubtExpiry s = .next (note 0x1105 1 d.member 0
      (s.gp.doubts.filter (fun e => decide (e.res = 0 ∧ e.tick + 2 ^ 32 ≤ s.tick) && decide (e.member = d.member))).length
      (loseDoubts (fun e => decide (e.res = 0 ∧ e.tick + 2 ^ 32 ≤ s.tick) && decide (e.member = d.member)) s))) ∧
  (∀ (p k sr : Nat) (h : GpHead) (f : Frame) (nc : List Byte) (s u : State), takeFrame p k 0x40 h s = some u → h.ver = 1 → u.gp.role ≠ 0 →
    h.group = u.gp.groupId → h.len ≤ 8192 →
    (h.mgen ≤ u.gp.mgen → exec (.promote p k h f sr nc) s = .next u) ∧
    (u.gp.mgen < h.mgen → (h.dst = u.gp.member ∨ h.dst = 255) → exec (.promote p k h f sr nc) s = .next
      (if promoteOk u f sr nc = false ∨ be f.payload 8 4 ≠ h.mgen ∨ be f.payload 0 4 ≠ u.gp.groupId then u
       else if u.gp.role = 1 then depose h.mgen u
       else if u.gp.role = 5 ∨ bitOf (be f.payload 16 8) u.gp.member = true ∨ (member u h.src).deputy = false then u
       else acceptPromotion p k h (be f.payload 16 8) u)))

/-- R355, whole: through the register write and through the rows of the actions. -/
def Obligations.DigestControlWritesOutOfOrder : Prop :=
  ∀ (u : Nat) (s : State), s.hl.link0.up = true → u < 8 → (dgUnit s u).claimed = true →
    (∀ v : Nat, v < 2 ^ 32 → ([bitOf v 31, bitOf v 30, bitOf v 29, bitOf v 28].count true ≠ 1) →
      exec (.registerWrite none (0x5100 + 0x1C0 * u) 4 v) s = .next (modDg u (fun x => { x with status := St.digestSequence }) s)) ∧
    ((dgUnit s u).active = true → (∀ alg b, exec (.dgStart u alg b) s = .next (modDg u (fun x => { x with status := St.digestSequence }) s)) ∧
      exec (.dgRestore u) s = .next (modDg u (fun x => { x with status := St.digestSequence }) s)) ∧
    ((dgUnit s u).active = false → exec (.dgSave u) s = .next (modDg u (fun x => { x with status := St.digestSequence }) s))

/-- R407, whole: nothing in it asks who signed. -/
def Obligations.RulesThatCouldNotBeMetAreRefused : Prop :=
  (∀ (h : Held) (s : State), CmdTaken 0x0102 h s → (s.prov.creds.getD (be h.frame.payload 0 1) {}).state = 1 →
    (canSatisfy s.prov.rules (listMod s.prov.creds (be h.frame.payload 0 1) (fun c => { c with state := 2 })) = false →
      exec .credRevoke s = .next (respond St.grateRange 64 0 [] s) ∧ (respond St.grateRange 64 0 [] s).prov = s.prov) ∧
    (canSatisfy s.prov.rules (listMod s.prov.creds (be h.frame.payload 0 1) (fun c => { c with state := 2 })) = true →
      bitOf h.signers (be h.frame.payload 0 1) = true → ∃ t, exec .credRevoke s = .next t ∧
        t.prov.creds = listMod s.prov.creds (be h.frame.payload 0 1) (fun c => { c with state := 2 }) ∧ t.prov.rules = s.prov.rules)) ∧
  (∀ (h : Held) (s : State), CmdTaken 0x0104 h s → s.ks.cer = none →
    ((parseRules h.frame.payload).zipIdx).find? (fun q => !ruleShapeOk q.2 q.1) = none →
    canSatisfy (parseRules h.frame.payload) s.prov.creds = false →
    exec .quorumSet s = .next (respond St.grateRange 64 0 [] s) ∧ (respond St.grateRange 64 0 [] s).prov = s.prov)
end

