-- ==== Sys2Proof/Laws/Commands.lean ====
section
/-!
SUPPORT. What carrying out a command frame, a refusal, and an event under a condition can do, said once.
-/
namespace Sys2Proof.Machine
open Sys2Proof

/-- A command taken up is carried out: a next state, whatever it is. -/
theorem withCmd_of_taken {code : Nat} {h : Held} {s : State} {f : Held → List Byte → State → State}
    (t : CmdTaken code h s) : withCmd code s f = .next (f h h.frame.payload s) := by
  obtain ⟨a, b, _, d, e, g, i⟩ := t
  have c : h.relay = false := by assumption
  have n : ¬(h.stage ≠ .ready ∨ h.frame.code ≠ code ∨ (noController s = true ∧ s.lc.startFail = none)) := by
    rintro (x | x | ⟨x, y⟩)
    · exact x b
    · exact x d
    · rcases e with e | e
      · simp [e] at x
      · exact e y
  simp only [withCmd, a, if_neg n, g, c, i]

/-- A command row always answers a next state; where no such command is held, the state as it is. -/
theorem withCmd_next (code : Nat) (s : State) (f : Held → List Byte → State → State) : ∃ t, withCmd code s f = .next t := by
  unfold withCmd noEvent
  split
  · exact ⟨_, rfl⟩
  · split
    · exact ⟨_, rfl⟩
    · split
      · exact ⟨_, rfl⟩
      · split <;> exact ⟨_, rfl⟩

/-- With no command held a command row leaves the state as it is. -/
@[simp] theorem withCmd_none {code : Nat} {s : State} {f : Held → List Byte → State → State} (h : s.mb.held = none) :
    withCmd code s f = .next s := by
  simp [withCmd, noEvent, h]

/-- An event under its condition. -/
theorem whenOk_true {c : Bool} {s t : State} (h : c = true) : whenOk c s t = .next t := by simp [whenOk, h]

/-- An event whose condition does not hold leaves the state as it is. -/
theorem whenOk_false {c : Bool} {s t : State} (h : c = false) : whenOk c s t = .next s := by simp [whenOk, noEvent, h]

/-- An access of PF0's window while host link 0 is up. -/
theorem viaPf0_up {s : State} {r : Res} (h : s.hl.link0.up = true) : viaPf0 s r = r := by simp [viaPf0, h]

@[simp] theorem refuse_eq (st d : Nat) (s : State) : refuse st d s = respond st d 0 [] s := rfl

/-- With no command held nothing is answered. -/
@[simp] theorem respond_none {st d k : Nat} {p : List Byte} {s : State} (h : s.mb.held = none) : respond st d k p s = s := by
  simp [respond, h]

end Sys2Proof.Machine
end

