-- ==== Sys2Proof/Laws/Keeps.lean ====
section
/-!
SUPPORT. How a property of the state passes through the shapes the meanings are written in: folds over a state, alone or in a
pair, a choice, an outcome, and the step's queue.
-/
namespace Sys2Proof.Machine
open Sys2Proof
variable {α β γ : Type} {P : State → Prop}

/-- A fold whose every step keeps a property keeps it. -/
theorem foldl_keeps {f : State → α → State} (h : ∀ s a, P s → P (f s a)) : ∀ (l : List α) {s : State}, P s → P (l.foldl f s)
  | [], _, p => p
  | a :: l, s, p => foldl_keeps h l (h s a p)

/-- The same where the state is the first of a pair. -/
theorem foldl_keeps_fst {f : State × β → α → State × β} (h : ∀ q a, P q.1 → P (f q a).1) :
    ∀ (l : List α) {q : State × β}, P q.1 → P (l.foldl f q).1
  | [], _, p => p
  | a :: l, q, p => foldl_keeps_fst h l (h q a p)

/-- The same where the state is the second of a pair. -/
theorem foldl_keeps_snd {f : β × State → α → β × State} (h : ∀ q a, P q.2 → P (f q a).2) :
    ∀ (l : List α) {q : β × State}, P q.2 → P (l.foldl f q).2
  | [], _, p => p
  | a :: l, q, p => foldl_keeps_snd h l (h q a p)

/-- The same where the state is the last of three. -/
theorem foldl_keeps_last {f : β × γ × State → α → β × γ × State} (h : ∀ q a, P q.2.2 → P (f q a).2.2) :
    ∀ (l : List α) {q : β × γ × State}, P q.2.2 → P (l.foldl f q).2.2
  | [], _, p => p
  | a :: l, q, p => foldl_keeps_last h l (h q a p)

/-- A choice of two states that have a property has it. -/
theorem ite_keeps {c : Prop} [Decidable c] {a b : State} (ha : P a) (hb : P b) : P (if c then a else b) := by
  split <;> assumption

/-- An outcome keeps a property: its next state, if it answers one, has it. -/
def ResKeeps (P : State → Prop) : Res → Prop
  | .next t => P t
  | .fault _ => True
  | .refused _ => True

@[simp] theorem resKeeps_next {t : State} : ResKeeps P (.next t) = P t := rfl
@[simp] theorem resKeeps_fault {e : Fault} : ResKeeps P (.fault e) = True := rfl
@[simp] theorem resKeeps_refused {e : Refusal} : ResKeeps P (.refused e) = True := rfl
@[simp] theorem resKeeps_noEvent {s : State} : ResKeeps P (noEvent s) = P s := rfl

theorem ite_resKeeps {c : Prop} [Decidable c] {a b : Res} (ha : ResKeeps P a) (hb : ResKeeps P b) : ResKeeps P (if c then a else b) := by
  split <;> assumption

theorem whenOk_keeps {c : Bool} {s t : State} (p : P s) (h : c = true → P t) : ResKeeps P (whenOk c s t) := by
  unfold whenOk
  split
  · exact h (by assumption)
  · exact p

/-- A property that taking the front of the queue keeps, and every command keeps, every step keeps. -/
theorem step_keeps (hq : ∀ s c l, s.pending = c :: l → P s → P { s with pending := l })
    (h : ∀ c s, P s → ResKeeps P (exec c s)) {s t : State} (p : P s) (e : step s = .next t) : P t := by
  unfold step at e
  cases hp : s.pending with
  | nil => rw [hp] at e; cases e; exact p
  | cons c l =>
    rw [hp] at e
    have k := h c _ (hq s c l hp p)
    simp only at e
    rw [e] at k
    exact k

end Sys2Proof.Machine
end

