-- ==== Sys2Proof/Laws/Tables.lean ====
section
/-!
SUPPORT. Tables: what a key reads as after a write, that a write of one key leaves every other key alone, that every operation
keeps the canonical form, and that a second write of a key replaces the first.
-/
namespace Sys2Proof.Machine
variable {α : Type}

/-! ### The canonical form -/

theorem tblAbove_mono {a b : Nat} (h : a ≤ b) : ∀ {t : Tbl α}, tblAbove b t = true → tblAbove a t = true
  | [], _ => rfl
  | (k, v) :: t, w => by
    simp only [tblAbove, Bool.and_eq_true, decide_eq_true_eq] at w ⊢
    exact ⟨by omega, w.2⟩

theorem tblAbove_wf {a : Nat} : ∀ {t : Tbl α}, tblAbove a t = true → tblWf t = true
  | [], _ => rfl
  | (k, v) :: t, w => by
    simp only [tblAbove, Bool.and_eq_true] at w
    exact w.2

/-- Below the least key nothing is listed. -/
theorem tblGet_below {a j : Nat} (hj : j ≤ a) : ∀ {t : Tbl α}, tblAbove a t = true → tblGet t j = none
  | [], _ => rfl
  | (k, v) :: t, w => by
    simp only [tblAbove, Bool.and_eq_true, decide_eq_true_eq] at w
    simp [tblGet, show ¬j = k by omega, show j < k by omega]

theorem tblAbove_put {a j : Nat} (x : α) (hj : a < j) : ∀ {t : Tbl α}, tblAbove a t = true → tblAbove a (tblPut t j x) = true
  | [], _ => by simp [tblPut, tblAbove, hj]
  | (k, v) :: t, w => by
    simp only [tblAbove, Bool.and_eq_true, decide_eq_true_eq] at w
    unfold tblPut
    split
    · simp [tblAbove, hj, w.2]; assumption
    · split
      · subst j; simp [tblAbove, w]
      · have := tblAbove_put x (show k < j by omega) w.2
        simp [tblAbove, w.1, this]

theorem tblAbove_del {a j : Nat} : ∀ {t : Tbl α}, tblAbove a t = true → tblAbove a (tblDel t j) = true
  | [], _ => rfl
  | (k, v) :: t, w => by
    have hw := w
    simp only [tblAbove, Bool.and_eq_true, decide_eq_true_eq] at w
    unfold tblDel
    split
    · exact tblAbove_mono (Nat.le_of_lt w.1) w.2
    · split
      · exact hw
      · have := tblAbove_del (j := j) w.2
        simp [tblAbove, w.1, this]

/-- Putting an entry keeps the canonical form. -/
theorem tblWf_put (j : Nat) (x : α) : ∀ {t : Tbl α}, tblWf t = true → tblWf (tblPut t j x) = true
  | [], _ => rfl
  | (k, v) :: t, w => by
    simp only [tblWf] at w
    unfold tblPut
    split
    · simp [tblWf, tblAbove, w]; assumption
    · split
      · subst j; exact w
      · exact tblAbove_put x (by omega) w

/-- Removing an entry keeps the canonical form. -/
theorem tblWf_del (j : Nat) : ∀ {t : Tbl α}, tblWf t = true → tblWf (tblDel t j) = true
  | [], _ => rfl
  | (k, v) :: t, w => by
    have hw := w
    simp only [tblWf] at w
    unfold tblDel
    split
    · exact tblAbove_wf w
    · split
      · exact hw
      · exact tblAbove_del w

/-- Writing a key keeps the canonical form. -/
theorem tblWf_set [DecidableEq α] (d : α) (j : Nat) (v : α) {t : Tbl α} (w : tblWf t = true) : tblWf (tset d t j v) = true := by
  unfold tset
  split
  · exact tblWf_del j w
  · exact tblWf_put j v w

/-- A put of another value than `d` brings no entry `d` in. -/
theorem tblNoDefault_put [DecidableEq α] {d v : α} (h : v ≠ d) (j : Nat) : ∀ {t : Tbl α}, tblNoDefault d t = true → tblNoDefault d (tblPut t j v) = true
  | [], _ => by simp [tblPut, tblNoDefault, h]
  | (k, x) :: t, w => by
    simp only [tblNoDefault, List.all_cons, Bool.and_eq_true] at w
    unfold tblPut
    split
    · simp only [tblNoDefault, List.all_cons, Bool.and_eq_true]; exact ⟨by simpa using h, w⟩
    · split
      · simp only [tblNoDefault, List.all_cons, Bool.and_eq_true]; exact ⟨by simpa using h, w.2⟩
      · simp only [tblNoDefault, List.all_cons, Bool.and_eq_true]; exact ⟨w.1, tblNoDefault_put h j w.2⟩

/-- Removing an entry brings none in. -/
theorem tblNoDefault_del [DecidableEq α] {d : α} (j : Nat) : ∀ {t : Tbl α}, tblNoDefault d t = true → tblNoDefault d (tblDel t j) = true
  | [], _ => rfl
  | (k, x) :: t, w => by
    have w' := w
    simp only [tblNoDefault, List.all_cons, Bool.and_eq_true] at w'
    unfold tblDel
    split
    · exact w'.2
    · split
      · exact w
      · simp only [tblNoDefault, List.all_cons, Bool.and_eq_true]; exact ⟨w'.1, tblNoDefault_del j w'.2⟩

/-- Writing a key keeps the canonical form of a store. -/
theorem tblCanon_set [DecidableEq α] (d : α) (j : Nat) (v : α) {t : Tbl α} (w : tblCanon d t = true) : tblCanon d (tset d t j v) = true := by
  simp only [tblCanon, Bool.and_eq_true] at w ⊢
  refine ⟨tblWf_set d j v w.1, ?_⟩
  unfold tset
  split
  · exact tblNoDefault_del j w.2
  · next h => exact tblNoDefault_put h j w.2

/-! ### What a key reads as -/

/-- After a put the key reads as what was put. -/
@[simp] theorem tblGet_put_same (j : Nat) (x : α) : ∀ t : Tbl α, tblGet (tblPut t j x) j = some x
  | [] => by simp [tblPut, tblGet]
  | (k, v) :: t => by
    unfold tblPut
    split
    · simp [tblGet]
    · split
      · simp [tblGet]
      · simp only [tblGet, if_neg (show ¬j = k by omega), if_neg (show ¬j < k by omega)]
        exact tblGet_put_same j x t

/-- A put leaves every other key alone. -/
theorem tblGet_put_other {i j : Nat} (h : i ≠ j) (x : α) : ∀ t : Tbl α, tblGet (tblPut t j x) i = tblGet t i
  | [] => by simp [tblPut, tblGet, h]
  | (k, v) :: t => by
    unfold tblPut
    split
    · simp only [tblGet, if_neg h]
      split
      · rw [if_neg (by omega), if_pos (by omega)]
      · rfl
    · split
      · subst j; simp [tblGet, h]
      · simp only [tblGet]
        rw [tblGet_put_other h x t]

/-- After a removal the key is not listed. -/
theorem tblGet_del_same (j : Nat) : ∀ {t : Tbl α}, tblWf t = true → tblGet (tblDel t j) j = none
  | [], _ => rfl
  | (k, v) :: t, w => by
    simp only [tblWf] at w
    unfold tblDel
    split
    · exact tblGet_below (by omega) w
    · split
      · simp only [tblGet, if_neg (show ¬j = k by assumption), if_pos (show j < k by assumption)]
      · simp only [tblGet, if_neg (show ¬j = k by omega), if_neg (show ¬j < k by omega)]
        exact tblGet_del_same j (tblAbove_wf w)

/-- A removal leaves every other key alone. -/
theorem tblGet_del_other {i j : Nat} (h : i ≠ j) : ∀ {t : Tbl α}, tblWf t = true → tblGet (tblDel t j) i = tblGet t i
  | [], _ => rfl
  | (k, v) :: t, w => by
    simp only [tblWf] at w
    unfold tblDel
    split
    · subst j
      simp only [tblGet, if_neg h]
      split
      · exact tblGet_below (by omega) w
      · rfl
    · split
      · rfl
      · simp only [tblGet]
        rw [tblGet_del_other h (tblAbove_wf w)]

/-- After a write the key reads as what was written. -/
theorem tget_set_same [DecidableEq α] (d : α) (j : Nat) (v : α) {t : Tbl α} (w : tblWf t = true) : tget d (tset d t j v) j = v := by
  unfold tset tget
  split
  · simp [tblGet_del_same j w, *]
  · simp

/-- The same without the canonical form, for a value that is listed. -/
theorem tget_set_same_of_ne [DecidableEq α] {d v : α} (h : v ≠ d) (j : Nat) (t : Tbl α) : tget d (tset d t j v) j = v := by
  simp [tset, tget, h]

/-- A write leaves every other key alone. -/
theorem tget_set_other [DecidableEq α] {i j : Nat} (h : i ≠ j) (d v : α) {t : Tbl α} (w : tblWf t = true) :
    tget d (tset d t j v) i = tget d t i := by
  unfold tset tget
  split
  · rw [tblGet_del_other h w]
  · rw [tblGet_put_other h]

/-! ### A second write of a key -/

theorem tblPut_put (j : Nat) (x y : α) : ∀ t : Tbl α, tblPut (tblPut t j x) j y = tblPut t j y
  | [] => by simp [tblPut]
  | (k, v) :: t => by
    by_cases a : j < k
    · simp [tblPut, a]
    · by_cases b : j = k
      · simp [tblPut, b]
      · simp [tblPut, a, b, tblPut_put j x y t]

theorem tblDel_put (j : Nat) (x : α) : ∀ t : Tbl α, tblDel (tblPut t j x) j = tblDel t j
  | [] => by simp [tblPut, tblDel]
  | (k, v) :: t => by
    by_cases a : j < k
    · simp [tblPut, tblDel, a, show ¬j = k by omega]
    · by_cases b : j = k
      · simp [tblPut, tblDel, b]
      · simp [tblPut, tblDel, a, b, tblDel_put j x t]

/-- A write after a write of the same key, where the first value is listed. -/
theorem tset_set_of_ne [DecidableEq α] {d v : α} (h : v ≠ d) (j : Nat) (u : α) (t : Tbl α) :
    tset d (tset d t j v) j u = tset d t j u := by
  simp [tset, h, tblPut_put, tblDel_put]

end Sys2Proof.Machine
end

