-- ==== Sys2Proof/Laws/State.lean ====
section
/-!
SUPPORT. What each update of the state leaves alone, one equation a field, so that no proof unfolds a record update; and what two
updates of one unit come to.
-/
namespace Sys2Proof.Machine
open Sys2Proof

/-- A fold of updates that leave a part alone leaves it alone. -/
theorem foldl_frame {α β : Type} (g : State → β) {f : State → α → State} (h : ∀ s a, g (f s a) = g s) :
    ∀ (l : List α) (s : State), g (l.foldl f s) = g s
  | [], _ => rfl
  | a :: l, s => (foldl_frame g h l (f s a)).trans (h s a)

/-- `emit` changes `out` and leaves every other part of the state alone. -/
@[simp] theorem emit_frame (o : Output) (s : State) :
    (emit o s).tick = s.tick ∧ (emit o s).freeCtr = s.freeCtr ∧ (emit o s).rc = s.rc ∧ (emit o s).nq = s.nq ∧ (emit o s).tr = s.tr ∧
    (emit o s).mb = s.mb ∧ (emit o s).prov = s.prov ∧ (emit o s).fn = s.fn ∧ (emit o s).lc = s.lc ∧ (emit o s).hc = s.hc ∧ (emit o s).tm = s.tm ∧
    (emit o s).pin = s.pin ∧ (emit o s).wk = s.wk ∧ (emit o s).hl = s.hl ∧ (emit o s).tk = s.tk ∧ (emit o s).en = s.en ∧ (emit o s).lim = s.lim ∧
    (emit o s).ac = s.ac ∧ (emit o s).ks = s.ks ∧ (emit o s).pk = s.pk ∧ (emit o s).ln = s.ln ∧ (emit o s).pt = s.pt ∧ (emit o s).ad = s.ad ∧
    (emit o s).dg = s.dg ∧ (emit o s).rn = s.rn ∧ (emit o s).gp = s.gp ∧ (emit o s).exitHeld = s.exitHeld ∧ (emit o s).pending = s.pending := by
  refine ⟨?_, ?_, ?_, ?_, ?_, ?_, ?_, ?_, ?_, ?_, ?_, ?_, ?_, ?_, ?_, ?_, ?_, ?_, ?_, ?_, ?_, ?_, ?_, ?_, ?_, ?_, ?_, ?_⟩ <;> (first | rfl | (unfold emit; (try dsimp only); (repeat' split) <;> (first | rfl | simp)))

/-- `send` changes `out`, `exitHeld` and leaves every other part of the state alone. -/
@[simp] theorem send_frame (o : Output) (s : State) :
    (send o s).tick = s.tick ∧ (send o s).freeCtr = s.freeCtr ∧ (send o s).rc = s.rc ∧ (send o s).nq = s.nq ∧ (send o s).tr = s.tr ∧
    (send o s).mb = s.mb ∧ (send o s).prov = s.prov ∧ (send o s).fn = s.fn ∧ (send o s).lc = s.lc ∧ (send o s).hc = s.hc ∧ (send o s).tm = s.tm ∧
    (send o s).pin = s.pin ∧ (send o s).wk = s.wk ∧ (send o s).hl = s.hl ∧ (send o s).tk = s.tk ∧ (send o s).en = s.en ∧ (send o s).lim = s.lim ∧
    (send o s).ac = s.ac ∧ (send o s).ks = s.ks ∧ (send o s).pk = s.pk ∧ (send o s).ln = s.ln ∧ (send o s).pt = s.pt ∧ (send o s).ad = s.ad ∧
    (send o s).dg = s.dg ∧ (send o s).rn = s.rn ∧ (send o s).gp = s.gp ∧ (send o s).pending = s.pending := by
  refine ⟨?_, ?_, ?_, ?_, ?_, ?_, ?_, ?_, ?_, ?_, ?_, ?_, ?_, ?_, ?_, ?_, ?_, ?_, ?_, ?_, ?_, ?_, ?_, ?_, ?_, ?_, ?_⟩ <;> (first | rfl | (unfold send; (try dsimp only); (repeat' split) <;> (first | rfl | simp)))

/-- `sendAll` changes `out`, `exitHeld` and leaves every other part of the state alone. -/
@[simp] theorem sendAll_frame (os : List Output) (s : State) :
    (sendAll os s).tick = s.tick ∧ (sendAll os s).freeCtr = s.freeCtr ∧ (sendAll os s).rc = s.rc ∧ (sendAll os s).nq = s.nq ∧
    (sendAll os s).tr = s.tr ∧ (sendAll os s).mb = s.mb ∧ (sendAll os s).prov = s.prov ∧ (sendAll os s).fn = s.fn ∧ (sendAll os s).lc = s.lc ∧
    (sendAll os s).hc = s.hc ∧ (sendAll os s).tm = s.tm ∧ (sendAll os s).pin = s.pin ∧ (sendAll os s).wk = s.wk ∧ (sendAll os s).hl = s.hl ∧
    (sendAll os s).tk = s.tk ∧ (sendAll os s).en = s.en ∧ (sendAll os s).lim = s.lim ∧ (sendAll os s).ac = s.ac ∧ (sendAll os s).ks = s.ks ∧
    (sendAll os s).pk = s.pk ∧ (sendAll os s).ln = s.ln ∧ (sendAll os s).pt = s.pt ∧ (sendAll os s).ad = s.ad ∧ (sendAll os s).dg = s.dg ∧
    (sendAll os s).rn = s.rn ∧ (sendAll os s).gp = s.gp ∧ (sendAll os s).pending = s.pending :=
  ⟨foldl_frame (·.tick) (fun s c => by simp) _ _,
   foldl_frame (·.freeCtr) (fun s c => by simp) _ _,
   foldl_frame (·.rc) (fun s c => by simp) _ _,
   foldl_frame (·.nq) (fun s c => by simp) _ _,
   foldl_frame (·.tr) (fun s c => by simp) _ _,
   foldl_frame (·.mb) (fun s c => by simp) _ _,
   foldl_frame (·.prov) (fun s c => by simp) _ _,
   foldl_frame (·.fn) (fun s c => by simp) _ _,
   foldl_frame (·.lc) (fun s c => by simp) _ _,
   foldl_frame (·.hc) (fun s c => by simp) _ _,
   foldl_frame (·.tm) (fun s c => by simp) _ _,
   foldl_frame (·.pin) (fun s c => by simp) _ _,
   foldl_frame (·.wk) (fun s c => by simp) _ _,
   foldl_frame (·.hl) (fun s c => by simp) _ _,
   foldl_frame (·.tk) (fun s c => by simp) _ _,
   foldl_frame (·.en) (fun s c => by simp) _ _,
   foldl_frame (·.lim) (fun s c => by simp) _ _,
   foldl_frame (·.ac) (fun s c => by simp) _ _,
   foldl_frame (·.ks) (fun s c => by simp) _ _,
   foldl_frame (·.pk) (fun s c => by simp) _ _,
   foldl_frame (·.ln) (fun s c => by simp) _ _,
   foldl_frame (·.pt) (fun s c => by simp) _ _,
   foldl_frame (·.ad) (fun s c => by simp) _ _,
   foldl_frame (·.dg) (fun s c => by simp) _ _,
   foldl_frame (·.rn) (fun s c => by simp) _ _,
   foldl_frame (·.gp) (fun s c => by simp) _ _,
   foldl_frame (·.pending) (fun s c => by simp) _ _⟩

/-- `vector` changes `out`, `hl` and leaves every other part of the state alone. -/
@[simp] theorem vector_frame (v : Nat) (s : State) :
    (vector v s).tick = s.tick ∧ (vector v s).freeCtr = s.freeCtr ∧ (vector v s).rc = s.rc ∧ (vector v s).nq = s.nq ∧ (vector v s).tr = s.tr ∧
    (vector v s).mb = s.mb ∧ (vector v s).prov = s.prov ∧ (vector v s).fn = s.fn ∧ (vector v s).lc = s.lc ∧ (vector v s).hc = s.hc ∧
    (vector v s).tm = s.tm ∧ (vector v s).pin = s.pin ∧ (vector v s).wk = s.wk ∧ (vector v s).tk = s.tk ∧ (vector v s).en = s.en ∧
    (vector v s).lim = s.lim ∧ (vector v s).ac = s.ac ∧ (vector v s).ks = s.ks ∧ (vector v s).pk = s.pk ∧ (vector v s).ln = s.ln ∧
    (vector v s).pt = s.pt ∧ (vector v s).ad = s.ad ∧ (vector v s).dg = s.dg ∧ (vector v s).rn = s.rn ∧ (vector v s).gp = s.gp ∧
    (vector v s).exitHeld = s.exitHeld ∧ (vector v s).pending = s.pending := by
  refine ⟨?_, ?_, ?_, ?_, ?_, ?_, ?_, ?_, ?_, ?_, ?_, ?_, ?_, ?_, ?_, ?_, ?_, ?_, ?_, ?_, ?_, ?_, ?_, ?_, ?_, ?_, ?_⟩ <;> (first | rfl | (unfold vector raiseMsix; (try dsimp only); (repeat' split) <;> (first | rfl | simp)))

/-- `draw` changes `freeCtr` and leaves every other part of the state alone. -/
@[simp] theorem draw_frame (s : State) :
    (draw s).2.tick = s.tick ∧ (draw s).2.out = s.out ∧ (draw s).2.rc = s.rc ∧ (draw s).2.nq = s.nq ∧ (draw s).2.tr = s.tr ∧ (draw s).2.mb = s.mb ∧
    (draw s).2.prov = s.prov ∧ (draw s).2.fn = s.fn ∧ (draw s).2.lc = s.lc ∧ (draw s).2.hc = s.hc ∧ (draw s).2.tm = s.tm ∧ (draw s).2.pin = s.pin ∧
    (draw s).2.wk = s.wk ∧ (draw s).2.hl = s.hl ∧ (draw s).2.tk = s.tk ∧ (draw s).2.en = s.en ∧ (draw s).2.lim = s.lim ∧ (draw s).2.ac = s.ac ∧
    (draw s).2.ks = s.ks ∧ (draw s).2.pk = s.pk ∧ (draw s).2.ln = s.ln ∧ (draw s).2.pt = s.pt ∧ (draw s).2.ad = s.ad ∧ (draw s).2.dg = s.dg ∧
    (draw s).2.rn = s.rn ∧ (draw s).2.gp = s.gp ∧ (draw s).2.exitHeld = s.exitHeld ∧ (draw s).2.pending = s.pending := by
  refine ⟨?_, ?_, ?_, ?_, ?_, ?_, ?_, ?_, ?_, ?_, ?_, ?_, ?_, ?_, ?_, ?_, ?_, ?_, ?_, ?_, ?_, ?_, ?_, ?_, ?_, ?_, ?_, ?_⟩ <;> (first | rfl | (unfold draw; (try dsimp only); (repeat' split) <;> (first | rfl | simp)))

/-- `arm` changes `mb` and leaves every other part of the state alone. -/
@[simp] theorem arm_frame (k : Nat) (s : State) :
    (arm k s).tick = s.tick ∧ (arm k s).out = s.out ∧ (arm k s).freeCtr = s.freeCtr ∧ (arm k s).rc = s.rc ∧ (arm k s).nq = s.nq ∧ (arm k s).tr = s.tr ∧
    (arm k s).prov = s.prov ∧ (arm k s).fn = s.fn ∧ (arm k s).lc = s.lc ∧ (arm k s).hc = s.hc ∧ (arm k s).tm = s.tm ∧ (arm k s).pin = s.pin ∧
    (arm k s).wk = s.wk ∧ (arm k s).hl = s.hl ∧ (arm k s).tk = s.tk ∧ (arm k s).en = s.en ∧ (arm k s).lim = s.lim ∧ (arm k s).ac = s.ac ∧
    (arm k s).ks = s.ks ∧ (arm k s).pk = s.pk ∧ (arm k s).ln = s.ln ∧ (arm k s).pt = s.pt ∧ (arm k s).ad = s.ad ∧ (arm k s).dg = s.dg ∧
    (arm k s).rn = s.rn ∧ (arm k s).gp = s.gp ∧ (arm k s).exitHeld = s.exitHeld ∧ (arm k s).pending = s.pending := by
  refine ⟨?_, ?_, ?_, ?_, ?_, ?_, ?_, ?_, ?_, ?_, ?_, ?_, ?_, ?_, ?_, ?_, ?_, ?_, ?_, ?_, ?_, ?_, ?_, ?_, ?_, ?_, ?_, ?_⟩ <;> (first | rfl | (unfold arm; (try dsimp only); (repeat' split) <;> (first | rfl | simp)))

/-- `setStage` changes `mb` and leaves every other part of the state alone. -/
@[simp] theorem setStage_frame (g : CmdStage) (s : State) :
    (setStage g s).tick = s.tick ∧ (setStage g s).out = s.out ∧ (setStage g s).freeCtr = s.freeCtr ∧ (setStage g s).rc = s.rc ∧
    (setStage g s).nq = s.nq ∧ (setStage g s).tr = s.tr ∧ (setStage g s).prov = s.prov ∧ (setStage g s).fn = s.fn ∧ (setStage g s).lc = s.lc ∧
    (setStage g s).hc = s.hc ∧ (setStage g s).tm = s.tm ∧ (setStage g s).pin = s.pin ∧ (setStage g s).wk = s.wk ∧ (setStage g s).hl = s.hl ∧
    (setStage g s).tk = s.tk ∧ (setStage g s).en = s.en ∧ (setStage g s).lim = s.lim ∧ (setStage g s).ac = s.ac ∧ (setStage g s).ks = s.ks ∧
    (setStage g s).pk = s.pk ∧ (setStage g s).ln = s.ln ∧ (setStage g s).pt = s.pt ∧ (setStage g s).ad = s.ad ∧ (setStage g s).dg = s.dg ∧
    (setStage g s).rn = s.rn ∧ (setStage g s).gp = s.gp ∧ (setStage g s).exitHeld = s.exitHeld ∧ (setStage g s).pending = s.pending := by
  refine ⟨?_, ?_, ?_, ?_, ?_, ?_, ?_, ?_, ?_, ?_, ?_, ?_, ?_, ?_, ?_, ?_, ?_, ?_, ?_, ?_, ?_, ?_, ?_, ?_, ?_, ?_, ?_, ?_⟩ <;> (first | rfl | (unfold setStage; (try dsimp only); (repeat' split) <;> (first | rfl | simp)))

/-- `setLong` changes `mb` and leaves every other part of the state alone. -/
@[simp] theorem setLong_frame (id status detail : Nat) (s : State) :
    (setLong id status detail s).tick = s.tick ∧ (setLong id status detail s).out = s.out ∧ (setLong id status detail s).freeCtr = s.freeCtr ∧
    (setLong id status detail s).rc = s.rc ∧ (setLong id status detail s).nq = s.nq ∧ (setLong id status detail s).tr = s.tr ∧
    (setLong id status detail s).prov = s.prov ∧ (setLong id status detail s).fn = s.fn ∧ (setLong id status detail s).lc = s.lc ∧
    (setLong id status detail s).hc = s.hc ∧ (setLong id status detail s).tm = s.tm ∧ (setLong id status detail s).pin = s.pin ∧
    (setLong id status detail s).wk = s.wk ∧ (setLong id status detail s).hl = s.hl ∧ (setLong id status detail s).tk = s.tk ∧
    (setLong id status detail s).en = s.en ∧ (setLong id status detail s).lim = s.lim ∧ (setLong id status detail s).ac = s.ac ∧
    (setLong id status detail s).ks = s.ks ∧ (setLong id status detail s).pk = s.pk ∧ (setLong id status detail s).ln = s.ln ∧
    (setLong id status detail s).pt = s.pt ∧ (setLong id status detail s).ad = s.ad ∧ (setLong id status detail s).dg = s.dg ∧
    (setLong id status detail s).rn = s.rn ∧ (setLong id status detail s).gp = s.gp ∧ (setLong id status detail s).exitHeld = s.exitHeld ∧
    (setLong id status detail s).pending = s.pending := by
  refine ⟨?_, ?_, ?_, ?_, ?_, ?_, ?_, ?_, ?_, ?_, ?_, ?_, ?_, ?_, ?_, ?_, ?_, ?_, ?_, ?_, ?_, ?_, ?_, ?_, ?_, ?_, ?_, ?_⟩ <;> (first | rfl | (unfold setLong; (try dsimp only); (repeat' split) <;> (first | rfl | simp)))

/-- `modEng` changes `en` and leaves every other part of the state alone. -/
@[simp] theorem modEng_frame (e : Nat) (f : Eng → Eng) (s : State) :
    (modEng e f s).tick = s.tick ∧ (modEng e f s).out = s.out ∧ (modEng e f s).freeCtr = s.freeCtr ∧ (modEng e f s).rc = s.rc ∧
    (modEng e f s).nq = s.nq ∧ (modEng e f s).tr = s.tr ∧ (modEng e f s).mb = s.mb ∧ (modEng e f s).prov = s.prov ∧ (modEng e f s).fn = s.fn ∧
    (modEng e f s).lc = s.lc ∧ (modEng e f s).hc = s.hc ∧ (modEng e f s).tm = s.tm ∧ (modEng e f s).pin = s.pin ∧ (modEng e f s).wk = s.wk ∧
    (modEng e f s).hl = s.hl ∧ (modEng e f s).tk = s.tk ∧ (modEng e f s).lim = s.lim ∧ (modEng e f s).ac = s.ac ∧ (modEng e f s).ks = s.ks ∧
    (modEng e f s).pk = s.pk ∧ (modEng e f s).ln = s.ln ∧ (modEng e f s).pt = s.pt ∧ (modEng e f s).ad = s.ad ∧ (modEng e f s).dg = s.dg ∧
    (modEng e f s).rn = s.rn ∧ (modEng e f s).gp = s.gp ∧ (modEng e f s).exitHeld = s.exitHeld ∧ (modEng e f s).pending = s.pending := by
  refine ⟨?_, ?_, ?_, ?_, ?_, ?_, ?_, ?_, ?_, ?_, ?_, ?_, ?_, ?_, ?_, ?_, ?_, ?_, ?_, ?_, ?_, ?_, ?_, ?_, ?_, ?_, ?_, ?_⟩ <;> (first | rfl | (unfold modEng; (try dsimp only); (repeat' split) <;> (first | rfl | simp)))

/-- `modCluster` changes `en` and leaves every other part of the state alone. -/
@[simp] theorem modCluster_frame (c : Nat) (f : Cluster → Cluster) (s : State) :
    (modCluster c f s).tick = s.tick ∧ (modCluster c f s).out = s.out ∧ (modCluster c f s).freeCtr = s.freeCtr ∧ (modCluster c f s).rc = s.rc ∧
    (modCluster c f s).nq = s.nq ∧ (modCluster c f s).tr = s.tr ∧ (modCluster c f s).mb = s.mb ∧ (modCluster c f s).prov = s.prov ∧
    (modCluster c f s).fn = s.fn ∧ (modCluster c f s).lc = s.lc ∧ (modCluster c f s).hc = s.hc ∧ (modCluster c f s).tm = s.tm ∧
    (modCluster c f s).pin = s.pin ∧ (modCluster c f s).wk = s.wk ∧ (modCluster c f s).hl = s.hl ∧ (modCluster c f s).tk = s.tk ∧
    (modCluster c f s).lim = s.lim ∧ (modCluster c f s).ac = s.ac ∧ (modCluster c f s).ks = s.ks ∧ (modCluster c f s).pk = s.pk ∧
    (modCluster c f s).ln = s.ln ∧ (modCluster c f s).pt = s.pt ∧ (modCluster c f s).ad = s.ad ∧ (modCluster c f s).dg = s.dg ∧
    (modCluster c f s).rn = s.rn ∧ (modCluster c f s).gp = s.gp ∧ (modCluster c f s).exitHeld = s.exitHeld ∧ (modCluster c f s).pending = s.pending := by
  refine ⟨?_, ?_, ?_, ?_, ?_, ?_, ?_, ?_, ?_, ?_, ?_, ?_, ?_, ?_, ?_, ?_, ?_, ?_, ?_, ?_, ?_, ?_, ?_, ?_, ?_, ?_, ?_, ?_⟩ <;> (first | rfl | (unfold modCluster; (try dsimp only); (repeat' split) <;> (first | rfl | simp)))

/-- `setClusterState` changes `en` and leaves every other part of the state alone. -/
@[simp] theorem setClusterState_frame (c st : Nat) (s : State) :
    (setClusterState c st s).tick = s.tick ∧ (setClusterState c st s).out = s.out ∧ (setClusterState c st s).freeCtr = s.freeCtr ∧
    (setClusterState c st s).rc = s.rc ∧ (setClusterState c st s).nq = s.nq ∧ (setClusterState c st s).tr = s.tr ∧ (setClusterState c st s).mb = s.mb ∧
    (setClusterState c st s).prov = s.prov ∧ (setClusterState c st s).fn = s.fn ∧ (setClusterState c st s).lc = s.lc ∧
    (setClusterState c st s).hc = s.hc ∧ (setClusterState c st s).tm = s.tm ∧ (setClusterState c st s).pin = s.pin ∧
    (setClusterState c st s).wk = s.wk ∧ (setClusterState c st s).hl = s.hl ∧ (setClusterState c st s).tk = s.tk ∧
    (setClusterState c st s).lim = s.lim ∧ (setClusterState c st s).ac = s.ac ∧ (setClusterState c st s).ks = s.ks ∧
    (setClusterState c st s).pk = s.pk ∧ (setClusterState c st s).ln = s.ln ∧ (setClusterState c st s).pt = s.pt ∧ (setClusterState c st s).ad = s.ad ∧
    (setClusterState c st s).dg = s.dg ∧ (setClusterState c st s).rn = s.rn ∧ (setClusterState c st s).gp = s.gp ∧
    (setClusterState c st s).exitHeld = s.exitHeld ∧ (setClusterState c st s).pending = s.pending := by
  refine ⟨?_, ?_, ?_, ?_, ?_, ?_, ?_, ?_, ?_, ?_, ?_, ?_, ?_, ?_, ?_, ?_, ?_, ?_, ?_, ?_, ?_, ?_, ?_, ?_, ?_, ?_, ?_, ?_⟩ <;> (first | rfl | (unfold setClusterState; (try dsimp only); (repeat' split) <;> (first | rfl | simp)))

/-- `modQp` changes `hl` and leaves every other part of the state alone. -/
@[simp] theorem modQp_frame (n : Nat) (f : Qp → Qp) (s : State) :
    (modQp n f s).tick = s.tick ∧ (modQp n f s).out = s.out ∧ (modQp n f s).freeCtr = s.freeCtr ∧ (modQp n f s).rc = s.rc ∧ (modQp n f s).nq = s.nq ∧
    (modQp n f s).tr = s.tr ∧ (modQp n f s).mb = s.mb ∧ (modQp n f s).prov = s.prov ∧ (modQp n f s).fn = s.fn ∧ (modQp n f s).lc = s.lc ∧
    (modQp n f s).hc = s.hc ∧ (modQp n f s).tm = s.tm ∧ (modQp n f s).pin = s.pin ∧ (modQp n f s).wk = s.wk ∧ (modQp n f s).tk = s.tk ∧
    (modQp n f s).en = s.en ∧ (modQp n f s).lim = s.lim ∧ (modQp n f s).ac = s.ac ∧ (modQp n f s).ks = s.ks ∧ (modQp n f s).pk = s.pk ∧
    (modQp n f s).ln = s.ln ∧ (modQp n f s).pt = s.pt ∧ (modQp n f s).ad = s.ad ∧ (modQp n f s).dg = s.dg ∧ (modQp n f s).rn = s.rn ∧
    (modQp n f s).gp = s.gp ∧ (modQp n f s).exitHeld = s.exitHeld ∧ (modQp n f s).pending = s.pending := by
  refine ⟨?_, ?_, ?_, ?_, ?_, ?_, ?_, ?_, ?_, ?_, ?_, ?_, ?_, ?_, ?_, ?_, ?_, ?_, ?_, ?_, ?_, ?_, ?_, ?_, ?_, ?_, ?_, ?_⟩ <;> (first | rfl | (unfold modQp; (try dsimp only); (repeat' split) <;> (first | rfl | simp)))

/-- `modSlice` changes `hl` and leaves every other part of the state alone. -/
@[simp] theorem modSlice_frame (n : Nat) (f : Slice → Slice) (s : State) :
    (modSlice n f s).tick = s.tick ∧ (modSlice n f s).out = s.out ∧ (modSlice n f s).freeCtr = s.freeCtr ∧ (modSlice n f s).rc = s.rc ∧
    (modSlice n f s).nq = s.nq ∧ (modSlice n f s).tr = s.tr ∧ (modSlice n f s).mb = s.mb ∧ (modSlice n f s).prov = s.prov ∧ (modSlice n f s).fn = s.fn ∧
    (modSlice n f s).lc = s.lc ∧ (modSlice n f s).hc = s.hc ∧ (modSlice n f s).tm = s.tm ∧ (modSlice n f s).pin = s.pin ∧ (modSlice n f s).wk = s.wk ∧
    (modSlice n f s).tk = s.tk ∧ (modSlice n f s).en = s.en ∧ (modSlice n f s).lim = s.lim ∧ (modSlice n f s).ac = s.ac ∧ (modSlice n f s).ks = s.ks ∧
    (modSlice n f s).pk = s.pk ∧ (modSlice n f s).ln = s.ln ∧ (modSlice n f s).pt = s.pt ∧ (modSlice n f s).ad = s.ad ∧ (modSlice n f s).dg = s.dg ∧
    (modSlice n f s).rn = s.rn ∧ (modSlice n f s).gp = s.gp ∧ (modSlice n f s).exitHeld = s.exitHeld ∧ (modSlice n f s).pending = s.pending := by
  refine ⟨?_, ?_, ?_, ?_, ?_, ?_, ?_, ?_, ?_, ?_, ?_, ?_, ?_, ?_, ?_, ?_, ?_, ?_, ?_, ?_, ?_, ?_, ?_, ?_, ?_, ?_, ?_, ?_⟩ <;> (first | rfl | (unfold modSlice; (try dsimp only); (repeat' split) <;> (first | rfl | simp)))

/-- `modLink` changes `hl` and leaves every other part of the state alone. -/
@[simp] theorem modLink_frame (l : Nat) (f : HostLink → HostLink) (s : State) :
    (modLink l f s).tick = s.tick ∧ (modLink l f s).out = s.out ∧ (modLink l f s).freeCtr = s.freeCtr ∧ (modLink l f s).rc = s.rc ∧
    (modLink l f s).nq = s.nq ∧ (modLink l f s).tr = s.tr ∧ (modLink l f s).mb = s.mb ∧ (modLink l f s).prov = s.prov ∧ (modLink l f s).fn = s.fn ∧
    (modLink l f s).lc = s.lc ∧ (modLink l f s).hc = s.hc ∧ (modLink l f s).tm = s.tm ∧ (modLink l f s).pin = s.pin ∧ (modLink l f s).wk = s.wk ∧
    (modLink l f s).tk = s.tk ∧ (modLink l f s).en = s.en ∧ (modLink l f s).lim = s.lim ∧ (modLink l f s).ac = s.ac ∧ (modLink l f s).ks = s.ks ∧
    (modLink l f s).pk = s.pk ∧ (modLink l f s).ln = s.ln ∧ (modLink l f s).pt = s.pt ∧ (modLink l f s).ad = s.ad ∧ (modLink l f s).dg = s.dg ∧
    (modLink l f s).rn = s.rn ∧ (modLink l f s).gp = s.gp ∧ (modLink l f s).exitHeld = s.exitHeld ∧ (modLink l f s).pending = s.pending := by
  refine ⟨?_, ?_, ?_, ?_, ?_, ?_, ?_, ?_, ?_, ?_, ?_, ?_, ?_, ?_, ?_, ?_, ?_, ?_, ?_, ?_, ?_, ?_, ?_, ?_, ?_, ?_, ?_, ?_⟩ <;> (first | rfl | (unfold modLink; (try dsimp only); (repeat' split) <;> (first | rfl | simp)))

/-- `modWork` changes `wk` and leaves every other part of the state alone. -/
@[simp] theorem modWork_frame (id : Nat) (f : Work → Work) (s : State) :
    (modWork id f s).tick = s.tick ∧ (modWork id f s).out = s.out ∧ (modWork id f s).freeCtr = s.freeCtr ∧ (modWork id f s).rc = s.rc ∧
    (modWork id f s).nq = s.nq ∧ (modWork id f s).tr = s.tr ∧ (modWork id f s).mb = s.mb ∧ (modWork id f s).prov = s.prov ∧ (modWork id f s).fn = s.fn ∧
    (modWork id f s).lc = s.lc ∧ (modWork id f s).hc = s.hc ∧ (modWork id f s).tm = s.tm ∧ (modWork id f s).pin = s.pin ∧ (modWork id f s).hl = s.hl ∧
    (modWork id f s).tk = s.tk ∧ (modWork id f s).en = s.en ∧ (modWork id f s).lim = s.lim ∧ (modWork id f s).ac = s.ac ∧ (modWork id f s).ks = s.ks ∧
    (modWork id f s).pk = s.pk ∧ (modWork id f s).ln = s.ln ∧ (modWork id f s).pt = s.pt ∧ (modWork id f s).ad = s.ad ∧ (modWork id f s).dg = s.dg ∧
    (modWork id f s).rn = s.rn ∧ (modWork id f s).gp = s.gp ∧ (modWork id f s).exitHeld = s.exitHeld ∧ (modWork id f s).pending = s.pending := by
  refine ⟨?_, ?_, ?_, ?_, ?_, ?_, ?_, ?_, ?_, ?_, ?_, ?_, ?_, ?_, ?_, ?_, ?_, ?_, ?_, ?_, ?_, ?_, ?_, ?_, ?_, ?_, ?_, ?_⟩ <;> (first | rfl | (unfold modWork; (try dsimp only); (repeat' split) <;> (first | rfl | simp)))

/-- `modBatch` changes `wk` and leaves every other part of the state alone. -/
@[simp] theorem modBatch_frame (id : Nat) (f : Batch → Batch) (s : State) :
    (modBatch id f s).tick = s.tick ∧ (modBatch id f s).out = s.out ∧ (modBatch id f s).freeCtr = s.freeCtr ∧ (modBatch id f s).rc = s.rc ∧
    (modBatch id f s).nq = s.nq ∧ (modBatch id f s).tr = s.tr ∧ (modBatch id f s).mb = s.mb ∧ (modBatch id f s).prov = s.prov ∧
    (modBatch id f s).fn = s.fn ∧ (modBatch id f s).lc = s.lc ∧ (modBatch id f s).hc = s.hc ∧ (modBatch id f s).tm = s.tm ∧
    (modBatch id f s).pin = s.pin ∧ (modBatch id f s).hl = s.hl ∧ (modBatch id f s).tk = s.tk ∧ (modBatch id f s).en = s.en ∧
    (modBatch id f s).lim = s.lim ∧ (modBatch id f s).ac = s.ac ∧ (modBatch id f s).ks = s.ks ∧ (modBatch id f s).pk = s.pk ∧
    (modBatch id f s).ln = s.ln ∧ (modBatch id f s).pt = s.pt ∧ (modBatch id f s).ad = s.ad ∧ (modBatch id f s).dg = s.dg ∧
    (modBatch id f s).rn = s.rn ∧ (modBatch id f s).gp = s.gp ∧ (modBatch id f s).exitHeld = s.exitHeld ∧ (modBatch id f s).pending = s.pending := by
  refine ⟨?_, ?_, ?_, ?_, ?_, ?_, ?_, ?_, ?_, ?_, ?_, ?_, ?_, ?_, ?_, ?_, ?_, ?_, ?_, ?_, ?_, ?_, ?_, ?_, ?_, ?_, ?_, ?_⟩ <;> (first | rfl | (unfold modBatch; (try dsimp only); (repeat' split) <;> (first | rfl | simp)))

/-- `modMsg` changes `ad` and leaves every other part of the state alone. -/
@[simp] theorem modMsg_frame (m : Nat) (f : Msg → Msg) (s : State) :
    (modMsg m f s).tick = s.tick ∧ (modMsg m f s).out = s.out ∧ (modMsg m f s).freeCtr = s.freeCtr ∧ (modMsg m f s).rc = s.rc ∧
    (modMsg m f s).nq = s.nq ∧ (modMsg m f s).tr = s.tr ∧ (modMsg m f s).mb = s.mb ∧ (modMsg m f s).prov = s.prov ∧ (modMsg m f s).fn = s.fn ∧
    (modMsg m f s).lc = s.lc ∧ (modMsg m f s).hc = s.hc ∧ (modMsg m f s).tm = s.tm ∧ (modMsg m f s).pin = s.pin ∧ (modMsg m f s).wk = s.wk ∧
    (modMsg m f s).hl = s.hl ∧ (modMsg m f s).tk = s.tk ∧ (modMsg m f s).en = s.en ∧ (modMsg m f s).lim = s.lim ∧ (modMsg m f s).ac = s.ac ∧
    (modMsg m f s).ks = s.ks ∧ (modMsg m f s).pk = s.pk ∧ (modMsg m f s).ln = s.ln ∧ (modMsg m f s).pt = s.pt ∧ (modMsg m f s).dg = s.dg ∧
    (modMsg m f s).rn = s.rn ∧ (modMsg m f s).gp = s.gp ∧ (modMsg m f s).exitHeld = s.exitHeld ∧ (modMsg m f s).pending = s.pending := by
  refine ⟨?_, ?_, ?_, ?_, ?_, ?_, ?_, ?_, ?_, ?_, ?_, ?_, ?_, ?_, ?_, ?_, ?_, ?_, ?_, ?_, ?_, ?_, ?_, ?_, ?_, ?_, ?_, ?_⟩ <;> (first | rfl | (unfold modMsg; (try dsimp only); (repeat' split) <;> (first | rfl | simp)))

/-- `modDg` changes `dg` and leaves every other part of the state alone. -/
@[simp] theorem modDg_frame (u : Nat) (f : DgUnit → DgUnit) (s : State) :
    (modDg u f s).tick = s.tick ∧ (modDg u f s).out = s.out ∧ (modDg u f s).freeCtr = s.freeCtr ∧ (modDg u f s).rc = s.rc ∧ (modDg u f s).nq = s.nq ∧
    (modDg u f s).tr = s.tr ∧ (modDg u f s).mb = s.mb ∧ (modDg u f s).prov = s.prov ∧ (modDg u f s).fn = s.fn ∧ (modDg u f s).lc = s.lc ∧
    (modDg u f s).hc = s.hc ∧ (modDg u f s).tm = s.tm ∧ (modDg u f s).pin = s.pin ∧ (modDg u f s).wk = s.wk ∧ (modDg u f s).hl = s.hl ∧
    (modDg u f s).tk = s.tk ∧ (modDg u f s).en = s.en ∧ (modDg u f s).lim = s.lim ∧ (modDg u f s).ac = s.ac ∧ (modDg u f s).ks = s.ks ∧
    (modDg u f s).pk = s.pk ∧ (modDg u f s).ln = s.ln ∧ (modDg u f s).pt = s.pt ∧ (modDg u f s).ad = s.ad ∧ (modDg u f s).rn = s.rn ∧
    (modDg u f s).gp = s.gp ∧ (modDg u f s).exitHeld = s.exitHeld ∧ (modDg u f s).pending = s.pending := by
  refine ⟨?_, ?_, ?_, ?_, ?_, ?_, ?_, ?_, ?_, ?_, ?_, ?_, ?_, ?_, ?_, ?_, ?_, ?_, ?_, ?_, ?_, ?_, ?_, ?_, ?_, ?_, ?_, ?_⟩ <;> (first | rfl | (unfold modDg; (try dsimp only); (repeat' split) <;> (first | rfl | simp)))

/-- `dgStatus` changes `dg` and leaves every other part of the state alone. -/
@[simp] theorem dgStatus_frame (u st : Nat) (s : State) :
    (dgStatus u st s).tick = s.tick ∧ (dgStatus u st s).out = s.out ∧ (dgStatus u st s).freeCtr = s.freeCtr ∧ (dgStatus u st s).rc = s.rc ∧
    (dgStatus u st s).nq = s.nq ∧ (dgStatus u st s).tr = s.tr ∧ (dgStatus u st s).mb = s.mb ∧ (dgStatus u st s).prov = s.prov ∧
    (dgStatus u st s).fn = s.fn ∧ (dgStatus u st s).lc = s.lc ∧ (dgStatus u st s).hc = s.hc ∧ (dgStatus u st s).tm = s.tm ∧
    (dgStatus u st s).pin = s.pin ∧ (dgStatus u st s).wk = s.wk ∧ (dgStatus u st s).hl = s.hl ∧ (dgStatus u st s).tk = s.tk ∧
    (dgStatus u st s).en = s.en ∧ (dgStatus u st s).lim = s.lim ∧ (dgStatus u st s).ac = s.ac ∧ (dgStatus u st s).ks = s.ks ∧
    (dgStatus u st s).pk = s.pk ∧ (dgStatus u st s).ln = s.ln ∧ (dgStatus u st s).pt = s.pt ∧ (dgStatus u st s).ad = s.ad ∧
    (dgStatus u st s).rn = s.rn ∧ (dgStatus u st s).gp = s.gp ∧ (dgStatus u st s).exitHeld = s.exitHeld ∧ (dgStatus u st s).pending = s.pending := by
  refine ⟨?_, ?_, ?_, ?_, ?_, ?_, ?_, ?_, ?_, ?_, ?_, ?_, ?_, ?_, ?_, ?_, ?_, ?_, ?_, ?_, ?_, ?_, ?_, ?_, ?_, ?_, ?_, ?_⟩ <;> (first | rfl | (unfold dgStatus; (try dsimp only); (repeat' split) <;> (first | rfl | simp)))

/-- `modNoise` changes `rn` and leaves every other part of the state alone. -/
@[simp] theorem modNoise_frame (k : Nat) (f : Noise → Noise) (s : State) :
    (modNoise k f s).tick = s.tick ∧ (modNoise k f s).out = s.out ∧ (modNoise k f s).freeCtr = s.freeCtr ∧ (modNoise k f s).rc = s.rc ∧
    (modNoise k f s).nq = s.nq ∧ (modNoise k f s).tr = s.tr ∧ (modNoise k f s).mb = s.mb ∧ (modNoise k f s).prov = s.prov ∧ (modNoise k f s).fn = s.fn ∧
    (modNoise k f s).lc = s.lc ∧ (modNoise k f s).hc = s.hc ∧ (modNoise k f s).tm = s.tm ∧ (modNoise k f s).pin = s.pin ∧ (modNoise k f s).wk = s.wk ∧
    (modNoise k f s).hl = s.hl ∧ (modNoise k f s).tk = s.tk ∧ (modNoise k f s).en = s.en ∧ (modNoise k f s).lim = s.lim ∧ (modNoise k f s).ac = s.ac ∧
    (modNoise k f s).ks = s.ks ∧ (modNoise k f s).pk = s.pk ∧ (modNoise k f s).ln = s.ln ∧ (modNoise k f s).pt = s.pt ∧ (modNoise k f s).ad = s.ad ∧
    (modNoise k f s).dg = s.dg ∧ (modNoise k f s).gp = s.gp ∧ (modNoise k f s).exitHeld = s.exitHeld ∧ (modNoise k f s).pending = s.pending := by
  refine ⟨?_, ?_, ?_, ?_, ?_, ?_, ?_, ?_, ?_, ?_, ?_, ?_, ?_, ?_, ?_, ?_, ?_, ?_, ?_, ?_, ?_, ?_, ?_, ?_, ?_, ?_, ?_, ?_⟩ <;> (first | rfl | (unfold modNoise; (try dsimp only); (repeat' split) <;> (first | rfl | simp)))

/-- `modLane` changes `ln` and leaves every other part of the state alone. -/
@[simp] theorem modLane_frame (n : Nat) (f : Lane → Lane) (s : State) :
    (modLane n f s).tick = s.tick ∧ (modLane n f s).out = s.out ∧ (modLane n f s).freeCtr = s.freeCtr ∧ (modLane n f s).rc = s.rc ∧
    (modLane n f s).nq = s.nq ∧ (modLane n f s).tr = s.tr ∧ (modLane n f s).mb = s.mb ∧ (modLane n f s).prov = s.prov ∧ (modLane n f s).fn = s.fn ∧
    (modLane n f s).lc = s.lc ∧ (modLane n f s).hc = s.hc ∧ (modLane n f s).tm = s.tm ∧ (modLane n f s).pin = s.pin ∧ (modLane n f s).wk = s.wk ∧
    (modLane n f s).hl = s.hl ∧ (modLane n f s).tk = s.tk ∧ (modLane n f s).en = s.en ∧ (modLane n f s).lim = s.lim ∧ (modLane n f s).ac = s.ac ∧
    (modLane n f s).ks = s.ks ∧ (modLane n f s).pk = s.pk ∧ (modLane n f s).pt = s.pt ∧ (modLane n f s).ad = s.ad ∧ (modLane n f s).dg = s.dg ∧
    (modLane n f s).rn = s.rn ∧ (modLane n f s).gp = s.gp ∧ (modLane n f s).exitHeld = s.exitHeld ∧ (modLane n f s).pending = s.pending := by
  refine ⟨?_, ?_, ?_, ?_, ?_, ?_, ?_, ?_, ?_, ?_, ?_, ?_, ?_, ?_, ?_, ?_, ?_, ?_, ?_, ?_, ?_, ?_, ?_, ?_, ?_, ?_, ?_, ?_⟩ <;> (first | rfl | (unfold modLane; (try dsimp only); (repeat' split) <;> (first | rfl | simp)))

/-- `modMember` changes `gp` and leaves every other part of the state alone. -/
@[simp] theorem modMember_frame (m : Nat) (f : Member → Member) (s : State) :
    (modMember m f s).tick = s.tick ∧ (modMember m f s).out = s.out ∧ (modMember m f s).freeCtr = s.freeCtr ∧ (modMember m f s).rc = s.rc ∧
    (modMember m f s).nq = s.nq ∧ (modMember m f s).tr = s.tr ∧ (modMember m f s).mb = s.mb ∧ (modMember m f s).prov = s.prov ∧
    (modMember m f s).fn = s.fn ∧ (modMember m f s).lc = s.lc ∧ (modMember m f s).hc = s.hc ∧ (modMember m f s).tm = s.tm ∧
    (modMember m f s).pin = s.pin ∧ (modMember m f s).wk = s.wk ∧ (modMember m f s).hl = s.hl ∧ (modMember m f s).tk = s.tk ∧
    (modMember m f s).en = s.en ∧ (modMember m f s).lim = s.lim ∧ (modMember m f s).ac = s.ac ∧ (modMember m f s).ks = s.ks ∧
    (modMember m f s).pk = s.pk ∧ (modMember m f s).ln = s.ln ∧ (modMember m f s).pt = s.pt ∧ (modMember m f s).ad = s.ad ∧
    (modMember m f s).dg = s.dg ∧ (modMember m f s).rn = s.rn ∧ (modMember m f s).exitHeld = s.exitHeld ∧ (modMember m f s).pending = s.pending := by
  refine ⟨?_, ?_, ?_, ?_, ?_, ?_, ?_, ?_, ?_, ?_, ?_, ?_, ?_, ?_, ?_, ?_, ?_, ?_, ?_, ?_, ?_, ?_, ?_, ?_, ?_, ?_, ?_, ?_⟩ <;> (first | rfl | (unfold modMember; (try dsimp only); (repeat' split) <;> (first | rfl | simp)))

/-- `modPk` changes `pk` and leaves every other part of the state alone. -/
@[simp] theorem modPk_frame (u : Nat) (f : PkUnit → PkUnit) (s : State) :
    (modPk u f s).tick = s.tick ∧ (modPk u f s).out = s.out ∧ (modPk u f s).freeCtr = s.freeCtr ∧ (modPk u f s).rc = s.rc ∧ (modPk u f s).nq = s.nq ∧
    (modPk u f s).tr = s.tr ∧ (modPk u f s).mb = s.mb ∧ (modPk u f s).prov = s.prov ∧ (modPk u f s).fn = s.fn ∧ (modPk u f s).lc = s.lc ∧
    (modPk u f s).hc = s.hc ∧ (modPk u f s).tm = s.tm ∧ (modPk u f s).pin = s.pin ∧ (modPk u f s).wk = s.wk ∧ (modPk u f s).hl = s.hl ∧
    (modPk u f s).tk = s.tk ∧ (modPk u f s).en = s.en ∧ (modPk u f s).lim = s.lim ∧ (modPk u f s).ac = s.ac ∧ (modPk u f s).ks = s.ks ∧
    (modPk u f s).ln = s.ln ∧ (modPk u f s).pt = s.pt ∧ (modPk u f s).ad = s.ad ∧ (modPk u f s).dg = s.dg ∧ (modPk u f s).rn = s.rn ∧
    (modPk u f s).gp = s.gp ∧ (modPk u f s).exitHeld = s.exitHeld ∧ (modPk u f s).pending = s.pending := by
  refine ⟨?_, ?_, ?_, ?_, ?_, ?_, ?_, ?_, ?_, ?_, ?_, ?_, ?_, ?_, ?_, ?_, ?_, ?_, ?_, ?_, ?_, ?_, ?_, ?_, ?_, ?_, ?_, ?_⟩ <;> (first | rfl | (unfold modPk; (try dsimp only); (repeat' split) <;> (first | rfl | simp)))

/-- `modPort` changes `pt` and leaves every other part of the state alone. -/
@[simp] theorem modPort_frame (p : Nat) (f : Port → Port) (s : State) :
    (modPort p f s).tick = s.tick ∧ (modPort p f s).out = s.out ∧ (modPort p f s).freeCtr = s.freeCtr ∧ (modPort p f s).rc = s.rc ∧
    (modPort p f s).nq = s.nq ∧ (modPort p f s).tr = s.tr ∧ (modPort p f s).mb = s.mb ∧ (modPort p f s).prov = s.prov ∧ (modPort p f s).fn = s.fn ∧
    (modPort p f s).lc = s.lc ∧ (modPort p f s).hc = s.hc ∧ (modPort p f s).tm = s.tm ∧ (modPort p f s).pin = s.pin ∧ (modPort p f s).wk = s.wk ∧
    (modPort p f s).hl = s.hl ∧ (modPort p f s).tk = s.tk ∧ (modPort p f s).en = s.en ∧ (modPort p f s).lim = s.lim ∧ (modPort p f s).ac = s.ac ∧
    (modPort p f s).ks = s.ks ∧ (modPort p f s).pk = s.pk ∧ (modPort p f s).ln = s.ln ∧ (modPort p f s).ad = s.ad ∧ (modPort p f s).dg = s.dg ∧
    (modPort p f s).rn = s.rn ∧ (modPort p f s).gp = s.gp ∧ (modPort p f s).exitHeld = s.exitHeld ∧ (modPort p f s).pending = s.pending := by
  refine ⟨?_, ?_, ?_, ?_, ?_, ?_, ?_, ?_, ?_, ?_, ?_, ?_, ?_, ?_, ?_, ?_, ?_, ?_, ?_, ?_, ?_, ?_, ?_, ?_, ?_, ?_, ?_, ?_⟩ <;> (first | rfl | (unfold modPort; (try dsimp only); (repeat' split) <;> (first | rfl | simp)))

/-- `modCnt` changes `pt` and leaves every other part of the state alone. -/
@[simp] theorem modCnt_frame (p : Nat) (f : PortCnt → PortCnt) (s : State) :
    (modCnt p f s).tick = s.tick ∧ (modCnt p f s).out = s.out ∧ (modCnt p f s).freeCtr = s.freeCtr ∧ (modCnt p f s).rc = s.rc ∧
    (modCnt p f s).nq = s.nq ∧ (modCnt p f s).tr = s.tr ∧ (modCnt p f s).mb = s.mb ∧ (modCnt p f s).prov = s.prov ∧ (modCnt p f s).fn = s.fn ∧
    (modCnt p f s).lc = s.lc ∧ (modCnt p f s).hc = s.hc ∧ (modCnt p f s).tm = s.tm ∧ (modCnt p f s).pin = s.pin ∧ (modCnt p f s).wk = s.wk ∧
    (modCnt p f s).hl = s.hl ∧ (modCnt p f s).tk = s.tk ∧ (modCnt p f s).en = s.en ∧ (modCnt p f s).lim = s.lim ∧ (modCnt p f s).ac = s.ac ∧
    (modCnt p f s).ks = s.ks ∧ (modCnt p f s).pk = s.pk ∧ (modCnt p f s).ln = s.ln ∧ (modCnt p f s).ad = s.ad ∧ (modCnt p f s).dg = s.dg ∧
    (modCnt p f s).rn = s.rn ∧ (modCnt p f s).gp = s.gp ∧ (modCnt p f s).exitHeld = s.exitHeld ∧ (modCnt p f s).pending = s.pending := by
  refine ⟨?_, ?_, ?_, ?_, ?_, ?_, ?_, ?_, ?_, ?_, ?_, ?_, ?_, ?_, ?_, ?_, ?_, ?_, ?_, ?_, ?_, ?_, ?_, ?_, ?_, ?_, ?_, ?_⟩ <;> (first | rfl | (unfold modCnt; (try dsimp only); (repeat' split) <;> (first | rfl | simp)))

/-- `modLnk` changes `pt` and leaves every other part of the state alone. -/
@[simp] theorem modLnk_frame (p k : Nat) (f : Lnk → Lnk) (s : State) :
    (modLnk p k f s).tick = s.tick ∧ (modLnk p k f s).out = s.out ∧ (modLnk p k f s).freeCtr = s.freeCtr ∧ (modLnk p k f s).rc = s.rc ∧
    (modLnk p k f s).nq = s.nq ∧ (modLnk p k f s).tr = s.tr ∧ (modLnk p k f s).mb = s.mb ∧ (modLnk p k f s).prov = s.prov ∧ (modLnk p k f s).fn = s.fn ∧
    (modLnk p k f s).lc = s.lc ∧ (modLnk p k f s).hc = s.hc ∧ (modLnk p k f s).tm = s.tm ∧ (modLnk p k f s).pin = s.pin ∧ (modLnk p k f s).wk = s.wk ∧
    (modLnk p k f s).hl = s.hl ∧ (modLnk p k f s).tk = s.tk ∧ (modLnk p k f s).en = s.en ∧ (modLnk p k f s).lim = s.lim ∧ (modLnk p k f s).ac = s.ac ∧
    (modLnk p k f s).ks = s.ks ∧ (modLnk p k f s).pk = s.pk ∧ (modLnk p k f s).ln = s.ln ∧ (modLnk p k f s).ad = s.ad ∧ (modLnk p k f s).dg = s.dg ∧
    (modLnk p k f s).rn = s.rn ∧ (modLnk p k f s).gp = s.gp ∧ (modLnk p k f s).exitHeld = s.exitHeld ∧ (modLnk p k f s).pending = s.pending := by
  refine ⟨?_, ?_, ?_, ?_, ?_, ?_, ?_, ?_, ?_, ?_, ?_, ?_, ?_, ?_, ?_, ?_, ?_, ?_, ?_, ?_, ?_, ?_, ?_, ?_, ?_, ?_, ?_, ?_⟩ <;> (first | rfl | (unfold modLnk; (try dsimp only); (repeat' split) <;> (first | rfl | simp)))

/-- `modPtp` changes `pt` and leaves every other part of the state alone. -/
@[simp] theorem modPtp_frame (p : Nat) (f : PtpIn → PtpIn) (s : State) :
    (modPtp p f s).tick = s.tick ∧ (modPtp p f s).out = s.out ∧ (modPtp p f s).freeCtr = s.freeCtr ∧ (modPtp p f s).rc = s.rc ∧
    (modPtp p f s).nq = s.nq ∧ (modPtp p f s).tr = s.tr ∧ (modPtp p f s).mb = s.mb ∧ (modPtp p f s).prov = s.prov ∧ (modPtp p f s).fn = s.fn ∧
    (modPtp p f s).lc = s.lc ∧ (modPtp p f s).hc = s.hc ∧ (modPtp p f s).tm = s.tm ∧ (modPtp p f s).pin = s.pin ∧ (modPtp p f s).wk = s.wk ∧
    (modPtp p f s).hl = s.hl ∧ (modPtp p f s).tk = s.tk ∧ (modPtp p f s).en = s.en ∧ (modPtp p f s).lim = s.lim ∧ (modPtp p f s).ac = s.ac ∧
    (modPtp p f s).ks = s.ks ∧ (modPtp p f s).pk = s.pk ∧ (modPtp p f s).ln = s.ln ∧ (modPtp p f s).ad = s.ad ∧ (modPtp p f s).dg = s.dg ∧
    (modPtp p f s).rn = s.rn ∧ (modPtp p f s).gp = s.gp ∧ (modPtp p f s).exitHeld = s.exitHeld ∧ (modPtp p f s).pending = s.pending := by
  refine ⟨?_, ?_, ?_, ?_, ?_, ?_, ?_, ?_, ?_, ?_, ?_, ?_, ?_, ?_, ?_, ?_, ?_, ?_, ?_, ?_, ?_, ?_, ?_, ?_, ?_, ?_, ?_, ?_⟩ <;> (first | rfl | (unfold modPtp; (try dsimp only); (repeat' split) <;> (first | rfl | simp)))

/-- `setPort` changes `pt` and leaves every other part of the state alone. -/
@[simp] theorem setPort_frame (p st cause : Nat) (s : State) :
    (setPort p st cause s).tick = s.tick ∧ (setPort p st cause s).out = s.out ∧ (setPort p st cause s).freeCtr = s.freeCtr ∧
    (setPort p st cause s).rc = s.rc ∧ (setPort p st cause s).nq = s.nq ∧ (setPort p st cause s).tr = s.tr ∧ (setPort p st cause s).mb = s.mb ∧
    (setPort p st cause s).prov = s.prov ∧ (setPort p st cause s).fn = s.fn ∧ (setPort p st cause s).lc = s.lc ∧ (setPort p st cause s).hc = s.hc ∧
    (setPort p st cause s).tm = s.tm ∧ (setPort p st cause s).pin = s.pin ∧ (setPort p st cause s).wk = s.wk ∧ (setPort p st cause s).hl = s.hl ∧
    (setPort p st cause s).tk = s.tk ∧ (setPort p st cause s).en = s.en ∧ (setPort p st cause s).lim = s.lim ∧ (setPort p st cause s).ac = s.ac ∧
    (setPort p st cause s).ks = s.ks ∧ (setPort p st cause s).pk = s.pk ∧ (setPort p st cause s).ln = s.ln ∧ (setPort p st cause s).ad = s.ad ∧
    (setPort p st cause s).dg = s.dg ∧ (setPort p st cause s).rn = s.rn ∧ (setPort p st cause s).gp = s.gp ∧
    (setPort p st cause s).exitHeld = s.exitHeld ∧ (setPort p st cause s).pending = s.pending := by
  refine ⟨?_, ?_, ?_, ?_, ?_, ?_, ?_, ?_, ?_, ?_, ?_, ?_, ?_, ?_, ?_, ?_, ?_, ?_, ?_, ?_, ?_, ?_, ?_, ?_, ?_, ?_, ?_, ?_⟩ <;> (first | rfl | (unfold setPort; (try dsimp only); (repeat' split) <;> (first | rfl | simp)))

/-- `modSa` changes `ln` and leaves every other part of the state alone. -/
@[simp] theorem modSa_frame (a : Sa) (f : Sa → Sa) (s : State) :
    (modSa a f s).tick = s.tick ∧ (modSa a f s).out = s.out ∧ (modSa a f s).freeCtr = s.freeCtr ∧ (modSa a f s).rc = s.rc ∧ (modSa a f s).nq = s.nq ∧
    (modSa a f s).tr = s.tr ∧ (modSa a f s).mb = s.mb ∧ (modSa a f s).prov = s.prov ∧ (modSa a f s).fn = s.fn ∧ (modSa a f s).lc = s.lc ∧
    (modSa a f s).hc = s.hc ∧ (modSa a f s).tm = s.tm ∧ (modSa a f s).pin = s.pin ∧ (modSa a f s).wk = s.wk ∧ (modSa a f s).hl = s.hl ∧
    (modSa a f s).tk = s.tk ∧ (modSa a f s).en = s.en ∧ (modSa a f s).lim = s.lim ∧ (modSa a f s).ac = s.ac ∧ (modSa a f s).ks = s.ks ∧
    (modSa a f s).pk = s.pk ∧ (modSa a f s).pt = s.pt ∧ (modSa a f s).ad = s.ad ∧ (modSa a f s).dg = s.dg ∧ (modSa a f s).rn = s.rn ∧
    (modSa a f s).gp = s.gp ∧ (modSa a f s).exitHeld = s.exitHeld ∧ (modSa a f s).pending = s.pending := by
  refine ⟨?_, ?_, ?_, ?_, ?_, ?_, ?_, ?_, ?_, ?_, ?_, ?_, ?_, ?_, ?_, ?_, ?_, ?_, ?_, ?_, ?_, ?_, ?_, ?_, ?_, ?_, ?_, ?_⟩ <;> (first | rfl | (unfold modSa; (try dsimp only); (repeat' split) <;> (first | rfl | simp)))

/-- `modDrbg` changes `rn` and leaves every other part of the state alone. -/
@[simp] theorem modDrbg_frame (i : Nat) (f : Drbg → Drbg) (s : State) :
    (modDrbg i f s).tick = s.tick ∧ (modDrbg i f s).out = s.out ∧ (modDrbg i f s).freeCtr = s.freeCtr ∧ (modDrbg i f s).rc = s.rc ∧
    (modDrbg i f s).nq = s.nq ∧ (modDrbg i f s).tr = s.tr ∧ (modDrbg i f s).mb = s.mb ∧ (modDrbg i f s).prov = s.prov ∧ (modDrbg i f s).fn = s.fn ∧
    (modDrbg i f s).lc = s.lc ∧ (modDrbg i f s).hc = s.hc ∧ (modDrbg i f s).tm = s.tm ∧ (modDrbg i f s).pin = s.pin ∧ (modDrbg i f s).wk = s.wk ∧
    (modDrbg i f s).hl = s.hl ∧ (modDrbg i f s).tk = s.tk ∧ (modDrbg i f s).en = s.en ∧ (modDrbg i f s).lim = s.lim ∧ (modDrbg i f s).ac = s.ac ∧
    (modDrbg i f s).ks = s.ks ∧ (modDrbg i f s).pk = s.pk ∧ (modDrbg i f s).ln = s.ln ∧ (modDrbg i f s).pt = s.pt ∧ (modDrbg i f s).ad = s.ad ∧
    (modDrbg i f s).dg = s.dg ∧ (modDrbg i f s).gp = s.gp ∧ (modDrbg i f s).exitHeld = s.exitHeld ∧ (modDrbg i f s).pending = s.pending := by
  refine ⟨?_, ?_, ?_, ?_, ?_, ?_, ?_, ?_, ?_, ?_, ?_, ?_, ?_, ?_, ?_, ?_, ?_, ?_, ?_, ?_, ?_, ?_, ?_, ?_, ?_, ?_, ?_, ?_⟩ <;> (first | rfl | (unfold modDrbg; (try dsimp only); (repeat' split) <;> (first | rfl | simp)))

/-- `modAcct` changes `tk` and leaves every other part of the state alone. -/
@[simp] theorem modAcct_frame (a : Nat) (f : Acct → Acct) (s : State) :
    (modAcct a f s).tick = s.tick ∧ (modAcct a f s).out = s.out ∧ (modAcct a f s).freeCtr = s.freeCtr ∧ (modAcct a f s).rc = s.rc ∧
    (modAcct a f s).nq = s.nq ∧ (modAcct a f s).tr = s.tr ∧ (modAcct a f s).mb = s.mb ∧ (modAcct a f s).prov = s.prov ∧ (modAcct a f s).fn = s.fn ∧
    (modAcct a f s).lc = s.lc ∧ (modAcct a f s).hc = s.hc ∧ (modAcct a f s).tm = s.tm ∧ (modAcct a f s).pin = s.pin ∧ (modAcct a f s).wk = s.wk ∧
    (modAcct a f s).hl = s.hl ∧ (modAcct a f s).en = s.en ∧ (modAcct a f s).lim = s.lim ∧ (modAcct a f s).ac = s.ac ∧ (modAcct a f s).ks = s.ks ∧
    (modAcct a f s).pk = s.pk ∧ (modAcct a f s).ln = s.ln ∧ (modAcct a f s).pt = s.pt ∧ (modAcct a f s).ad = s.ad ∧ (modAcct a f s).dg = s.dg ∧
    (modAcct a f s).rn = s.rn ∧ (modAcct a f s).gp = s.gp ∧ (modAcct a f s).exitHeld = s.exitHeld ∧ (modAcct a f s).pending = s.pending := by
  refine ⟨?_, ?_, ?_, ?_, ?_, ?_, ?_, ?_, ?_, ?_, ?_, ?_, ?_, ?_, ?_, ?_, ?_, ?_, ?_, ?_, ?_, ?_, ?_, ?_, ?_, ?_, ?_, ?_⟩ <;> (first | rfl | (unfold modAcct; (try dsimp only); (repeat' split) <;> (first | rfl | simp)))

/-- `modStat` changes `ad` and leaves every other part of the state alone. -/
@[simp] theorem modStat_frame (a : Nat) (f : AccStat → AccStat) (s : State) :
    (modStat a f s).tick = s.tick ∧ (modStat a f s).out = s.out ∧ (modStat a f s).freeCtr = s.freeCtr ∧ (modStat a f s).rc = s.rc ∧
    (modStat a f s).nq = s.nq ∧ (modStat a f s).tr = s.tr ∧ (modStat a f s).mb = s.mb ∧ (modStat a f s).prov = s.prov ∧ (modStat a f s).fn = s.fn ∧
    (modStat a f s).lc = s.lc ∧ (modStat a f s).hc = s.hc ∧ (modStat a f s).tm = s.tm ∧ (modStat a f s).pin = s.pin ∧ (modStat a f s).wk = s.wk ∧
    (modStat a f s).hl = s.hl ∧ (modStat a f s).tk = s.tk ∧ (modStat a f s).en = s.en ∧ (modStat a f s).lim = s.lim ∧ (modStat a f s).ac = s.ac ∧
    (modStat a f s).ks = s.ks ∧ (modStat a f s).pk = s.pk ∧ (modStat a f s).ln = s.ln ∧ (modStat a f s).pt = s.pt ∧ (modStat a f s).dg = s.dg ∧
    (modStat a f s).rn = s.rn ∧ (modStat a f s).gp = s.gp ∧ (modStat a f s).exitHeld = s.exitHeld ∧ (modStat a f s).pending = s.pending := by
  refine ⟨?_, ?_, ?_, ?_, ?_, ?_, ?_, ?_, ?_, ?_, ?_, ?_, ?_, ?_, ?_, ?_, ?_, ?_, ?_, ?_, ?_, ?_, ?_, ?_, ?_, ?_, ?_, ?_⟩ <;> (first | rfl | (unfold modStat; (try dsimp only); (repeat' split) <;> (first | rfl | simp)))

/-- `setDom` changes `ks` and leaves every other part of the state alone. -/
@[simp] theorem setDom_frame (d : Nat) (e : Dom) (s : State) :
    (setDom d e s).tick = s.tick ∧ (setDom d e s).out = s.out ∧ (setDom d e s).freeCtr = s.freeCtr ∧ (setDom d e s).rc = s.rc ∧
    (setDom d e s).nq = s.nq ∧ (setDom d e s).tr = s.tr ∧ (setDom d e s).mb = s.mb ∧ (setDom d e s).prov = s.prov ∧ (setDom d e s).fn = s.fn ∧
    (setDom d e s).lc = s.lc ∧ (setDom d e s).hc = s.hc ∧ (setDom d e s).tm = s.tm ∧ (setDom d e s).pin = s.pin ∧ (setDom d e s).wk = s.wk ∧
    (setDom d e s).hl = s.hl ∧ (setDom d e s).tk = s.tk ∧ (setDom d e s).en = s.en ∧ (setDom d e s).lim = s.lim ∧ (setDom d e s).ac = s.ac ∧
    (setDom d e s).pk = s.pk ∧ (setDom d e s).ln = s.ln ∧ (setDom d e s).pt = s.pt ∧ (setDom d e s).ad = s.ad ∧ (setDom d e s).dg = s.dg ∧
    (setDom d e s).rn = s.rn ∧ (setDom d e s).gp = s.gp ∧ (setDom d e s).exitHeld = s.exitHeld ∧ (setDom d e s).pending = s.pending := by
  refine ⟨?_, ?_, ?_, ?_, ?_, ?_, ?_, ?_, ?_, ?_, ?_, ?_, ?_, ?_, ?_, ?_, ?_, ?_, ?_, ?_, ?_, ?_, ?_, ?_, ?_, ?_, ?_, ?_⟩ <;> (first | rfl | (unfold setDom; (try dsimp only); (repeat' split) <;> (first | rfl | simp)))

/-- `setCopy` changes `ac` and leaves every other part of the state alone. -/
@[simp] theorem setCopy_frame (i : Nat) (c : Option Ckpt) (s : State) :
    (setCopy i c s).tick = s.tick ∧ (setCopy i c s).out = s.out ∧ (setCopy i c s).freeCtr = s.freeCtr ∧ (setCopy i c s).rc = s.rc ∧
    (setCopy i c s).nq = s.nq ∧ (setCopy i c s).tr = s.tr ∧ (setCopy i c s).mb = s.mb ∧ (setCopy i c s).prov = s.prov ∧ (setCopy i c s).fn = s.fn ∧
    (setCopy i c s).lc = s.lc ∧ (setCopy i c s).hc = s.hc ∧ (setCopy i c s).tm = s.tm ∧ (setCopy i c s).pin = s.pin ∧ (setCopy i c s).wk = s.wk ∧
    (setCopy i c s).hl = s.hl ∧ (setCopy i c s).tk = s.tk ∧ (setCopy i c s).en = s.en ∧ (setCopy i c s).lim = s.lim ∧ (setCopy i c s).ks = s.ks ∧
    (setCopy i c s).pk = s.pk ∧ (setCopy i c s).ln = s.ln ∧ (setCopy i c s).pt = s.pt ∧ (setCopy i c s).ad = s.ad ∧ (setCopy i c s).dg = s.dg ∧
    (setCopy i c s).rn = s.rn ∧ (setCopy i c s).gp = s.gp ∧ (setCopy i c s).exitHeld = s.exitHeld ∧ (setCopy i c s).pending = s.pending := by
  refine ⟨?_, ?_, ?_, ?_, ?_, ?_, ?_, ?_, ?_, ?_, ?_, ?_, ?_, ?_, ?_, ?_, ?_, ?_, ?_, ?_, ?_, ?_, ?_, ?_, ?_, ?_, ?_, ?_⟩ <;> (first | rfl | (unfold setCopy; (try dsimp only); (repeat' split) <;> (first | rfl | simp)))

/-- `setPair` changes `hc` and leaves every other part of the state alone. -/
@[simp] theorem setPair_frame (i : Nat) (p : PairState) (s : State) :
    (setPair i p s).tick = s.tick ∧ (setPair i p s).out = s.out ∧ (setPair i p s).freeCtr = s.freeCtr ∧ (setPair i p s).rc = s.rc ∧
    (setPair i p s).nq = s.nq ∧ (setPair i p s).tr = s.tr ∧ (setPair i p s).mb = s.mb ∧ (setPair i p s).prov = s.prov ∧ (setPair i p s).fn = s.fn ∧
    (setPair i p s).lc = s.lc ∧ (setPair i p s).tm = s.tm ∧ (setPair i p s).pin = s.pin ∧ (setPair i p s).wk = s.wk ∧ (setPair i p s).hl = s.hl ∧
    (setPair i p s).tk = s.tk ∧ (setPair i p s).en = s.en ∧ (setPair i p s).lim = s.lim ∧ (setPair i p s).ac = s.ac ∧ (setPair i p s).ks = s.ks ∧
    (setPair i p s).pk = s.pk ∧ (setPair i p s).ln = s.ln ∧ (setPair i p s).pt = s.pt ∧ (setPair i p s).ad = s.ad ∧ (setPair i p s).dg = s.dg ∧
    (setPair i p s).rn = s.rn ∧ (setPair i p s).gp = s.gp ∧ (setPair i p s).exitHeld = s.exitHeld ∧ (setPair i p s).pending = s.pending := by
  refine ⟨?_, ?_, ?_, ?_, ?_, ?_, ?_, ?_, ?_, ?_, ?_, ?_, ?_, ?_, ?_, ?_, ?_, ?_, ?_, ?_, ?_, ?_, ?_, ?_, ?_, ?_, ?_, ?_⟩ <;> (first | rfl | (unfold setPair; (try dsimp only); (repeat' split) <;> (first | rfl | simp)))

/-- `setUtc` changes `tk` and leaves every other part of the state alone. -/
@[simp] theorem setUtc_frame (ns : Int) (src port : Nat) (s : State) :
    (setUtc ns src port s).tick = s.tick ∧ (setUtc ns src port s).out = s.out ∧ (setUtc ns src port s).freeCtr = s.freeCtr ∧
    (setUtc ns src port s).rc = s.rc ∧ (setUtc ns src port s).nq = s.nq ∧ (setUtc ns src port s).tr = s.tr ∧ (setUtc ns src port s).mb = s.mb ∧
    (setUtc ns src port s).prov = s.prov ∧ (setUtc ns src port s).fn = s.fn ∧ (setUtc ns src port s).lc = s.lc ∧ (setUtc ns src port s).hc = s.hc ∧
    (setUtc ns src port s).tm = s.tm ∧ (setUtc ns src port s).pin = s.pin ∧ (setUtc ns src port s).wk = s.wk ∧ (setUtc ns src port s).hl = s.hl ∧
    (setUtc ns src port s).en = s.en ∧ (setUtc ns src port s).lim = s.lim ∧ (setUtc ns src port s).ac = s.ac ∧ (setUtc ns src port s).ks = s.ks ∧
    (setUtc ns src port s).pk = s.pk ∧ (setUtc ns src port s).ln = s.ln ∧ (setUtc ns src port s).pt = s.pt ∧ (setUtc ns src port s).ad = s.ad ∧
    (setUtc ns src port s).dg = s.dg ∧ (setUtc ns src port s).rn = s.rn ∧ (setUtc ns src port s).gp = s.gp ∧
    (setUtc ns src port s).exitHeld = s.exitHeld ∧ (setUtc ns src port s).pending = s.pending := by
  refine ⟨?_, ?_, ?_, ?_, ?_, ?_, ?_, ?_, ?_, ?_, ?_, ?_, ?_, ?_, ?_, ?_, ?_, ?_, ?_, ?_, ?_, ?_, ?_, ?_, ?_, ?_, ?_, ?_⟩ <;> (first | rfl | (unfold setUtc; (try dsimp only); (repeat' split) <;> (first | rfl | simp)))

/-- `setFwSlot` changes `lc` and leaves every other part of the state alone. -/
@[simp] theorem setFwSlot_frame (slot : Nat) (x : FwSlot) (s : State) :
    (setFwSlot slot x s).tick = s.tick ∧ (setFwSlot slot x s).out = s.out ∧ (setFwSlot slot x s).freeCtr = s.freeCtr ∧ (setFwSlot slot x s).rc = s.rc ∧
    (setFwSlot slot x s).nq = s.nq ∧ (setFwSlot slot x s).tr = s.tr ∧ (setFwSlot slot x s).mb = s.mb ∧ (setFwSlot slot x s).prov = s.prov ∧
    (setFwSlot slot x s).fn = s.fn ∧ (setFwSlot slot x s).hc = s.hc ∧ (setFwSlot slot x s).tm = s.tm ∧ (setFwSlot slot x s).pin = s.pin ∧
    (setFwSlot slot x s).wk = s.wk ∧ (setFwSlot slot x s).hl = s.hl ∧ (setFwSlot slot x s).tk = s.tk ∧ (setFwSlot slot x s).en = s.en ∧
    (setFwSlot slot x s).lim = s.lim ∧ (setFwSlot slot x s).ac = s.ac ∧ (setFwSlot slot x s).ks = s.ks ∧ (setFwSlot slot x s).pk = s.pk ∧
    (setFwSlot slot x s).ln = s.ln ∧ (setFwSlot slot x s).pt = s.pt ∧ (setFwSlot slot x s).ad = s.ad ∧ (setFwSlot slot x s).dg = s.dg ∧
    (setFwSlot slot x s).rn = s.rn ∧ (setFwSlot slot x s).gp = s.gp ∧ (setFwSlot slot x s).exitHeld = s.exitHeld ∧
    (setFwSlot slot x s).pending = s.pending := by
  refine ⟨?_, ?_, ?_, ?_, ?_, ?_, ?_, ?_, ?_, ?_, ?_, ?_, ?_, ?_, ?_, ?_, ?_, ?_, ?_, ?_, ?_, ?_, ?_, ?_, ?_, ?_, ?_, ?_⟩ <;> (first | rfl | (unfold setFwSlot; (try dsimp only); (repeat' split) <;> (first | rfl | simp)))

/-- `setLive` changes `rc` and leaves every other part of the state alone. -/
@[simp] theorem setLive_frame (cause : Nat) (s : State) :
    (setLive cause s).tick = s.tick ∧ (setLive cause s).out = s.out ∧ (setLive cause s).freeCtr = s.freeCtr ∧ (setLive cause s).nq = s.nq ∧
    (setLive cause s).tr = s.tr ∧ (setLive cause s).mb = s.mb ∧ (setLive cause s).prov = s.prov ∧ (setLive cause s).fn = s.fn ∧
    (setLive cause s).lc = s.lc ∧ (setLive cause s).hc = s.hc ∧ (setLive cause s).tm = s.tm ∧ (setLive cause s).pin = s.pin ∧
    (setLive cause s).wk = s.wk ∧ (setLive cause s).hl = s.hl ∧ (setLive cause s).tk = s.tk ∧ (setLive cause s).en = s.en ∧
    (setLive cause s).lim = s.lim ∧ (setLive cause s).ac = s.ac ∧ (setLive cause s).ks = s.ks ∧ (setLive cause s).pk = s.pk ∧
    (setLive cause s).ln = s.ln ∧ (setLive cause s).pt = s.pt ∧ (setLive cause s).ad = s.ad ∧ (setLive cause s).dg = s.dg ∧
    (setLive cause s).rn = s.rn ∧ (setLive cause s).gp = s.gp ∧ (setLive cause s).exitHeld = s.exitHeld ∧ (setLive cause s).pending = s.pending := by
  refine ⟨?_, ?_, ?_, ?_, ?_, ?_, ?_, ?_, ?_, ?_, ?_, ?_, ?_, ?_, ?_, ?_, ?_, ?_, ?_, ?_, ?_, ?_, ?_, ?_, ?_, ?_, ?_, ?_⟩ <;> (first | rfl | (unfold setLive; (try dsimp only); (repeat' split) <;> (first | rfl | simp)))

/-- `setSettled` changes `rc` and leaves every other part of the state alone. -/
@[simp] theorem setSettled_frame (s : State) :
    (setSettled s).tick = s.tick ∧ (setSettled s).out = s.out ∧ (setSettled s).freeCtr = s.freeCtr ∧ (setSettled s).nq = s.nq ∧
    (setSettled s).tr = s.tr ∧ (setSettled s).mb = s.mb ∧ (setSettled s).prov = s.prov ∧ (setSettled s).fn = s.fn ∧ (setSettled s).lc = s.lc ∧
    (setSettled s).hc = s.hc ∧ (setSettled s).tm = s.tm ∧ (setSettled s).pin = s.pin ∧ (setSettled s).wk = s.wk ∧ (setSettled s).hl = s.hl ∧
    (setSettled s).tk = s.tk ∧ (setSettled s).en = s.en ∧ (setSettled s).lim = s.lim ∧ (setSettled s).ac = s.ac ∧ (setSettled s).ks = s.ks ∧
    (setSettled s).pk = s.pk ∧ (setSettled s).ln = s.ln ∧ (setSettled s).pt = s.pt ∧ (setSettled s).ad = s.ad ∧ (setSettled s).dg = s.dg ∧
    (setSettled s).rn = s.rn ∧ (setSettled s).gp = s.gp ∧ (setSettled s).exitHeld = s.exitHeld ∧ (setSettled s).pending = s.pending := by
  refine ⟨?_, ?_, ?_, ?_, ?_, ?_, ?_, ?_, ?_, ?_, ?_, ?_, ?_, ?_, ?_, ?_, ?_, ?_, ?_, ?_, ?_, ?_, ?_, ?_, ?_, ?_, ?_, ?_⟩ <;> (first | rfl | (unfold setSettled; (try dsimp only); (repeat' split) <;> (first | rfl | simp)))

/-- `stageDone` changes `lc` and leaves every other part of the state alone. -/
@[simp] theorem stageDone_frame (n : Nat) (s : State) :
    (stageDone n s).tick = s.tick ∧ (stageDone n s).out = s.out ∧ (stageDone n s).freeCtr = s.freeCtr ∧ (stageDone n s).rc = s.rc ∧
    (stageDone n s).nq = s.nq ∧ (stageDone n s).tr = s.tr ∧ (stageDone n s).mb = s.mb ∧ (stageDone n s).prov = s.prov ∧ (stageDone n s).fn = s.fn ∧
    (stageDone n s).hc = s.hc ∧ (stageDone n s).tm = s.tm ∧ (stageDone n s).pin = s.pin ∧ (stageDone n s).wk = s.wk ∧ (stageDone n s).hl = s.hl ∧
    (stageDone n s).tk = s.tk ∧ (stageDone n s).en = s.en ∧ (stageDone n s).lim = s.lim ∧ (stageDone n s).ac = s.ac ∧ (stageDone n s).ks = s.ks ∧
    (stageDone n s).pk = s.pk ∧ (stageDone n s).ln = s.ln ∧ (stageDone n s).pt = s.pt ∧ (stageDone n s).ad = s.ad ∧ (stageDone n s).dg = s.dg ∧
    (stageDone n s).rn = s.rn ∧ (stageDone n s).gp = s.gp ∧ (stageDone n s).exitHeld = s.exitHeld ∧ (stageDone n s).pending = s.pending := by
  refine ⟨?_, ?_, ?_, ?_, ?_, ?_, ?_, ?_, ?_, ?_, ?_, ?_, ?_, ?_, ?_, ?_, ?_, ?_, ?_, ?_, ?_, ?_, ?_, ?_, ?_, ?_, ?_, ?_⟩ <;> (first | rfl | (unfold stageDone; (try dsimp only); (repeat' split) <;> (first | rfl | simp)))

/-- `writeLc` changes `lc` and leaves every other part of the state alone. -/
@[simp] theorem writeLc_frame (r : LcRec) (s : State) :
    (writeLc r s).tick = s.tick ∧ (writeLc r s).out = s.out ∧ (writeLc r s).freeCtr = s.freeCtr ∧ (writeLc r s).rc = s.rc ∧ (writeLc r s).nq = s.nq ∧
    (writeLc r s).tr = s.tr ∧ (writeLc r s).mb = s.mb ∧ (writeLc r s).prov = s.prov ∧ (writeLc r s).fn = s.fn ∧ (writeLc r s).hc = s.hc ∧
    (writeLc r s).tm = s.tm ∧ (writeLc r s).pin = s.pin ∧ (writeLc r s).wk = s.wk ∧ (writeLc r s).hl = s.hl ∧ (writeLc r s).tk = s.tk ∧
    (writeLc r s).en = s.en ∧ (writeLc r s).lim = s.lim ∧ (writeLc r s).ac = s.ac ∧ (writeLc r s).ks = s.ks ∧ (writeLc r s).pk = s.pk ∧
    (writeLc r s).ln = s.ln ∧ (writeLc r s).pt = s.pt ∧ (writeLc r s).ad = s.ad ∧ (writeLc r s).dg = s.dg ∧ (writeLc r s).rn = s.rn ∧
    (writeLc r s).gp = s.gp ∧ (writeLc r s).exitHeld = s.exitHeld ∧ (writeLc r s).pending = s.pending := by
  refine ⟨?_, ?_, ?_, ?_, ?_, ?_, ?_, ?_, ?_, ?_, ?_, ?_, ?_, ?_, ?_, ?_, ?_, ?_, ?_, ?_, ?_, ?_, ?_, ?_, ?_, ?_, ?_, ?_⟩ <;> (first | rfl | (unfold writeLc; (try dsimp only); (repeat' split) <;> (first | rfl | simp)))

/-- `addUsage` changes `ac` and leaves every other part of the state alone. -/
@[simp] theorem addUsage_frame (d cls ops cu bytes : Nat) (s : State) :
    (addUsage d cls ops cu bytes s).tick = s.tick ∧ (addUsage d cls ops cu bytes s).out = s.out ∧ (addUsage d cls ops cu bytes s).freeCtr = s.freeCtr ∧
    (addUsage d cls ops cu bytes s).rc = s.rc ∧ (addUsage d cls ops cu bytes s).nq = s.nq ∧ (addUsage d cls ops cu bytes s).tr = s.tr ∧
    (addUsage d cls ops cu bytes s).mb = s.mb ∧ (addUsage d cls ops cu bytes s).prov = s.prov ∧ (addUsage d cls ops cu bytes s).fn = s.fn ∧
    (addUsage d cls ops cu bytes s).lc = s.lc ∧ (addUsage d cls ops cu bytes s).hc = s.hc ∧ (addUsage d cls ops cu bytes s).tm = s.tm ∧
    (addUsage d cls ops cu bytes s).pin = s.pin ∧ (addUsage d cls ops cu bytes s).wk = s.wk ∧ (addUsage d cls ops cu bytes s).hl = s.hl ∧
    (addUsage d cls ops cu bytes s).tk = s.tk ∧ (addUsage d cls ops cu bytes s).en = s.en ∧ (addUsage d cls ops cu bytes s).lim = s.lim ∧
    (addUsage d cls ops cu bytes s).ks = s.ks ∧ (addUsage d cls ops cu bytes s).pk = s.pk ∧ (addUsage d cls ops cu bytes s).ln = s.ln ∧
    (addUsage d cls ops cu bytes s).pt = s.pt ∧ (addUsage d cls ops cu bytes s).ad = s.ad ∧ (addUsage d cls ops cu bytes s).dg = s.dg ∧
    (addUsage d cls ops cu bytes s).rn = s.rn ∧ (addUsage d cls ops cu bytes s).gp = s.gp ∧ (addUsage d cls ops cu bytes s).exitHeld = s.exitHeld ∧
    (addUsage d cls ops cu bytes s).pending = s.pending := by
  refine ⟨?_, ?_, ?_, ?_, ?_, ?_, ?_, ?_, ?_, ?_, ?_, ?_, ?_, ?_, ?_, ?_, ?_, ?_, ?_, ?_, ?_, ?_, ?_, ?_, ?_, ?_, ?_, ?_⟩ <;> (first | rfl | (unfold addUsage; (try dsimp only); (repeat' split) <;> (first | rfl | simp)))

/-- `countOps` changes `ac` and leaves every other part of the state alone. -/
@[simp] theorem countOps_frame (w : Work) (status : Nat) (s : State) :
    (countOps w status s).tick = s.tick ∧ (countOps w status s).out = s.out ∧ (countOps w status s).freeCtr = s.freeCtr ∧
    (countOps w status s).rc = s.rc ∧ (countOps w status s).nq = s.nq ∧ (countOps w status s).tr = s.tr ∧ (countOps w status s).mb = s.mb ∧
    (countOps w status s).prov = s.prov ∧ (countOps w status s).fn = s.fn ∧ (countOps w status s).lc = s.lc ∧ (countOps w status s).hc = s.hc ∧
    (countOps w status s).tm = s.tm ∧ (countOps w status s).pin = s.pin ∧ (countOps w status s).wk = s.wk ∧ (countOps w status s).hl = s.hl ∧
    (countOps w status s).tk = s.tk ∧ (countOps w status s).en = s.en ∧ (countOps w status s).lim = s.lim ∧ (countOps w status s).ks = s.ks ∧
    (countOps w status s).pk = s.pk ∧ (countOps w status s).ln = s.ln ∧ (countOps w status s).pt = s.pt ∧ (countOps w status s).ad = s.ad ∧
    (countOps w status s).dg = s.dg ∧ (countOps w status s).rn = s.rn ∧ (countOps w status s).gp = s.gp ∧ (countOps w status s).exitHeld = s.exitHeld ∧
    (countOps w status s).pending = s.pending := by
  refine ⟨?_, ?_, ?_, ?_, ?_, ?_, ?_, ?_, ?_, ?_, ?_, ?_, ?_, ?_, ?_, ?_, ?_, ?_, ?_, ?_, ?_, ?_, ?_, ?_, ?_, ?_, ?_, ?_⟩ <;> (first | rfl | (unfold countOps; (try dsimp only); (repeat' split) <;> (first | rfl | simp)))

/-- `closeWhere` changes `rc` and leaves every other part of the state alone. -/
@[simp] theorem closeWhere_frame (p : Rec → Bool) (s : State) :
    (closeWhere p s).tick = s.tick ∧ (closeWhere p s).out = s.out ∧ (closeWhere p s).freeCtr = s.freeCtr ∧ (closeWhere p s).nq = s.nq ∧
    (closeWhere p s).tr = s.tr ∧ (closeWhere p s).mb = s.mb ∧ (closeWhere p s).prov = s.prov ∧ (closeWhere p s).fn = s.fn ∧ (closeWhere p s).lc = s.lc ∧
    (closeWhere p s).hc = s.hc ∧ (closeWhere p s).tm = s.tm ∧ (closeWhere p s).pin = s.pin ∧ (closeWhere p s).wk = s.wk ∧ (closeWhere p s).hl = s.hl ∧
    (closeWhere p s).tk = s.tk ∧ (closeWhere p s).en = s.en ∧ (closeWhere p s).lim = s.lim ∧ (closeWhere p s).ac = s.ac ∧ (closeWhere p s).ks = s.ks ∧
    (closeWhere p s).pk = s.pk ∧ (closeWhere p s).ln = s.ln ∧ (closeWhere p s).pt = s.pt ∧ (closeWhere p s).ad = s.ad ∧ (closeWhere p s).dg = s.dg ∧
    (closeWhere p s).rn = s.rn ∧ (closeWhere p s).gp = s.gp ∧ (closeWhere p s).exitHeld = s.exitHeld ∧ (closeWhere p s).pending = s.pending := by
  refine ⟨?_, ?_, ?_, ?_, ?_, ?_, ?_, ?_, ?_, ?_, ?_, ?_, ?_, ?_, ?_, ?_, ?_, ?_, ?_, ?_, ?_, ?_, ?_, ?_, ?_, ?_, ?_, ?_⟩ <;> (first | rfl | (unfold closeWhere; (try dsimp only); (repeat' split) <;> (first | rfl | simp)))

/-- `closeOldest` changes `rc` and leaves every other part of the state alone. -/
@[simp] theorem closeOldest_frame (s : State) :
    (closeOldest s).tick = s.tick ∧ (closeOldest s).out = s.out ∧ (closeOldest s).freeCtr = s.freeCtr ∧ (closeOldest s).nq = s.nq ∧
    (closeOldest s).tr = s.tr ∧ (closeOldest s).mb = s.mb ∧ (closeOldest s).prov = s.prov ∧ (closeOldest s).fn = s.fn ∧ (closeOldest s).lc = s.lc ∧
    (closeOldest s).hc = s.hc ∧ (closeOldest s).tm = s.tm ∧ (closeOldest s).pin = s.pin ∧ (closeOldest s).wk = s.wk ∧ (closeOldest s).hl = s.hl ∧
    (closeOldest s).tk = s.tk ∧ (closeOldest s).en = s.en ∧ (closeOldest s).lim = s.lim ∧ (closeOldest s).ac = s.ac ∧ (closeOldest s).ks = s.ks ∧
    (closeOldest s).pk = s.pk ∧ (closeOldest s).ln = s.ln ∧ (closeOldest s).pt = s.pt ∧ (closeOldest s).ad = s.ad ∧ (closeOldest s).dg = s.dg ∧
    (closeOldest s).rn = s.rn ∧ (closeOldest s).gp = s.gp ∧ (closeOldest s).exitHeld = s.exitHeld ∧ (closeOldest s).pending = s.pending := by
  refine ⟨?_, ?_, ?_, ?_, ?_, ?_, ?_, ?_, ?_, ?_, ?_, ?_, ?_, ?_, ?_, ?_, ?_, ?_, ?_, ?_, ?_, ?_, ?_, ?_, ?_, ?_, ?_, ?_⟩ <;> (first | rfl | (unfold closeOldest; (try dsimp only); (repeat' split) <;> (first | rfl | simp)))

/-- `createRec` changes `rc` and leaves every other part of the state alone. -/
@[simp] theorem createRec_frame (p : Report) (cont : Bool) (s : State) :
    (createRec p cont s).2.tick = s.tick ∧ (createRec p cont s).2.out = s.out ∧ (createRec p cont s).2.freeCtr = s.freeCtr ∧
    (createRec p cont s).2.nq = s.nq ∧ (createRec p cont s).2.tr = s.tr ∧ (createRec p cont s).2.mb = s.mb ∧ (createRec p cont s).2.prov = s.prov ∧
    (createRec p cont s).2.fn = s.fn ∧ (createRec p cont s).2.lc = s.lc ∧ (createRec p cont s).2.hc = s.hc ∧ (createRec p cont s).2.tm = s.tm ∧
    (createRec p cont s).2.pin = s.pin ∧ (createRec p cont s).2.wk = s.wk ∧ (createRec p cont s).2.hl = s.hl ∧ (createRec p cont s).2.tk = s.tk ∧
    (createRec p cont s).2.en = s.en ∧ (createRec p cont s).2.lim = s.lim ∧ (createRec p cont s).2.ac = s.ac ∧ (createRec p cont s).2.ks = s.ks ∧
    (createRec p cont s).2.pk = s.pk ∧ (createRec p cont s).2.ln = s.ln ∧ (createRec p cont s).2.pt = s.pt ∧ (createRec p cont s).2.ad = s.ad ∧
    (createRec p cont s).2.dg = s.dg ∧ (createRec p cont s).2.rn = s.rn ∧ (createRec p cont s).2.gp = s.gp ∧
    (createRec p cont s).2.exitHeld = s.exitHeld ∧ (createRec p cont s).2.pending = s.pending := by
  refine ⟨?_, ?_, ?_, ?_, ?_, ?_, ?_, ?_, ?_, ?_, ?_, ?_, ?_, ?_, ?_, ?_, ?_, ?_, ?_, ?_, ?_, ?_, ?_, ?_, ?_, ?_, ?_, ?_⟩ <;> (first | rfl | (unfold createRec; (try dsimp only); (repeat' split) <;> (first | rfl | simp)))

/-- `enterNotice` changes `out`, `nq`, `hl` and leaves every other part of the state alone. -/
@[simp] theorem enterNotice_frame (n : Notice) (s : State) :
    (enterNotice n s).2.tick = s.tick ∧ (enterNotice n s).2.freeCtr = s.freeCtr ∧ (enterNotice n s).2.rc = s.rc ∧ (enterNotice n s).2.tr = s.tr ∧
    (enterNotice n s).2.mb = s.mb ∧ (enterNotice n s).2.prov = s.prov ∧ (enterNotice n s).2.fn = s.fn ∧ (enterNotice n s).2.lc = s.lc ∧
    (enterNotice n s).2.hc = s.hc ∧ (enterNotice n s).2.tm = s.tm ∧ (enterNotice n s).2.pin = s.pin ∧ (enterNotice n s).2.wk = s.wk ∧
    (enterNotice n s).2.tk = s.tk ∧ (enterNotice n s).2.en = s.en ∧ (enterNotice n s).2.lim = s.lim ∧ (enterNotice n s).2.ac = s.ac ∧
    (enterNotice n s).2.ks = s.ks ∧ (enterNotice n s).2.pk = s.pk ∧ (enterNotice n s).2.ln = s.ln ∧ (enterNotice n s).2.pt = s.pt ∧
    (enterNotice n s).2.ad = s.ad ∧ (enterNotice n s).2.dg = s.dg ∧ (enterNotice n s).2.rn = s.rn ∧ (enterNotice n s).2.gp = s.gp ∧
    (enterNotice n s).2.exitHeld = s.exitHeld ∧ (enterNotice n s).2.pending = s.pending := by
  refine ⟨?_, ?_, ?_, ?_, ?_, ?_, ?_, ?_, ?_, ?_, ?_, ?_, ?_, ?_, ?_, ?_, ?_, ?_, ?_, ?_, ?_, ?_, ?_, ?_, ?_, ?_⟩ <;> (first | rfl | (unfold enterNotice; (try dsimp only); (repeat' split) <;> (first | rfl | simp)))

/-- `openLost` changes `out`, `rc`, `nq`, `hl` and leaves every other part of the state alone. -/
@[simp] theorem openLost_frame (cont : Bool) (s : State) :
    (openLost cont s).tick = s.tick ∧ (openLost cont s).freeCtr = s.freeCtr ∧ (openLost cont s).tr = s.tr ∧ (openLost cont s).mb = s.mb ∧
    (openLost cont s).prov = s.prov ∧ (openLost cont s).fn = s.fn ∧ (openLost cont s).lc = s.lc ∧ (openLost cont s).hc = s.hc ∧
    (openLost cont s).tm = s.tm ∧ (openLost cont s).pin = s.pin ∧ (openLost cont s).wk = s.wk ∧ (openLost cont s).tk = s.tk ∧
    (openLost cont s).en = s.en ∧ (openLost cont s).lim = s.lim ∧ (openLost cont s).ac = s.ac ∧ (openLost cont s).ks = s.ks ∧
    (openLost cont s).pk = s.pk ∧ (openLost cont s).ln = s.ln ∧ (openLost cont s).pt = s.pt ∧ (openLost cont s).ad = s.ad ∧
    (openLost cont s).dg = s.dg ∧ (openLost cont s).rn = s.rn ∧ (openLost cont s).gp = s.gp ∧ (openLost cont s).exitHeld = s.exitHeld ∧
    (openLost cont s).pending = s.pending := by
  refine ⟨?_, ?_, ?_, ?_, ?_, ?_, ?_, ?_, ?_, ?_, ?_, ?_, ?_, ?_, ?_, ?_, ?_, ?_, ?_, ?_, ?_, ?_, ?_, ?_, ?_⟩ <;> (unfold openLost; dsimp only; split <;> simp)

/-- `lostNotice` changes `out`, `rc`, `nq`, `hl` and leaves every other part of the state alone. -/
@[simp] theorem lostNotice_frame (s : State) :
    (lostNotice s).tick = s.tick ∧ (lostNotice s).freeCtr = s.freeCtr ∧ (lostNotice s).tr = s.tr ∧ (lostNotice s).mb = s.mb ∧
    (lostNotice s).prov = s.prov ∧ (lostNotice s).fn = s.fn ∧ (lostNotice s).lc = s.lc ∧ (lostNotice s).hc = s.hc ∧ (lostNotice s).tm = s.tm ∧
    (lostNotice s).pin = s.pin ∧ (lostNotice s).wk = s.wk ∧ (lostNotice s).tk = s.tk ∧ (lostNotice s).en = s.en ∧ (lostNotice s).lim = s.lim ∧
    (lostNotice s).ac = s.ac ∧ (lostNotice s).ks = s.ks ∧ (lostNotice s).pk = s.pk ∧ (lostNotice s).ln = s.ln ∧ (lostNotice s).pt = s.pt ∧
    (lostNotice s).ad = s.ad ∧ (lostNotice s).dg = s.dg ∧ (lostNotice s).rn = s.rn ∧ (lostNotice s).gp = s.gp ∧
    (lostNotice s).exitHeld = s.exitHeld ∧ (lostNotice s).pending = s.pending := by
  refine ⟨?_, ?_, ?_, ?_, ?_, ?_, ?_, ?_, ?_, ?_, ?_, ?_, ?_, ?_, ?_, ?_, ?_, ?_, ?_, ?_, ?_, ?_, ?_, ?_, ?_⟩ <;> (first | rfl | (unfold lostNotice; (try dsimp only); (repeat' split) <;> (first | rfl | simp)))

/-- `postNotice`, without its pairs. -/
theorem postNotice_eq (n : Notice) (s : State) :
    postNotice n s = if (enterNotice n s).1 then lostNotice (enterNotice n s).2 else (enterNotice n s).2 := by
  unfold postNotice
  rcases enterNotice n s with ⟨_ | _, t⟩ <;> rfl

/-- `postNotice` changes `out`, `rc`, `nq`, `hl` and leaves every other part of the state alone. -/
@[simp] theorem postNotice_frame (n : Notice) (s : State) :
    (postNotice n s).tick = s.tick ∧ (postNotice n s).freeCtr = s.freeCtr ∧ (postNotice n s).tr = s.tr ∧ (postNotice n s).mb = s.mb ∧
    (postNotice n s).prov = s.prov ∧ (postNotice n s).fn = s.fn ∧ (postNotice n s).lc = s.lc ∧ (postNotice n s).hc = s.hc ∧
    (postNotice n s).tm = s.tm ∧ (postNotice n s).pin = s.pin ∧ (postNotice n s).wk = s.wk ∧ (postNotice n s).tk = s.tk ∧
    (postNotice n s).en = s.en ∧ (postNotice n s).lim = s.lim ∧ (postNotice n s).ac = s.ac ∧ (postNotice n s).ks = s.ks ∧
    (postNotice n s).pk = s.pk ∧ (postNotice n s).ln = s.ln ∧ (postNotice n s).pt = s.pt ∧ (postNotice n s).ad = s.ad ∧ (postNotice n s).dg = s.dg ∧
    (postNotice n s).rn = s.rn ∧ (postNotice n s).gp = s.gp ∧ (postNotice n s).exitHeld = s.exitHeld ∧ (postNotice n s).pending = s.pending := by
  refine ⟨?_, ?_, ?_, ?_, ?_, ?_, ?_, ?_, ?_, ?_, ?_, ?_, ?_, ?_, ?_, ?_, ?_, ?_, ?_, ?_, ?_, ?_, ?_, ?_, ?_⟩ <;> (rw [postNotice_eq]; (repeat' split) <;> simp)

/-- `openRec`, without its pairs. -/
theorem openRec_eq (p : Report) (c : Bool) (s : State) : openRec p c s =
    match (createRec p c s).1 with
    | none => (createRec p c s).2
    | some r => if p.notify && !recordOnly p.event then postNotice r.notice (createRec p c s).2 else (createRec p c s).2 := by
  unfold openRec
  rcases createRec p c s with ⟨_ | r, t⟩ <;> rfl

/-- `openRec` changes `out`, `rc`, `nq`, `hl` and leaves every other part of the state alone. -/
@[simp] theorem openRec_frame (p : Report) (cont : Bool) (s : State) :
    (openRec p cont s).tick = s.tick ∧ (openRec p cont s).freeCtr = s.freeCtr ∧ (openRec p cont s).tr = s.tr ∧ (openRec p cont s).mb = s.mb ∧
    (openRec p cont s).prov = s.prov ∧ (openRec p cont s).fn = s.fn ∧ (openRec p cont s).lc = s.lc ∧ (openRec p cont s).hc = s.hc ∧
    (openRec p cont s).tm = s.tm ∧ (openRec p cont s).pin = s.pin ∧ (openRec p cont s).wk = s.wk ∧ (openRec p cont s).tk = s.tk ∧
    (openRec p cont s).en = s.en ∧ (openRec p cont s).lim = s.lim ∧ (openRec p cont s).ac = s.ac ∧ (openRec p cont s).ks = s.ks ∧
    (openRec p cont s).pk = s.pk ∧ (openRec p cont s).ln = s.ln ∧ (openRec p cont s).pt = s.pt ∧ (openRec p cont s).ad = s.ad ∧
    (openRec p cont s).dg = s.dg ∧ (openRec p cont s).rn = s.rn ∧ (openRec p cont s).gp = s.gp ∧ (openRec p cont s).exitHeld = s.exitHeld ∧
    (openRec p cont s).pending = s.pending := by
  refine ⟨?_, ?_, ?_, ?_, ?_, ?_, ?_, ?_, ?_, ?_, ?_, ?_, ?_, ?_, ?_, ?_, ?_, ?_, ?_, ?_, ?_, ?_, ?_, ?_, ?_⟩ <;> (rw [openRec_eq]; (repeat' split) <;> simp)

/-- `report` changes `out`, `rc`, `nq`, `hl` and leaves every other part of the state alone. -/
@[simp] theorem report_frame (p : Report) (s : State) :
    (report p s).tick = s.tick ∧ (report p s).freeCtr = s.freeCtr ∧ (report p s).tr = s.tr ∧ (report p s).mb = s.mb ∧ (report p s).prov = s.prov ∧
    (report p s).fn = s.fn ∧ (report p s).lc = s.lc ∧ (report p s).hc = s.hc ∧ (report p s).tm = s.tm ∧ (report p s).pin = s.pin ∧
    (report p s).wk = s.wk ∧ (report p s).tk = s.tk ∧ (report p s).en = s.en ∧ (report p s).lim = s.lim ∧ (report p s).ac = s.ac ∧
    (report p s).ks = s.ks ∧ (report p s).pk = s.pk ∧ (report p s).ln = s.ln ∧ (report p s).pt = s.pt ∧ (report p s).ad = s.ad ∧
    (report p s).dg = s.dg ∧ (report p s).rn = s.rn ∧ (report p s).gp = s.gp ∧ (report p s).exitHeld = s.exitHeld ∧
    (report p s).pending = s.pending := by
  refine ⟨?_, ?_, ?_, ?_, ?_, ?_, ?_, ?_, ?_, ?_, ?_, ?_, ?_, ?_, ?_, ?_, ?_, ?_, ?_, ?_, ?_, ?_, ?_, ?_, ?_⟩ <;> (first | rfl | (unfold report; (try dsimp only); (repeat' split) <;> (first | rfl | simp)))

/-- `note` changes `out`, `rc`, `nq`, `hl` and leaves every other part of the state alone. -/
@[simp] theorem note_frame (event sev unit a b : Nat) (s : State) :
    (note event sev unit a b s).tick = s.tick ∧ (note event sev unit a b s).freeCtr = s.freeCtr ∧ (note event sev unit a b s).tr = s.tr ∧
    (note event sev unit a b s).mb = s.mb ∧ (note event sev unit a b s).prov = s.prov ∧ (note event sev unit a b s).fn = s.fn ∧
    (note event sev unit a b s).lc = s.lc ∧ (note event sev unit a b s).hc = s.hc ∧ (note event sev unit a b s).tm = s.tm ∧
    (note event sev unit a b s).pin = s.pin ∧ (note event sev unit a b s).wk = s.wk ∧ (note event sev unit a b s).tk = s.tk ∧
    (note event sev unit a b s).en = s.en ∧ (note event sev unit a b s).lim = s.lim ∧ (note event sev unit a b s).ac = s.ac ∧
    (note event sev unit a b s).ks = s.ks ∧ (note event sev unit a b s).pk = s.pk ∧ (note event sev unit a b s).ln = s.ln ∧
    (note event sev unit a b s).pt = s.pt ∧ (note event sev unit a b s).ad = s.ad ∧ (note event sev unit a b s).dg = s.dg ∧
    (note event sev unit a b s).rn = s.rn ∧ (note event sev unit a b s).gp = s.gp ∧ (note event sev unit a b s).exitHeld = s.exitHeld ∧
    (note event sev unit a b s).pending = s.pending := by
  refine ⟨?_, ?_, ?_, ?_, ?_, ?_, ?_, ?_, ?_, ?_, ?_, ?_, ?_, ?_, ?_, ?_, ?_, ?_, ?_, ?_, ?_, ?_, ?_, ?_, ?_⟩ <;> (first | rfl | (unfold note; (try dsimp only); (repeat' split) <;> (first | rfl | simp)))

/-- `fenceReport` changes `out`, `rc`, `nq`, `fn`, `hl` and leaves every other part of the state alone. -/
@[simp] theorem fenceReport_frame (a : Access) (master : Nat) (b : Blocked) (locked : Bool) (s : State) :
    (fenceReport a master b locked s).tick = s.tick ∧ (fenceReport a master b locked s).freeCtr = s.freeCtr ∧
    (fenceReport a master b locked s).tr = s.tr ∧ (fenceReport a master b locked s).mb = s.mb ∧ (fenceReport a master b locked s).prov = s.prov ∧
    (fenceReport a master b locked s).lc = s.lc ∧ (fenceReport a master b locked s).hc = s.hc ∧ (fenceReport a master b locked s).tm = s.tm ∧
    (fenceReport a master b locked s).pin = s.pin ∧ (fenceReport a master b locked s).wk = s.wk ∧ (fenceReport a master b locked s).tk = s.tk ∧
    (fenceReport a master b locked s).en = s.en ∧ (fenceReport a master b locked s).lim = s.lim ∧ (fenceReport a master b locked s).ac = s.ac ∧
    (fenceReport a master b locked s).ks = s.ks ∧ (fenceReport a master b locked s).pk = s.pk ∧ (fenceReport a master b locked s).ln = s.ln ∧
    (fenceReport a master b locked s).pt = s.pt ∧ (fenceReport a master b locked s).ad = s.ad ∧ (fenceReport a master b locked s).dg = s.dg ∧
    (fenceReport a master b locked s).rn = s.rn ∧ (fenceReport a master b locked s).gp = s.gp ∧
    (fenceReport a master b locked s).exitHeld = s.exitHeld ∧ (fenceReport a master b locked s).pending = s.pending := by
  refine ⟨?_, ?_, ?_, ?_, ?_, ?_, ?_, ?_, ?_, ?_, ?_, ?_, ?_, ?_, ?_, ?_, ?_, ?_, ?_, ?_, ?_, ?_, ?_, ?_⟩ <;> (first | rfl | (unfold fenceReport; (try dsimp only); (repeat' split) <;> (first | rfl | simp)))

/-- `hcFence` changes `out`, `rc`, `nq`, `fn`, `hl` and leaves every other part of the state alone. -/
@[simp] theorem hcFence_frame (kind addr len : Nat) (s : State) :
    (hcFence kind addr len s).2.tick = s.tick ∧ (hcFence kind addr len s).2.freeCtr = s.freeCtr ∧ (hcFence kind addr len s).2.tr = s.tr ∧
    (hcFence kind addr len s).2.mb = s.mb ∧ (hcFence kind addr len s).2.prov = s.prov ∧ (hcFence kind addr len s).2.lc = s.lc ∧
    (hcFence kind addr len s).2.hc = s.hc ∧ (hcFence kind addr len s).2.tm = s.tm ∧ (hcFence kind addr len s).2.pin = s.pin ∧
    (hcFence kind addr len s).2.wk = s.wk ∧ (hcFence kind addr len s).2.tk = s.tk ∧ (hcFence kind addr len s).2.en = s.en ∧
    (hcFence kind addr len s).2.lim = s.lim ∧ (hcFence kind addr len s).2.ac = s.ac ∧ (hcFence kind addr len s).2.ks = s.ks ∧
    (hcFence kind addr len s).2.pk = s.pk ∧ (hcFence kind addr len s).2.ln = s.ln ∧ (hcFence kind addr len s).2.pt = s.pt ∧
    (hcFence kind addr len s).2.ad = s.ad ∧ (hcFence kind addr len s).2.dg = s.dg ∧ (hcFence kind addr len s).2.rn = s.rn ∧
    (hcFence kind addr len s).2.gp = s.gp ∧ (hcFence kind addr len s).2.exitHeld = s.exitHeld ∧ (hcFence kind addr len s).2.pending = s.pending := by
  refine ⟨?_, ?_, ?_, ?_, ?_, ?_, ?_, ?_, ?_, ?_, ?_, ?_, ?_, ?_, ?_, ?_, ?_, ?_, ?_, ?_, ?_, ?_, ?_, ?_⟩ <;> (first | rfl | (unfold hcFence; (try dsimp only); (repeat' split) <;> (first | rfl | simp)))

/-- `mbVector` changes `out`, `mb`, `hl` and leaves every other part of the state alone. -/
@[simp] theorem mbVector_frame (s : State) :
    (mbVector s).tick = s.tick ∧ (mbVector s).freeCtr = s.freeCtr ∧ (mbVector s).rc = s.rc ∧ (mbVector s).nq = s.nq ∧ (mbVector s).tr = s.tr ∧
    (mbVector s).prov = s.prov ∧ (mbVector s).fn = s.fn ∧ (mbVector s).lc = s.lc ∧ (mbVector s).hc = s.hc ∧ (mbVector s).tm = s.tm ∧
    (mbVector s).pin = s.pin ∧ (mbVector s).wk = s.wk ∧ (mbVector s).tk = s.tk ∧ (mbVector s).en = s.en ∧ (mbVector s).lim = s.lim ∧
    (mbVector s).ac = s.ac ∧ (mbVector s).ks = s.ks ∧ (mbVector s).pk = s.pk ∧ (mbVector s).ln = s.ln ∧ (mbVector s).pt = s.pt ∧
    (mbVector s).ad = s.ad ∧ (mbVector s).dg = s.dg ∧ (mbVector s).rn = s.rn ∧ (mbVector s).gp = s.gp ∧ (mbVector s).exitHeld = s.exitHeld ∧
    (mbVector s).pending = s.pending := by
  refine ⟨?_, ?_, ?_, ?_, ?_, ?_, ?_, ?_, ?_, ?_, ?_, ?_, ?_, ?_, ?_, ?_, ?_, ?_, ?_, ?_, ?_, ?_, ?_, ?_, ?_, ?_⟩ <;> (first | rfl | (unfold mbVector; (try dsimp only); (repeat' split) <;> (first | rfl | simp)))

/-- `outWrite` changes `out`, `mb`, `exitHeld` and leaves every other part of the state alone. -/
@[simp] theorem outWrite_frame (addr : Nat) (d : List Byte) (s : State) :
    (outWrite addr d s).tick = s.tick ∧ (outWrite addr d s).freeCtr = s.freeCtr ∧ (outWrite addr d s).rc = s.rc ∧ (outWrite addr d s).nq = s.nq ∧
    (outWrite addr d s).tr = s.tr ∧ (outWrite addr d s).prov = s.prov ∧ (outWrite addr d s).fn = s.fn ∧ (outWrite addr d s).lc = s.lc ∧
    (outWrite addr d s).hc = s.hc ∧ (outWrite addr d s).tm = s.tm ∧ (outWrite addr d s).pin = s.pin ∧ (outWrite addr d s).wk = s.wk ∧
    (outWrite addr d s).hl = s.hl ∧ (outWrite addr d s).tk = s.tk ∧ (outWrite addr d s).en = s.en ∧ (outWrite addr d s).lim = s.lim ∧
    (outWrite addr d s).ac = s.ac ∧ (outWrite addr d s).ks = s.ks ∧ (outWrite addr d s).pk = s.pk ∧ (outWrite addr d s).ln = s.ln ∧
    (outWrite addr d s).pt = s.pt ∧ (outWrite addr d s).ad = s.ad ∧ (outWrite addr d s).dg = s.dg ∧ (outWrite addr d s).rn = s.rn ∧
    (outWrite addr d s).gp = s.gp ∧ (outWrite addr d s).pending = s.pending := by
  refine ⟨?_, ?_, ?_, ?_, ?_, ?_, ?_, ?_, ?_, ?_, ?_, ?_, ?_, ?_, ?_, ?_, ?_, ?_, ?_, ?_, ?_, ?_, ?_, ?_, ?_, ?_⟩ <;> (first | rfl | (unfold outWrite; (try dsimp only); (repeat' split) <;> (first | rfl | simp)))

/-- `dropFrame` changes `pt` and leaves every other part of the state alone. -/
@[simp] theorem dropFrame_frame (b : Nat) (s : State) :
    (dropFrame b s).tick = s.tick ∧ (dropFrame b s).out = s.out ∧ (dropFrame b s).freeCtr = s.freeCtr ∧ (dropFrame b s).rc = s.rc ∧
    (dropFrame b s).nq = s.nq ∧ (dropFrame b s).tr = s.tr ∧ (dropFrame b s).mb = s.mb ∧ (dropFrame b s).prov = s.prov ∧ (dropFrame b s).fn = s.fn ∧
    (dropFrame b s).lc = s.lc ∧ (dropFrame b s).hc = s.hc ∧ (dropFrame b s).tm = s.tm ∧ (dropFrame b s).pin = s.pin ∧ (dropFrame b s).wk = s.wk ∧
    (dropFrame b s).hl = s.hl ∧ (dropFrame b s).tk = s.tk ∧ (dropFrame b s).en = s.en ∧ (dropFrame b s).lim = s.lim ∧ (dropFrame b s).ac = s.ac ∧
    (dropFrame b s).ks = s.ks ∧ (dropFrame b s).pk = s.pk ∧ (dropFrame b s).ln = s.ln ∧ (dropFrame b s).ad = s.ad ∧ (dropFrame b s).dg = s.dg ∧
    (dropFrame b s).rn = s.rn ∧ (dropFrame b s).gp = s.gp ∧ (dropFrame b s).exitHeld = s.exitHeld ∧ (dropFrame b s).pending = s.pending := by
  refine ⟨?_, ?_, ?_, ?_, ?_, ?_, ?_, ?_, ?_, ?_, ?_, ?_, ?_, ?_, ?_, ?_, ?_, ?_, ?_, ?_, ?_, ?_, ?_, ?_, ?_, ?_, ?_, ?_⟩ <;> (first | rfl | (unfold dropFrame; (try dsimp only); (repeat' split) <;> (first | rfl | simp)))

/-- `ebb` changes `freeCtr` and leaves every other part of the state alone. -/
@[simp] theorem ebb_frame (n : Nat) (s : State) :
    (ebb n s).2.tick = s.tick ∧ (ebb n s).2.out = s.out ∧ (ebb n s).2.rc = s.rc ∧ (ebb n s).2.nq = s.nq ∧ (ebb n s).2.tr = s.tr ∧
    (ebb n s).2.mb = s.mb ∧ (ebb n s).2.prov = s.prov ∧ (ebb n s).2.fn = s.fn ∧ (ebb n s).2.lc = s.lc ∧ (ebb n s).2.hc = s.hc ∧ (ebb n s).2.tm = s.tm ∧
    (ebb n s).2.pin = s.pin ∧ (ebb n s).2.wk = s.wk ∧ (ebb n s).2.hl = s.hl ∧ (ebb n s).2.tk = s.tk ∧ (ebb n s).2.en = s.en ∧ (ebb n s).2.lim = s.lim ∧
    (ebb n s).2.ac = s.ac ∧ (ebb n s).2.ks = s.ks ∧ (ebb n s).2.pk = s.pk ∧ (ebb n s).2.ln = s.ln ∧ (ebb n s).2.pt = s.pt ∧ (ebb n s).2.ad = s.ad ∧
    (ebb n s).2.dg = s.dg ∧ (ebb n s).2.rn = s.rn ∧ (ebb n s).2.gp = s.gp ∧ (ebb n s).2.exitHeld = s.exitHeld ∧ (ebb n s).2.pending = s.pending := by
  refine ⟨?_, ?_, ?_, ?_, ?_, ?_, ?_, ?_, ?_, ?_, ?_, ?_, ?_, ?_, ?_, ?_, ?_, ?_, ?_, ?_, ?_, ?_, ?_, ?_, ?_, ?_, ?_, ?_⟩ <;> (first | rfl | (unfold ebb; (try dsimp only); (repeat' split) <;> (first | rfl | simp)))

/-- `egRun` changes `out`, `pt`, `exitHeld` and leaves every other part of the state alone. -/
@[simp] theorem egRun_frame (p b : Nat) (s : State) :
    (egRun p b s).tick = s.tick ∧ (egRun p b s).freeCtr = s.freeCtr ∧ (egRun p b s).rc = s.rc ∧ (egRun p b s).nq = s.nq ∧ (egRun p b s).tr = s.tr ∧
    (egRun p b s).mb = s.mb ∧ (egRun p b s).prov = s.prov ∧ (egRun p b s).fn = s.fn ∧ (egRun p b s).lc = s.lc ∧ (egRun p b s).hc = s.hc ∧
    (egRun p b s).tm = s.tm ∧ (egRun p b s).pin = s.pin ∧ (egRun p b s).wk = s.wk ∧ (egRun p b s).hl = s.hl ∧ (egRun p b s).tk = s.tk ∧
    (egRun p b s).en = s.en ∧ (egRun p b s).lim = s.lim ∧ (egRun p b s).ac = s.ac ∧ (egRun p b s).ks = s.ks ∧ (egRun p b s).pk = s.pk ∧
    (egRun p b s).ln = s.ln ∧ (egRun p b s).ad = s.ad ∧ (egRun p b s).dg = s.dg ∧ (egRun p b s).rn = s.rn ∧ (egRun p b s).gp = s.gp ∧
    (egRun p b s).pending = s.pending := by
  refine ⟨?_, ?_, ?_, ?_, ?_, ?_, ?_, ?_, ?_, ?_, ?_, ?_, ?_, ?_, ?_, ?_, ?_, ?_, ?_, ?_, ?_, ?_, ?_, ?_, ?_, ?_⟩ <;> (unfold egRun; split <;> simp)

/-- `egLook` changes `out`, `freeCtr`, `pt`, `exitHeld` and leaves every other part of the state alone. -/
@[simp] theorem egLook_frame (p : Nat) (s : State) :
    (egLook p s).tick = s.tick ∧ (egLook p s).rc = s.rc ∧ (egLook p s).nq = s.nq ∧ (egLook p s).tr = s.tr ∧ (egLook p s).mb = s.mb ∧
    (egLook p s).prov = s.prov ∧ (egLook p s).fn = s.fn ∧ (egLook p s).lc = s.lc ∧ (egLook p s).hc = s.hc ∧ (egLook p s).tm = s.tm ∧
    (egLook p s).pin = s.pin ∧ (egLook p s).wk = s.wk ∧ (egLook p s).hl = s.hl ∧ (egLook p s).tk = s.tk ∧ (egLook p s).en = s.en ∧
    (egLook p s).lim = s.lim ∧ (egLook p s).ac = s.ac ∧ (egLook p s).ks = s.ks ∧ (egLook p s).pk = s.pk ∧ (egLook p s).ln = s.ln ∧
    (egLook p s).ad = s.ad ∧ (egLook p s).dg = s.dg ∧ (egLook p s).rn = s.rn ∧ (egLook p s).gp = s.gp ∧ (egLook p s).pending = s.pending := by
  refine ⟨?_, ?_, ?_, ?_, ?_, ?_, ?_, ?_, ?_, ?_, ?_, ?_, ?_, ?_, ?_, ?_, ?_, ?_, ?_, ?_, ?_, ?_, ?_, ?_, ?_⟩ <;> (first | rfl | (unfold egLook; (try dsimp only); (repeat' split) <;> (first | rfl | simp)))

/-- `laneOrder` changes `freeCtr` and leaves every other part of the state alone. -/
@[simp] theorem laneOrder_frame (p d : Nat) (s : State) :
    (laneOrder p d s).2.tick = s.tick ∧ (laneOrder p d s).2.out = s.out ∧ (laneOrder p d s).2.rc = s.rc ∧ (laneOrder p d s).2.nq = s.nq ∧
    (laneOrder p d s).2.tr = s.tr ∧ (laneOrder p d s).2.mb = s.mb ∧ (laneOrder p d s).2.prov = s.prov ∧ (laneOrder p d s).2.fn = s.fn ∧
    (laneOrder p d s).2.lc = s.lc ∧ (laneOrder p d s).2.hc = s.hc ∧ (laneOrder p d s).2.tm = s.tm ∧ (laneOrder p d s).2.pin = s.pin ∧
    (laneOrder p d s).2.wk = s.wk ∧ (laneOrder p d s).2.hl = s.hl ∧ (laneOrder p d s).2.tk = s.tk ∧ (laneOrder p d s).2.en = s.en ∧
    (laneOrder p d s).2.lim = s.lim ∧ (laneOrder p d s).2.ac = s.ac ∧ (laneOrder p d s).2.ks = s.ks ∧ (laneOrder p d s).2.pk = s.pk ∧
    (laneOrder p d s).2.ln = s.ln ∧ (laneOrder p d s).2.pt = s.pt ∧ (laneOrder p d s).2.ad = s.ad ∧ (laneOrder p d s).2.dg = s.dg ∧
    (laneOrder p d s).2.rn = s.rn ∧ (laneOrder p d s).2.gp = s.gp ∧ (laneOrder p d s).2.exitHeld = s.exitHeld ∧
    (laneOrder p d s).2.pending = s.pending := by
  refine ⟨?_, ?_, ?_, ?_, ?_, ?_, ?_, ?_, ?_, ?_, ?_, ?_, ?_, ?_, ?_, ?_, ?_, ?_, ?_, ?_, ?_, ?_, ?_, ?_, ?_, ?_, ?_, ?_⟩ <;> (first | rfl | (unfold laneOrder; (try dsimp only); (repeat' split) <;> (first | rfl | simp)))

/-- `addOcc` changes `ln` and leaves every other part of the state alone. -/
@[simp] theorem addOcc_frame (n c : Nat) (s : State) :
    (addOcc n c s).tick = s.tick ∧ (addOcc n c s).out = s.out ∧ (addOcc n c s).freeCtr = s.freeCtr ∧ (addOcc n c s).rc = s.rc ∧
    (addOcc n c s).nq = s.nq ∧ (addOcc n c s).tr = s.tr ∧ (addOcc n c s).mb = s.mb ∧ (addOcc n c s).prov = s.prov ∧ (addOcc n c s).fn = s.fn ∧
    (addOcc n c s).lc = s.lc ∧ (addOcc n c s).hc = s.hc ∧ (addOcc n c s).tm = s.tm ∧ (addOcc n c s).pin = s.pin ∧ (addOcc n c s).wk = s.wk ∧
    (addOcc n c s).hl = s.hl ∧ (addOcc n c s).tk = s.tk ∧ (addOcc n c s).en = s.en ∧ (addOcc n c s).lim = s.lim ∧ (addOcc n c s).ac = s.ac ∧
    (addOcc n c s).ks = s.ks ∧ (addOcc n c s).pk = s.pk ∧ (addOcc n c s).pt = s.pt ∧ (addOcc n c s).ad = s.ad ∧ (addOcc n c s).dg = s.dg ∧
    (addOcc n c s).rn = s.rn ∧ (addOcc n c s).gp = s.gp ∧ (addOcc n c s).exitHeld = s.exitHeld ∧ (addOcc n c s).pending = s.pending := by
  refine ⟨?_, ?_, ?_, ?_, ?_, ?_, ?_, ?_, ?_, ?_, ?_, ?_, ?_, ?_, ?_, ?_, ?_, ?_, ?_, ?_, ?_, ?_, ?_, ?_, ?_, ?_, ?_, ?_⟩ <;> (first | rfl | (unfold addOcc; (try dsimp only); (repeat' split) <;> (first | rfl | simp)))

/-- `egressLane` changes `freeCtr`, `ln` and leaves every other part of the state alone. -/
@[simp] theorem egressLane_frame (p c : Nat) (s : State) :
    (egressLane p c s).2.tick = s.tick ∧ (egressLane p c s).2.out = s.out ∧ (egressLane p c s).2.rc = s.rc ∧ (egressLane p c s).2.nq = s.nq ∧
    (egressLane p c s).2.tr = s.tr ∧ (egressLane p c s).2.mb = s.mb ∧ (egressLane p c s).2.prov = s.prov ∧ (egressLane p c s).2.fn = s.fn ∧
    (egressLane p c s).2.lc = s.lc ∧ (egressLane p c s).2.hc = s.hc ∧ (egressLane p c s).2.tm = s.tm ∧ (egressLane p c s).2.pin = s.pin ∧
    (egressLane p c s).2.wk = s.wk ∧ (egressLane p c s).2.hl = s.hl ∧ (egressLane p c s).2.tk = s.tk ∧ (egressLane p c s).2.en = s.en ∧
    (egressLane p c s).2.lim = s.lim ∧ (egressLane p c s).2.ac = s.ac ∧ (egressLane p c s).2.ks = s.ks ∧ (egressLane p c s).2.pk = s.pk ∧
    (egressLane p c s).2.pt = s.pt ∧ (egressLane p c s).2.ad = s.ad ∧ (egressLane p c s).2.dg = s.dg ∧ (egressLane p c s).2.rn = s.rn ∧
    (egressLane p c s).2.gp = s.gp ∧ (egressLane p c s).2.exitHeld = s.exitHeld ∧ (egressLane p c s).2.pending = s.pending := by
  refine ⟨?_, ?_, ?_, ?_, ?_, ?_, ?_, ?_, ?_, ?_, ?_, ?_, ?_, ?_, ?_, ?_, ?_, ?_, ?_, ?_, ?_, ?_, ?_, ?_, ?_, ?_, ?_⟩ <;> (first | rfl | (unfold egressLane; (try dsimp only); (repeat' split) <;> (first | rfl | simp)))

/-- `laneFrame` changes `ln` and leaves every other part of the state alone. -/
@[simp] theorem laneFrame_frame (n inB outB : Nat) (s : State) :
    (laneFrame n inB outB s).tick = s.tick ∧ (laneFrame n inB outB s).out = s.out ∧ (laneFrame n inB outB s).freeCtr = s.freeCtr ∧
    (laneFrame n inB outB s).rc = s.rc ∧ (laneFrame n inB outB s).nq = s.nq ∧ (laneFrame n inB outB s).tr = s.tr ∧ (laneFrame n inB outB s).mb = s.mb ∧
    (laneFrame n inB outB s).prov = s.prov ∧ (laneFrame n inB outB s).fn = s.fn ∧ (laneFrame n inB outB s).lc = s.lc ∧
    (laneFrame n inB outB s).hc = s.hc ∧ (laneFrame n inB outB s).tm = s.tm ∧ (laneFrame n inB outB s).pin = s.pin ∧
    (laneFrame n inB outB s).wk = s.wk ∧ (laneFrame n inB outB s).hl = s.hl ∧ (laneFrame n inB outB s).tk = s.tk ∧ (laneFrame n inB outB s).en = s.en ∧
    (laneFrame n inB outB s).lim = s.lim ∧ (laneFrame n inB outB s).ac = s.ac ∧ (laneFrame n inB outB s).ks = s.ks ∧
    (laneFrame n inB outB s).pk = s.pk ∧ (laneFrame n inB outB s).pt = s.pt ∧ (laneFrame n inB outB s).ad = s.ad ∧ (laneFrame n inB outB s).dg = s.dg ∧
    (laneFrame n inB outB s).rn = s.rn ∧ (laneFrame n inB outB s).gp = s.gp ∧ (laneFrame n inB outB s).exitHeld = s.exitHeld ∧
    (laneFrame n inB outB s).pending = s.pending := by
  refine ⟨?_, ?_, ?_, ?_, ?_, ?_, ?_, ?_, ?_, ?_, ?_, ?_, ?_, ?_, ?_, ?_, ?_, ?_, ?_, ?_, ?_, ?_, ?_, ?_, ?_, ?_, ?_, ?_⟩ <;> (first | rfl | (unfold laneFrame; (try dsimp only); (repeat' split) <;> (first | rfl | simp)))

/-- `portOut` changes `out`, `freeCtr`, `pt`, `exitHeld` and leaves every other part of the state alone. -/
@[simp] theorem portOut_frame (p sub bytes : Nat) (o : Output) (m : Option OutMsg) (s : State) :
    (portOut p sub bytes o m s).tick = s.tick ∧ (portOut p sub bytes o m s).rc = s.rc ∧ (portOut p sub bytes o m s).nq = s.nq ∧
    (portOut p sub bytes o m s).tr = s.tr ∧ (portOut p sub bytes o m s).mb = s.mb ∧ (portOut p sub bytes o m s).prov = s.prov ∧
    (portOut p sub bytes o m s).fn = s.fn ∧ (portOut p sub bytes o m s).lc = s.lc ∧ (portOut p sub bytes o m s).hc = s.hc ∧
    (portOut p sub bytes o m s).tm = s.tm ∧ (portOut p sub bytes o m s).pin = s.pin ∧ (portOut p sub bytes o m s).wk = s.wk ∧
    (portOut p sub bytes o m s).hl = s.hl ∧ (portOut p sub bytes o m s).tk = s.tk ∧ (portOut p sub bytes o m s).en = s.en ∧
    (portOut p sub bytes o m s).lim = s.lim ∧ (portOut p sub bytes o m s).ac = s.ac ∧ (portOut p sub bytes o m s).ks = s.ks ∧
    (portOut p sub bytes o m s).pk = s.pk ∧ (portOut p sub bytes o m s).ln = s.ln ∧ (portOut p sub bytes o m s).ad = s.ad ∧
    (portOut p sub bytes o m s).dg = s.dg ∧ (portOut p sub bytes o m s).rn = s.rn ∧ (portOut p sub bytes o m s).gp = s.gp ∧
    (portOut p sub bytes o m s).pending = s.pending := by
  refine ⟨?_, ?_, ?_, ?_, ?_, ?_, ?_, ?_, ?_, ?_, ?_, ?_, ?_, ?_, ?_, ?_, ?_, ?_, ?_, ?_, ?_, ?_, ?_, ?_, ?_⟩ <;> (first | rfl | (unfold portOut; (try dsimp only); (repeat' split) <;> (first | rfl | simp)))

/-- `macsecOut` changes `out`, `freeCtr`, `rc`, `nq`, `hl`, `ln`, `pt`, `exitHeld` and leaves every other part of the state alone. -/
@[simp] theorem macsecOut_frame (b k : Nat) (clear : List Byte) (s : State) :
    (macsecOut b k clear s).2.tick = s.tick ∧ (macsecOut b k clear s).2.tr = s.tr ∧ (macsecOut b k clear s).2.mb = s.mb ∧
    (macsecOut b k clear s).2.prov = s.prov ∧ (macsecOut b k clear s).2.fn = s.fn ∧ (macsecOut b k clear s).2.lc = s.lc ∧
    (macsecOut b k clear s).2.hc = s.hc ∧ (macsecOut b k clear s).2.tm = s.tm ∧ (macsecOut b k clear s).2.pin = s.pin ∧
    (macsecOut b k clear s).2.wk = s.wk ∧ (macsecOut b k clear s).2.tk = s.tk ∧ (macsecOut b k clear s).2.en = s.en ∧
    (macsecOut b k clear s).2.lim = s.lim ∧ (macsecOut b k clear s).2.ac = s.ac ∧ (macsecOut b k clear s).2.ks = s.ks ∧
    (macsecOut b k clear s).2.pk = s.pk ∧ (macsecOut b k clear s).2.ad = s.ad ∧ (macsecOut b k clear s).2.dg = s.dg ∧
    (macsecOut b k clear s).2.rn = s.rn ∧ (macsecOut b k clear s).2.gp = s.gp ∧ (macsecOut b k clear s).2.pending = s.pending := by
  unfold macsecOut
  dsimp only
  (repeat' split) <;> simp

/-- `gpFrame` changes `out`, `freeCtr`, `rc`, `nq`, `hl`, `ln`, `pt`, `gp`, `exitHeld` and leaves every other part of the state alone. -/
@[simp] theorem gpFrame_frame (m type : Nat) (payload : List Byte) (s : State) :
    (gpFrame m type payload s).tick = s.tick ∧ (gpFrame m type payload s).tr = s.tr ∧ (gpFrame m type payload s).mb = s.mb ∧
    (gpFrame m type payload s).prov = s.prov ∧ (gpFrame m type payload s).fn = s.fn ∧ (gpFrame m type payload s).lc = s.lc ∧
    (gpFrame m type payload s).hc = s.hc ∧ (gpFrame m type payload s).tm = s.tm ∧ (gpFrame m type payload s).pin = s.pin ∧
    (gpFrame m type payload s).wk = s.wk ∧ (gpFrame m type payload s).tk = s.tk ∧ (gpFrame m type payload s).en = s.en ∧
    (gpFrame m type payload s).lim = s.lim ∧ (gpFrame m type payload s).ac = s.ac ∧ (gpFrame m type payload s).ks = s.ks ∧
    (gpFrame m type payload s).pk = s.pk ∧ (gpFrame m type payload s).ad = s.ad ∧ (gpFrame m type payload s).dg = s.dg ∧
    (gpFrame m type payload s).rn = s.rn ∧ (gpFrame m type payload s).pending = s.pending := by
  refine ⟨?_, ?_, ?_, ?_, ?_, ?_, ?_, ?_, ?_, ?_, ?_, ?_, ?_, ?_, ?_, ?_, ?_, ?_, ?_, ?_⟩ <;> (first | rfl | (unfold gpFrame; (try dsimp only); (repeat' split) <;> (first | rfl | simp)))

/-- `gpSend` changes `out`, `freeCtr`, `rc`, `nq`, `hl`, `ln`, `pt`, `gp`, `exitHeld` and leaves every other part of the state alone. -/
@[simp] theorem gpSend_frame (m type : Nat) (payload : List Byte) (s : State) :
    (gpSend m type payload s).tick = s.tick ∧ (gpSend m type payload s).tr = s.tr ∧ (gpSend m type payload s).mb = s.mb ∧
    (gpSend m type payload s).prov = s.prov ∧ (gpSend m type payload s).fn = s.fn ∧ (gpSend m type payload s).lc = s.lc ∧
    (gpSend m type payload s).hc = s.hc ∧ (gpSend m type payload s).tm = s.tm ∧ (gpSend m type payload s).pin = s.pin ∧
    (gpSend m type payload s).wk = s.wk ∧ (gpSend m type payload s).tk = s.tk ∧ (gpSend m type payload s).en = s.en ∧
    (gpSend m type payload s).lim = s.lim ∧ (gpSend m type payload s).ac = s.ac ∧ (gpSend m type payload s).ks = s.ks ∧
    (gpSend m type payload s).pk = s.pk ∧ (gpSend m type payload s).ad = s.ad ∧ (gpSend m type payload s).dg = s.dg ∧
    (gpSend m type payload s).rn = s.rn ∧ (gpSend m type payload s).pending = s.pending :=
  ⟨foldl_frame (·.tick) (fun s c => by simp) _ _,
   foldl_frame (·.tr) (fun s c => by simp) _ _,
   foldl_frame (·.mb) (fun s c => by simp) _ _,
   foldl_frame (·.prov) (fun s c => by simp) _ _,
   foldl_frame (·.fn) (fun s c => by simp) _ _,
   foldl_frame (·.lc) (fun s c => by simp) _ _,
   foldl_frame (·.hc) (fun s c => by simp) _ _,
   foldl_frame (·.tm) (fun s c => by simp) _ _,
   foldl_frame (·.pin) (fun s c => by simp) _ _,
   foldl_frame (·.wk) (fun s c => by simp) _ _,
   foldl_frame (·.tk) (fun s c => by simp) _ _,
   foldl_frame (·.en) (fun s c => by simp) _ _,
   foldl_frame (·.lim) (fun s c => by simp) _ _,
   foldl_frame (·.ac) (fun s c => by simp) _ _,
   foldl_frame (·.ks) (fun s c => by simp) _ _,
   foldl_frame (·.pk) (fun s c => by simp) _ _,
   foldl_frame (·.ad) (fun s c => by simp) _ _,
   foldl_frame (·.dg) (fun s c => by simp) _ _,
   foldl_frame (·.rn) (fun s c => by simp) _ _,
   foldl_frame (·.pending) (fun s c => by simp) _ _⟩

/-- `respondRelayed` changes `out`, `freeCtr`, `rc`, `nq`, `mb`, `hl`, `ln`, `pt`, `gp`, `exitHeld` and leaves every other part of the state alone. -/
@[simp] theorem respondRelayed_frame (f : Frame) (status detail tick : Nat) (payload : List Byte) (s : State) :
    (respondRelayed f status detail tick payload s).tick = s.tick ∧ (respondRelayed f status detail tick payload s).tr = s.tr ∧
    (respondRelayed f status detail tick payload s).prov = s.prov ∧ (respondRelayed f status detail tick payload s).fn = s.fn ∧
    (respondRelayed f status detail tick payload s).lc = s.lc ∧ (respondRelayed f status detail tick payload s).hc = s.hc ∧
    (respondRelayed f status detail tick payload s).tm = s.tm ∧ (respondRelayed f status detail tick payload s).pin = s.pin ∧
    (respondRelayed f status detail tick payload s).wk = s.wk ∧ (respondRelayed f status detail tick payload s).tk = s.tk ∧
    (respondRelayed f status detail tick payload s).en = s.en ∧ (respondRelayed f status detail tick payload s).lim = s.lim ∧
    (respondRelayed f status detail tick payload s).ac = s.ac ∧ (respondRelayed f status detail tick payload s).ks = s.ks ∧
    (respondRelayed f status detail tick payload s).pk = s.pk ∧ (respondRelayed f status detail tick payload s).ad = s.ad ∧
    (respondRelayed f status detail tick payload s).dg = s.dg ∧ (respondRelayed f status detail tick payload s).rn = s.rn ∧
    (respondRelayed f status detail tick payload s).pending = s.pending := by
  refine ⟨?_, ?_, ?_, ?_, ?_, ?_, ?_, ?_, ?_, ?_, ?_, ?_, ?_, ?_, ?_, ?_, ?_, ?_, ?_⟩ <;> (first | rfl | (unfold respondRelayed; (try dsimp only); (repeat' split) <;> (first | rfl | simp)))

/-- `respond` changes `out`, `freeCtr`, `rc`, `nq`, `mb`, `fn`, `hl`, `ln`, `pt`, `gp`, `exitHeld` and leaves every other part of the state alone. -/
@[simp] theorem respond_frame (status detail tick : Nat) (payload : List Byte) (s : State) :
    (respond status detail tick payload s).tick = s.tick ∧ (respond status detail tick payload s).tr = s.tr ∧
    (respond status detail tick payload s).prov = s.prov ∧ (respond status detail tick payload s).lc = s.lc ∧
    (respond status detail tick payload s).hc = s.hc ∧ (respond status detail tick payload s).tm = s.tm ∧
    (respond status detail tick payload s).pin = s.pin ∧ (respond status detail tick payload s).wk = s.wk ∧
    (respond status detail tick payload s).tk = s.tk ∧ (respond status detail tick payload s).en = s.en ∧
    (respond status detail tick payload s).lim = s.lim ∧ (respond status detail tick payload s).ac = s.ac ∧
    (respond status detail tick payload s).ks = s.ks ∧ (respond status detail tick payload s).pk = s.pk ∧
    (respond status detail tick payload s).ad = s.ad ∧ (respond status detail tick payload s).dg = s.dg ∧
    (respond status detail tick payload s).rn = s.rn ∧ (respond status detail tick payload s).pending = s.pending := by
  refine ⟨?_, ?_, ?_, ?_, ?_, ?_, ?_, ?_, ?_, ?_, ?_, ?_, ?_, ?_, ?_, ?_, ?_, ?_⟩ <;> (first | rfl | (unfold respond; (try dsimp only); (repeat' split) <;> (first | rfl | simp)))

/-! ### Two changes of one unit -/

/-- The second of two changes of one unit sees what the first left, where that is listed. -/
theorem modEng_modEng (i : Nat) (f g) (s : State) (h : f (engine s i) ≠ {}) : modEng i g (modEng i f s) = modEng i (fun x => g (f x)) s := by
  simp only [modEng, engine] at h ⊢
  rw [tget_set_same_of_ne h, tset_set_of_ne h]

/-- The second of two changes of one unit sees what the first left, where that is listed. -/
theorem modCluster_modCluster (i : Nat) (f g) (s : State) (h : f (cluster s i) ≠ {}) : modCluster i g (modCluster i f s) = modCluster i (fun x => g (f x)) s := by
  simp only [modCluster, cluster] at h ⊢
  rw [tget_set_same_of_ne h, tset_set_of_ne h]

/-- The second of two changes of one unit sees what the first left, where that is listed. -/
theorem modQp_modQp (i : Nat) (f g) (s : State) (h : f (qp s i) ≠ {}) : modQp i g (modQp i f s) = modQp i (fun x => g (f x)) s := by
  simp only [modQp, qp] at h ⊢
  rw [tget_set_same_of_ne h, tset_set_of_ne h]

/-- The second of two changes of one unit sees what the first left, where that is listed. -/
theorem modSlice_modSlice (i : Nat) (f g) (s : State) (h : f (slice s i) ≠ {}) : modSlice i g (modSlice i f s) = modSlice i (fun x => g (f x)) s := by
  simp only [modSlice, slice] at h ⊢
  rw [tget_set_same_of_ne h, tset_set_of_ne h]

/-- The second of two changes of one unit sees what the first left, where that is listed. -/
theorem modDg_modDg (i : Nat) (f g) (s : State) (h : f (dgUnit s i) ≠ {}) : modDg i g (modDg i f s) = modDg i (fun x => g (f x)) s := by
  simp only [modDg, dgUnit] at h ⊢
  rw [tget_set_same_of_ne h, tset_set_of_ne h]

/-- The second of two changes of one unit sees what the first left, where that is listed. -/
theorem modNoise_modNoise (i : Nat) (f g) (s : State) (h : f (noise s i) ≠ {}) : modNoise i g (modNoise i f s) = modNoise i (fun x => g (f x)) s := by
  simp only [modNoise, noise] at h ⊢
  rw [tget_set_same_of_ne h, tset_set_of_ne h]

/-- The second of two changes of one unit sees what the first left, where that is listed. -/
theorem modLane_modLane (i : Nat) (f g) (s : State) (h : f (lane s i) ≠ laneInit i) : modLane i g (modLane i f s) = modLane i (fun x => g (f x)) s := by
  simp only [modLane, lane] at h ⊢
  rw [tget_set_same_of_ne h, tset_set_of_ne h]

/-- The second of two changes of one unit sees what the first left, where that is listed. -/
theorem modMember_modMember (i : Nat) (f g) (s : State) (h : f (member s i) ≠ {}) : modMember i g (modMember i f s) = modMember i (fun x => g (f x)) s := by
  simp only [modMember, member] at h ⊢
  rw [tget_set_same_of_ne h, tset_set_of_ne h]

/-- The second of two changes of one unit sees what the first left, where that is listed. -/
theorem modPk_modPk (i : Nat) (f g) (s : State) (h : f (pkUnit s i) ≠ {}) : modPk i g (modPk i f s) = modPk i (fun x => g (f x)) s := by
  simp only [modPk, pkUnit] at h ⊢
  rw [tget_set_same_of_ne h, tset_set_of_ne h]

/-- The second of two changes of one unit sees what the first left, where that is listed. -/
theorem modPort_modPort (i : Nat) (f g) (s : State) (h : f (port s i) ≠ {}) : modPort i g (modPort i f s) = modPort i (fun x => g (f x)) s := by
  simp only [modPort, port] at h ⊢
  rw [tget_set_same_of_ne h, tset_set_of_ne h]

/-- The second of two changes of one unit sees what the first left, where that is listed. -/
theorem modDrbg_modDrbg (i : Nat) (f g) (s : State) (h : f (drbg s i) ≠ {}) : modDrbg i g (modDrbg i f s) = modDrbg i (fun x => g (f x)) s := by
  simp only [modDrbg, drbg] at h ⊢
  rw [tget_set_same_of_ne h, tset_set_of_ne h]

/-- The second of two changes of one unit sees what the first left, where that is listed. -/
theorem modAcct_modAcct (i : Nat) (f g) (s : State) (h : f (acct s i) ≠ {}) : modAcct i g (modAcct i f s) = modAcct i (fun x => g (f x)) s := by
  simp only [modAcct, acct] at h ⊢
  rw [tget_set_same_of_ne h, tset_set_of_ne h]

/-- Two changes of one request. -/
theorem modWork_modWork (i : Nat) (f g) (s : State) : modWork i g (modWork i f s) = modWork i (fun x => g (f x)) s := by
  unfold modWork work
  cases h : tblGet s.wk.works i with
  | none => simp [h]
  | some w => simp [tblPut_put]

end Sys2Proof.Machine
end

