-- ==== Sys2Proof/Tests/Slice0.lean ====
section
/-!
SUPPORT. The model's own tests: well-formed and ill-formed commands, single steps whose results the spec gives, and for each
statement with hypotheses a state and operands that meet them.
-/
namespace Sys2Proof.Tests
open Sys2Proof Sys2Proof.Machine

/-! ### Small states -/

/-- A life-cycle record in a state. -/
def tRec (c : Lc) : LcRec := { slotAVer := 1, state := c }

/-- A module under power, started, in a life-cycle state, pair HC-A in control. -/
def tIn (c : Lc) : State :=
  { State.reset with
    tick := 4096, lc := { copyA := tRec c, copyB := tRec c, ready := true, stage := 9, frk := [1], shownLc := c.code }
    hc := { a := .active, b := .standby, active := some 0 }, pin := { mainPower := true }
    hl := { link0 := { up := true, bme := true, width := 16, speed := 6 }, link1 := { up := true, bme := true, width := 16, speed := 6 } } }

/-- OPERATIONAL. -/
def tOp : State := tIn .operational

/-- A command taken up, with its payload. -/
def tHeld (code : Nat) (p : List Byte) : Held :=
  { frame := { code, ext := false, out := false, tag := 7, nonceId := 0, payload := p, payLen := p.length, nsig := 0, bodyLen := 0
               sigs := [], extAddr := 0, outAddr := 0, outLen := 0 }
    stage := .ready, cls := 0, since := 0, nonce := none, signers := 0 }

/-- A state that holds such a command. -/
def tWith (code : Nat) (p : List Byte) (s : State) : State := { s with mb := { s.mb with held := some (tHeld code p), busy := true } }

/-- The same in OPERATIONAL. -/
def tCmd (code : Nat) (p : List Byte) : State := tWith code p tOp

/-! ### EmptyQueueIdles -/

/-- Reset has an empty queue. -/
theorem witness_emptyQueueIdles : State.reset.pending = [] := rfl

/-! ### CommandsLeaveQueue -/

/-- A command that answers a next state. -/
theorem witness_commandsLeaveQueue : ∃ t, exec .tkCountLowRead tOp = .next t := ⟨_, rfl⟩

/-! ### TickRisesOnlyWithTime -/

/-- A crystal period and another command answer a next state. -/
theorem witness_tickRisesOnlyWithTime :
    (∃ t, exec .monitorCrystalPeriod State.reset = .next t) ∧ (∃ t, exec .nqPop State.reset = .next t) := ⟨⟨_, rfl⟩, ⟨_, rfl⟩⟩

/-! ### QueuesAndCodesStayInBounds -/

/-- A state in bounds with a command in front. -/
theorem witness_queuesAndCodesStayInBounds : InBounds { State.reset with pending := [.nqPop] } ∧
    ∃ t, step { State.reset with pending := [.nqPop] } = .next t :=
  ⟨⟨by decide, by decide, by decide, by decide⟩, ⟨_, rfl⟩⟩

/-! ### StoresStayCanonical -/

/-- A canonical state with a write of the mailbox buffer in front. -/
theorem witness_storesStayCanonical : StoresCanonical { State.reset with pending := [.registerWrite none 0x1000 8 1] } ∧
    ∃ t, step { State.reset with pending := [.registerWrite none 0x1000 8 1] } = .next t :=
  ⟨⟨by decide, by decide, by decide, by decide, by decide⟩, ⟨_, rfl⟩⟩

/-! ### ResponseAnswersHeldCommand -/

/-- A held command of the module's own mailbox, payloads on both sides of 3,968 octets, and the exits open and stopped. -/
theorem witness_responseAnswersHeldCommand :
    (tCmd 2 []).mb.held = some (tHeld 2 []) ∧ (tHeld 2 []).relay = false ∧ (List.replicate 3968 (0 : Byte)).length ≤ 3968 ∧
    3968 < (List.replicate 3969 (0 : Byte)).length ∧ (tCmd 2 []).hl.link0.up = true ∧ (tCmd 2 []).tm.exitStop = false ∧
    (tWith 2 [] { tOp with tm := { exitStop := true } }).mb.held = some (tHeld 2 []) :=
  ⟨rfl, rfl, Nat.le_of_eq List.length_replicate, by rw [List.length_replicate]; decide, rfl, rfl, rfl⟩

/-! ### CommandsTheStateForbids -/

/-- A binding of a slice in LOCKED is refused by the state; on a worker by the group. -/
theorem witness_commandsTheStateForbids :
    (tWith 0x0401 [] (tIn .locked)).mb.held = some (tHeld 0x0401 []) ∧ noController (tWith 0x0401 [] (tIn .locked)) = false ∧
    refusedFirst 0x0401 [] (tWith 0x0401 [] (tIn .locked)) = some (St.locked, 0) ∧
    refusedFirst 0x0401 [] { tCmd 0x0401 [] with gp := { role := 2 } } = none ∧
    groupRefuses { tCmd 0x0401 [] with gp := { role := 2 } } false 0x0401 = some St.groupRole := by decide

/-! ### NoticeReadTakesFirstInOrder -/

/-- No notice waits; two wait; the link is up, and down at reset; the exits are stopped. -/
theorem witness_noticeReadTakesFirstInOrder : tOp.nq.queue = [] ∧ tOp.hl.link0.up = true ∧ tOp.tm.exitStop = false ∧
    ({ tOp with tm := { exitStop := true } } : State).tm.exitStop = true ∧ State.reset.hl.link0.up = false ∧
    ({ tOp with nq := { queue := [⟨3, 2, 1, 0, 5, 6⟩, ⟨1, 1, 1, 0, 4, 6⟩] } } : State).nq.queue =
      ⟨3, 2, 1, 0, 5, 6⟩ :: [⟨1, 1, 1, 0, 4, 6⟩] := ⟨rfl, rfl, rfl, rfl, rfl, rfl⟩

/-- A notice posted to an empty queue raises vector 1 of PF0 (R489). -/
theorem test_firstNoticeRaisesVector : (note 0x0201 1 0 5 6 State.reset).out = [.msix 0 none 1] := by decide

/-- A higher severity is delivered first (R488). -/
theorem test_noticeOrder :
    (insertNotice ⟨9, 3, 0x0C01, 0, 0, 0⟩ [⟨4, 1, 0x0201, 0, 0, 0⟩]).map (·.seq) = [9, 4] := by decide

/-! ### NoticeQueueFullKeepsHigher -/

/-- Room: an empty queue. -/
theorem witness_noticeQueueFullKeepsHigher :
    (State.reset.nq.queue.Pairwise (fun a b => a.before b = true)) ∧ State.reset.nq.queue.length ≤ 1024 ∧ State.reset.nq.queue.Nodup ∧
    (∀ m ∈ State.reset.nq.queue, m.seq < 7) ∧ (tget {} State.reset.hl.msix (msixKey 0 1)).masked = false := by decide

/-- A full queue: 1,024 notices of one severity in ascending SEQ, and a new one. -/
def tFull : List Notice := (List.range 1024).map (fun k => ⟨k, 1, 0x0201, 0, 0, 0⟩)

/-- A full queue is sorted, and its last notice lies below a severity of 2 but not of 1. -/
theorem witness_noticeQueueFull : tFull.length = 1024 ∧ tFull.Nodup ∧ tFull.Pairwise (fun a b => a.before b = true) ∧
    (∀ m ∈ tFull, m.seq < 1024) ∧ tFull.getLast? = some ⟨1023, 1, 0x0201, 0, 0, 0⟩ := by
  refine ⟨by simp [tFull], ?_, ?_, by simp [tFull], by simp [tFull, List.getLast?_range]⟩
  · simp only [tFull, List.Nodup, List.pairwise_map]
    exact List.pairwise_lt_range.imp (fun h => by simp; omega)
  simp only [tFull, List.pairwise_map]
  exact List.pairwise_lt_range.imp (fun h => by simp [Notice.before]; omega)

/-! ### WatermarkWrites -/

/-- Watermarks armed and latched, at the ends of the range. -/
theorem witness_watermarkWrites : (15 < 16 ∧ tOp.hl.link0.up = true ∧ State.reset.nq.wms.length = 16 ∧ (wm State.reset 15).latched = false) ∧
    ({ State.reset with nq := { queue := [⟨1, 1, 1, 0, 0, 0⟩] } } : State).nq.queue ≠ [] ∧
    (wm { State.reset with nq := { wms := List.replicate 16 { latched := true } } } 0).latched = true := by decide

/-! ### RecordUnitWork -/

/-- A record as a report leaves it. -/
def tRecord : Rec := { seq := 5, tick := 1, event := 0x0201, sev := 1, lastTick := 1 }

/-- Each clause's premises, at their bounds. -/
theorem witness_recordUnitWork :
    ([tRecord].find? (fun x => decide (x.seq = 5)) = some tRecord ∧ tRecord.progTick = none ∧ State.reset.rc.clearing = none) ∧
    (tRecord.isOpen = true ∧ tRecord.lastTick + 2 ^ 20 ≤ 1 + 2 ^ 20 ∧ tRecord.event ≠ 0x0202) ∧
    (0 < 1 ∧ ([] : List Rec).length < 1024) ∧ State.reset.rc.live = true ∧ tOp.hl.link0.up = true ∧
    (bitOf (2 ^ 31 + 64) 31 = true ∧ 1 ≤ bits (2 ^ 31 + 64) 6 0 ∧ bits (2 ^ 31 + 64) 6 0 ≤ 64 ∧ 1 ≤ bits (2 ^ 31 + 1) 6 0) ∧
    64 < bits (2 ^ 31 + 65) 6 0 ∧ bitOf 64 31 = false := by decide

/-! ### RecordAreasAreCleared -/

/-- A clear asked for, and one that has begun. -/
theorem witness_recordAreasAreCleared :
    CmdTaken 0x0A01 (tHeld 0x0A01 [1]) (tCmd 0x0A01 [1]) ∧ (tCmd 0x0A01 [1]).rc.clearing = none ∧ (tCmd 0x0A01 [1]).hc.gap = false ∧
    (tCmd 0x0A01 [1]).lc.ready = true ∧ (tCmd 0x0A01 [1]).ks.loadOp = none :=
  ⟨⟨rfl, rfl, rfl, rfl, .inl rfl, rfl, rfl⟩, rfl, rfl, rfl, rfl⟩

/-! ### TraceRuns -/

/-- A trace that can be opened, at both ends of DUR_LOG2, and one that is open. -/
theorem witness_traceRuns :
    CmdTaken 0x0A02 (tHeld 0x0A02 [31, 16]) (tCmd 0x0A02 [31, 16]) ∧ lcState (tCmd 0x0A02 [31, 16]) = .operational ∧
    be [31, 16] 0 1 < 32 ∧ 16 ≤ be [31, 16] 1 1 ∧ be [31, 30] 1 1 ≤ 30 ∧ (tCmd 0x0A02 [31, 16]).tr.isOpen = false ∧
    CmdTaken 0x0A03 (tHeld 0x0A03 []) (tCmd 0x0A03 []) ∧
    ({ tOp with tr := { isOpen := true, endTick := 4096 } } : State).tr.endTick ≤ tOp.tick ∧ ({ tOp with tick := 2 ^ 16 } : State).tick % 2 ^ 16 = 0 :=
  ⟨⟨rfl, rfl, rfl, rfl, .inl rfl, rfl, rfl⟩, by decide, by decide, by decide, by decide, rfl, ⟨rfl, rfl, rfl, rfl, .inl rfl, rfl, rfl⟩,
   by decide, by decide⟩

/-! ### DoorbellWritesAreTakenOrDiscarded -/

/-- Queue pair 3 enabled on link 0 in slice 0, with rings of 16 and 32. -/
def tQp : State := { tOp with hl := { tOp.hl with
  qps := [(3, { en := true, state := 1, sqLog := 4, cqLog := 5, written := 40, head := 10 })], slices := [(0, { state := 2 })] } }

/-- TAIL 15 and 16, HEAD 31 and 32, fewer than 16 cancels and 16; the other link, a queue pair not enabled, a slice in reset. -/
theorem witness_doorbellWritesAreTakenOrDiscarded :
    ((qp tQp 3).link = 0 ∧ (qp tQp 3).state = 1 ∧ (slice tQp (qp tQp 3).slice).resetAt = none ∧ 15 % 2 ^ 16 < 2 ^ (qp tQp 3).sqLog ∧
      2 ^ (qp tQp 3).sqLog ≤ 16 % 2 ^ 16 ∧ ((qp tQp 3).badTails.filter (fun t => decide (tQp.tick < t + 2 ^ 19))).length < 7 ∧
      31 % 2 ^ 18 < 2 ^ (qp tQp 3).cqLog ∧ (31 % 2 ^ 18 + 2 ^ (qp tQp 3).cqLog - (qp tQp 3).head % 2 ^ (qp tQp 3).cqLog) % 2 ^ (qp tQp 3).cqLog ≤
        (qp tQp 3).written - (qp tQp 3).head ∧ 2 ^ (qp tQp 3).cqLog ≤ 32 % 2 ^ 18 ∧ (qp tQp 3).cancels.length < 16) ∧
    1 ≠ (qp tQp 3).link ∧ (0 = (qp tQp 4).link ∧ (qp tQp 4).state ≠ 1) ∧
    16 ≤ (List.replicate 16 (⟨1, 2, 3⟩ : Cancel)).length := by decide

/-- A TAIL write announces its entries (R85). -/
theorem test_tailAnnounces : (qp (modQp 3 (fun q => { q with tail := 15, announced := 15 }) tQp) 3).announced = 15 := by decide

/-! ### FetchedEntriesAreTakenUp -/

/-- A request of queue pair 3 whose input is being read. -/
def tReading : Work := { src := .queue 3 0, sub := { func := 0x0101 }, phase := .reading, reqNote := 2, note := 2, elig := 0, readTick := 4032, asked := true }

/-- Queue pair 3 with a fetch outstanding 64 ticks, and that request; a part of a batch to be staged. -/
def tReads : State := { tQp with
  hl := { tQp.hl with
    qps := [(3, { en := true, state := 1, sqLog := 4, cqLog := 5, fetch := some ⟨0, 2, 4032⟩, unsig := 1, cqWait := 5, unsigSince := 4091 })]
    timedOut := 1, slices := [(4, { flushing := true, flushAt := [(1, 4032)] })] }
  wk := { works := [(1, tReading), (2, { tReading with src := .queue 3 1, sub := { func := 0x0B01 } }),
                    (8, { tReading with src := .part 7 0, phase := .unstaged, asked := true })]
          batches := [(7, { parts := [{ func := 0x0101 }], works := [(0, 8)], atomic := false, band := 0 })] } }

/-- The premises of each clause. -/
theorem witness_fetchedEntriesAreTakenUp :
    ((qp tReads 3).fetch = some ⟨0, 2, 4032⟩ ∧ 4032 + 64 ≤ tReads.tick) ∧
    ((work tReads 1).map (fun w => (w.phase, w.src, decide (w.sub.func / 256 ≠ 0x0B), decide (w.readTick + 64 ≤ tReads.tick))) =
      some (.reading, .queue 3 0, true, true)) ∧
    ((work tReads 2).map (fun w => (w.phase, decide (w.sub.func / 256 = 0x0B))) = some (.reading, true)) ∧
    ((batch tReads 7).bind (fun b => tblGet b.works 0) = some 8 ∧ tReads.hl.orphans = [] ∧
      (work tReads 8).map (fun w => (w.asked, w.staged, w.src, decide (w.unit ≠ .hostLane), decide (w.readTick + 64 ≤ tReads.tick))) =
        some (true, false, .part 7 0, true, true)) ∧
    ((1, 4032) ∈ (slice tReads 4).flushAt ∧ 4032 + 64 ≤ tReads.tick) ∧
    (({ tReads with ks := { loadOp := some (9, 2) } } : State).ks.loadOp = some (9, 2) ∧ 0 + 64 ≤ tReads.tick) ∧
    0 < tReads.hl.timedOut ∧
    (0 < (qp tReads 3).unsig ∧ (qp tReads 3).cqWait ≠ 0 ∧ (qp tReads 3).unsigSince + (qp tReads 3).cqWait ≤ tReads.tick ∧
      (qp tReads 3).state ≠ 3) := by decide

/-! ### HostLinkEvents -/

/-- Main power, both links out of reset and not yet trained. -/
def tDown : State := { State.reset with pin := { mainPower := true }, hl := { link0 := { perst := false }, link1 := { perst := false } } }

/-- A link that trains at the least width and speed, one that is up, and a slice that is flushing. -/
theorem witness_hostLinkEvents :
    (tDown.pin.mainPower = true ∧ (hostLink tDown 1).up = false ∧
      (hostLink tDown 1).perst = false ∧ 1 ∈ [1, 2, 4, 8, 16]) ∧
    ((hostLink tOp 1).up = true ∧ (hostLink tOp 1).recov ≠ true) ∧
    ((slice { tOp with hl := { slices := [(4095, { flushing := true })] } } 4095).flushing = true ∧ tOp.hl.orphans = []) := by decide

/-- A link below x16 posts its notice (R75). -/
theorem test_narrowLinkNotice : (match exec (.hostLinkUp 0 8 6) tDown with
    | .next t => t.nq.queue.map (·.event) | _ => []) = [0x1501] := by decide

/-! ### SlicesAreBoundStartedAndReset -/

/-- A state with slice 4095 in a given state, holding a slice command on it. -/
def tSlice (code st : Nat) (p : List Byte) : State :=
  let s := tCmd code p
  { s with hl := { s.hl with slices := [(4095, { state := st })] } }

/-- The premises, with the owner-domain range at its end and the states that refuse. -/
theorem witness_slicesAreBoundStartedAndReset :
    (CmdTaken 0x0401 (tHeld 0x0401 [15, 255, 255, 255, 0, 1, 15, 254, 0, 0, 0, 0, 1]) (tSlice 0x0401 1 [15, 255, 255, 255, 0, 1, 15, 254, 0, 0, 0, 0, 1]) ∧
      (slice (tSlice 0x0401 1 []) 4095).state ≤ 1 ∧ sliceLayout [15, 255, 255, 255, 0, 1, 15, 254, 0, 0, 0, 0, 1] = none) ∧
    (CmdTaken 0x0402 (tHeld 0x0402 [15, 255]) (tSlice 0x0402 1 [15, 255]) ∧ (slice (tSlice 0x0402 1 []) (be [15, 255] 0 2)).state = 1) ∧
    (CmdTaken 0x0403 (tHeld 0x0403 [15, 255, 1]) (tSlice 0x0403 3 [15, 255, 1]) ∧ be [15, 255, 1] 2 1 = 1 ∧
      (slice (tSlice 0x0403 3 []) (be [15, 255, 1] 0 2)).state = 3) ∧
    (CmdTaken 0x0404 (tHeld 0x0404 [15, 255]) (tSlice 0x0404 2 [15, 255]) ∧ (slice (tSlice 0x0404 2 []) (be [15, 255] 0 2)).state ≠ 1) :=
  ⟨⟨⟨rfl, rfl, rfl, rfl, .inl rfl, rfl, rfl⟩, by decide, by decide⟩, ⟨⟨rfl, rfl, rfl, rfl, .inl rfl, rfl, rfl⟩, by decide⟩, ⟨⟨rfl, rfl, rfl, rfl, .inl rfl, rfl, rfl⟩, by decide, by decide⟩, ⟨⟨rfl, rfl, rfl, rfl, .inl rfl, rfl, rfl⟩, by decide⟩⟩

/-! ### QueuePairsAreConfigured -/

/-- QP_SET of queue pair 8191 to slice 4095: EN, rings of 16 and 32. -/
def tQpSet (fl sq : Nat) : List Byte :=
  [31, 255, 15, 255, BitVec.ofNat 8 sq, 5, BitVec.ofNat 8 fl, 0] ++ List.replicate 24 0

/-- EN 0, EN 1, and one reserved granule too many. -/
theorem witness_queuePairsAreConfigured :
    (CmdTaken 0x0405 (tHeld 0x0405 (tQpSet 1 4)) (tSlice 0x0405 1 (tQpSet 1 4)) ∧ 
      (qp (tSlice 0x0405 1 (tQpSet 1 4)) 8191).state = 0 ∧ (slice (tSlice 0x0405 1 (tQpSet 1 4)) (be (tQpSet 1 4) 2 2)).state = 1 ∧
      bitOf (be (tQpSet 1 4) 6 1) 0 = true ∧ topOver (tSlice 0x0405 1 (tQpSet 1 4)) 8191 (tQpSet 1 4) = false) ∧
    bitOf (be (tQpSet 0 4) 6 1) 0 = false ∧
    topOver { tOp with hl := { tOp.hl with qps := [(5, { en := true, top := true, topSlots := 2048 })] } } 8191 ((tQpSet 3 4).set 7 1) = true :=
  ⟨⟨⟨rfl, rfl, rfl, rfl, .inl rfl, rfl, rfl⟩, by decide, by decide, by decide, by decide⟩, by decide, by decide⟩

/-! ### AdmissionIsSetAtASwitchTick -/

/-- ADMIT_SET at tick 0 with HEART_LIMIT 64, TOP_HBM 16, LEND 1, AGE_WAIT 16,383 and PIN_LIMIT 65,536; ACCT_SET of one account. -/
def tAdmit : List Byte := List.replicate 8 0 ++ [0, 0, 0, 0, 64, 16, 1, 0, 0x3F, 0xFF, 0, 0, 0, 1, 0, 0]
def tAcct : List Byte := List.replicate 8 0 ++ [0, 1] ++ List.replicate 6 0 ++ [0x10, 0x1F] ++ List.replicate 22 0

/-- The premises at the ends of the ranges. -/
theorem witness_admissionIsSetAtASwitchTick :
    (CmdTaken 0x0301 (tHeld 0x0301 tAdmit) (tCmd 0x0301 tAdmit) ∧ budgetsFrom (tCmd 0x0301 tAdmit) (insertArmed (4097, admCfg tAdmit) []) [] 4097 = true ∧
      admitLayout tAdmit = none) ∧
    (CmdTaken 0x0302 (tHeld 0x0302 tAcct) (tCmd 0x0302 tAcct) ∧
      acctLayout tAcct = none ∧
      budgetsFrom (tCmd 0x0302 tAcct) [] (insertArmed (4097, acctEntries tAcct) []) 4097 = true) ∧
    ({ State.reset with tk := { cfgArmed := [(5, {})] } } : State).tk.cfgArmed = [(5, {})] :=
  ⟨⟨⟨rfl, rfl, rfl, rfl, .inl rfl, rfl, rfl⟩, by decide, by decide⟩, ⟨⟨rfl, rfl, rfl, rfl, .inl rfl, rfl, rfl⟩, by decide, by decide⟩, rfl⟩

/-! ### TimeIsSetAndRead -/

/-- 999,999,999 ns of second 0. -/
def tTime : List Byte := List.replicate 8 0 ++ [0x3B, 0x9A, 0xC9, 0xFF]

/-- Time set by the host, UTC in force at a multiple of 512, and a correction 2^19 ticks old. -/
theorem witness_timeIsSetAndRead :
    (CmdTaken 0x0303 (tHeld 0x0303 tTime) (tCmd 0x0303 tTime) ∧ be tTime 0 8 < 2 ^ 48 ∧ be tTime 8 4 ≤ 999999999 ∧
      ptpLocked (tCmd 0x0303 tTime) = false) ∧
    (({ tOp with tk := { refNs := some 5 } } : State).tick % 512 = 0 ∧ ({ tOp with tk := { refNs := some 5 } } : State).tk.refNs = some 5) ∧
    tOp.hl.link0.up = true ∧
    ({ State.reset with tick := 2 ^ 19, tk := { utcValid := true } } : State).tk.corrTick + 2 ^ 19 ≤ 2 ^ 19 :=
  ⟨⟨⟨rfl, rfl, rfl, rfl, .inl rfl, rfl, rfl⟩, by decide, by decide, by decide⟩, by decide, rfl, by decide⟩

/-- Bits 63 to 32 of the count are latched by the read of the low half (R74). -/
theorem test_countLatch : (match exec .tkCountLowRead { tOp with tick := 3 * 2 ^ 32 + 7 } with
    | .next t => (t.tk.countHi, t.out) | _ => (0, [])) = (3, [.readData 0x4000 7]) := by decide

/-! ### RegistersAreReadAndWritten -/

/-- A read of a register, one that no register answers, a busy and a free mailbox, both states of the link, and a page of the other link. -/
theorem witness_registersAreReadAndWritten :
    (regRead tOp 0x4000 8 = some 4096 ∧ regRead tOp 0xF000 4 = none ∧ sizeOk 0x4002 4 = false ∧ sizeOk 0x4000 2 = false) ∧
    (2 ^ 32 - 1 < 2 ^ 32 ∧ 0x1FBC % 4 = 0 ∧ 0x1000 ≤ 0x1FBC ∧ 0x1FBC + 4 ≤ 0x1000 + 4032) ∧
    tOp.hl.link0.up = true ∧ State.reset.hl.link0.up = false ∧
    tOp.mb.busy = false ∧ (tCmd 0x0303 []).mb.busy = true ∧ 1 ≠ (qp State.reset 8191).link := by decide

/-- A count reads once (R11). -/
theorem test_countClears : (match exec (.counterReadClear none 0xA038 4) { tOp with ac := { tOp.ac with heldCnt := 5 } } with
    | .next t => (t.out, t.ac.heldCnt) | _ => ([], 9)) = ([.readData 0xA038 5], 0) := by decide

/-- A write of half a word posts its notice (R13). -/
theorem test_halfWrite : (match exec (.registerWrite none 0x40C0 2 3) tOp with
    | .next t => (t.tk.acctSel, t.nq.queue.map (·.event)) | _ => (9, [])) = (0, [0x1503]) := by decide

/-! ### BoardManagementAnswersReads -/

/-- The last octet and word of the page, a code outside it, and no power. -/
theorem witness_boardManagementAnswersReads :
    tOp.pin.mainPower = true ∧ smbAddress tOp = smbAddress tOp ∧ 31 < 0x20 ∧ 30 < 0x1F ∧ 0x20 ≤ 0x7F ∧ 0x7F ≠ 0x80 ∧
    State.reset.pin.mainPower = false := by decide

/-- A write is not acknowledged (R573). -/
theorem test_smbusWrite : (match exec (.smbusDataWrite (smbAddress tOp) 3) tOp with | .next t => t.out | _ => []) = [.smbus none] := by decide

/-! ### PowerSamplesSetTheBand -/

/-- The ends of the ranges; no fault, the 255th and the 256th valid sample of one, and values just outside. -/
theorem witness_powerSamplesSetTheBand :
    ((-500 : Int) ≤ -500 ∧ (65000 : Int) ≤ 65000 ∧ (0 : Int) ≤ 0 ∧ (40000 : Int) ≤ 40000 ∧
      1 = (if tOp.tk.lastV = 65000 ∧ tOp.tk.lastI = 40000 then tOp.tk.sameRun + 1 else 1) ∧ 1 < 2 ^ 16) ∧
    tOp.tk.pwrFault = false ∧ ({ tOp with tk := { pwrFault := true, validRun := 254 } } : State).tk.validRun + 1 < 256 ∧
    256 ≤ ({ tOp with tk := { pwrFault := true, validRun := 255 } } : State).tk.validRun + 1 ∧ ((-501 : Int) < -500) ∧
    (tOp.pin.mainPower = true ∧ 1 ≤ tOp.lc.stage) := by decide

/-- 48 V and 10 A from band 0: 480 W, which a sample point makes band 1 (R64). -/
theorem test_band : (match exec (.powerSample 48000 10000) tOp with
    | .next t => (t.tk.powerW, t.tk.band, (loadBandPoint t).tk.band) | _ => (0, 9, 9)) = (480, 0, 1) := by decide

/-! ### EngineStepsEnd -/

/-- A step running on engines 2 and 5, and one being retried. -/
def tStep : Work := { src := .queue 3 0, sub := { func := 0x0101 }, phase := .running, e1 := 2, e2 := 5, onEng := true }

/-- A state that holds them, with an engine whose retest began two ticks ago. -/
def tSteps : State := { tOp with
  wk := { works := [(1, tStep), (2, { tStep with phase := .retrying, mc1 := true, mc2 := true, overruns := 1 })] }
  en := { tOp.en with engines := [(1023, { retest := some 4094 })] } }

/-- The premises of the clauses; a difference in the side-effect requests is always consumed (R129). -/
theorem witness_engineStepsEnd :
    (work tSteps 1 = some tStep ∧ stepping tStep = true ∧ tStep.phase ≠ .retrying) ∧
    (work tSteps 2).map (fun w => (stepping w, w.phase, decide (0 < w.overruns))) = some (true, .retrying, true) ∧
    workTwin tSteps tStep = true ∧ consumed tSteps tStep (2 ^ 32) = true ∧
    fetchOpen tSteps tStep = false ∧ fenceBlocks tSteps 4096 ⟨40, 0, 8, 0, none⟩ 2 = some ⟨0, 0, 0, 0⟩ ∧
    ((engine tSteps 1023).retest = some 4094 ∧ 4094 + 2 ≤ tSteps.tick ∧ (cluster tSteps (1023 / 16)).state ≠ 5) := by decide

/-- A step of a function whose class is not run twin (R128). -/
theorem witness_singleStep : workTwin tSteps { tStep with sub := { func := 0x0806 } } = false := by decide

/-! ### ClustersAreDrainedLoadedAndGated -/

/-- Cluster 63 in a state, with a command that names it. -/
def tCluster (code st : Nat) (lo : Bool) : State :=
  let s := tCmd code (63 :: List.replicate 15 0)
  { s with en := { s.en with clusters := [(63, { state := st, loadOk := lo })], gating := true, wakeAsk := true } }

/-- The premises; a state that refuses each. -/
theorem witness_clustersAreDrainedLoadedAndGated :
    (CmdTaken 0x0501 (tHeld 0x0501 (63 :: List.replicate 15 0)) (tCluster 0x0501 0 false) ∧ (cluster (tCluster 0x0501 0 false) 63).state = 0 ∧
      (cluster (tCluster 0x0501 0 false) 63).drainAt = none ∧ retestIn (tCluster 0x0501 0 false) 63 = false ∧
      2 * (tCluster 0x0501 0 false).tk.cfg.tTop ≤ poolOf (enginesAfter (tCluster 0x0501 0 false) 63)) ∧
    (CmdTaken 0x0502 (tHeld 0x0502 (63 :: List.replicate 15 0)) (tCluster 0x0502 1 false) ∧ (cluster (tCluster 0x0502 1 false) 63).state = 1) ∧
    (CmdTaken 0x0503 (tHeld 0x0503 (63 :: List.replicate 15 0)) (tCluster 0x0503 1 true) ∧ (cluster (tCluster 0x0503 1 true) 63).loadOk = true) ∧
    CmdTaken 0x0504 (tHeld 0x0504 (63 :: List.replicate 15 0)) (tCluster 0x0504 1 true) ∧
    ((tCluster 0 3 true).en.gating = true ∧ (cluster (tCluster 0 3 true) 63).state = 3 ∧ (tCluster 0 3 true).en.wakeAsk = true) ∧
    ((cluster (tCluster 0 4 true) 63).state = 4 ∧ (cluster (tCluster 0 4 true) 63).stTick + 16 ≤ (tCluster 0 4 true).tick) :=
  ⟨⟨⟨rfl, rfl, rfl, rfl, .inl rfl, rfl, rfl⟩, by decide, by decide, by decide, by decide⟩, ⟨⟨rfl, rfl, rfl, rfl, .inl rfl, rfl, rfl⟩, by decide⟩, ⟨⟨rfl, rfl, rfl, rfl, .inl rfl, rfl, rfl⟩, by decide⟩, ⟨rfl, rfl, rfl, rfl, .inl rfl, rfl, rfl⟩, by decide, by decide⟩

/-! ### PinLimitsCountLockAndClear -/

/-- A lockout of an index, due and running. -/
def tLocked (code : Nat) (p : List Byte) (u : Nat) : State :=
  let s := tCmd code p
  { s with lim := { s.lim with locks := [(0x08000001, ⟨false, u, some 4096⟩)] } }

/-- Index 0x08000001 and the one above it; a lockout running, ended and due; a new window. -/
theorem witness_pinLimitsCountLockAndClear :
    (CmdTaken 0x0702 (tHeld 0x0702 [8, 0, 0, 1]) (tLocked 0x0702 [8, 0, 0, 1] 9000) ∧ be [8, 0, 0, 1] 0 4 ≤ 0x08000001 ∧
      0x08000001 < be [8, 0, 0, 2] 0 4) ∧
    (CmdTaken 0x0703 (tHeld 0x0703 [8, 0, 0, 1]) (tLocked 0x0703 [8, 0, 0, 1] 9000) ∧
      lockOf (tLocked 0x0703 [8, 0, 0, 1] 9000) 0x08000001 = some ⟨false, 9000, some 4096⟩ ∧ lockOf (tLocked 0x0703 [8, 0, 0, 1] 4096) 0x08000001 = none) ∧
    (({ tOp with tick := 2 ^ 19 } : State).lim.window ≠ 2 ^ 19 / 2 ^ 19) ∧
    tblGet (tLocked 0 [] 4096).lim.locks 0x08000001 = some ⟨false, 4096, some 4096⟩ ∧
    tblGet ({ tOp with lim := { tOp.lim with locks := [(2 ^ 27 - 1, ⟨false, 9000, some 4096⟩)] } } : State).lim.locks (2 ^ 27 - 1) =
      some ⟨false, 9000, some 4096⟩ :=
  ⟨⟨⟨rfl, rfl, rfl, rfl, .inl rfl, rfl, rfl⟩, by decide, by decide⟩, ⟨⟨rfl, rfl, rfl, rfl, .inl rfl, rfl, rfl⟩, by decide, by decide⟩, by decide, by decide, by decide⟩

/-- A policy with every field at the lower end of its range, and one whose first class has FAIL_CEIL 0. -/
def tPolicy : List Byte := (List.range 0x1A0).map (fun i =>
  if i = 1 ∨ (16 ≤ i ∧ i ≤ 0x100 ∧ i % 16 = 0) ∨ (15 ≤ i ∧ i < 0x100 ∧ i % 16 = 15) ∨ i ∈ [0x109, 0x10D, 0x10E, 0x111, 0x115, 0x116]
  then 1 else 0)
set_option maxRecDepth 20000 in
theorem witness_pinPolicy : CmdTaken 0x0701 (tHeld 0x0701 tPolicy) (tCmd 0x0701 tPolicy) ∧ policyRsv tPolicy = none ∧
    policyRange tPolicy = none ∧ policyRange (tPolicy.set 15 0) = some 76 ∧ policyRsv (tPolicy.set 17 1) = some 81 :=
  ⟨⟨rfl, rfl, rfl, rfl, .inl rfl, rfl, rfl⟩, by decide, by decide, by decide, by decide⟩

/-! ### KeyStoreReadsAndJournal -/

/-- A ready key store with a ring of 4,096 slots on link 0, one entry sent and one to send. -/
def tKs (code : Nat) (p : List Byte) : State :=
  let s := tCmd code p
  { s with ks := { s.ks with
      state := 2, ring := some ⟨0x1000, 12, 0, none⟩, fetching := [2 ^ 27 - 1], scrubGrant := some 4096, scrubPos := 2 ^ 27 - 8
      entries := [⟨5, 1, [], false, true⟩, ⟨6, 1, [], false, false⟩], streamTick := 4096, wpos := 4095, jhead := 4090
      held := [(9, 4096)], mig := some { target := 2 } } }

/-- DOMAIN_SET with both reserves at their limit, EPOCH at its greatest number. -/
def tDomSet : List Byte := List.replicate 10 0 ++ [0, 15, 15] ++ List.replicate 100 0
def tEpoch : List Byte := List.replicate 10 0 ++ [0xFF, 0xFE, 0xFF, 0xFE]

/-- The premises of each clause; KS_JHEAD at the write position and one past it. -/
theorem witness_keyStoreReadsAndJournal :
    (2 ^ 27 - 1 ∈ (tKs 0 []).ks.fetching ∧ (tKs 0 []).ks.state = 2 ∧ (tKs 0 []).ks.scrubGrant = some (tKs 0 []).tick ∧
      (tKs 0 []).ks.scrubPos + 4 < 2 ^ 27 ∧ nodeCached (tKs 0 []) (2 ^ 27 - 1) = false) ∧
    (CmdTaken 0x0601 (tHeld 0x0601 tDomSet) (tKs 0x0601 tDomSet) ∧ domFault (tKs 0x0601 tDomSet) tDomSet = none ∧
      (tKs 0 []).ks.ring.isSome = true) ∧
    (CmdTaken 0x0602 (tHeld 0x0602 tEpoch) (tKs 0x0602 tEpoch) ∧ be tEpoch 10 2 ≤ 0xFFFE ∧ be tEpoch 12 2 ≤ be tEpoch 10 2 ∧
      hasWorkers (tKs 0x0602 tEpoch) = false ∧ (tKs 0 []).ks.epochs.length < 4096) ∧
    CmdTaken 0x0603 (tHeld 0x0603 (List.replicate 16 0)) (tKs 0x0603 (List.replicate 16 0)) ∧
    ((tKs 0 []).ks.ring = some ⟨0x1000, 12, 0, none⟩ ∧ (tKs 0 []).ks.entries.all (·.sent) = false ∧
      linkOpen (tKs 0 []) 0 = true ∧ (tKs 0 []).ks.wpos ≠ (tKs 0 []).ks.jhead) ∧
    (sentUpTo (tKs 0 []) = some ⟨5, 1, [], false, true⟩ ∧ (tKs 0 []).tick % 16 = 0 ∧ (tKs 0 []).ks.durableSeq < 5) ∧
    ((tKs 0 []).hl.link0.up = true ∧ (4095 + 2 ^ 12 - 4090) % 2 ^ 12 ≤ (4095 + 2 ^ 12 - 4090) % 2 ^ 12 ∧ (4095 + 2 ^ 12 - 4090) % 2 ^ 12 < (0 + 2 ^ 12 - 4090) % 2 ^ 12) ∧
    (tblGet (tKs 0 []).ks.held 9 = some 4096 ∧ 127 ∈ copying { target := 2, done := List.range 96 } ∧ 0 ∈ copying { target := 2 }) :=
  ⟨by decide, ⟨⟨rfl, rfl, rfl, rfl, .inl rfl, rfl, rfl⟩, by decide, by decide⟩, ⟨⟨rfl, rfl, rfl, rfl, .inl rfl, rfl, rfl⟩, by decide, by decide, by decide, by decide⟩, ⟨rfl, rfl, rfl, rfl, .inl rfl, rfl, rfl⟩, by decide, by decide,
   by decide, by decide⟩

/-- KS_JHEAD without a ring posts 0x0D03 (R247). -/
theorem test_jheadWithoutRing : (match exec (.ksJhead 5) tOp with | .next t => t.nq.queue.map (·.event) | _ => []) = [0x0D03] := by decide

/-! ### TheStoreIsSavedReloadedAndEmptied -/

/-- A key store in a state, with a snapshot running or not. -/
def tStore (code st : Nat) (busy : Bool) (p : List Byte) : State :=
  let s := tCmd code p
  { s with ks := { s.ks with state := st, snap := if busy then some { opId := 1, seq := 1, bufs := [] } else none } }

/-- SNAPSHOT into one buffer of 2^60 bytes, and into none. -/
def tSnap (n : Nat) : List Byte := [0, 0, 0, BitVec.ofNat 8 n, 0, 0, 0, 0] ++ List.replicate 8 0 ++ [0x10, 0, 0, 0, 0, 0, 0, 0]

/-- The premises, and the states that refuse. -/
theorem witness_theStoreIsSavedReloadedAndEmptied :
    (CmdTaken 0x0604 (tHeld 0x0604 (tSnap 1)) (tStore 0x0604 2 false (tSnap 1)) ∧ (tStore 0x0604 2 false []).ks.state = 2 ∧
      migrating (tStore 0x0604 2 false []) = false ∧ longsRunning (tStore 0x0604 2 false []) < 4 ∧
      imageSize (segments (tStore 0x0604 2 false []).ks.recs).length ≤ ((parseBufs 1 ((tSnap 1).drop 8)).map (·.2)).sum ∧
      ((parseBufs 0 ((tSnap 0).drop 8)).map (·.2)).sum < imageSize (segments (tStore 0x0604 2 false []).ks.recs).length) ∧
    (CmdTaken 0x0605 (tHeld 0x0605 []) (tStore 0x0605 2 false []) ∧ (tStore 0x0605 2 false []).ks.loadOp = none) ∧
    (CmdTaken 0x0606 (tHeld 0x0606 []) (tStore 0x0606 4 false []) ∧ (tStore 0x0606 4 false []).ks.state = 4) ∧
    (tStore 0x0605 2 true []).ks.snap ≠ none :=
  ⟨⟨⟨rfl, rfl, rfl, rfl, .inl rfl, rfl, rfl⟩, by decide, by decide, by decide, by decide, by decide⟩, ⟨⟨rfl, rfl, rfl, rfl, .inl rfl, rfl, rfl⟩, by decide⟩, ⟨⟨rfl, rfl, rfl, rfl, .inl rfl, rfl, rfl⟩, by decide⟩, by decide⟩

/-! ### CeremoniesOpenCollectAndCommit -/

/-- The placement of an AES-256 key (type 3) and a ceremony of one component open on it. -/
def tCer (code : Nat) (p : List Byte) (part : List Byte) : State :=
  let s := tCmd code p
  let c : Ceremony := { id := 1, place := List.replicate 4 0 ++ [3] ++ List.replicate 59 0, domain := 0, nonce := [], seed := 0, needed := 1
                        parts := if part = [] then [] else [(1, part)], opened := 0 }
  { s with ks := { s.ks with cer := some c, ring := some ⟨0, 12, 0, none⟩ } }

/-- The payload that names it, with component 1 and a KCV length of 5. -/
def tCerP : List Byte := List.replicate 7 0 ++ [1, 1, 5] ++ List.replicate 1200 0

/-- CER_OPEN for an AES-256 key of usage D0, mode B, not exportable. -/
def tCerOpen : List Byte := [0, 0, 0, 0, 3, 0, 0x44, 0x30, 0x42, 0x4E] ++ List.replicate 54 0

/-- The premises that are about the state and the payload. -/
theorem witness_ceremoniesOpenCollectAndCommit :
    (CmdTaken 0x0608 (tHeld 0x0608 tCerP) (tCer 0x0608 tCerP []) ∧ (openCer (tCer 0x0608 tCerP []) tCerP).isSome = true ∧
      1 ≤ be tCerP 8 1 ∧ be tCerP 8 1 ≤ 1 ∧ be tCerP 9 1 = kcvLenOf 3) ∧
    (CmdTaken 0x0609 (tHeld 0x0609 tCerP) (tCer 0x0609 tCerP [7]) ∧ ((tCer 0x0609 tCerP [7]).ks.cer.map combined) = some [7]) ∧
    CmdTaken 0x060A (tHeld 0x060A tCerP) (tCer 0x060A tCerP []) ∧ openCer (tCmd 0x060A tCerP) tCerP = none ∧
    (CmdTaken 0x0607 (tHeld 0x0607 tCerOpen) (tCmd 0x0607 tCerOpen) ∧ firstBad (placeNew [1, 2, 3, 4, 5] tCerOpen) = none ∧
      (tCmd 0x0607 []).ks.cer = none) ∧
    custodians { tOp with prov := { tOp.prov with creds := [{ role := 2 }] } } { tHeld 0x0608 tCerP with signers := 1 } = [0] ∧ 0 + 2 ^ 29 ≤ ({ tOp with tick := 2 ^ 29 } : State).tick :=
  ⟨⟨⟨rfl, rfl, rfl, rfl, .inl rfl, rfl, rfl⟩, by decide, by decide, by decide, by decide⟩, ⟨⟨rfl, rfl, rfl, rfl, .inl rfl, rfl, rfl⟩, by decide⟩, ⟨rfl, rfl, rfl, rfl, .inl rfl, rfl, rfl⟩, by decide, ⟨⟨rfl, rfl, rfl, rfl, .inl rfl, rfl, rfl⟩, by decide, by decide⟩, by decide, by decide⟩

/-! ### LanesFaultRetestAndRotate -/

/-- A bulk operation half done on host lane 159. -/
def tBulk (rerun : Bool) : Work := { src := .queue 3 0, sub := { func := 0x0805, inLen := 2 ^ 20 }, phase := .unit, unit := .hostLane
                                     place := some 159, pos := 4096, rerun, asked := true }

/-- Lanes in given states, a handover and a replay. -/
def tLanes (l : List (Nat × Lane)) (w : Work) (h : List Handover) : State :=
  { tOp with tick := 2 ^ 17, ln := { tOp.ln with lanes := l, hands := h, rotEn := true, rotLog := 16 }, wk := { works := [(1, w)] } }

/-- READMIT of a kind and number. -/
def tReadmit (k hi lo : Nat) : List Byte := [BitVec.ofNat 8 k, 0, BitVec.ofNat 8 hi, BitVec.ofNat 8 lo]

/-- The premises of the clauses, lanes, units and engines at their last number. -/
theorem witness_lanesFaultRetestAndRotate :
    ((lane (tLanes [(151, { slot := some 63 })] (tBulk false) []) 151).slot = some 63 ∧ 151 < 152) ∧
    ([⟨3, 2, 1, false⟩] : List LaneReplay).find? (fun x => decide (x.lane = 3)) = some ⟨3, 2, 1, false⟩ ∧
    (work (tLanes [(159, {})] (tBulk true) []) 1 = some (tBulk true) ∧ (lane (tLanes [(159, {})] (tBulk true) []) 159).state = 0 ∧
      unitHead (tLanes [(159, {})] (tBulk true) []) .hostLane 159 = some 1 ∧
      fetchOpen (tLanes [(159, {})] (tBulk true) []) (tBulk false) = false ∧ (nextChunk (tBulk false)).1 = false ∧ 4096 + (nextChunk (tBulk false)).2.2 < 2 ^ 20) ∧
    hostIdle tOp 152 = true ∧
    ((lane (tLanes [(159, { state := 2 })] (tBulk true) []) 159).state = 2 ∧ (lane (tLanes [(159, { state := 3 })] (tBulk true) []) 159).state = 3 ∧
      0 + 2 ^ 16 ≤ 2 ^ 17) ∧
    ((lane (tLanes [(7, { state := 5 })] (tBulk true) [⟨1, 7, 8, 9, some 5⟩]) 7).state = 5 ∧ 5 + 2 ^ 10 ≤ 2 ^ 17) ∧
    CmdTaken 0x0506 (tHeld 0x0506 [1, 20, 3]) (tCmd 0x0506 [1, 20, 3]) ∧
    (CmdTaken 0x0505 (tHeld 0x0505 (tReadmit 1 0 159)) (tWith 0x0505 (tReadmit 1 0 159) (tLanes [(159, { state := 4 })] (tBulk true) [])) ∧
      be (tReadmit 1 0 159) 2 2 < 160 ∧ be (tReadmit 2 0 63) 2 2 < 64 ∧ be (tReadmit 0 3 255) 2 2 < 1024) ∧
    ((pkUnit { tOp with pk := { tOp.pk with units := [(63, { retired := true })] } } 63).retired = true ∧
      (engine { tOp with en := { tOp.en with engines := [(1023, { estate := 2 })] } } 1023).estate = 2) :=
  ⟨by decide, by decide, by decide, by decide, by decide, by decide, ⟨rfl, rfl, rfl, rfl, .inl rfl, rfl, rfl⟩, ⟨⟨rfl, rfl, rfl, rfl, .inl rfl, rfl, rfl⟩, by decide, by decide, by decide⟩, by decide⟩

/-- A rotation tick with two spares on die 0. -/
theorem witness_rotation :
    let l := tLanes [(0, { slot := some 0 }), (1, { state := 1 }), (2, { state := 1, since := 5 })] (tBulk false) []
    let s : State := { l with pt := { l.pt with ports := [(0, { state := 3 })] } }
    s.tick % 2 ^ s.ln.rotLog = 0 ∧ 2 ≤ (spares s 0).length ∧ (outgoing s 0).isSome = true ∧ (longest s (spares s 0)).isSome = true := by decide

/-! ### PortsAreSetTrainedAndFail -/

/-- Port 31 in a state with one link, and a command on it. -/
def tPort (code : Nat) (pl : List Byte) (x : Port) : State :=
  let s := tCmd code pl
  { s with tick := 2 ^ 20, pt := { s.pt with ports := [(31, x)], serdesAt := some 5 } }

/-- PORT_SET of port 31 in a role, without a partner. -/
def tPortSet (role : Nat) : List Byte := [31, BitVec.ofNat 8 role, 0, 255] ++ List.replicate 60 0

/-- The premises of the clauses. -/
theorem witness_portsAreSetTrainedAndFail :
    (CmdTaken 0x0801 (tHeld 0x0801 (tPortSet 0)) (tPort 0x0801 (tPortSet 0) { state := 3 }) ∧
      outOfService { state := 3 } = false ∧
      outOfService { state := 0 } = true ∧ portRange (tPort 0 [] { state := 0 }) (tPortSet 0) = none ∧
      portRange (tPort 0 [] { state := 0 }) (tPortSet 1) ≠ none) ∧
    ((lnk (tPort 0 [] { state := 3, links := [{ up := true }] }) 31 0).map (fun l => (l.up, l.held)) = some (true, false)) ∧
    ((lnk (tPort 0 [] { state := 4, links := [{ up := false }] }) 31 0).map (fun l => (l.up, l.held, l.training, l.since)) =
      some (false, false, none, 0)) ∧
    ((lnk (tPort 0 [] { state := 2, links := [{ training := some 8 }] }) 31 0).map (·.training) = some (some 8) ∧ 8 + 2 ^ 17 ≤ 2 ^ 20) ∧
    (linkUp (tPort 0 [] { state := 3, links := [{ up := true }] }) 31 0 = true ∧
      (([] : List Nat).filter (fun t => decide (2 ^ 20 < t + 2 ^ 16))).length < 16 ∧
      16 ≤ ((List.replicate 16 (2 ^ 20)).filter (fun t => decide (2 ^ 20 < t + 2 ^ 16))).length) ∧
    ((tPort 0 [] { state := 3 }).pt.serdesAt = some 5 ∧ (tPort 0 [] { state := 3 }).pt.serdesLane % 8 ≠ 7) ∧
    (bitOf (port (tPort 0 [] { state := 3, cal := 1 }) (16 + 126 / 8)).cal 0 = true) ∧
    ((port (tPort 0 [] { state := 3, pend := true, auto := true }) 31).pend = true ∧
      (tPort 0 [] { state := 3 }).tk.bandTick + 2 ^ 20 ≤ (tPort 0 [] { state := 3 }).tick ∧ (tPort 0 [] { state := 3 }).pt.source ≠ some 31) :=
  ⟨⟨⟨rfl, rfl, rfl, rfl, .inl rfl, rfl, rfl⟩, by decide, by decide, by decide, by decide⟩, by decide, by decide, by decide, by decide, by decide, by decide, by decide⟩

/-! ### FramesArePassedAnsweredOrDropped -/

/-- A through port with a lane, an endpoint port with addresses. -/
def tFrames (code : Nat) (pl : List Byte) : State :=
  let s := tPort code pl { role := 1, state := 3, links := [{ up := true }] }
  { s with
    pt := { s.pt with ports := [(0, { role := 2, state := 3, links := [{ up := true }], subs := [⟨[1, 2, 3, 4, 5, 6], 0, [10, 0, 0, 1], List.replicate 16 9⟩] }),
                                (31, { role := 1, state := 3, links := [{ up := true }] })] }
    ln := { s.ln with lanes := [(125, { state := 2 })], sas := [⟨0, 1, 0, 0, 31, 0, 5, 0, 0, [], 0, 1, 1, 0, false⟩] } }

/-- An ARP request for 10.0.0.1 and a solicitation of the address of nines. -/
def tArp : List Byte := List.replicate 12 0 ++ [8, 6, 0, 1, 8, 0, 6, 4, 0, 1] ++ List.replicate 16 0 ++ [10, 0, 0, 1]
def tNs : List Byte := List.replicate 12 0 ++ [0x86, 0xDD] ++ List.replicate 6 0 ++ [58, 255] ++ List.replicate 32 0 ++ [0x87, 0] ++
  List.replicate 6 0 ++ List.replicate 16 9

/-- The premises of the clauses. -/
theorem witness_framesArePassedAnsweredOrDropped :
    (linkUp (tFrames 0 []) 31 0 = true ∧ (port (tFrames 0 []) 31).role = 1 ∧ onlyPtp (rxFrame 31 0 (tFrames 0 [])) = false ∧
      lanesStopped (tFrames 0 []) = false ∧ ingressHeld (tFrames 0 []) 31 = false ∧ onlyPtp (tFrames 0 []) = false ∧
      inRoom (port (rxFrame 31 64 (tFrames 0 [])) 31) ⟨0, false, [], [], 64, 4096⟩ = true ∧
      inRoom (port (tFrames 0 []) 31) ⟨0, false, [], [], 2 ^ 40, 4096⟩ = false ∧
      (dispatchIn 31 ⟨0, false, [], List.replicate 64 0, 64, 4096⟩ (tFrames 0 [])).1 = some 124 ∧ lanesStopped { tFrames 0 [] with pt := { (tFrames 0 []).pt with stopped := true } } = true) ∧
    (termTakes (tFrames 0 []) 0 0 = true ∧ acceptedFrame (tFrames 0 []) 0 0 [] = false ∧
      inRoom (port (rxFrame 0 42 (tFrames 0 [])) 0) ⟨0, false, [], [], 42, 4096⟩ = true ∧ (subAddr (tFrames 0 []) 0 0).vlan = 0 ∧ be tArp 12 2 = 0x0806 ∧
      octets (tArp.drop 14) 0 8 = beBytes 8 0x0001080006040001 ∧ octets (tArp.drop 14) 24 4 = (subAddr (tFrames 0 []) 0 0).ip4) ∧
    (be tNs 12 2 = 0x86DD ∧ be tNs 20 1 = 58 ∧ be tNs 21 1 = 255 ∧ be tNs 54 2 = 0x8700 ∧ octets (tNs.drop 54) 8 16 = (subAddr (tFrames 0 []) 0 0).ip6) ∧
    CmdTaken 0x0802 (tHeld 0x0802 (List.replicate 56 0)) (tFrames 0x0802 (List.replicate 56 0)) ∧
    (CmdTaken 0x0803 (tHeld 0x0803 (31 :: List.replicate 23 0)) (tFrames 0x0803 (31 :: List.replicate 23 0)) ∧
      (tFrames 0 []).ln.sas.map (·.place) = [(31, 0, 0, 0, 0)]) :=
  ⟨by decide, by decide, by decide, ⟨rfl, rfl, rfl, rfl, .inl rfl, rfl, rfl⟩, ⟨⟨rfl, rfl, rfl, rfl, .inl rfl, rfl, rfl⟩, by decide⟩⟩

/-! ### EndpointMessagesAreOpenedAndPassed -/

/-- A message out, and an endpoint port with its link up. -/
def tOut : OutMsg := { ep := 5, type := 1, note := 1, accord := 0, ref := 0, echo := 0, payload := [], port := 31 }

def tEnd : State := { tOp with
  tick := 2 ^ 17, pt := { tOp.pt with
    ports := [(31, {
      role := 2, state := 3, links := [{ up := true }], udpPort := 47120
      subs := [⟨[2, 0, 0, 0, 0, 1], 0, [10, 0, 0, 1], List.replicate 16 0⟩] })], held := [tOut], ready := [(9, tOut)] } }

/-- A datagram of a type, its header sound. -/
def tKeep (t : Nat) : List Byte := [1, BitVec.ofNat 8 t, 0, 0, 0, 0, 0, 9] ++ List.replicate 40 0

/-- A datagram in a frame to 10.0.0.1, UDP port 47120, without a UDP checksum. -/
def tTpcFrame (d : List Byte) : List Byte :=
  let head := fun (sum : Nat) => [0x45, 0] ++ beBytes 2 (28 + d.length) ++ [0, 0, 0x40, 0, 64, 17] ++ beBytes 2 sum ++ [10, 0, 0, 2, 10, 0, 0, 1]
  [2, 0, 0, 0, 0, 1, 2, 0, 0, 0, 0, 2, 8, 0] ++ head (inetSum (head 0)) ++ beBytes 2 50000 ++ beBytes 2 47120 ++ beBytes 2 (8 + d.length) ++ [0, 0] ++ d

/-- A key set of phase 0 with no message received. -/
def tSet : KeySet := keySetOf 0 0 (List.replicate 96 0) 0

/-- An endpoint. -/
def tEpAny : Ep := { domain := 1, topOk := false, baseOk := false, alg := 1, anchor := 0, mask := 0, spki := [], notAfter := 5 }

/-- An endpoint whose session is established. -/
def tLive : State := { tEnd with pt := { tEnd.pt with eps := [(9, { tEpAny with mask := 2 ^ 31, state := 3, cur := some tSet, phase := 0 })] } }

/-- A session's datagram finds its key set, and its first counter is accepted. -/
theorem witness_sessionDatagram : ((sessionOf tLive 31 (tKeep 0x20)).map (fun q => q.2.map (·.1))) = some (some false) ∧
    (tSet.accept 1).isSome = true ∧ (tSet.accept (2 ^ 48)).isSome = false := by decide

/-- Each type; a response ready and held. -/
theorem witness_endpointMessagesAreOpenedAndPassed :
    (headerOk (tKeep 0x20) = true ∧ termTakes tEnd 31 0 = true ∧ (tpcOf tEnd 31 0 (tTpcFrame (tKeep 0x20))).map (·.2) = some (tKeep 0x20)) ∧
    be [2, 0x10] 1 1 = 0x10 ∧ be [2, 0x14] 1 1 = 0x14 ∧ be [2, 0x20] 1 1 = 0x20 ∧
    be [2, 0x21] 1 1 = 0x21 ∧ be [2, 0x22] 1 1 ∉ [0x01, 0x10, 0x14, 0x20, 0x21] ∧ be [2, 1] 1 1 = 1 ∧ tblGet tEnd.pt.ready 9 = some tOut ∧ reachable tEnd tOut.ep = false ∧
    tEnd.pt.held.find? (fun m => decide (m.ep = 5)) = some tOut ∧ tOut.since + 2 ^ 16 ≤ tEnd.tick := by decide

/-- A datagram too short for its header is dropped and answers nothing (R293). -/
theorem test_shortDatagram : (match exec (.tpcOtherType 31 0 (tTpcFrame [2, 0x22])) tEnd with | .next t => t.out | _ => [.smbus none]) = [] := by decide

/-! ### EndpointsAreLoadedAndTheirSessionsEnd -/

/-- An endpoint in a state. -/
def tEp (st : Nat) : Ep := { domain := 1, topOk := false, baseOk := false, alg := 1, anchor := 0, mask := 0, spki := [], notAfter := 5, state := st
                             hello := some { header := [], payload := [], port := 31, subport := 0, src := [], done := some 8 } }

/-- That endpoint at number 262,143, late enough for every timeout, with its handshake's work. -/
def tEpS (st : Nat) : State := { tEnd with
  tick := 2 ^ 25, pt := { tEnd.pt with eps := [(262143, tEp st)] }, tk := { tEnd.tk with utcValid := true, refNs := some (7 * 10 ^ 9) }
  wk := { works := [(4, { src := .handshake 262143, sub := { func := 0 } })] } }

/-- The premises of each clause. -/
theorem witness_endpointsAreLoadedAndTheirSessionsEnd :
    (CmdTaken 0x0804 (tHeld 0x0804 (List.replicate 40 0)) (tWith 0x0804 (List.replicate 40 0) (tEpS 3)) ∧
      ep (tEpS 3) 0 = none ∧ ep (tEpS 3) 262143 ≠ none) ∧
    CmdTaken 0x0805 (tHeld 0x0805 [0, 3, 255, 255]) (tWith 0x0805 [0, 3, 255, 255] (tEpS 3)) ∧
    CmdTaken 0x0806 (tHeld 0x0806 [0, 3, 255, 255]) (tWith 0x0806 [0, 3, 255, 255] (tEpS 3)) ∧
    (ep (tEpS 2) 262143 = some (tEp 2) ∧ (handshakeWork (tEpS 2) 262143).isSome = true ∧ 8 < (tEpS 2).tick ∧ (tEp 2).acceptAt + 2 ^ 16 ≤ (tEpS 2).tick ∧
      (tEp 3).lastRx + 2 ^ (port (tEpS 3) (tEp 3).port).idleLog ≤ (tEpS 3).tick ∧ (tEp 4).dormantAt + 2 ^ 24 ≤ (tEpS 4).tick ∧
      ((tEp 4).notAfter : Int) < utcSeconds (tEpS 4)) :=
  ⟨⟨⟨rfl, rfl, rfl, rfl, .inl rfl, rfl, rfl⟩, by decide, by decide⟩, ⟨rfl, rfl, rfl, rfl, .inl rfl, rfl, rfl⟩, ⟨rfl, rfl, rfl, rfl, .inl rfl, rfl, rfl⟩, by decide⟩

/-! ### TimeIsTakenFromAMaster -/

/-- Port 31 following a master of domain 24. -/
def tPtp (x : PtpIn) : State := { tEnd with pt := { tEnd.pt with
  ports := [(31, { role := 2, state := 3, links := [{ up := true }], ptpPri := true, ptp := x
                   subs := [⟨[2, 0, 0, 0, 0, 1], 0, [10, 0, 0, 1], List.replicate 16 0⟩] })], ptpDomain := 24 } }

/-- A PTP message of a type and domain, of 64 octets, from the clock of nines; in a frame. -/
def tPtpMsg (type dom : Nat) : List Byte :=
  [BitVec.ofNat 8 type, 2, 0, 64, BitVec.ofNat 8 dom, 0, 2, 0] ++ List.replicate 12 0 ++ List.replicate 10 9 ++ [0, 5] ++ List.replicate 12 0 ++
  ptpIdentity ⟨[2, 0, 0, 0, 0, 1], 0, [10, 0, 0, 1], List.replicate 16 0⟩ ++ List.replicate 10 0
def tPtpFrame (type dom : Nat) : List Byte := List.replicate 12 1 ++ [0x88, 0xF7] ++ tPtpMsg type dom

/-- An exchange of the clock of nines under way. -/
def tExch : PtpIn := { master := some (senderOf (tPtpMsg 9 24)), seq := 5, t1 := some 3, t2 := some 7, followUp := true, exTick := 2 ^ 17 - 2 ^ 12 }

/-- The premises of the clauses: each type, good and of another domain; an exchange at its last tick. -/
theorem witness_timeIsTakenFromAMaster :
    (ptpTakes (tPtp tExch) 31 0 = true ∧ ptpOf (tPtp tExch) 31 0 (tPtpFrame 9 24) = some (0, tPtpMsg 9 24) ∧
      inRoom (port (rxFrame 31 78 (tPtp tExch)) 31) ⟨0, false, [], tPtpFrame 9 24, 78, 2 ^ 17⟩ = true) ∧
    ((∀ c ∈ [0, 8, 9, 11], be (tPtpMsg c 24) 0 1 % 16 = c ∧ ptpGood c (tPtpMsg c 24) = true) ∧ be (tPtpMsg 9 24) 4 1 = (tPtp tExch).pt.ptpDomain ∧
      be (tPtpMsg 9 25) 4 1 ≠ (tPtp tExch).pt.ptpDomain ∧ bitOf (be (tPtpMsg 0 24) 6 1) 1 = true) ∧
    ((port (rxFrame 31 78 (tPtp tExch)) 31).ptp = tExch ∧ tExch.seq = be (tPtpMsg 9 24) 30 2 ∧ (tPtp tExch).tick ≤ tExch.exTick + 2 ^ 12 ∧
      (originSeen 31 3 (rxFrame 31 78 (tPtp tExch))).1 = false ∧
      octets (tPtpMsg 9 24) 44 10 = ptpIdentity (subAddr (rxFrame 31 78 (tPtp tExch)) 31 tExch.sub)) ∧
    ((port (tPtp { t2 := some 7, exTick := 5 }) 31).ptp.exTick + 2 ^ 12 < (tPtp {}).tick) ∧
    ((port (tPtp { master := some [1], heard := 5, interval := 9 }) 31).ptp.heard + 3 * 9 ≤ (tPtp {}).tick) ∧
    CmdTaken 0x0807 (tHeld 0x0807 [127]) (tCmd 0x0807 [127]) ∧ 127 < be [128] 0 1 :=
  ⟨by decide, by decide, by decide, by decide, by decide, ⟨rfl, rfl, rfl, rfl, .inl rfl, rfl, rfl⟩, by decide⟩

/-! ### AccordsRoutesAndVerdictsAreArmed -/

/-- A forward and a referral at their ends, and an accord loaded. -/
def tInfo : HdrInfo := infoOf tEnd 31 (tEp 3) (List.replicate 32 0)
def tMsg : Msg := { accord := parseAccord (List.replicate 96 0), version := 0, info := tInfo, kind := 0, note := 1, fields := [], route := none }
def tAccords (code : Nat) (p : List Byte) : State :=
  let s := tCmd code p
  { s with ad := { s.ad with accords := [(1023, 0, parseAccord (List.replicate 96 0))], forwards := [(7, ⟨tInfo, 1, none, 0, none, 4096, false, 0, 0⟩)]
                             referrals := [(8, ⟨tMsg, 0, 0, none, false, 4095⟩)] } }

/-- The premises of the clauses. -/
theorem witness_accordsRoutesAndVerdictsAreArmed :
    CmdTaken 0x0901 (tHeld 0x0901 (List.replicate 104 0)) (tAccords 0x0901 (List.replicate 104 0)) ∧
    (CmdTaken 0x0902 (tHeld 0x0902 (3 :: 255 :: List.replicate 14 0)) (tAccords 0x0902 (3 :: 255 :: List.replicate 14 0)) ∧
      tblGet (tAccords 0 []).ad.accords 1023 ≠ none ∧ accordBusy (tAccords 0 []) 1023 = false ∧ tblGet (tAccords 0 []).ad.accords 1024 = none) ∧
    CmdTaken 0x0903 (tHeld 0x0903 [3, 255]) (tAccords 0x0903 [3, 255]) ∧
    CmdTaken 0x0904 (tHeld 0x0904 (List.replicate 8 0)) (tAccords 0x0904 (List.replicate 8 0)) ∧
    (CmdTaken 0x0905 (tHeld 0x0905 (1 :: List.replicate 39 0)) (tAccords 0x0905 (1 :: List.replicate 39 0)) ∧
      be (1 :: List.replicate 39 0) 0 1 = 1) ∧
    ((tblGet (tAccords 0 []).ad.forwards 7).map (·.closing) = some 4096 ∧ 4096 ≤ (tAccords 0 []).tick) ∧
    ((tblGet (tAccords 0 []).ad.referrals 8).map (fun r => decide (r.tick + 2 ^ r.msg.accord.verdictLog ≤ (tAccords 0 []).tick)) = some true) :=
  ⟨⟨rfl, rfl, rfl, rfl, .inl rfl, rfl, rfl⟩, ⟨⟨rfl, rfl, rfl, rfl, .inl rfl, rfl, rfl⟩, by decide, by decide, by decide⟩, ⟨rfl, rfl, rfl, rfl, .inl rfl, rfl, rfl⟩, ⟨rfl, rfl, rfl, rfl, .inl rfl, rfl, rfl⟩, ⟨⟨rfl, rfl, rfl, rfl, .inl rfl, rfl, rfl⟩, by decide⟩, by decide, by decide⟩

/-! ### DigestUnitsAreClaimedAndDigest -/

/-- Digest unit 7 in a state. -/
def tDg (x : DgUnit) : State := { tOp with dg := { tOp.dg with units := [(7, x)], domLo := 0, domN := 65536 } }

/-- A plain SHA-256 record at its start (Algorithm 1). -/
def tDgRec : List Byte := List.replicate 8 0 ++ [1] ++ List.replicate 247 0

/-- A digest of 2^20 octets, half done. -/
def tDgWork : Work := { src := .queue 3 0, sub := { func := 0x0901, inLen := 2 ^ 20 }, phase := .unit, unit := .digest, place := some 7, pos := 2 ^ 19 }

set_option maxRecDepth 4000 in
/-- The premises of the clauses, at the ends of the ranges. -/
theorem witness_digestUnitsAreClaimedAndDigest :
    ((dgUnit (tDg {}) 7).claimed = false ∧ (dgUnit (tDg {}) 7).pend = false ∧ dgClaims (tDg {}) < 6 ∧
      6 ≤ dgClaims { tOp with dg := { tOp.dg with units := (List.range 6).map (fun n => (n, { claimed := true })) } }) ∧
    ((dgUnit (tDg { pend := true }) 7).pend = true ∧ placed (modDg 7 (fun _ => { claimed := true }) (tDg { pend := true })) .digest 7 = []) ∧
    (dgUnit (tDg { claimed := true, active := true, alg := 1, buf := List.replicate 56 0 }) 7 = { claimed := true, active := true, alg := 1, buf := List.replicate 56 0 } ∧
      ({ claimed := true, active := true, alg := 1, buf := List.replicate 56 0 } : DgUnit).length + 8 < 2 ^ 61 ∧
      classL (tDg {}) = false ∧ inDomwin (tDg {}) 65535 = true) ∧
    (stateShape (octets tDgRec 0 256) = true ∧ le (octets tDgRec 0 256) 9 1 = 0) ∧
    ((dgUnit (tDg { wait := some (.key 3 (.inl 9)) }) 7).wait = some (.key 3 (.inl 9)) ∧
      (dgUnit (tDg { wait := some (.key 3 (.inr [])) }) 7).wait = some (.key 3 (.inr [])) ∧ (dgUnit (tDg { wait := some (.block []) }) 7).wait = some (.block []) ∧
      (dgUnit (tDg { wait := some (.final []) }) 7).wait = some (.final [])) ∧
    (tDgWork.pos ≠ 0 ∧ tDgWork.pos + min (digestChunk tDgWork.sub) (outstanding tDgWork) < tDgWork.sub.inLen ∧
      unitHead { tOp with wk := { works := [(1, tDgWork)] } } .digest 7 = some 1 ∧ fetchOpen tOp tDgWork = false) ∧
    (CmdTaken 0x0704 (tHeld 0x0704 [0, 1, 255, 255]) (tCmd 0x0704 [0, 1, 255, 255]) ∧ be [0, 1, 255, 255] 0 2 + be [0, 1, 255, 255] 2 2 ≤ 65536 ∧
      65536 < be [0, 2, 255, 255] 0 2 + be [0, 2, 255, 255] 2 2) :=
  ⟨by decide, by decide, by decide, by decide, by decide, by decide, ⟨⟨rfl, rfl, rfl, rfl, .inl rfl, rfl, rfl⟩, by decide, by decide⟩⟩

/-- The eighth word of a SHA-256 block fills it (R356). -/
theorem test_blockFills : (match exec (.dgData 7 0) (tDg { claimed := true, active := true, alg := 1, buf := List.replicate 56 0 }) with
    | .next t => (dgUnit t 7).wait | _ => none) = some (.block (List.replicate 64 0)) := by decide

/-! ### RandomWordsAndUnitsOfPublicKeys -/

/-- The chain ready or not, sources in given states, and a request held by unit 63. -/
def tRn (ready : Bool) (buf : List Nat) (n : List (Nat × Noise)) : State :=
  { tOp with tick := 2 ^ 17, rn := { tOp.rn with ready, buf, src := n, reserve := 1, noneSince := some 5 }
             wk := { works := [(1, { src := .queue 3 0, sub := { func := 0x0A01 }, phase := .unit, unit := .pk, pkUnit := some (63, 7) })] } }

/-- The premises of the clauses. -/
theorem witness_randomWordsAndUnitsOfPublicKeys :
    ((tRn true [7, 8] []).rn.buf = [7, 8] ∧ (tRn true [] []).rn.buf = [] ∧ (tRn false [] []).rn.ready = false ∧ (drbg (tRn true [] []) 65).limit = false) ∧
    (sourcesOn (tRn true [] []) ≠ 0 ∧ (tRn true [] []).rn.reserve < 2) ∧
    ((noise (tRn true [] []) 3).state = 0 ∧ retestDue (tRn true [] [(3, { state := 1, failTicks := [5] })]) (noise (tRn true [] [(3, { state := 1, failTicks := [5] })]) 3) = true) ∧
    (sourcesOn (tRn true [] ((List.range 4).map (fun k => (k, { state := 3 })))) = 0 ∧ 5 + 2 ^ 16 ≤ (tRn true [] []).tick) ∧
    ((pkUnit (tRn true [] []) 63).ran ≠ some (tRn true [] []).tick ∧ pkNext (tRn true [] []) 63 = some 7 ∧
      ((pkReady (tRn true [] []) 63).map (fun q => (q.1, q.2.1)) = [(7, 1)])) ∧
    (let t := modPk 63 (fun k => { k with ctl := [{ total := 2, left := 2, from_ := 0 }], last := 7 }) (tRn true [] [])
     pkNext t 63 = some 0 ∧ (pkUnit t 63).ctl = [{ total := 2, left := 2, from_ := 0 }]) ∧
    CmdTaken 0x0507 (tHeld 0x0507 [63]) (tCmd 0x0507 [63]) := ⟨by decide, by decide, by decide, by decide, by decide, by decide, ⟨rfl, rfl, rfl, rfl, .inl rfl, rfl, rfl⟩⟩

/-- 471,858 ones in a window post the notice; 471,859 do not (R373). -/
theorem test_window : outsideWindow 471858 = true ∧ outsideWindow 471859 = false ∧ outsideWindow 576717 = false ∧ outsideWindow 576718 = true := by decide

/-! ### MailboxTakesACommandAndAnswersIt -/

/-- A held command in a stage, with a class. -/
def tStage (st : CmdStage) (cls : Nat) : State :=
  { tOp with mb := { tOp.mb with held := some { tHeld 0x0101 [] with stage := st, cls }, busy := true, rspValid := true, rspTag := 7,
                                 longs := [⟨5, 0x0203, 0, 0, 0, 0, []⟩] } }

/-- The premises of the clauses. -/
theorem witness_mailboxTakesACommandAndAnswersIt :
    (tOp.hl.link0.up = true ∧ tOp.mb.busy = false ∧ (tStage .body 0).mb.busy = true) ∧
    ((tStage .body 0).mb.held.map (·.stage) = some .body) ∧
    (badBlock (tStage .quorum 0) { tHeld 0x0101 [] with stage := .quorum } [] = none ∧
      ruleFilled (tStage .quorum 1) { tHeld 0x0101 [] with stage := .quorum, cls := 1 } = false) ∧
    ((tStage .body 0).mb.rspValid = true ∧ (tStage .body 0).mb.rspTag = 7 ∧ (tStage .body 0).mb.rspTag ≠ 8) ∧
    (gateBusy (tStage .quorum 0) = false ∧ (tStage .quorum 0).mb.inner = none ∧
      badBlock { tStage .quorum 0 with mb.inner := some (tHeld 0x0501 []) } (tHeld 0x0501 []) [] = none) ∧
    (CmdTaken 0x0001 (tHeld 0x0001 []) (tCmd 0x0001 []) ∧ (drbg (tCmd 0x0001 []) 64).limit = false) ∧
    (CmdTaken 0x0002 (tHeld 0x0002 [1, 2]) (tCmd 0x0002 [1, 2]) ∧ [1, 2].length ≤ 3968 ∧ 3968 < (List.replicate 3969 (0 : Byte)).length) ∧
    CmdTaken 0x0003 (tHeld 0x0003 []) (tCmd 0x0003 []) ∧
    (CmdTaken 0x0004 (tHeld 0x0004 [0, 0, 0, 0, 0, 0, 0, 5]) (tCmd 0x0004 [0, 0, 0, 0, 0, 0, 0, 5]) ∧
      ((tStage .body 0).mb.longs.find? (fun l => decide (l.opId = be [0, 0, 0, 0, 0, 0, 0, 5] 0 8))).isSome = true ∧ tOp.mb.longs = []) ∧
    ((tStage .body 0).mb.longs.find? (fun l => decide (l.opId = 5 ∧ l.state = 0))).any (fun l => (longWork l none (tStage .body 0)).isSome) = true :=
  ⟨by decide, by decide, by decide, by decide, by decide, ⟨⟨rfl, rfl, rfl, rfl, .inl rfl, rfl, rfl⟩, by decide⟩, ⟨⟨rfl, rfl, rfl, rfl, .inl rfl, rfl, rfl⟩, by decide, by rw [List.length_replicate]; decide⟩, ⟨rfl, rfl, rfl, rfl, .inl rfl, rfl, rfl⟩, ⟨⟨rfl, rfl, rfl, rfl, .inl rfl, rfl, rfl⟩, by decide, by decide⟩, by decide⟩

/-- An acknowledgement of another tag posts 0x0101 (R396). -/
theorem test_wrongTag : (match exec (.mbRspAck 8) (tStage .body 0) with | .next t => (t.mb.busy, t.nq.queue.map (·.event)) | _ => (false, [])) =
    (true, [0x0101]) := by decide

/-! ### CredentialsAndRulesAreKept -/

/-- Credential 31 in a state, rules that nothing is needed for. -/
def tCred (code st : Nat) (p : List Byte) : State :=
  let s := tCmd code p
  { s with prov := { s.prov with creds := List.replicate 31 {} ++ [{ state := st }], rules := [] } }

/-- CRED_ENROL of credential 31 with a key of the length of algorithm 1. -/
def tEnrol : List Byte := [31, 1, 1, 0] ++ beBytes 2 (keyLen 1) ++ List.replicate 200 0

/-- The premises; a locked region. -/
theorem witness_credentialsAndRulesAreKept :
    (CmdTaken 0x0101 (tHeld 0x0101 tEnrol) (tCred 0x0101 0 tEnrol) ∧
      ((tCred 0x0101 0 tEnrol).prov.creds.getD (be tEnrol 0 1) {}).state = 0 ∧ ((tCred 0x0101 1 tEnrol).prov.creds.getD 31 {}).state ≠ 0) ∧
    (CmdTaken 0x0102 (tHeld 0x0102 [31]) (tCred 0x0102 1 [31]) ∧
      canSatisfy (tCred 0x0102 1 [31]).prov.rules (listMod (tCred 0x0102 1 [31]).prov.creds 31 (fun c => { c with state := 2 })) = true) ∧
    CmdTaken 0x0103 (tHeld 0x0103 []) (tCmd 0x0103 []) ∧ CmdTaken 0x0105 (tHeld 0x0105 []) (tCmd 0x0105 []) ∧
    CmdTaken 0x0106 (tHeld 0x0106 []) (tCmd 0x0106 []) ∧ CmdTaken 0x0104 (tHeld 0x0104 (List.replicate 128 0)) (tCmd 0x0104 (List.replicate 128 0)) ∧
    CmdTaken 0x0B01 (tHeld 0x0B01 (List.replicate 40 0)) (tCmd 0x0B01 (List.replicate 40 0)) ∧
    (CmdTaken 0x0B02 (tHeld 0x0B02 [59, 31, 1]) (tCmd 0x0B02 [59, 31, 1]) ∧ (tget {} (tCmd 0x0B02 []).fn.regions (32 * 59 + 31)).vlock = false) :=
  ⟨⟨⟨rfl, rfl, rfl, rfl, .inl rfl, rfl, rfl⟩, by decide, by decide⟩, ⟨⟨rfl, rfl, rfl, rfl, .inl rfl, rfl, rfl⟩, by decide⟩, ⟨rfl, rfl, rfl, rfl, .inl rfl, rfl, rfl⟩, ⟨rfl, rfl, rfl, rfl, .inl rfl, rfl, rfl⟩, ⟨rfl, rfl, rfl, rfl, .inl rfl, rfl, rfl⟩, ⟨rfl, rfl, rfl, rfl, .inl rfl, rfl, rfl⟩, ⟨rfl, rfl, rfl, rfl, .inl rfl, rfl, rfl⟩, ⟨⟨rfl, rfl, rfl, rfl, .inl rfl, rfl, rfl⟩, by decide⟩⟩

/-! ### PayloadsAreHeldToTheirLayouts -/

/-- A payload of zeros with some octets put in. -/
def tPay (n : Nat) (l : List (Nat × Nat)) : List Byte := l.foldl (fun p q => p.set q.1 (BitVec.ofNat 8 q.2)) (List.replicate n 0)

set_option maxRecDepth 4000 in
/-- The premises and both sides of the layouts, at the ends of their ranges (R81, R107, R337, R427, R553). -/
theorem witness_payloadsAreHeldToTheirLayouts :
    (payloadLen 0x0001 [1] = some 0 ∧ payloadCheck 0x0001 [1] = some (St.grateFormat, 64)) ∧
    (payloadCheck 0x0402 (tPay 8 [(7, 1)]) = some (St.grateFormat, 66) ∧ payloadCheck 0x0402 (tPay 8 [(0, 16)]) = some (St.grateRange, 64) ∧
      payloadCheck 0x0402 (tPay 8 [(0, 15), (1, 255)]) = none) ∧
    (payloadLayout 0x0405 (tPay 32 [(4, 16), (5, 18), (6, 1), (24, 7), (25, 255)]) = none ∧
      payloadLayout 0x0405 (tPay 32 [(4, 17), (5, 18), (6, 1)]) = some (St.grateRange, 68) ∧ payloadLayout 0x0405 (tPay 32 [(6, 16)]) = some (St.grateFormat, 70)) ∧
    (payloadLayout 0x0401 (tPay 16 [(6, 15), (7, 254), (12, 1)]) = none ∧ payloadLayout 0x0401 (tPay 16 [(7, 1)]) = some (St.grateFormat, 70)) ∧
    (payloadLayout 0x0904 (tPay 88 [(0, 1), (24, 1), (29, 3), (30, 255), (31, 255)]) = none ∧
      payloadLayout 0x0904 (tPay 88 [(0, 1), (24, 1), (29, 4)]) = some (St.grateRange, 92)) ∧
    (payloadLayout 0x0B01 (tPay 40 [(0, 59), (25, 16), (36, 0)]) = none ∧ payloadLayout 0x0B01 (tPay 40 [(23, 1)]) = some (St.grateFormat, 80)) ∧
    (payloadLayout 0x0C01 (tPay 8 [(0, 1), (1, 36)]) = none ∧ payloadLayout 0x0C01 (tPay 8 [(0, 1), (1, 37)]) = some (St.grateRange, 65)) ∧
    (bodyCheck { (tHeld 0x0402 []).frame with bodyLen := 1 } [] = some (St.lengthInvalid, 24)) :=
  ⟨by decide, by decide, by decide, by decide, by decide, by decide, by decide, by decide⟩

/-! ### LifeCycleChangesTakeTwoDecisions -/

/-- A module in a state with its record, holding a life-cycle command; slot 0 is valid or not. -/
def tLife (c : Lc) (code : Nat) (r : LcRec) (p : List Byte) : State :=
  let s := tWith code p (tIn c)
  let l := { s.lc with copyA := r, copyB := r, slotA := { valid := true }, slotB := { valid := true }, activation := some ⟨1, false, 0⟩ }
  { s with tick := 2 ^ 28, lc := l }

/-- A decision on the transition to OPERATIONAL, due. -/
def tDec (first : Bool) : State :=
  let l := { (tIn .provisioned).lc with decision := some ⟨.transition .operational, first, 4096⟩ }
  { tIn .provisioned with lc := l, prov := { isSealed := first } }

/-- The premises of the clauses. -/
theorem witness_lifeCycleChangesTakeTwoDecisions :
    (CmdTaken 0x0201 (tHeld 0x0201 [Lc.maintenance.code]) (tLife .operational 0x0201 (tRec .operational) [Lc.maintenance.code]) ∧
      Lc.ofCode (be [Lc.maintenance.code] 0 1) = some .maintenance ∧ listed .operational .maintenance = true ∧ listed .operational .shipped = false ∧
      mayChange (tLife .operational 0x0201 (tRec .operational) []) .maintenance = true) ∧
    (CmdTaken 0x0202 (tHeld 0x0202 []) (tLife .locked 0x0202 { tRec .locked with origin := some .operational } []) ∧
      activeL (tLife .locked 0x0202 { tRec .locked with origin := some .operational } []) = false ∧ (tRec .locked).origin = none) ∧
    (CmdTaken 0x0203 (tHeld 0x0203 [1]) (tLife .operational 0x0203 (tRec .operational) [1]) ∧ be [1] 0 1 ≠ (tRec .operational).activeSlot) ∧
    (CmdTaken 0x0204 (tHeld 0x0204 [1]) (tLife .operational 0x0204 (tRec .operational) [1]) ∧
      (fwSlot (tLife .operational 0x0204 (tRec .operational) [1]) 1).valid = true ∧ hasStandby (tLife .operational 0x0204 (tRec .operational) [1]) = true ∧
      (fwSlot tOp 1).valid = false) ∧
    CmdTaken 0x0205 (tHeld 0x0205 [0, 1, 1]) (tLife .operational 0x0205 (tRec .operational) [0, 1, 1]) ∧
    (CmdTaken 0x0206 (tHeld 0x0206 [0, 1, 1]) (tLife .operational 0x0206 (tRec .operational) [0, 1, 1]) ∧
      (drbg (tLife .operational 0x0206 (tRec .operational) [0, 1, 1]) 64).limit = false) ∧
    (let s := tLife .operational 0x0206 (tRec .operational) [0, 1, 1]
     let t : State := { s with rn := { s.rn with inst := [(64, { limit := true })] } }
     (drbg t 64).limit = true ∧ CmdTaken 0x0206 (tHeld 0x0206 [0, 1, 1]) t) ∧
    (CmdTaken 0x0207 (tHeld 0x0207 [0x0C, 0]) (tLife .operational 0x0207 (tRec .operational) [0x0C, 0]) ∧
      progNow (tLife .operational 0x0207 (tRec .operational) []) 0x0C00 = none) ∧
    ((tDec true).lc.decision = some ⟨.transition .operational, true, 4096⟩ ∧ 4096 ≤ (tDec true).tick ∧ noController (tDec true) = false ∧
      evalDecision (tDec true) (.transition .operational) = true ∧ evalDecision (tDec false) (.transition .operational) = false) ∧
    ((tLife .operational 0 { tRec .operational with trial := true } []).lc.activation = some ⟨1, false, 0⟩ ∧
      (lcRec (tLife .operational 0 { tRec .operational with trial := true } [])).trial = true ∧
      (tLife .operational 0 (tRec .operational) []).lc.trialStart + 2 ^ 28 ≤ (tLife .operational 0 (tRec .operational) []).tick) :=
  ⟨⟨⟨rfl, rfl, rfl, rfl, .inl rfl, rfl, rfl⟩, by decide, by decide, by decide, by decide⟩, ⟨⟨rfl, rfl, rfl, rfl, .inl rfl, rfl, rfl⟩, by decide, by decide⟩, ⟨⟨rfl, rfl, rfl, rfl, .inl rfl, rfl, rfl⟩, by decide⟩, ⟨⟨rfl, rfl, rfl, rfl, .inl rfl, rfl, rfl⟩, by decide, by decide, by decide⟩,
   ⟨rfl, rfl, rfl, rfl, .inl rfl, rfl, rfl⟩, ⟨⟨rfl, rfl, rfl, rfl, .inl rfl, rfl, rfl⟩, by decide⟩, ⟨rfl, ⟨rfl, rfl, rfl, rfl, .inl rfl, rfl, rfl⟩⟩, ⟨⟨rfl, rfl, rfl, rfl, .inl rfl, rfl, rfl⟩, by decide⟩, by decide, by decide⟩

/-! ### UsageIsKeptClosedAndStreamed -/

/-- A usage ring of 4,096 records on link 0, a checkpoint running, a tariff due. -/
def tUse (code : Nat) (p : List Byte) : State :=
  let s := tCmd code p
  { s with tick := 2 ^ 16, ac := { s.ac with
      ring := some ⟨0x1000, 12, 0, none⟩, wpos := 4095, rhead := 4090, mode := 1, intLog := 16, pending := some (2 ^ 16, [])
      run := some ⟨1, { tick := 5, interval := 0, cells := [] }, 5⟩ } }

/-- A close pinned in copy A with no cells. -/
def tClose : Close := { interval := 0, cause := 1, first := 0, last := 5, utcStart := 0, utcEnd := 0, cells := [] }
def tPinned : State := { tUse 0 [] with ac := { (tUse 0 []).ac with
  pinned := some 0, run := none, copyA := some { tick := 5, interval := 0, close := some tClose, cells := [] } } }

/-- AC_TARIFF_ARM at the least tick from tick 4096, and AC_RATE_LOAD of the last rate. -/
def tArm : List Byte := beBytes 8 (4096 + 2 ^ 20)
def tRate : List Byte := beBytes 4 983039 ++ beBytes 4 1 ++ [7]

/-- The premises of the clauses. -/
theorem witness_usageIsKeptClosedAndStreamed :
    CmdTaken 0x0C01 (tHeld 0x0C01 (List.replicate 8 0)) (tUse 0x0C01 (List.replicate 8 0)) ∧
    (CmdTaken 0x0C02 (tHeld 0x0C02 tRate) (tUse 0x0C02 tRate) ∧ be tRate 0 4 < 983040 ∧ 1 ≤ be tRate 4 4 ∧ be tRate 0 4 + be tRate 4 4 ≤ 983040) ∧
    (CmdTaken 0x0C03 (tHeld 0x0C03 tArm) (tCmd 0x0C03 tArm) ∧ (tCmd 0x0C03 tArm).tick + 2 ^ 20 ≤ be tArm 0 8 ∧ tOp.ac.pending = none ∧
      tOp.ac.held = none ∧ (tUse 0 []).ac.pending ≠ none) ∧
    CmdTaken 0x0C04 (tHeld 0x0C04 []) (tUse 0x0C04 []) ∧
    (CmdTaken 0x0C05 (tHeld 0x0C05 (List.replicate 16 0)) (tUse 0x0C05 (List.replicate 16 0)) ∧ bits (be (List.replicate 16 0) 12 4) 30 20 = 0) ∧
    CmdTaken 0x0C06 (tHeld 0x0C06 []) (tUse 0x0C06 []) ∧
    ((tUse 0 []).ac.ring = some ⟨0x1000, 12, 0, none⟩ ∧ (4095 + 2 ^ 12 - 4090) % 2 ^ 12 < (0 + 2 ^ 12 - 4090) % 2 ^ 12) ∧
    (boundaryDue (tUse 0 []) = some 1 ∧ (tUse 0 []).ac.pending = some (2 ^ 16, []) ∧ (tUse 0 []).lc.ready = true ∧
      ckptAllowed (tUse 0 []) = false ∧ ckptAllowed { tOp with tick := 2 ^ 16 } = true) ∧
    ((tUse 0 []).ac.run = some ⟨1, { tick := 5, interval := 0, cells := [] }, 5⟩ ∧
      5 + ckptTicks (tUse 0 []) ⟨1, { tick := 5, interval := 0, cells := [] }, 5⟩ ≤ 2 ^ 16) ∧
    (pinnedClose tPinned = some tClose ∧ linkOpen tPinned 0 = true ∧ uringFree tPinned ≠ 0 ∧
      min 1 (uringFree tPinned) = (closeCells tClose).length + 1 - tPinned.ac.streamed) :=
  ⟨⟨rfl, rfl, rfl, rfl, .inl rfl, rfl, rfl⟩, ⟨⟨rfl, rfl, rfl, rfl, .inl rfl, rfl, rfl⟩, by decide, by decide, by decide⟩, ⟨⟨rfl, rfl, rfl, rfl, .inl rfl, rfl, rfl⟩, by decide, by decide, by decide, by decide⟩, ⟨rfl, rfl, rfl, rfl, .inl rfl, rfl, rfl⟩, ⟨⟨rfl, rfl, rfl, rfl, .inl rfl, rfl, rfl⟩, by decide⟩, ⟨rfl, rfl, rfl, rfl, .inl rfl, rfl, rfl⟩, by decide,
   by decide, by decide, by decide⟩

/-- AC_RHEAD without a ring posts 0x1503 with the register's offset (R561). -/
theorem test_rheadWithoutRing : (match exec (.acRhead 5) tOp with | .next t => t.nq.queue.map (fun n => (n.event, n.argA)) | _ => []) =
    [(0x1503, 0xA030)] := by decide

/-! ### PowerGoesAndTheMonitorKeepsTime -/

/-- No power; power with the clock on its RC; power shed with a save due and one written. -/
theorem witness_powerGoesAndTheMonitorKeepsTime :
    (State.reset.pin.mainPower = false ∧ State.reset.tm.clockRc = false ∧ tOp.pin.mainPower = true ∧ tOp.pin.shedding = false) ∧
    (({ tOp with ac := { tOp.ac with lossTick := some 4091 } } : State).ac.lossTick = some 4091 ∧ 4091 + 5 ≤ tOp.tick ∧ tOp.ac.saving = none) ∧
    (({ tOp with pin := { mainPower := true, shedding := true } } : State).pin.shedding = true ∧ tOp.ac.lossTick = none) ∧
    (let t : State := { tOp with tick := 2 ^ 16, tm := { tOp.tm with clockRc := true } }
     t.tm.clockRc = true ∧ t.pin.mainPower = true ∧ t.tm.rcSince + 2 ^ 16 ≤ t.tick) ∧ State.reset.lc.stage = 0 := by decide

/-- The first period of the crystal adds 14 ticks, and 67,108,864 periods would add 10^9 (R26). -/
theorem test_crystal : (match exec .monitorCrystalPeriod State.reset with | .next t => (t.tick, t.tm.accFrac) | _ => (0, 0)) =
    (14, 10 ^ 9 - 14 * 2 ^ 26) := by decide

/-! ### TheModuleStartsInNineStages -/

/-- Under power after each stage; a state whose root is due and one where it is not; a slot that passes. -/
def tStart (n : Nat) : State := { tIn .shipped with lc := { (tIn .shipped).lc with stage := n, ready := false, aValid := true } }

/-- The premises of the stages. -/
theorem witness_theModuleStartsInNineStages :
    (∀ n < 9, (tStart n).pin.mainPower = true ∧ (tStart n).pin.shedding = false ∧ (tStart n).lc.startFail = none ∧ (tStart n).lc.stage = n) ∧
    (tStart 2).lc.aValid = true ∧ ((tStart 3).tm.emberLost = false ∧ ({ tStart 3 with tm := { (tStart 3).tm with ember := true } } : State).tm.ember = true ∧ emberDue (tStart 3) = true ∧ emberDue (tIn .zeroized) = false) ∧
    sourcesOn (tStart 4) ≠ 0 := by decide

/-- Both pairs failing their self-test fail the start with stage 2, cause 1 (R444). -/
theorem test_noPair : (match exec (.stage2SelftestEnd false false) (tStart 1) with | .next t => t.lc.startFail | _ => none) = some (2, 1) := by decide

/-! ### PairsStopTakeOverAndReturn -/

/-- HC-A stopped in a gap, HC-B standing by. -/
def tGap : State := { tOp with hc := { a := .stopped, b := .standby, active := none, gap := true, gapFrom := 1 } }

/-- The premises of the clauses. -/
theorem witness_pairsStopTakeOverAndReturn :
    pairRuns tOp 0 = true ∧ (1 = (if tGap.hc.a = .standby then 0 else 1) ∧ tGap.hc.gap = true ∧ pairState tGap 1 = .standby ∧ 4096 ≤ 4096) ∧
    (beatOverdue { tOp with hc := { tOp.hc with beat := some 0 } } 0 = true ∧ beatOverdue tOp 1 = true ∧
      fenceBlocks tOp tOp.tick ⟨59, 0, 1, 0, none⟩ 0x600 = some ⟨0, 0, 0, 0⟩) ∧
    (restarting (pairState tGap 0) = true ∧ 6 ≤ tGap.lc.stage ∧ tGap.lc.rollback = false) ∧ noPlanned tOp = true ∧
    (putsOff 6 tOp = false ∧ pairState tOp (1 - 0) = .standby ∧ putsOff 6 (tStage .running 0) = true ∧ tOp.tick < 4096 + 2 ^ 12) ∧
    (({ tOp with tick := 2 ^ 35 } : State).tick % 2 ^ 19 = 0 ∧ tOp.hc.active ≠ none ∧ tOp.lc.activation = none ∧ (lcRec tOp).trial = false) ∧
    (({ tOp with tick := 2 ^ 35 } : State).tick % 2 ^ 35 = 0 ∧ ({ tOp with hc := { tOp.hc with preferred := 1 } } : State).hc.active = some (1 - 1) ∧
      (lcRec { tOp with lc := { tOp.lc with copyA := { tRec .operational with trial := true } } }).trial = true) := by decide

/-- A standby in control after a gap of 100 cycles (R503). -/
theorem test_takeover : (match exec (.takeoverFirstCommand 100) tGap with | .next t => (t.hc.active, t.hc.lastGap) | _ => (none, 0)) =
    (some 1, 100) := by decide

/-! ### TheFireboxSensesAndDecides -/

/-- A firebox armed at a sample tick, a decision pending, a baseline collected. -/
def tFire (c : Nat) : State := { tOp with
  tick := 4000
  tm := { tOp.tm with
    arm := 1, pending := some ⟨⟨c, 3, 0, 5, true, 0, 4, 2, true⟩, 0, true, 4000⟩, collects := [(sensorKey 3 0, { count := 2 ^ 20, sum := 0 })], railsDue := some 4000 } }

/-- The premises of the clauses. -/
theorem witness_theFireboxSensesAndDecides :
    ((tFire 2).pin.mainPower = true ∧ (tFire 2).tick % 500 = 0 ∧ (tFire 2).tm.arm ≠ 0) ∧ State.reset.pin.mainPower = false ∧
    ((tFire 2).tm.pending.map (·.hit.cls) = some 2 ∧ (tFire 3).tm.pending.map (·.hit.cls) = some 3 ∧
      stillMet ⟨⟨2, 3, 0, 5, true, 0, 4, 2, true⟩, 0, true, 4000⟩ (tFire 2) = true ∧
      (recordHit ⟨2, 3, 0, 5, true, 0, 4, 2, true⟩ { tFire 2 with tm := { (tFire 2).tm with pending := none } }).pin.mainPower = true) ∧
    2 ^ 20 ≤ (tget {} (tFire 2).tm.collects (sensorKey 3 0)).count ∧ 2 ^ 18 - 1 = (2 ^ 20 - 1) % 2 ^ 18 ∧ 0 < mainSlots ∧
    ((tFire 2).tm.railsDue = some 4000 ∧ 4000 ≤ (tFire 2).tick) := by decide

/-! ### GroupFramesAreTakenOrDropped -/

/-- A flue port; this module member 0 in a role, member 1 beside it. -/
def tGp (role : Nat) : State := { tOp with
  tick := 2 ^ 17
  pt := { tOp.pt with ports := [(31, { role := 3, state := 3, links := [{ up := true }] })] }
  gp := { role, member := 0, groupId := 9, mgen := 2, manager := if role = 1 then 0 else 1, relay := some 1
          members := [(0, { state := 3, deputy := true }), (1, { state := 3, port := 31, identity := [7] })] } }

/-- A frame from member 1, fresh, of this generation, an older and a newer. -/
def tHead (g : Nat) : GpHead := ⟨1, 1, 0, 9, g, 64, 5, 100⟩

/-- It has received a frame of a type. -/
def tFramed (role type : Nat) (h : GpHead) : State :=
  let s := tGp role
  { s with gp := { s.gp with frames := [(31, 0, List.replicate 14 0 ++ h.bytes type)] } }

/-- A frame received is taken, once. -/
theorem witness_frameTaken : (takeFrame 31 0 0x10 (tHead 2) (tFramed 1 0x10 (tHead 2))).map (fun u => (u.gp.frames, u.gp.role)) = some ([], 1) ∧
    (takeFrame 31 0 0x11 (tHead 2) (tFramed 1 0x10 (tHead 2))).isNone = true ∧
    (takeFrame 31 0 0x41 (tHead 3) (tFramed 2 0x41 (tHead 3))).isSome = true := by decide

/-- The premises of the clauses, of the state after the frame is taken. -/
theorem witness_groupFramesAreTakenOrDropped :
    (headBad (tGp 1) (tHead 2) = false ∧ (tHead 2).mgen = (tGp 1).gp.mgen ∧ (tHead 2).dst = (tGp 1).gp.member ∧
      (member (tGp 1) 1).state ≠ 4 ∧ (heard (tHead 2) (tGp 1)).gp.role = 1 ∧ (heard (tHead 2) (tGp 1)).gp.relay = some 1 ∧
      (heard (tHead 2) (tGp 1)).mb.held = none ∧ heldDoubts (heard (tHead 2) (tGp 1)) 1 = []) ∧
    ((tHead 2).src = (tGp 2).gp.manager ∧ (tGp 2).gp.role ≠ 1 ∧ headBad (tGp 2) (tHead 2) = false) ∧
    ((heard (tHead 2) (tWith 0x0D08 [] (tGp 1))).mb.held.map (·.frame.code) = some 0x0D08) ∧
    (headBad (tGp 1) { tHead 2 with seq := 0 } = true ∧ headBad (tGp 1) (tHead 1) = false ∧ (tHead 1).mgen < (tGp 1).gp.mgen ∧
      headBad (tGp 1) (tHead 3) = false ∧ (tGp 1).gp.mgen < (tHead 3).mgen) := by decide

/-! ### GroupsAreFormedJoinedAndKept -/

/-- A group command held in a role; this member a deputy. -/
def tGpCmd (code role : Nat) (p : List Byte) : State := tWith code p (tGp role)

/-- GP_FORM at generation 1 and at generation 3 of group 9; GP_ADMIT of member 63 as a deputy on port 31, sub-port 7. -/
def tForm (g : Nat) : List Byte := beBytes 4 9 ++ [0, 0, 0, 0] ++ beBytes 4 g ++ List.replicate 12 0
def tAdmitP : List Byte := [63, 1, 31, 7] ++ List.replicate 52 0

/-- A joining module whose command runs. -/
def tJoining : State :=
  let s := tGpCmd 0x0D03 0 []
  { s with gp := { s.gp with rejoining := true, mgrDigest := [7] }, mb := { s.mb with held := s.mb.held.map (fun x => { x with stage := .running }) } }

/-- The premises of the clauses. -/
theorem witness_groupsAreFormedJoinedAndKept :
    (CmdTaken 0x0D01 (tHeld 0x0D01 (tForm 1)) (tGpCmd 0x0D01 0 (tForm 1)) ∧ be (tForm 1) 8 4 = 1 ∧ be (tForm 1) 16 8 = 0) ∧
    (CmdTaken 0x0D01 (tHeld 0x0D01 (tForm 3)) (tGpCmd 0x0D01 4 (tForm 3)) ∧ (member (tGp 4) (tGp 4).gp.member).deputy = true ∧
      be (tForm 3) 0 4 = (tGp 4).gp.groupId ∧ be (tForm 3) 4 1 = (tGp 4).gp.member ∧ be (tForm 3) 8 4 = (tGp 4).gp.mgen + 1) ∧
    (CmdTaken 0x0D02 (tHeld 0x0D02 tAdmitP) (tGpCmd 0x0D02 1 tAdmitP) ∧ be tAdmitP 1 1 ≤ 1 ∧ be tAdmitP 2 1 ≤ 31 ∧ be tAdmitP 3 1 ≤ 7 ∧
      (member (tGp 1) 63).state = 0 ∧ ((tGp 1).gp.members.filter (fun q => q.2.deputy)).length < 3) ∧
    (CmdTaken 0x0D04 (tHeld 0x0D04 [1]) (tGpCmd 0x0D04 1 [1]) ∧ (member (tGp 1) 1).state ≠ 0) ∧
    CmdTaken 0x0D05 (tHeld 0x0D05 [0, 5, 1]) (tGpCmd 0x0D05 1 [0, 5, 1]) ∧ CmdTaken 0x0D06 (tHeld 0x0D06 []) (tGpCmd 0x0D06 1 []) ∧
    CmdTaken 0x0D07 (tHeld 0x0D07 [0, 5]) (tGpCmd 0x0D07 1 [0, 5]) ∧
    (CmdTaken 0x0D08 (tHeld 0x0D08 [1]) (tGpCmd 0x0D08 1 [1]) ∧ relayBarred 0x0303 = false ∧ (member (tGp 1) 1).state = 3) ∧
    (CmdTaken 0x0D03 (tHeld 0x0D03 [0, 0, 0, 9, 31, 7]) (tGpCmd 0x0D03 5 [0, 0, 0, 9, 31, 7]) ∧ be [0, 0, 0, 9, 31, 7] 4 1 ≤ 31 ∧
      be [0, 0, 0, 9, 31, 7] 5 1 ≤ 7 ∧ (tGp 5).ks.recs = []) ∧
    (flueOk (tGp 1) 31 0 = true ∧ ((tGp 1).gp.members.find? (fun q => decide (q.1 ≠ (tGp 1).gp.member ∧ q.2.identity = [7] ∧ q.2.port = 31 ∧ q.2.subport = 0))).map (·.1) = some 1) ∧
    (tJoining.gp.rejoining = true ∧ (tHead 2).group = tJoining.gp.groupId ∧ joinFault tJoining [8] true 4 64 = some 1 ∧
      joinFault tJoining [7] true (lcState tJoining).code 64 = none ∧ joinFault tJoining [7] true (lcState tJoining).code 65 = some 4) :=
  ⟨⟨⟨rfl, rfl, rfl, rfl, .inl rfl, rfl, rfl⟩, by decide, by decide⟩, ⟨⟨rfl, rfl, rfl, rfl, .inl rfl, rfl, rfl⟩, by decide, by decide, by decide, by decide⟩,
   ⟨⟨rfl, rfl, rfl, rfl, .inl rfl, rfl, rfl⟩, by decide, by decide, by decide, by decide, by decide⟩, ⟨⟨rfl, rfl, rfl, rfl, .inl rfl, rfl, rfl⟩, by decide⟩, ⟨rfl, rfl, rfl, rfl, .inl rfl, rfl, rfl⟩, ⟨rfl, rfl, rfl, rfl, .inl rfl, rfl, rfl⟩, ⟨rfl, rfl, rfl, rfl, .inl rfl, rfl, rfl⟩, ⟨⟨rfl, rfl, rfl, rfl, .inl rfl, rfl, rfl⟩, by decide, by decide⟩,
   ⟨⟨rfl, rfl, rfl, rfl, .inl rfl, rfl, rfl⟩, by decide, by decide, by decide⟩, by decide, by decide⟩

/-! ### GroupsLoseAndPromoteMembers -/

/-- A manager whose member 1 resynchronises or is silent, a worker with a part, a doubt 2^32 ticks old. -/
def tLost (role st : Nat) : State :=
  let s := tGp role
  { s with
    tick := 2 ^ 33
    gp := { s.gp with members := [(0, { state := 3 }), (1, { state := st, port := 31 })], resync := true
                      doubts := [⟨0, 0, 1, 0, 0, 0, 0, 2, 5, {}⟩] }
    wk := { works := [(4, { src := .spread 5 6, sub := { func := 0x0101 } })] } }

/-- The premises of the clauses. -/
theorem witness_groupsLoseAndPromoteMembers :
    (1 ≤ (tLost 4 3).gp.role ∧ (tLost 4 3).gp.role ≤ 4 ∧ (tLost 4 3).tick % 1024 = 0 ∧ (tLost 4 3).gp.heartTick ≠ (tLost 4 3).tick) ∧
    ((member (tLost 1 2) 1).state = 2 ∧ (member (tLost 1 2) 1).goal ≤ (member (tLost 1 2) 1).ack ∧ (tLost 3 3).gp.inbox = [] ∧ (tLost 3 3).gp.resync = true ∧
      (tLost 3 3).gp.emptyDue = false) ∧
    (memberSilent (tLost 1 3) 1 = true ∧ 1 ≠ (tLost 1 3).gp.member) ∧ (tLost 2 3).gp.lastMgr + 2 ^ 16 ≤ (tLost 2 3).tick ∧
    ((tLost 2 3).wk.works = [(4, { src := .spread 5 6, sub := { func := 0x0101 } })] ∧ (tLost 2 3).gp.lastMgr + 2 ^ 12 ≤ (tLost 2 3).tick) ∧
    ((tLost 1 3).gp.doubts.find? (fun d => decide (d.res = 0 ∧ d.tick + 2 ^ 32 ≤ (tLost 1 3).tick))).isSome = true ∧
    ((tHead 3).ver = 1 ∧ (tHead 3).group = (tGp 2).gp.groupId ∧ (tGp 2).gp.mgen < (tHead 3).mgen ∧
      (tHead 3).dst = (tGp 2).gp.member ∧ (tHead 3).len ≤ 8192) := by decide

/-! ### DigestControlWritesOutOfOrder -/

/-- No bit, all four, and exactly one; an active unit and one that is not. -/
theorem witness_digestControlWritesOutOfOrder :
    (dgUnit (tDg { claimed := true, active := true, alg := 1 }) 7).claimed = true ∧ (dgUnit (tDg { claimed := true, active := true, alg := 1 }) 7).active = true ∧
    (dgUnit (tDg { claimed := true }) 7).active = false ∧ [bitOf 0 31, bitOf 0 30, bitOf 0 29, bitOf 0 28].count true ≠ 1 ∧
    [bitOf 0xF0000000 31, bitOf 0xF0000000 30, bitOf 0xF0000000 29, bitOf 0xF0000000 28].count true ≠ 1 ∧
    [bitOf 0x10000000 31, bitOf 0x10000000 30, bitOf 0x10000000 29, bitOf 0x10000000 28].count true = 1 := by decide

/-- The write of no action bit reaches the unit (R355). -/
theorem test_dgCtrlNone : (match exec (.registerWrite none (0x5100 + 0x1C0 * 7) 4 0) (tDg { claimed := true }) with
    | .next t => (dgUnit t 7).status | _ => 0) = St.digestSequence := by decide

/-! ### RulesThatCouldNotBeMetAreRefused -/

/-- A rule that one security officer meets, and the only one. -/
def tOnly (code : Nat) (p : List Byte) : State :=
  let s := tCred code 1 p
  { s with prov := { s.prov with creds := List.replicate 31 {} ++ [{ role := 1, state := 1 }], rules := [⟨1, 0, 0, 0⟩] } }

/-- The smallest lawful rules: one security officer for classes 1 to 3, two key custodians for class 5, two security officers else. -/
def tRules : List Byte := [0, 0, 0, 0] ++ (List.replicate 3 [1, 0, 0, 0]).flatten ++ [2, 0, 0, 0] ++ [0, 2, 0, 0] ++
  (List.replicate 7 [2, 0, 0, 0]).flatten ++ List.replicate 12 0

/-- Revoking it leaves the rule unmet; with no rule it may be revoked by itself. -/
theorem witness_rulesThatCouldNotBeMetAreRefused :
    (CmdTaken 0x0102 (tHeld 0x0102 [31]) (tOnly 0x0102 [31]) ∧ ((tOnly 0x0102 [31]).prov.creds.getD (be [31] 0 1) {}).state = 1 ∧
      canSatisfy (tOnly 0x0102 [31]).prov.rules (listMod (tOnly 0x0102 [31]).prov.creds 31 (fun c => { c with state := 2 })) = false ∧
      canSatisfy [] (listMod (tOnly 0x0102 [31]).prov.creds 31 (fun c => { c with state := 2 })) = true ∧ bitOf (2 ^ 31) (be [31] 0 1) = true) ∧
    (CmdTaken 0x0104 (tHeld 0x0104 tRules) (tCmd 0x0104 tRules) ∧ tOp.ks.cer = none ∧
      ((parseRules tRules).zipIdx).find? (fun q => !ruleShapeOk q.2 q.1) = none ∧ canSatisfy (parseRules tRules) tOp.prov.creds = false) :=
  ⟨⟨⟨rfl, rfl, rfl, rfl, .inl rfl, rfl, rfl⟩, by decide, by decide, by decide, by decide⟩, ⟨⟨rfl, rfl, rfl, rfl, .inl rfl, rfl, rfl⟩, by decide, by decide, by decide⟩⟩

/-! ### Well-formed and ill-formed commands -/

/-- Commands whose operands are in range are well formed. -/
theorem test_wellFormed0 : ([.counterReadClear none 0 1, .registerWrite none 0 1 0, .bar0AccessInvalid true 0 1 0,
    .qpSqTail 0 0 0, .qpCqHead 0 0 0, .qpCancel 0 0 0,
    .qpPoll 0 0, .submissionFetchDone 0 .error, .dmaReadTimeout .body,
    .cqWaitExpiry 0, .hostLinkUp 0 1 1, .hostLinkDown 0,
    .perstAssert 0, .perstDeassert 0, .functionLevelReset 0,
    .busMasterClear 0, .hostLinkError 0 true, .sliceFlushDone 0,
    .batchPartInputRead 0 0 .error, .engineStepEnd 0 {}, .retestEnd 0 true,
    .clLoadDone 0 true, .gatingDecision 0, .clusterWakeEnd 0] : List Instr).all Instr.wf = true := by decide

/-- Commands whose operands are in range are well formed. -/
theorem test_wellFormed1 : ([.limiterSecondDecision 0 true, .limiterLockoutEnd 0, .keyFetchDone 0 .good,
    .ksJhead 0, .holdDownExpiry 0, .migrationSegmentSwitch 0,
    .laneBeatMismatch 0, .laneReplayDone 0 0, .hostLaneMismatch 0 0,
    .hostLaneChunkEnd 0 .error none, .laneRetestStart 0, .laneRetestEnd 0 true,
    .spareKatFault 0, .laneRotationStart 0, .handoverEnd 0,
    .handoverRetestEnd 0, .macsecFrame 0 0 [], .macControlFrame 0 0 [],
    .arpRequest 0 0 [], .neighborSolicitation 0 0 [], .otherFrame 0 0 [],
    .tpcHello 0 0 [], .tpcRequest 0 0 [], .tpcReply 0 0 []] : List Instr).all Instr.wf = true := by decide

/-- Commands whose operands are in range are well formed. -/
theorem test_wellFormed2 : ([.tpcKeepalive 0 0 [], .tpcClose 0 0 [], .handshakeDone 0,
    .acceptTimeout 0, .sessionIdleTimeout 0, .dormantTimeout 0,
    .certExpiry 0, .resumeWindowEnd 0, .lossOfSignal 0 0,
    .lossOfAlignment 0 0, .remoteFault 0 0, .linkUp 0 0,
    .fecUncorrectable 0 0, .trainingEnd 0 0 true, .autoRetrainStart 0,
    .ptpSync 0 0 [] 0, .ptpFollowUp 0 0 [], .ptpDelayResp 0 0 [] 0,
    .ptpAnnounce 0 0 [], .ptpExchangeTimeout 0, .ptpLockLoss 0,
    .dgClaim 0, .dgRelease 0, .dgClaimComplete 0] : List Instr).all Instr.wf = true := by decide

/-- Commands whose operands are in range are well formed. -/
theorem test_wellFormed3 : ([.dgStart 0 0 true, .dgSealedKeyReady 0, .dgSave 0,
    .dgRestore 0, .dgAbort 0, .dgData 0 0,
    .dgLastCtl 0 0, .dgBlockDone 0, .dgMessageDone 0,
    .noiseSourceFail 0 0, .sourceRetest 0 true, .sourceWindowEnd 0 0 0,
    .pkUnitStep 0 true none, .mbRspAck 0, .longCommandEnd 0 none,
    .acRhead 0, .usageStream 1, .joinHello 0 0 0 (List.replicate 48 0) true true,
    .joinAccept 0 0 ⟨1, 0, 0, 0, 1, 0, 0, 0⟩ (List.replicate 48 0) true 0 0 true [], .heartbeat 0 0 ⟨1, 0, 0, 0, 1, 0, 0, 0⟩ 0 0 0 0 0, .control 0 0 ⟨1, 0, 0, 0, 1, 0, 0, 0⟩ [] 0 0,
    .controlResp 0 0 ⟨1, 0, 0, 0, 1, 0, 0, 0⟩ [], .repl 0 0 ⟨1, 0, 0, 0, 1, 0, 0, 0⟩ [], .replAck 0 0 ⟨1, 0, 0, 0, 1, 0, 0, 0⟩ 0 []] : List Instr).all Instr.wf = true := by decide

/-- Commands whose operands are in range are well formed. -/
theorem test_wellFormed4 : ([.lockout 0 0 ⟨1, 0, 0, 0, 1, 0, 0, 0⟩ 0 0, .partReq 0 0 ⟨1, 0, 0, 0, 1, 0, 0, 0⟩ [], .partResult 0 0 ⟨1, 0, 0, 0, 1, 0, 0, 0⟩ [],
    .partCancel 0 0 ⟨1, 0, 0, 0, 1, 0, 0, 0⟩ [], .partJournal 0 0 ⟨1, 0, 0, 0, 1, 0, 0, 0⟩ [], .promote 0 0 ⟨1, 0, 0, 0, 1, 0, 0, 0⟩ (tHeld 0x0D01 []).frame 0 [],
    .promoteAck 0 0 ⟨1, 0, 0, 0, 1, 0, 0, 0⟩, .resyncDone 0, .memberLost 0,
    .hcPairStop 0 1 none, .hcHeartbeatTimeout 0, .pairRestartDone 0 0,
    .stage5RandomReady (List.replicate 4 true) true, .stage8UnitsTested [] [] [] [], .cellSelectChange 0 0 0,
    .tmEvidSel 0, .evGo 0, .nqWmRearm 0,
    .nqWmCfg 0 0, .smbusReadByte 0 0 true, .smbusReadWord 0 0 true,
    .smbusBlockRead 0 0 true, .smbusDataWrite 0 0, .mbCmdSubmit 0] : List Instr).all Instr.wf = true := by decide

/-- Commands whose operands are in range are well formed. -/
theorem test_wellFormed5 : ([.tpcOtherType 0 0 [], .hostLinkRecovery 0 true] : List Instr).all Instr.wf = true := by decide

/-- Each check of an operand refuses the first value outside its range. -/
theorem test_illFormed0 : ([.counterReadClear none 33554432 1, .counterReadClear none 0 9, .counterReadClear none 0 0,
    .counterReadClear (some 2) 0 1, .registerWrite none 33554432 1 0, .registerWrite none 0 1 256,
    .registerWrite none 0 9 0, .registerWrite none 0 0 0, .registerWrite (some 2) 0 1 0,
    .bar0AccessInvalid true 33554432 1 0, .bar0AccessInvalid true 0 1 256, .bar0AccessInvalid true 0 9 0,
    .bar0AccessInvalid true 0 0 0, .qpSqTail 8192 0 0, .qpSqTail 0 2 0,
    .qpSqTail 0 0 4294967296, .qpCqHead 8192 0 0, .qpCqHead 0 2 0,
    .qpCqHead 0 0 4294967296, .qpCancel 8192 0 0, .qpCancel 0 2 0,
    .qpCancel 0 0 18446744073709551616, .qpPoll 8192 0, .qpPoll 0 2] : List Instr).all (fun i => !i.wf) = true := by decide

/-- Each check of an operand refuses the first value outside its range. -/
theorem test_illFormed1 : ([.submissionFetchDone 8192 .error, .dmaReadTimeout (.fetch 8192), .dmaReadTimeout (.flush 4096 0),
    .dmaReadTimeout (.flush 0 2), .cqWaitExpiry 8192, .hostLinkUp 2 1 1,
    .hostLinkUp 0 1 7, .hostLinkUp 0 1 0, .hostLinkUp 0 3 1,
    .hostLinkDown 2, .perstAssert 2, .perstDeassert 2,
    .functionLevelReset 3, .busMasterClear 2, .hostLinkError 2 true,
    .sliceFlushDone 4096, .batchPartInputRead 0 256 .error, .engineStepEnd 0 { diff := 2 ^ 33 },
    .engineStepEnd 0 { access := some ⟨80, 0, 1, 0, none⟩ }, .retestEnd 1024 true, .clLoadDone 64 true,
    .gatingDecision 64, .clusterWakeEnd 64, .limiterSecondDecision 134217730 true] : List Instr).all (fun i => !i.wf) = true := by decide

/-- Each check of an operand refuses the first value outside its range. -/
theorem test_illFormed2 : ([.limiterLockoutEnd 134217730, .keyFetchDone 134217728 .good, .ksJhead 4294967296,
    .holdDownExpiry 134217728, .migrationSegmentSwitch 128, .laneBeatMismatch 160,
    .laneReplayDone 160 0, .hostLaneMismatch 160 0, .hostLaneChunkEnd 0 .error (some ⟨80, 0, 1, 0, none⟩),
    .laneRetestStart 160, .laneRetestEnd 160 true, .spareKatFault 160,
    .laneRotationStart 2, .handoverEnd 2, .handoverRetestEnd 2,
    .macsecFrame 32 0 [], .macsecFrame 0 8 [], .macControlFrame 32 0 [],
    .macControlFrame 0 8 [], .arpRequest 32 0 [], .arpRequest 0 8 [],
    .neighborSolicitation 32 0 [], .neighborSolicitation 0 8 [], .otherFrame 32 0 []] : List Instr).all (fun i => !i.wf) = true := by decide

/-- Each check of an operand refuses the first value outside its range. -/
theorem test_illFormed3 : ([.otherFrame 0 8 [], .tpcHello 32 0 [], .tpcHello 0 8 [],
    .tpcRequest 32 0 [], .tpcRequest 0 8 [], .tpcReply 32 0 [],
    .tpcReply 0 8 [], .tpcKeepalive 32 0 [], .tpcKeepalive 0 8 [],
    .tpcClose 32 0 [], .tpcClose 0 8 [], .handshakeDone 262144,
    .acceptTimeout 262144, .sessionIdleTimeout 262144, .dormantTimeout 262144,
    .certExpiry 262144, .resumeWindowEnd 262144, .lossOfSignal 32 0,
    .lossOfSignal 0 8, .lossOfAlignment 32 0, .lossOfAlignment 0 8,
    .remoteFault 32 0, .remoteFault 0 8, .linkUp 32 0] : List Instr).all (fun i => !i.wf) = true := by decide

/-- Each check of an operand refuses the first value outside its range. -/
theorem test_illFormed4 : ([.linkUp 0 8, .fecUncorrectable 32 0, .fecUncorrectable 0 8,
    .trainingEnd 32 0 true, .trainingEnd 0 8 true, .autoRetrainStart 32,
    .ptpSync 32 0 [] 0, .ptpSync 0 8 [] 0, .ptpFollowUp 32 0 [], .ptpFollowUp 0 8 [], .ptpDelayResp 32 0 [] 0, .ptpDelayResp 0 8 [] 0,
    .ptpAnnounce 32 0 [], .ptpAnnounce 0 8 []] : List Instr).all (fun i => !i.wf) = true := by decide

/-- Each check of an operand refuses the first value outside its range. -/
theorem test_illFormed5 : ([.ptpExchangeTimeout 32, .ptpLockLoss 32,
    .dgClaim 8, .dgRelease 8, .dgClaimComplete 8,
    .dgStart 8 0 true, .dgStart 0 16 true, .dgSealedKeyReady 8,
    .dgSave 8, .dgRestore 8, .dgAbort 8,
    .dgData 8 0, .dgData 0 18446744073709551616, .dgLastCtl 8 0,
    .dgLastCtl 0 16, .dgBlockDone 8, .dgMessageDone 8,
    .noiseSourceFail 4 0, .noiseSourceFail 0 8, .sourceRetest 4 true,
    .sourceWindowEnd 4 0 0, .sourceWindowEnd 0 1048577 0, .sourceWindowEnd 0 0 1048577] : List Instr).all (fun i => !i.wf) = true := by decide

/-- Each check of an operand refuses the first value outside its range. -/
theorem test_illFormed6 : ([.pkUnitStep 64 true none, .pkUnitStep 0 true (some ⟨80, 0, 1, 0, none⟩), .pkUnitStep 0 true (some ⟨0, 18446744073709551616, 1, 0, none⟩),
    .pkUnitStep 0 true (some ⟨0, 0, 1, 3, none⟩), .mbRspAck 4294967296, .longCommandEnd 4294967296 none,
    .acRhead 4294967296, .usageStream 0, .joinHello 32 0 0 (List.replicate 48 0) true true,
    .joinHello 0 8 0 (List.replicate 48 0) true true, .joinHello 0 0 4294967296 (List.replicate 48 0) true true, .joinHello 0 0 0 [] true true,
    .joinAccept 32 0 ⟨1, 0, 0, 0, 1, 0, 0, 0⟩ (List.replicate 48 0) true 0 0 true [], .joinAccept 0 8 ⟨1, 0, 0, 0, 1, 0, 0, 0⟩ (List.replicate 48 0) true 0 0 true [], .joinAccept 0 0 ⟨1, 0, 0, 0, 1, 0, 0, 0⟩ [] true 0 0 true [],
    .joinAccept 0 0 ⟨1, 256, 0, 0, 1, 0, 0, 0⟩ (List.replicate 48 0) true 0 0 true [], .heartbeat 32 0 ⟨1, 0, 0, 0, 1, 0, 0, 0⟩ 0 0 0 0 0, .heartbeat 0 8 ⟨1, 0, 0, 0, 1, 0, 0, 0⟩ 0 0 0 0 0,
    .heartbeat 0 0 ⟨1, 256, 0, 0, 1, 0, 0, 0⟩ 0 0 0 0 0, .heartbeat 0 0 ⟨1, 0, 256, 0, 1, 0, 0, 0⟩ 0 0 0 0 0, .heartbeat 0 0 ⟨1, 0, 0, 4294967296, 1, 0, 0, 0⟩ 0 0 0 0 0,
    .heartbeat 0 0 ⟨1, 0, 0, 0, 4294967296, 0, 0, 0⟩ 0 0 0 0 0, .control 32 0 ⟨1, 0, 0, 0, 1, 0, 0, 0⟩ [] 0 0, .control 0 8 ⟨1, 0, 0, 0, 1, 0, 0, 0⟩ [] 0 0] : List Instr).all (fun i => !i.wf) = true := by decide

/-- Each check of an operand refuses the first value outside its range. -/
theorem test_illFormed7 : ([.control 0 0 ⟨1, 0, 0, 0, 1, 0, 0, 0⟩ [] 256 0, .control 0 0 ⟨1, 256, 0, 0, 1, 0, 0, 0⟩ [] 0 0, .controlResp 32 0 ⟨1, 0, 0, 0, 1, 0, 0, 0⟩ [],
    .controlResp 0 8 ⟨1, 0, 0, 0, 1, 0, 0, 0⟩ [], .controlResp 0 0 ⟨1, 256, 0, 0, 1, 0, 0, 0⟩ [], .repl 32 0 ⟨1, 0, 0, 0, 1, 0, 0, 0⟩ [],
    .repl 0 8 ⟨1, 0, 0, 0, 1, 0, 0, 0⟩ [], .repl 0 0 ⟨1, 256, 0, 0, 1, 0, 0, 0⟩ [], .replAck 32 0 ⟨1, 0, 0, 0, 1, 0, 0, 0⟩ 0 [],
    .replAck 0 8 ⟨1, 0, 0, 0, 1, 0, 0, 0⟩ 0 [], .replAck 0 0 ⟨1, 256, 0, 0, 1, 0, 0, 0⟩ 0 [], .lockout 32 0 ⟨1, 0, 0, 0, 1, 0, 0, 0⟩ 0 0,
    .lockout 0 8 ⟨1, 0, 0, 0, 1, 0, 0, 0⟩ 0 0, .lockout 0 0 ⟨1, 0, 0, 0, 1, 0, 0, 0⟩ 134217728 0, .lockout 0 0 ⟨1, 256, 0, 0, 1, 0, 0, 0⟩ 0 0,
    .partReq 32 0 ⟨1, 0, 0, 0, 1, 0, 0, 0⟩ [], .partReq 0 8 ⟨1, 0, 0, 0, 1, 0, 0, 0⟩ [], .partReq 0 0 ⟨1, 256, 0, 0, 1, 0, 0, 0⟩ [],
    .partResult 32 0 ⟨1, 0, 0, 0, 1, 0, 0, 0⟩ [], .partResult 0 8 ⟨1, 0, 0, 0, 1, 0, 0, 0⟩ [], .partResult 0 0 ⟨1, 256, 0, 0, 1, 0, 0, 0⟩ [],
    .partCancel 32 0 ⟨1, 0, 0, 0, 1, 0, 0, 0⟩ [], .partCancel 0 8 ⟨1, 0, 0, 0, 1, 0, 0, 0⟩ [], .partCancel 0 0 ⟨1, 256, 0, 0, 1, 0, 0, 0⟩ []] : List Instr).all (fun i => !i.wf) = true := by decide

/-- Each check of an operand refuses the first value outside its range. -/
theorem test_illFormed8 : ([.partJournal 32 0 ⟨1, 0, 0, 0, 1, 0, 0, 0⟩ [], .partJournal 0 8 ⟨1, 0, 0, 0, 1, 0, 0, 0⟩ [], .partJournal 0 0 ⟨1, 256, 0, 0, 1, 0, 0, 0⟩ [],
    .promote 32 0 ⟨1, 0, 0, 0, 1, 0, 0, 0⟩ (tHeld 0x0D01 []).frame 0 [], .promote 0 8 ⟨1, 0, 0, 0, 1, 0, 0, 0⟩ (tHeld 0x0D01 []).frame 0 [], .promote 0 0 ⟨1, 256, 0, 0, 1, 0, 0, 0⟩ (tHeld 0x0D01 []).frame 0 [],
    .promoteAck 32 0 ⟨1, 0, 0, 0, 1, 0, 0, 0⟩, .promoteAck 0 8 ⟨1, 0, 0, 0, 1, 0, 0, 0⟩, .promoteAck 0 0 ⟨1, 256, 0, 0, 1, 0, 0, 0⟩,
    .resyncDone 64, .memberLost 64, .hcPairStop 2 1 none,
    .hcPairStop 0 2 none, .hcPairStop 0 1 (some ⟨80, 0, 1, 0, none⟩), .hcHeartbeatTimeout 2,
    .pairRestartDone 2 0, .pairRestartDone 0 1, .stage5RandomReady [] true,
    .stage8UnitsTested [1024] [] [] [], .stage8UnitsTested [] [160] [] [], .stage8UnitsTested [] [] [64] [],
    .stage8UnitsTested [] [] [] [64], .cellSelectChange 0 0 4, .tmEvidSel 4294967296] : List Instr).all (fun i => !i.wf) = true := by decide

/-- Each check of an operand refuses the first value outside its range. -/
theorem test_illFormed9 : ([.evGo 4294967296, .nqWmRearm 16, .nqWmCfg 16 0,
    .nqWmCfg 0 4294967296, .smbusReadByte 128 0 true, .smbusReadByte 0 256 true,
    .smbusReadWord 128 0 true, .smbusReadWord 0 256 true, .smbusBlockRead 128 0 true,
    .smbusBlockRead 0 256 true, .smbusDataWrite 128 0, .smbusDataWrite 0 256,
    .mbCmdSubmit 4294967296, .tpcOtherType 32 0 [], .tpcOtherType 0 8 [],
    .hostLinkRecovery 2 true] : List Instr).all (fun i => !i.wf) = true := by decide

end Sys2Proof.Tests
end

section
/-!
PROOFS. Check 7 of a mailbox command.
-/
namespace Sys2Proof.Machine
open Sys2Proof

/-! ### Check 7 of a mailbox command (R403) -/

@[simp] theorem badFormat_eq_none {bad : Bool} {o : Nat} : badFormat bad o = none ↔ bad = false := by
  cases bad <;> simp [badFormat]

@[simp] theorem badRange_eq_none {bad : Bool} {o : Nat} : badRange bad o = none ↔ bad = false := by
  cases bad <;> simp [badRange]

/-- Check 7 answers GRATE_FORMAT at 64 for a payload of another length than its command has. -/
theorem payloadCheck_length {code n : Nat} {p : List Byte} (h : payloadLen code p = some n) (hn : n ≠ p.length) :
    payloadCheck code p = some (St.grateFormat, 64) := by
  simp [payloadCheck, h, hn]

/-- A payload whose length is in order. -/
def LengthOk (code : Nat) (p : List Byte) : Prop :=
  (∀ n, payloadLen code p = some n → n = p.length) ∧ payloadLeast code ≤ p.length

theorem lengthTest_of_lengthOk {code : Nat} {p : List Byte} (h : LengthOk code p) :
    ((payloadLen code p).any (fun n => decide (n ≠ p.length)) || decide (p.length < payloadLeast code)) = false := by
  obtain ⟨hlen, hleast⟩ := h
  cases hp : payloadLen code p with
  | none => simpa using hleast
  | some n => simpa [hlen n hp] using hleast

/-- With the length in order, the first reserved octet that is not zero decides. -/
theorem payloadCheck_reserved {code : Nat} {p : List Byte} (h : LengthOk code p) {r : Nat × Nat}
    (hr : (payloadRsv code).find? (fun r => !allZero (octets p r.1 r.2)) = some r) :
    payloadCheck code p = some (St.grateFormat, 64 + r.1) := by
  simp only [payloadCheck, lengthTest_of_lengthOk h, hr, Bool.false_eq_true, if_false]

theorem reserved_find_none {code : Nat} {p : List Byte} (h : ∀ r ∈ payloadRsv code, allZero (octets p r.1 r.2) = true) :
    (payloadRsv code).find? (fun r => !allZero (octets p r.1 r.2)) = none := by
  simpa [List.find?_eq_none] using h

/-- With length and reserved octets in order, the first field out of its range decides. -/
theorem payloadCheck_range {code : Nat} {p : List Byte} (h : LengthOk code p)
    (hz : ∀ r ∈ payloadRsv code, allZero (octets p r.1 r.2) = true) {r : Nat × Nat × Nat × Nat}
    (hr : (payloadRange code).find? (fun r => decide (be p r.1 r.2.1 < r.2.2.1) || decide (r.2.2.2 < be p r.1 r.2.1)) = some r) :
    payloadCheck code p = some (St.grateRange, 64 + r.1) := by
  simp only [payloadCheck, lengthTest_of_lengthOk h, reserved_find_none hz, hr, Bool.false_eq_true, if_false]

/-- With length, reserved octets and ranges in order, the layout of the command decides. -/
theorem payloadCheck_layout {code : Nat} {p : List Byte} (h : LengthOk code p)
    (hz : ∀ r ∈ payloadRsv code, allZero (octets p r.1 r.2) = true)
    (hr : ∀ r ∈ payloadRange code, r.2.2.1 ≤ be p r.1 r.2.1 ∧ be p r.1 r.2.1 ≤ r.2.2.2) :
    payloadCheck code p = payloadLayout code p := by
  have hfind : (payloadRange code).find? (fun r => decide (be p r.1 r.2.1 < r.2.2.1) || decide (r.2.2.2 < be p r.1 r.2.1)) = none := by
    rw [List.find?_eq_none]
    intro r hm
    obtain ⟨lo, hi⟩ := hr r hm
    simp [Nat.not_lt.mpr lo, Nat.not_lt.mpr hi]
  simp only [payloadCheck, lengthTest_of_lengthOk h, reserved_find_none hz, hfind, Bool.false_eq_true, if_false]

/-! What each layout lets through -/

theorem credLayout_eq_none (p : List Byte) :
    payloadLayout 0x0101 p = none ↔ be p 4 2 = if be p 2 1 = 1 then 97 else 1952 := by
  show badRange (decide (be p 4 2 ≠ keyLen (be p 2 1))) 4 = none ↔ _
  rw [badRange_eq_none, decide_eq_false_iff_not, Decidable.not_not, keyLen]

theorem qpLayout_eq_none (p : List Byte) : qpLayout p = none ↔ be p 6 1 < 16 ∧ (bitOf (be p 6 1) 0 = true →
    4 ≤ be p 4 1 ∧ be p 4 1 ≤ 16 ∧ 5 ≤ be p 5 1 ∧ be p 5 1 ≤ 18 ∧ (bitOf (be p 6 1) 1 = true ↔ be p 7 1 ≠ 0) ∧ be p 8 8 % 4096 = 0 ∧
    be p 16 8 % 4096 = 0 ∧ be p 24 2 ≤ 2047 ∧ be p 26 2 ≤ 4095 ∧ be p 28 2 ≤ 4095) := by
  cases he : bitOf (be p 6 1) 0 <;> cases ht : bitOf (be p 6 1) 1 <;> simp [qpLayout, he, ht, and_assoc]

theorem sliceLayout_eq_none (p : List Byte) : sliceLayout p = none ↔ be p 6 2 % 2 = 0 ∧ be p 6 2 < 4096 ∧ bits (be p 8 4) 30 20 = 0 ∧
    be p 12 1 ≤ 1 ∧ (be p 4 2 ≠ 0 → be p 2 2 + be p 4 2 ≤ 65536) := by
  have hdetok : be p 12 1 < 2 ↔ be p 12 1 ≤ 1 := Nat.lt_succ_iff
  simp [sliceLayout, and_assoc, hdetok]

theorem admitLayout_eq_none (p : List Byte) : admitLayout p = none ↔ 1 ≤ be p 12 1 ∧ be p 12 1 ≤ 64 ∧ be p 13 1 ≤ 16 ∧ be p 14 1 ≤ 1 ∧
    1 ≤ be p 16 2 ∧ be p 16 2 ≤ 16383 ∧ be p 20 4 ≤ 65536 := by
  simp [admitLayout, and_assoc]
  omega

theorem forall_lt_and {n : Nat} {P Q : Nat → Prop} : ((∀ j < n, P j) ∧ ∀ j < n, Q j) ↔ ∀ j < n, P j ∧ Q j :=
  ⟨fun ⟨hP, hQ⟩ j hj => ⟨hP j hj, hQ j hj⟩, fun h => ⟨fun j hj => (h j hj).1, fun j hj => (h j hj).2⟩⟩

theorem acctLayout_eq_none (p : List Byte) : acctLayout p = none ↔ ∀ j < be p 8 2, be p (18 + 24 * j) 2 = 0 ∧ be p (36 + 24 * j) 4 = 0 ∧
    be p (16 + 24 * j) 2 ≤ 4127 ∧ ∀ i < j, be p (16 + 24 * i) 2 ≠ be p (16 + 24 * j) 2 := by
  simp [acctLayout, List.findSome?_eq_none_iff, forall_lt_and, and_assoc]

theorem portLayout_eq_none (p : List Byte) : portLayout p = none ↔
    be p 13 1 < 8 ∧ (be p 1 1 = 2 → ∀ k < 2 ^ be p 2 1, be p (44 + 32 * k) 4 = 0) := by
  by_cases ht : be p 1 1 = 2 <;> simp [portLayout, ht, List.findSome?_eq_none_iff]

theorem saLayout_eq_none (p : List Byte) : saLayout p = none ↔
    be p 3 1 < 16 ∧ (be p 1 1 ≤ 2 → be p 12 4 = 0 ∧ allZero (octets p 24 12) = true) ∧
    be p 36 4 ≤ (if be p 0 1 = 0 then 2 ^ 30 - 1 else 0) ∧ be p 40 8 ≤ (if be p 1 1 ≤ 2 then 2 ^ 32 - 1 else 2 ^ 64 - 1) ∧
    (be p 0 1 = 1 → be p 40 8 ≠ 0) := by
  by_cases hs : be p 1 1 ≤ 2 <;> simp [saLayout, pnLast, hs, and_assoc]

theorem epLayout_eq_none (p : List Byte) : payloadLayout 0x0804 p = none ↔ be p 6 1 < 4 := by
  show badFormat (decide (4 ≤ be p 6 1)) 6 = none ↔ _
  rw [badFormat_eq_none, decide_eq_false_iff_not, Nat.not_le]

theorem routeLayout_eq_none (p : List Byte) (j : Nat) : routeLayout p j = none ↔ (let o := 8 + 80 * j
    be p (o + 4) 4 = 0 ∧ be p (o + 17) 1 < 8 ∧ be p (o + 19) 1 = 0 ∧ be p (o + 32) 16 = 0 ∧ be p o 4 < 2 ^ 20 ∧ be p (o + 16) 1 ≤ 3 ∧
    (bitOf (be p (o + 17) 1) 0 = true → be p (o + 17) 1 / 2 ≠ 3) ∧ (be p (o + 18) 1 = 0 ∨ (10 ≤ be p (o + 18) 1 ∧ be p (o + 18) 1 ≤ 20)) ∧
    be p (o + 20) 4 < 2 ^ 18 ∧ (be p (o + 16) 1 ≠ 1 → be p (o + 20) 4 = 0)) := by
  simp [routeLayout, Decidable.or_iff_not_imp_left]

theorem verdictLayout_eq_none (p : List Byte) (j : Nat) : verdictLayout p j = none ↔
    be p (18 + 32 * j) 2 = 0 ∧ be p (20 + 32 * j) 4 < 2 ^ 18 := by
  have hrsv : 8 + 32 * j + 10 = 18 + 32 * j := by omega
  have hep : 8 + 32 * j + 12 = 20 + 32 * j := by omega
  simp [verdictLayout, hrsv, hep]

theorem fenceLayout_eq_none (p : List Byte) : fenceLayout p = none ↔
    be p 16 8 % 128 = 0 ∧ bits (be p 24 8) 11 8 = 0 ∧ bits (be p 32 8) 63 56 = 0 ∧
    bits (be p 32 8) 31 21 = 0 ∧ be p 16 8 / 4096 ≤ be p 24 8 / 4096 ∧ (fenceRange (be p 0 1)).1 ≤ be p 16 8 / 4096 ∧
    be p 24 8 / 4096 ≤ (fenceRange (be p 0 1)).2 ∧ (be p 24 8 % 256 ≠ 0 → (be p 24 8 / 4096 - be p 16 8 / 4096 + 1) % 8 = 0) ∧
    bits (be p 32 8) 43 32 ≤ bits (be p 32 8) 55 44 := by
  simp [fenceLayout, and_assoc]

theorem acLayout_eq_none (p : List Byte) : acLayout p = none ↔ be p 2 2 = 0 ∧ be p 0 1 ≤ 2 ∧ (be p 0 1 = 1 → 16 ≤ be p 1 1 ∧ be p 1 1 ≤ 36) ∧
    (be p 0 1 = 2 → be p 4 4 ≠ 0 ∧ 86400 % be p 4 4 = 0) := by
  simp [acLayout]

/-- A body that fails its check is refused with the status and DETAIL of the check. -/
theorem takeBody_refused {h : Held} {body : List Byte} {st d : Nat} {s : State} (hb : bodyCheck h.frame body = some (st, d)) :
    takeBody h body s = respond st d 0 [] { s with mb.held := some h } := by
  simp [takeBody, hb]

/-- Settles O46: check 7 takes the payload's length, reserved octets, ranges and layout in this order, and each layout lets
through exactly the payloads of its row. -/
theorem payloadsAreHeldToTheirLayouts : Obligations.PayloadsAreHeldToTheirLayouts := by
  refine ⟨fun _ _ _ h hn => payloadCheck_length h hn, fun _ _ hlen hleast => ?_, credLayout_eq_none, qpLayout_eq_none,
    sliceLayout_eq_none, admitLayout_eq_none, acctLayout_eq_none, portLayout_eq_none, saLayout_eq_none, epLayout_eq_none,
    fun p => ?_, fun p => ?_, fenceLayout_eq_none, acLayout_eq_none, fun _ _ _ _ _ hb => takeBody_refused hb⟩
  · have h := And.intro hlen hleast
    exact ⟨fun _ hr => payloadCheck_reserved h hr,
      fun hz => ⟨fun _ hr => payloadCheck_range h hz hr, fun hr => payloadCheck_layout h hz hr⟩⟩
  · simp only [payloadLayout, List.findSome?_eq_none_iff, List.mem_range, routeLayout_eq_none]
  · simp only [payloadLayout, List.findSome?_eq_none_iff, List.mem_range, verdictLayout_eq_none]

end Sys2Proof.Machine
end

section
/-!
PROOFS. The accesses of BAR0 and BAR2.
-/
namespace Sys2Proof.Machine
open Sys2Proof

/-! ### Accesses of BAR0 and BAR2 (R11, R13, R37, R83) -/

/-- An access of PF0's window while host link 0 is down does not reach the module (R37). -/
theorem viaPf0_down {s : State} {r : Res} (h : s.hl.link0.up = false) : viaPf0 s r = .next s := by
  simp [viaPf0, noEvent, h]

/-- The reads that act of themselves: the notice pop, the low half of the tick count, the random words. -/
def ActingRead (o size : Nat) : Prop := (o = 0x3000 ∧ size = 8) ∨ (o = 0x4000 ∧ size = 4) ∨ o = 0x6000 ∨ o = 0x6004

/-- A read of BAR0 that does not act of itself. -/
theorem readBar0_plain {o size : Nat} {s : State} (h : ¬ActingRead o size) : readBar0 o size s = .next (plainRead o size s) := by
  simp only [ActingRead, not_or] at h
  obtain ⟨hnq, htk, hlo, hhi⟩ := h
  simp only [readBar0, hnq, htk, hlo, hhi, false_and, or_self, if_false]

theorem plainRead_some {o size v : Nat} {s : State} (h : regRead s o size = some v) :
    plainRead o size s = usedFree ((if exitWindow o then send else emit) (.readData o v) (afterRead o s)) := by
  simp [plainRead, h]

theorem plainRead_none {o size : Nat} {s : State} (h : regRead s o size = none) : plainRead o size s = badRead o size s := by
  simp [plainRead, h]

theorem exec_counterReadClear_bar0 {o size : Nat} {s : State} (up : s.hl.link0.up = true) (h : ¬ActingRead o size) :
    exec (.counterReadClear none o size) s = .next (plainRead o size s) :=
  (viaPf0_up up).trans (readBar0_plain h)

theorem exec_bar0AccessInvalid_read {o size v : Nat} {s : State} (up : s.hl.link0.up = true) (h : ¬ActingRead o size) :
    exec (.bar0AccessInvalid false o size v) s = .next (plainRead o size s) :=
  (viaPf0_up up).trans (readBar0_plain h)

theorem exec_registerWrite_bar0 {o size v : Nat} {s : State} (up : s.hl.link0.up = true) :
    exec (.registerWrite none o size v) s = writeBar0 o size v s := viaPf0_up up

theorem exec_bar0AccessInvalid_write {o size v : Nat} {s : State} (up : s.hl.link0.up = true) :
    exec (.bar0AccessInvalid true o size v) s = writeBar0 o size v s := viaPf0_up up

/-- What a read clears, for a counter of each window that has one. -/
theorem afterRead_clears (s : State) : afterRead 0xA038 s = { s with ac.heldCnt := 0 } ∧ afterRead 0x3024 s = { s with nq.nLost := 0 } ∧
    afterRead 0x8010 s = { s with tm.nCount := 0 } ∧ afterRead 0x40020 s = { s with tr.lost := 0 } ∧
    afterRead 0x28 s = modLink 0 (fun l => { l with corr := 0 }) s ∧ afterRead 0x0 s = s :=
  ⟨rfl, rfl, rfl, rfl, rfl, rfl⟩

/-- A write of the width of the register that stands at its offset, outside the two buffers, is that register's. -/
theorem writeBar0_register {o v : Nat} {s : State} {x : Nat} (hc : inBuf 0x1000 o 4 = false) (hr : inBuf 0x2000 o 4 = false)
    (ha : sizeOk o 4 = true) (hx : regAt s o = some (4, x)) (hv : v < 2 ^ 32) : writeBar0 o 4 v s = writeReg o v s := by
  have hmod : v % 2 ^ (8 * 4) = v := Nat.mod_eq_of_lt hv
  simp only [writeBar0, hmod, hc, hr, ha, hx, Bool.not_true, Bool.false_eq_true, if_false, if_true]

theorem inBuf_of_mem {base o : Nat} (ha : o % 4 = 0) (lo : base ≤ o) (hi : o + 4 ≤ base + 4032) : inBuf base o 4 = true := by
  simp [inBuf, sizeOk, ha, lo, hi]

theorem inBuf_of_sizeOk_false {base o size : Nat} (h : sizeOk o size = false) : inBuf base o size = false := by
  simp [inBuf, h]

/-- A write into the command buffer (R396). -/
theorem writeBar0_cmdBuf {o v : Nat} {s : State} (ha : o % 4 = 0) (lo : 0x1000 ≤ o) (hi : o + 4 ≤ 0x1000 + 4032) :
    writeBar0 o 4 v s = .next (writeCmdBuf o 4 (v % 2 ^ 32) s) := by
  simp [writeBar0, inBuf_of_mem ha lo hi]

/-- A write into the response buffer is ignored. -/
theorem writeBar0_rspBuf {o v : Nat} {s : State} (ha : o % 4 = 0) (lo : 0x2000 ≤ o) (hi : o + 4 ≤ 0x2000 + 4032) :
    writeBar0 o 4 v s = .next s := by
  have hc : inBuf 0x1000 o 4 = false := by
    simp only [inBuf, Bool.and_eq_false_iff, decide_eq_false_iff_not]
    omega
  simp [writeBar0, hc, inBuf_of_mem ha lo hi]

theorem writeCmdBuf_busy {o size v : Nat} {s : State} (h : s.mb.busy = true) : writeCmdBuf o size v s = { s with mb.bufDrop := true } := by
  simp [writeCmdBuf, h]

/-- A write of a width or alignment that no register takes changes only the notices (R13). -/
theorem writeBar0_misaligned {o size v : Nat} {s : State} (h : sizeOk o size = false) : writeBar0 o size v s = .next (bar0Notice o s) := by
  simp [writeBar0, inBuf_of_sizeOk_false h, h, badWrite]

/-- A read of a doorbell page through the link that is not the queue pair's own returns ones (R83). -/
theorem readBar2_otherLink {n l o size : Nat} {s : State} (hn : n < 8192) (ho : o < 4096) (hl : l ≠ (qp s n).link) :
    readBar2 l (4096 * n + o) size s =
      .next (emit (.readData (4096 * n + o) (2 ^ (32 * max 1 (size / 4)) - 1)) (doorbellNotice 0x0901 n l s)) := by
  have hpage : (4096 * n + o) / 4096 = n := by omega
  simp [readBar2, hpage, hl, Nat.not_le.mpr hn]

/-- While host link 0 is down none of the commands that access BAR0 changes anything (R37). -/
theorem bar0_unreached {s : State} (down : s.hl.link0.up = false) (o size v : Nat) (w : Bool) :
    ∀ c ∈ [Instr.counterReadClear none o size, .registerWrite none o size v, .bar0AccessInvalid w o size v, .mbCmdSubmit v,
           .mbRspAck v, .evSnapTake, .evGo v, .rnData, .tmEvidSel v, .ksJhead v, .acRhead v], exec c s = .next s := by
  simp only [List.forall_mem_cons]
  exact ⟨viaPf0_down down, viaPf0_down down, viaPf0_down down, viaPf0_down down, viaPf0_down down, viaPf0_down down,
    viaPf0_down down, viaPf0_down down, viaPf0_down down, viaPf0_down down, viaPf0_down down, by simp⟩

/-- Settles O26: a read is `plainRead` where it does not act of itself, a write is `writeBar0`, and both reach the module through
host link 0 alone. -/
theorem registersAreReadAndWritten : Obligations.RegistersAreReadAndWritten := by
  refine ⟨fun o size v s up hv hnq htk hlo hhi => ?_, fun o size v s up hv hnq htk hlo hhi => ?_, afterRead_clears,
    fun v s up hv => ?_, fun o v s up ha lo hi => ?_, fun o size v s up h => ?_,
    fun o size v w s down => bar0_unreached down o size v w, fun n l o size s hn ho hl => readBar2_otherLink hn ho hl⟩
  · have hplain : ¬ActingRead o size := by simp [ActingRead, hnq, htk, hlo, hhi]
    rw [exec_counterReadClear_bar0 up hplain, plainRead_some hv]
  · have hplain : ¬ActingRead o size := by simp [ActingRead, hnq, htk, hlo, hhi]
    rw [exec_counterReadClear_bar0 up hplain, exec_bar0AccessInvalid_read up hplain, plainRead_none hv]
    exact ⟨rfl, rfl⟩
  · simp only [exec_registerWrite_bar0 up]
    exact ⟨writeBar0_register (by decide) (by decide) (by decide) rfl hv, writeBar0_register (by decide) (by decide) (by decide) rfl hv,
      writeBar0_register (by decide) (by decide) (by decide) rfl hv, writeBar0_register (by decide) (by decide) (by decide) rfl hv,
      writeBar0_register (by decide) (by decide) (by decide) rfl hv⟩
  · simp only [exec_registerWrite_bar0 up, writeBar0_cmdBuf ha lo hi]
    exact ⟨fun busy => by rw [writeCmdBuf_busy busy], fun _ => trivial, writeBar0_rspBuf (by omega) (by omega) (by omega)⟩
  · rw [exec_registerWrite_bar0 up, exec_bar0AccessInvalid_write up, writeBar0_misaligned h]
    exact ⟨rfl, rfl⟩

end Sys2Proof.Machine
end

section
/-!
PROOFS. The frame of time: which commands change the tick count (R6, R26, R458), and that nothing else in the model does. Every
operation on the state gets one lemma, in the order of the model's files: it leaves the tick count and the queue of waiting commands as
they are. The commands that a passing of time stands behind are SAMPLE_POINT, MONITOR_CRYSTAL_PERIOD, STAGE1_BELLOWS_LOCKED and
SUPPLY_EXHAUSTED.
-/
namespace Sys2Proof.Machine
open Sys2Proof

/-! ### The shapes the meanings are written in -/

section
variable {α β δ σ : Type} {s t : State} {P : State → Prop}

/-- `t` has the tick count and the waiting commands of `s`. -/
def SameClock (s t : State) : Prop := t.tick = s.tick ∧ t.pending = s.pending

@[simp] theorem sameClock_iff : SameClock s t ↔ t.tick = s.tick ∧ t.pending = s.pending := Iff.rfl

theorem SameClock.trans {u : State} (h : SameClock s t) (k : SameClock t u) : SameClock s u := ⟨k.1.trans h.1, k.2.trans h.2⟩

@[simp] theorem ite_clock {c : Prop} [Decidable c] {a b : State} : (if c then a else b).tick = (if c then a.tick else b.tick) ∧
    (if c then a else b).pending = (if c then a.pending else b.pending) := by
  split <;> exact ⟨rfl, rfl⟩

@[simp] theorem ite_fst_clock {c : Prop} [Decidable c] {a b : State × β} : (if c then a else b).1.tick = (if c then a.1.tick else b.1.tick) ∧
    (if c then a else b).1.pending = (if c then a.1.pending else b.1.pending) := by
  split <;> exact ⟨rfl, rfl⟩

@[simp] theorem ite_snd_clock {c : Prop} [Decidable c] {a b : β × State} : (if c then a else b).2.tick = (if c then a.2.tick else b.2.tick) ∧
    (if c then a else b).2.pending = (if c then a.2.pending else b.2.pending) := by
  split <;> exact ⟨rfl, rfl⟩

@[simp] theorem elim_clock {o : Option α} {f : α → State} (h : ∀ a, SameClock s (f a)) :
    (o.elim s f).tick = s.tick ∧ (o.elim s f).pending = s.pending := by
  cases o with
  | none => exact ⟨rfl, rfl⟩
  | some a => exact h a

theorem getD_clock {o : Option State} (h : ∀ u, o = some u → SameClock s u) (hd : SameClock s t) : SameClock s (o.getD t) := by
  cases o with
  | none => exact hd
  | some u => exact h u rfl

/-- What every step of a fold leaves alone, the fold does. -/
theorem foldl_same (g : σ → δ) {f : σ → α → σ} (h : ∀ x a, g (f x a) = g x) : ∀ (l : List α) (x : σ), g (l.foldl f x) = g x
  | [], _ => rfl
  | a :: l, x => (foldl_same g h l (f x a)).trans (h x a)

@[simp] theorem foldl_clock {f : State → α → State} (h : ∀ s a, SameClock s (f s a)) (l : List α) (s : State) :
    (l.foldl f s).tick = s.tick ∧ (l.foldl f s).pending = s.pending :=
  ⟨foldl_same (·.tick) (fun s a => (h s a).1) l s, foldl_same (·.pending) (fun s a => (h s a).2) l s⟩

@[simp] theorem foldl_fst_clock {f : State × β → α → State × β} (h : ∀ q a, SameClock q.1 (f q a).1) (l : List α) (q : State × β) :
    (l.foldl f q).1.tick = q.1.tick ∧ (l.foldl f q).1.pending = q.1.pending :=
  ⟨foldl_same (·.1.tick) (fun q a => (h q a).1) l q, foldl_same (·.1.pending) (fun q a => (h q a).2) l q⟩

@[simp] theorem foldl_snd_clock {f : β × State → α → β × State} (h : ∀ q a, SameClock q.2 (f q a).2) (l : List α) (q : β × State) :
    (l.foldl f q).2.tick = q.2.tick ∧ (l.foldl f q).2.pending = q.2.pending :=
  ⟨foldl_same (·.2.tick) (fun q a => (h q a).1) l q, foldl_same (·.2.pending) (fun q a => (h q a).2) l q⟩

@[simp] theorem resKeeps_ite {c : Prop} [Decidable c] {a b : Res} :
    ResKeeps P (if c then a else b) ↔ if c then ResKeeps P a else ResKeeps P b := by
  split <;> rfl

@[simp] theorem resKeeps_whenOk {c : Bool} : ResKeeps P (whenOk c s t) ↔ if c then P t else P s := by
  unfold whenOk
  split <;> simp

@[simp] theorem resKeeps_viaPf0 {r : Res} : ResKeeps P (viaPf0 s r) ↔ if s.hl.link0.up then ResKeeps P r else P s := by
  unfold viaPf0
  split <;> simp

end

/-! ### Machine/Ops -/

@[simp] theorem raiseMsix_clock {put : Output → State → State} (hput : ∀ o s, SameClock s (put o s)) (fn : Nat)
    (pasid : Option Nat) (vec : Nat) (s : State) :
    (raiseMsix put fn pasid vec s).tick = s.tick ∧ (raiseMsix put fn pasid vec s).pending = s.pending := by
  unfold raiseMsix
  dsimp only
  split
  · exact ⟨rfl, rfl⟩
  · exact hput _ _

@[simp] theorem readHost_clock (link : Nat) (pasid : Option Nat) (addr len : Nat) (s : State) :
    (readHost link pasid addr len s).tick = s.tick ∧ (readHost link pasid addr len s).pending = s.pending := by simp [readHost]

@[simp] theorem writeHost_clock (link : Nat) (pasid : Option Nat) (relaxed : Bool) (addr : Nat) (d : List Byte) (s : State) :
    (writeHost link pasid relaxed addr d s).tick = s.tick ∧ (writeHost link pasid relaxed addr d s).pending = s.pending := by
  simp [writeHost]

/-! ### Machine/Records -/

@[simp] theorem programRec_clock (r : Rec) (s : State) : (programRec r s).tick = s.tick ∧ (programRec r s).pending = s.pending := by
  unfold programRec
  dsimp only
  (repeat' split) <;> simp

@[simp] theorem execRecordFlush_clock (seq : Nat) (s : State) : ResKeeps (SameClock s) (execRecordFlush seq s) := by
  unfold execRecordFlush
  split <;> simp

@[simp] theorem execRecordCloseTimeout_clock (seq : Nat) (s : State) : ResKeeps (SameClock s) (execRecordCloseTimeout seq s) := by
  unfold execRecordCloseTimeout
  split <;> simp

@[simp] theorem execRecordStagingRoom_clock (s : State) : ResKeeps (SameClock s) (execRecordStagingRoom s) := by
  simp [execRecordStagingRoom]

@[simp] theorem refreshRegime_clock (s : State) : (refreshRegime s).tick = s.tick ∧ (refreshRegime s).pending = s.pending := by
  simp [refreshRegime]

@[simp] theorem execEvSnapTake_clock (s : State) : ResKeeps (SameClock s) (execEvSnapTake s) := by simp [execEvSnapTake]

@[simp] theorem execEvGo_clock (value : Nat) (s : State) : ResKeeps (SameClock s) (execEvGo value s) := by simp [execEvGo]

@[simp] theorem execNqPop_clock (s : State) : ResKeeps (SameClock s) (execNqPop s) := by
  unfold execNqPop
  split <;> simp

/-! ### Machine/Evidence -/

@[simp] theorem evidProgram_clock (e : Evid) (s : State) : (evidProgram e s).tick = s.tick ∧ (evidProgram e s).pending = s.pending := by
  simp [evidProgram]

@[simp] theorem evidAppend_clock (e : Evid) (s : State) : (evidAppend e s).tick = s.tick ∧ (evidAppend e s).pending = s.pending := by
  simp [evidAppend]

@[simp] theorem tmLast_clock (cls source inst : Nat) (split : Bool) (s : State) :
    (tmLast cls source inst split s).tick = s.tick ∧ (tmLast cls source inst split s).pending = s.pending := by simp [tmLast]

@[simp] theorem tamperReport_clock (cls : Nat) (split : Bool) (seq : Nat) (s : State) :
    (tamperReport cls split seq s).tick = s.tick ∧ (tamperReport cls split seq s).pending = s.pending := by simp [tamperReport]

/-! ### Machine/KeyStore -/

@[simp] theorem bump_clock (level child : Nat) (s : State) :
    (bump level child s).2.tick = s.tick ∧ (bump level child s).2.pending = s.pending := by simp [bump]

@[simp] theorem bumpTree_clock (i : Nat) (s : State) : (bumpTree i s).2.tick = s.tick ∧ (bumpTree i s).2.pending = s.pending := by
  simp [bumpTree]

@[simp] theorem journal_clock (tick kind nrec fmt index : Nat) (payload : List Byte) (s : State) :
    (journal tick kind nrec fmt index payload s).tick = s.tick ∧ (journal tick kind nrec fmt index payload s).pending = s.pending := by
  simp [journal]

@[simp] theorem writeSlot_clock (changeSeq : Nat) (chain : List Byte) (s : State) :
    (writeSlot changeSeq chain s).tick = s.tick ∧ (writeSlot changeSeq chain s).pending = s.pending := by simp [writeSlot]

@[simp] theorem emptyStore_clock (s : State) : (emptyStore s).tick = s.tick ∧ (emptyStore s).pending = s.pending := by simp [emptyStore]

@[simp] theorem loseStore_clock (s : State) : (loseStore s).tick = s.tick ∧ (loseStore s).pending = s.pending := by simp [loseStore]

/-! ### Machine/Exits -/

@[simp] theorem lanesStopPoint_clock (s : State) : (lanesStopPoint s).tick = s.tick ∧ (lanesStopPoint s).pending = s.pending := by
  simp [lanesStopPoint]

@[simp] theorem laneTakes_clock (c : Nat) : ∀ (l : List Nat) (s : State),
    (laneTakes c l s).2.tick = s.tick ∧ (laneTakes c l s).2.pending = s.pending
  | [], _ => ⟨rfl, rfl⟩
  | n :: l, s => by simp [laneTakes, laneTakes_clock c l]

@[simp] theorem laneOut_clock (p sub inB bytes : Nat) (o : Output) (m : Option OutMsg) (s : State) :
    (laneOut p sub inB bytes o m s).tick = s.tick ∧ (laneOut p sub inB bytes o m s).pending = s.pending := by
  unfold laneOut
  dsimp only
  (repeat' split) <;> simp

/-! ### Machine/GroupBase -/

@[simp] theorem joinFrame_clock (m type : Nat) (payload : List Byte) (s : State) :
    (joinFrame m type payload s).tick = s.tick ∧ (joinFrame m type payload s).pending = s.pending := by simp [joinFrame]

@[simp] theorem drawIdentity_clock (s : State) : (drawIdentity s).tick = s.tick ∧ (drawIdentity s).pending = s.pending := by
  unfold drawIdentity
  split <;> simp

@[simp] theorem sendHello_clock (restarted : Bool) (s : State) :
    (sendHello restarted s).tick = s.tick ∧ (sendHello restarted s).pending = s.pending := by simp [sendHello]

@[simp] theorem sendLockout_clock (i until_ : Nat) (s : State) :
    (sendLockout i until_ s).tick = s.tick ∧ (sendLockout i until_ s).pending = s.pending := by simp [sendLockout]

@[simp] theorem sendStop_clock (m b idx mode : Nat) (s : State) :
    (sendStop m b idx mode s).tick = s.tick ∧ (sendStop m b idx mode s).pending = s.pending := by simp [sendStop]

@[simp] theorem dropAway_clock (b idx : Nat) (s : State) :
    (dropAway b idx s).tick = s.tick ∧ (dropAway b idx s).pending = s.pending := by simp [dropAway]

/-! ### Machine/UnitBase -/

@[simp] theorem scorePk_clock (u : Nat) (s : State) : (scorePk u s).tick = s.tick ∧ (scorePk u s).pending = s.pending := by simp [scorePk]

@[simp] theorem giveCtl_clock (u : Nat) (c : PkCtl) (s : State) :
    (giveCtl u c s).tick = s.tick ∧ (giveCtl u c s).pending = s.pending := by simp [giveCtl]

@[simp] theorem giveBlock_clock (b : SigBlock) (s : State) : (giveBlock b s).tick = s.tick ∧ (giveBlock b s).pending = s.pending := by
  unfold giveBlock
  split <;> simp

/-! ### Machine/Mailbox -/

@[simp] theorem respondAt_clock (k : Nat) (payload : List Byte) (s : State) :
    (respondAt k payload s).tick = s.tick ∧ (respondAt k payload s).pending = s.pending := by simp [respondAt]

@[simp] theorem answerPoint_clock (s : State) : (answerPoint s).tick = s.tick ∧ (answerPoint s).pending = s.pending := by
  unfold answerPoint
  split <;> simp

@[simp] theorem gateEntry_clock (h : Held) (s : State) :
    (gateEntry h s).2.2.tick = s.tick ∧ (gateEntry h s).2.2.pending = s.pending := by
  unfold gateEntry
  dsimp only
  (repeat' split) <;> simp

@[simp] theorem giveBlocks_clock (f : Frame) (s : State) : (giveBlocks f s).tick = s.tick ∧ (giveBlocks f s).pending = s.pending := by
  simp [giveBlocks]

theorem clock_of_gateEntry {h k : Held} {s t : State} {o : Option (Nat × Nat)} (hq : gateEntry h s = (o, k, t)) : SameClock s t := by
  have hgate := gateEntry_clock h s
  rwa [hq] at hgate

@[simp] theorem enterGate_clock (h : Held) (s : State) : (enterGate h s).tick = s.tick ∧ (enterGate h s).pending = s.pending := by
  unfold enterGate
  split
  all_goals
    next hq =>
      obtain ⟨htick, hpend⟩ := clock_of_gateEntry hq
      simp [htick, hpend]

@[simp] theorem takeBody_clock (h : Held) (body : List Byte) (s : State) :
    (takeBody h body s).tick = s.tick ∧ (takeBody h body s).pending = s.pending := by
  unfold takeBody
  split <;> simp

@[simp] theorem runFrame_clock (h : Held) (s : State) : (runFrame h s).tick = s.tick ∧ (runFrame h s).pending = s.pending := by
  unfold runFrame
  dsimp only
  (repeat' split) <;> simp

@[simp] theorem execMbCmdSubmit_clock (value : Nat) (s : State) : ResKeeps (SameClock s) (execMbCmdSubmit value s) := by
  simp [execMbCmdSubmit]

@[simp] theorem resumeWaiting_clock (s : State) : (resumeWaiting s).tick = s.tick ∧ (resumeWaiting s).pending = s.pending := by
  unfold resumeWaiting
  split <;> simp

@[simp] theorem execMbBodyReadDone_clock (r : ReadResult) (s : State) : ResKeeps (SameClock s) (execMbBodyReadDone r s) := by
  unfold execMbBodyReadDone
  (repeat' split) <;> simp

@[simp] theorem execMbRspAck_clock (tag : Nat) (s : State) : ResKeeps (SameClock s) (execMbRspAck tag s) := by simp [execMbRspAck]

theorem withCmd_clock {code : Nat} {s : State} {f : Held → List Byte → State → State} (h : ∀ k p, SameClock s (f k p s)) :
    ResKeeps (SameClock s) (withCmd code s f) := by
  simp only [sameClock_iff] at h
  unfold withCmd
  (repeat' split) <;> simp [h]

@[simp] theorem echoCmd_clock (h : Held) (p : List Byte) (s : State) :
    (echoCmd h p s).tick = s.tick ∧ (echoCmd h p s).pending = s.pending := by simp [echoCmd]

@[simp] theorem execEcho_clock (s : State) : ResKeeps (SameClock s) (execEcho s) :=
  withCmd_clock (fun h p => by simp)

@[simp] theorem cmdStatusCmd_clock (h : Held) (p : List Byte) (s : State) :
    (cmdStatusCmd h p s).tick = s.tick ∧ (cmdStatusCmd h p s).pending = s.pending := by
  unfold cmdStatusCmd
  split <;> simp

@[simp] theorem execCmdStatus_clock (s : State) : ResKeeps (SameClock s) (execCmdStatus s) :=
  withCmd_clock (fun h p => by simp)

@[simp] theorem beginLong_clock (code : Nat) (data : List Byte) (s : State) :
    (beginLong code data s).2.tick = s.tick ∧ (beginLong code data s).2.pending = s.pending := by simp [beginLong]

@[simp] theorem credEnrolCmd_clock (h : Held) (p : List Byte) (s : State) :
    (credEnrolCmd h p s).tick = s.tick ∧ (credEnrolCmd h p s).pending = s.pending := by simp [credEnrolCmd]

@[simp] theorem execCredEnrol_clock (s : State) : ResKeeps (SameClock s) (execCredEnrol s) :=
  withCmd_clock (fun h p => by simp)

@[simp] theorem credRevokeCmd_clock (h : Held) (p : List Byte) (s : State) :
    (credRevokeCmd h p s).tick = s.tick ∧ (credRevokeCmd h p s).pending = s.pending := by simp [credRevokeCmd]

@[simp] theorem execCredRevoke_clock (s : State) : ResKeeps (SameClock s) (execCredRevoke s) :=
  withCmd_clock (fun h p => by simp)

@[simp] theorem credListCmd_clock (h : Held) (k : List Byte) (s : State) :
    (credListCmd h k s).tick = s.tick ∧ (credListCmd h k s).pending = s.pending := by simp [credListCmd]

@[simp] theorem execCredList_clock (s : State) : ResKeeps (SameClock s) (execCredList s) :=
  withCmd_clock (fun h p => by simp)

@[simp] theorem quorumGetCmd_clock (h : Held) (k : List Byte) (s : State) :
    (quorumGetCmd h k s).tick = s.tick ∧ (quorumGetCmd h k s).pending = s.pending := by simp [quorumGetCmd]

@[simp] theorem execQuorumGet_clock (s : State) : ResKeeps (SameClock s) (execQuorumGet s) :=
  withCmd_clock (fun h p => by simp)

@[simp] theorem credSealCmd_clock (h : Held) (k : List Byte) (s : State) :
    (credSealCmd h k s).tick = s.tick ∧ (credSealCmd h k s).pending = s.pending := by simp [credSealCmd]

@[simp] theorem execCredSeal_clock (s : State) : ResKeeps (SameClock s) (execCredSeal s) :=
  withCmd_clock (fun h p => by simp)

/-! ### Machine/Erase -/

@[simp] theorem refreshCons_clock (s : State) : (refreshCons s).tick = s.tick ∧ (refreshCons s).pending = s.pending := by simp [refreshCons]

@[simp] theorem closeTrace_clock (s : State) : (closeTrace s).tick = s.tick ∧ (closeTrace s).pending = s.pending := by simp [closeTrace]

@[simp] theorem eraseTrace_clock (s : State) : (eraseTrace s).tick = s.tick ∧ (eraseTrace s).pending = s.pending := by simp [eraseTrace]

@[simp] theorem restoreProv_clock (s : State) : (restoreProv s).tick = s.tick ∧ (restoreProv s).pending = s.pending := by simp [restoreProv]

@[simp] theorem raiseStoreGen_clock (s : State) : (raiseStoreGen s).tick = s.tick ∧ (raiseStoreGen s).pending = s.pending := by
  simp [raiseStoreGen]

@[simp] theorem eraseRoot_clock (s : State) : (eraseRoot s).tick = s.tick ∧ (eraseRoot s).pending = s.pending := by simp [eraseRoot]

@[simp] theorem eraseLimits_clock (s : State) : (eraseLimits s).tick = s.tick ∧ (eraseLimits s).pending = s.pending := by simp [eraseLimits]

@[simp] theorem eraseEdges_clock (s : State) : (eraseEdges s).tick = s.tick ∧ (eraseEdges s).pending = s.pending := by simp [eraseEdges]

@[simp] theorem disarm_clock (s : State) : (disarm s).tick = s.tick ∧ (disarm s).pending = s.pending := by simp [disarm]

@[simp] theorem eraseAtOnce_clock (s : State) : (eraseAtOnce s).tick = s.tick ∧ (eraseAtOnce s).pending = s.pending := by simp [eraseAtOnce]

/-! ### Machine/Transition -/

@[simp] theorem doAction_clock (a : LcAction) (s : State) : (doAction a s).tick = s.tick ∧ (doAction a s).pending = s.pending := by
  unfold doAction
  split <;> simp

@[simp] theorem undoAction_clock (a : LcAction) (s : State) :
    (undoAction a s).tick = s.tick ∧ (undoAction a s).pending = s.pending := by
  unfold undoAction
  split <;> simp

@[simp] theorem writeIntent_clock (target : Lc) (causeKind cause : Nat) (s : State) :
    (writeIntent target causeKind cause s).tick = s.tick ∧ (writeIntent target causeKind cause s).pending = s.pending := by
  simp [writeIntent]

@[simp] theorem runAction_clock (s : State) : (runAction s).tick = s.tick ∧ (runAction s).pending = s.pending := by
  unfold runAction
  split <;> simp

@[simp] theorem afterCommit_clock (t : Lc) (s : State) : (afterCommit t s).tick = s.tick ∧ (afterCommit t s).pending = s.pending := by
  unfold afterCommit
  split <;> simp

@[simp] theorem commitTransition_clock (s : State) : (commitTransition s).tick = s.tick ∧ (commitTransition s).pending = s.pending := by
  unfold commitTransition
  dsimp only
  (repeat' split) <;> simp

@[simp] theorem beginTransition_clock (target : Lc) (causeKind cause : Nat) (s : State) :
    (beginTransition target causeKind cause s).tick = s.tick ∧ (beginTransition target causeKind cause s).pending = s.pending := by
  simp [beginTransition]

@[simp] theorem undoOpening_clock (s : State) : (undoOpening s).tick = s.tick ∧ (undoOpening s).pending = s.pending := by
  unfold undoOpening
  dsimp only
  split <;> simp [-List.foldl_reverse]

@[simp] theorem lockDue_clock (s : State) : (lockDue s).tick = s.tick ∧ (lockDue s).pending = s.pending := by
  unfold lockDue
  split <;> simp

@[simp] theorem stepTransition_clock (s : State) : (stepTransition s).tick = s.tick ∧ (stepTransition s).pending = s.pending := by
  unfold stepTransition
  (repeat' split) <;> simp

/-! ### Machine/Responses -/

@[simp] theorem releaseExits_clock (keep : Bool) (s : State) :
    (releaseExits keep s).tick = s.tick ∧ (releaseExits keep s).pending = s.pending := by
  unfold releaseExits
  dsimp only
  (repeat' split) <;> simp

@[simp] theorem lockHeld_clock (s : State) : (lockHeld s).tick = s.tick ∧ (lockHeld s).pending = s.pending := by
  unfold lockHeld
  split <;> simp

@[simp] theorem lockResponse_clock (cause : Nat) (s : State) :
    (lockResponse cause s).tick = s.tick ∧ (lockResponse cause s).pending = s.pending := by simp [lockResponse]

@[simp] theorem restartQps_clock (which : Nat → Bool) (s : State) :
    (restartQps which s).tick = s.tick ∧ (restartQps which s).pending = s.pending := by simp [restartQps]

@[simp] theorem resetAnswer_clock (s : State) : (resetAnswer s).tick = s.tick ∧ (resetAnswer s).pending = s.pending := by simp [resetAnswer]

@[simp] theorem endResets_clock (s : State) : (endResets s).tick = s.tick ∧ (endResets s).pending = s.pending := by simp [endResets]

@[simp] theorem flushStaging_clock (s : State) : (flushStaging s).tick = s.tick ∧ (flushStaging s).pending = s.pending := by
  simp [flushStaging]

@[simp] theorem zeroResponse_clock (cause : Nat) (s : State) :
    (zeroResponse cause s).tick = s.tick ∧ (zeroResponse cause s).pending = s.pending := by
  unfold zeroResponse
  dsimp only
  (repeat' split) <;> simp

@[simp] theorem lockClass_clock (source detail : Nat) (s : State) :
    (lockClass source detail s).tick = s.tick ∧ (lockClass source detail s).pending = s.pending := by simp [lockClass]

@[simp] theorem egressStop_clock (func version exit_ : Nat) (s : State) :
    (egressStop func version exit_ s).tick = s.tick ∧ (egressStop func version exit_ s).pending = s.pending := by simp [egressStop]

/-! ### Machine/Egress -/

@[simp] theorem dropWork_clock (id : Nat) (s : State) : (dropWork id s).tick = s.tick ∧ (dropWork id s).pending = s.pending := by
  unfold dropWork
  split <;> simp

@[simp] theorem addWork_clock (w : Work) (s : State) : (addWork w s).tick = s.tick ∧ (addWork w s).pending = s.pending := by simp [addWork]

@[simp] theorem countStatus_clock (st : Nat) (s : State) :
    (countStatus st s).tick = s.tick ∧ (countStatus st s).pending = s.pending := by simp [countStatus]

@[simp] theorem qpVector_clock (n : Nat) (s : State) : (qpVector n s).tick = s.tick ∧ (qpVector n s).pending = s.pending := by
  simp [qpVector]

@[simp] theorem writeEntry_clock (n : Nat) (c : Cpl) (ngran : Nat) (s : State) :
    (writeEntry n c ngran s).tick = s.tick ∧ (writeEntry n c ngran s).pending = s.pending := by simp [writeEntry]

@[simp] theorem writeCpl_clock (n : Nat) (c : Cpl) (s : State) :
    (writeCpl n c s).tick = s.tick ∧ (writeCpl n c s).pending = s.pending := by simp [writeCpl]

@[simp] theorem discardCpl_clock (n seq : Nat) (s : State) :
    (discardCpl n seq s).tick = s.tick ∧ (discardCpl n seq s).pending = s.pending := by simp [discardCpl]

@[simp] theorem deliver_clock (n : Nat) (c : Cpl) (s : State) :
    (deliver n c s).tick = s.tick ∧ (deliver n c s).pending = s.pending := by simp [deliver]

@[simp] theorem completeQueue_clock (w : Work) (n seq : Nat) (raised ticks : Nat) (r : FnRes) (wrote : Option Nat) (s : State) :
    (completeQueue w n seq raised ticks r wrote s).tick = s.tick ∧ (completeQueue w n seq raised ticks r wrote s).pending = s.pending := by
  simp [completeQueue]

@[simp] theorem completeBatch_clock (id : Nat) (n seq : Nat) (w : Work) (b : Batch) (s : State) :
    (completeBatch id n seq w b s).tick = s.tick ∧ (completeBatch id n seq w b s).pending = s.pending := by simp [completeBatch]

/-! ### Machine/KeyBase -/

@[simp] theorem evict_clock (s : State) : (evict s).tick = s.tick ∧ (evict s).pending = s.pending := by
  unfold evict
  dsimp only
  (repeat' split) <;> simp

@[simp] theorem touch_clock (i : Nat) (s : State) : (touch i s).tick = s.tick ∧ (touch i s).pending = s.pending := by simp [touch]

@[simp] theorem touchNode_clock (i : Nat) (s : State) : (touchNode i s).tick = s.tick ∧ (touchNode i s).pending = s.pending := by
  simp [touchNode]

@[simp] theorem lookUp_clock (i : Nat) (s : State) : (lookUp i s).tick = s.tick ∧ (lookUp i s).pending = s.pending := by simp [lookUp]

@[simp] theorem lockKeys_clock (id : Nat) (s : State) : (lockKeys id s).tick = s.tick ∧ (lockKeys id s).pending = s.pending := by
  unfold lockKeys
  split <;> simp

@[simp] theorem failWhere_clock (p : Nat → Bool) (s : State) : (failWhere p s).tick = s.tick ∧ (failWhere p s).pending = s.pending := by
  simp [failWhere]

@[simp] theorem failReads_clock (is : List Nat) (s : State) :
    (failReads is s).tick = s.tick ∧ (failReads is s).pending = s.pending := by simp [failReads]

@[simp] theorem storeFailed_clock (s : State) : (storeFailed s).tick = s.tick ∧ (storeFailed s).pending = s.pending := by simp [storeFailed]

@[simp] theorem quarantine_clock (i : Nat) (node : Bool) (s : State) :
    (quarantine i node s).tick = s.tick ∧ (quarantine i node s).pending = s.pending := by simp [quarantine]

@[simp] theorem rewriteRecord_clock (i : Nat) (s : State) :
    (rewriteRecord i s).tick = s.tick ∧ (rewriteRecord i s).pending = s.pending := by simp [rewriteRecord]

@[simp] theorem recordRead_clock (i : Nat) (e : FetchEnd) (s : State) :
    (recordRead i e s).tick = s.tick ∧ (recordRead i e s).pending = s.pending := by
  unfold recordRead
  split <;> simp

@[simp] theorem execKeyFetchDone_clock (i : Nat) (e : FetchEnd) (s : State) : ResKeeps (SameClock s) (execKeyFetchDone i e s) := by
  unfold execKeyFetchDone
  dsimp only
  (repeat' split) <;> simp

@[simp] theorem execKeystoreScrub_clock (a b c d : FetchEnd) (s : State) : ResKeeps (SameClock s) (execKeystoreScrub a b c d s) := by
  simp [execKeystoreScrub]

@[simp] theorem handOver_clock (id : Nat) (k : ChangeKind) (s : State) :
    (handOver id k s).tick = s.tick ∧ (handOver id k s).pending = s.pending := by
  unfold handOver
  split <;> simp

@[simp] theorem placeKey_clock (id d : Nat) (p : List Byte) (k : NewKey) (s : State) :
    (placeKey id d p k s).2.tick = s.tick ∧ (placeKey id d p k s).2.pending = s.pending := by
  unfold placeKey
  split <;> simp

@[simp] theorem putRec_clock (i : Nat) (r : KRec) (s : State) : (putRec i r s).tick = s.tick ∧ (putRec i r s).pending = s.pending := by
  simp [putRec]

@[simp] theorem putExts_clock (i : Nat) (r : KRec) (s : State) :
    (putExts i r s).tick = s.tick ∧ (putExts i r s).pending = s.pending := by simp [putExts]

@[simp] theorem eraseIndex_clock (s : State) (i : Nat) : (eraseIndex s i).tick = s.tick ∧ (eraseIndex s i).pending = s.pending := by
  simp [eraseIndex]

@[simp] theorem copyAgain_clock (i : Nat) (s : State) : (copyAgain i s).tick = s.tick ∧ (copyAgain i s).pending = s.pending := by
  simp [copyAgain]

@[simp] theorem writeRec_clock (i : Nat) (r : KRec) (s : State) :
    (writeRec i r s).tick = s.tick ∧ (writeRec i r s).pending = s.pending := by simp [writeRec]

@[simp] theorem commitKind_clock (k : ChangeKind) (s : State) :
    (commitKind k s).tick = s.tick ∧ (commitKind k s).pending = s.pending := by
  unfold commitKind
  split <;> simp

@[simp] theorem stampWork_clock (c : Change) (s : State) : (stampWork c s).tick = s.tick ∧ (stampWork c s).pending = s.pending := by
  unfold stampWork
  dsimp only
  (repeat' split) <;> simp

@[simp] theorem commitOne_clock (c : Change) (full : List (Nat × Nat)) (s : State) :
    (commitOne c full s).2.tick = s.tick ∧ (commitOne c full s).2.pending = s.pending := by simp [commitOne]

@[simp] theorem commitAll_clock (cs : List Change) (s : State) :
    (commitAll cs s).2.2.tick = s.tick ∧ (commitAll cs s).2.2.pending = s.pending :=
  ⟨foldl_same (fun q : List Change × List (Nat × Nat) × State => q.2.2.tick) (fun q c => by split <;> simp) cs _,
   foldl_same (fun q : List Change × List (Nat × Nat) × State => q.2.2.pending) (fun q c => by split <;> simp) cs _⟩

@[simp] theorem commitBatch_clock (bid : Nat) (q : List (Nat × Nat) × State) :
    (commitBatch bid q).2.tick = q.2.tick ∧ (commitBatch bid q).2.pending = q.2.pending := by
  simp [commitBatch]

@[simp] theorem commitChanges_clock (s : State) : (commitChanges s).tick = s.tick ∧ (commitChanges s).pending = s.pending := by
  simp [commitChanges]

@[simp] theorem applyDomains_clock (s : State) : (applyDomains s).tick = s.tick ∧ (applyDomains s).pending = s.pending := by
  simp [applyDomains]

/-! ### Machine/FnTable -/

@[simp] theorem withKeys_clock {d : Nat} {ks : List (Nat × KeyRead × Bool × Bool)} {s : State} {k : Unit → StepRes × State}
    (hk : SameClock s (k ()).2) : (withKeys d ks s k).2.tick = s.tick ∧ (withKeys d ks s k).2.pending = s.pending := by
  unfold withKeys
  split
  · exact ⟨rfl, rfl⟩
  · exact hk

@[simp] theorem drawBytes_clock (n : Nat) (s : State) : (drawBytes n s).2.tick = s.tick ∧ (drawBytes n s).2.pending = s.pending := by
  simp [drawBytes]

/-! ### Machine/KeyFns -/

@[simp] theorem importBlock_clock (id d : Nat) (p : List Byte) (kbpk : KRec) (block : List Byte) (s : State) :
    (importBlock id d p kbpk block s).2.tick = s.tick ∧ (importBlock id d p kbpk block s).2.pending = s.pending := by
  unfold importBlock
  dsimp only
  (repeat' split) <;> simp

@[simp] theorem runImport_clock (id : Nat) (w : Work) (s : State) :
    (runImport id w s).2.tick = s.tick ∧ (runImport id w s).2.pending = s.pending := by simp [runImport]

@[simp] theorem runExport_clock (w : Work) (s : State) : (runExport w s).2.tick = s.tick ∧ (runExport w s).2.pending = s.pending := by
  simp [runExport]

@[simp] theorem drawKey_clock (t n : Nat) (s : State) : (drawKey t n s).2.tick = s.tick ∧ (drawKey t n s).2.pending = s.pending := by
  simp [drawKey]

@[simp] theorem runGenerate_clock (id : Nat) (w : Work) (s : State) :
    (runGenerate id w s).2.tick = s.tick ∧ (runGenerate id w s).2.pending = s.pending := by simp [runGenerate]

@[simp] theorem genSteps_clock (t : Nat) (s : State) : (genSteps t s).2.tick = s.tick ∧ (genSteps t s).2.pending = s.pending := by
  unfold genSteps
  split <;> simp

@[simp] theorem runGenPair_clock (id : Nat) (w : Work) (s : State) :
    (runGenPair id w s).2.tick = s.tick ∧ (runGenPair id w s).2.pending = s.pending := by simp [runGenPair]

@[simp] theorem runAgree_clock (id : Nat) (w : Work) (s : State) :
    (runAgree id w s).2.tick = s.tick ∧ (runAgree id w s).2.pending = s.pending := by
  unfold runAgree
  dsimp only
  (repeat' split) <;> simp

@[simp] theorem runDelete_clock (id : Nat) (w : Work) (s : State) :
    (runDelete id w s).2.tick = s.tick ∧ (runDelete id w s).2.pending = s.pending := by
  unfold runDelete
  split <;> simp

@[simp] theorem runQuery_clock (w : Work) (s : State) : (runQuery w s).2.tick = s.tick ∧ (runQuery w s).2.pending = s.pending := by
  unfold runQuery
  split <;> simp

@[simp] theorem runRestrict_clock (id : Nat) (w : Work) (s : State) :
    (runRestrict id w s).2.tick = s.tick ∧ (runRestrict id w s).2.pending = s.pending := by
  unfold runRestrict
  split <;> simp

@[simp] theorem runPin_clock (id : Nat) (w : Work) (s : State) :
    (runPin id w s).2.tick = s.tick ∧ (runPin id w s).2.pending = s.pending := by simp [runPin]

@[simp] theorem runClearLoad_clock (id : Nat) (w : Work) (s : State) :
    (runClearLoad id w s).2.tick = s.tick ∧ (runClearLoad id w s).2.pending = s.pending := by simp [runClearLoad]

@[simp] theorem runPublic_clock (w : Work) (s : State) : (runPublic w s).2.tick = s.tick ∧ (runPublic w s).2.pending = s.pending := by
  simp [runPublic]

@[simp] theorem runKeyFn_clock (id : Nat) (w : Work) (s : State) :
    (runKeyFn id w s).2.tick = s.tick ∧ (runKeyFn id w s).2.pending = s.pending := by
  unfold runKeyFn
  (repeat' split) <;> simp

/-! ### Machine/Limiter -/

@[simp] theorem limUse_clock (w : Work) (s : State) : (limUse w s).tick = s.tick ∧ (limUse w s).pending = s.pending := by
  unfold limUse
  split <;> simp

@[simp] theorem limFullNotice_clock (w : Work) (s : State) :
    (limFullNotice w s).tick = s.tick ∧ (limFullNotice w s).pending = s.pending := by
  unfold limFullNotice
  split <;> simp

@[simp] theorem suspend_clock (i windows : Nat) (s : State) :
    (suspend i windows s).tick = s.tick ∧ (suspend i windows s).pending = s.pending := by simp [suspend]

@[simp] theorem limFail_clock (i : Nat) (s : State) : (limFail i s).tick = s.tick ∧ (limFail i s).pending = s.pending := by simp [limFail]

@[simp] theorem guardCount_clock (g : Nat) (failed : Bool) (s : State) :
    (guardCount g failed s).tick = s.tick ∧ (guardCount g failed s).pending = s.pending := by simp [guardCount]

@[simp] theorem limResult_clock (w : Work) (st : Nat) (s : State) :
    (limResult w st s).tick = s.tick ∧ (limResult w st s).pending = s.pending := by
  unfold limResult
  dsimp only
  (repeat' split) <;> simp

@[simp] theorem execLimiterSecondDecision_clock (i : Nat) (fault : Bool) (s : State) :
    ResKeeps (SameClock s) (execLimiterSecondDecision i fault s) := by
  unfold execLimiterSecondDecision
  dsimp only
  (repeat' split) <;> simp

@[simp] theorem windowBoundary_clock (s : State) : (windowBoundary s).tick = s.tick ∧ (windowBoundary s).pending = s.pending := by
  simp [windowBoundary]

@[simp] theorem execLimiterWindowBoundary_clock (s : State) : ResKeeps (SameClock s) (execLimiterWindowBoundary s) := by
  simp [execLimiterWindowBoundary]

@[simp] theorem endLock_clock (i : Nat) (s : State) : (endLock i s).tick = s.tick ∧ (endLock i s).pending = s.pending := by simp [endLock]

@[simp] theorem execLimiterLockoutEnd_clock (i : Nat) (s : State) : ResKeeps (SameClock s) (execLimiterLockoutEnd i s) := by
  unfold execLimiterLockoutEnd
  split <;> simp

@[simp] theorem limitQueryCmd_clock (h : Held) (p : List Byte) (s : State) :
    (limitQueryCmd h p s).tick = s.tick ∧ (limitQueryCmd h p s).pending = s.pending := by simp [limitQueryCmd]

@[simp] theorem execLimitQuery_clock (s : State) : ResKeeps (SameClock s) (execLimitQuery s) :=
  withCmd_clock (fun h p => by simp)

@[simp] theorem limitClearCmd_clock (h : Held) (p : List Byte) (s : State) :
    (limitClearCmd h p s).tick = s.tick ∧ (limitClearCmd h p s).pending = s.pending := by
  unfold limitClearCmd
  dsimp only
  (repeat' split) <;> simp

@[simp] theorem execLimitClear_clock (s : State) : ResKeeps (SameClock s) (execLimitClear s) :=
  withCmd_clock (fun h p => by simp)

@[simp] theorem pinPolicySetCmd_clock (h : Held) (p : List Byte) (s : State) :
    (pinPolicySetCmd h p s).tick = s.tick ∧ (pinPolicySetCmd h p s).pending = s.pending := by simp [pinPolicySetCmd]

@[simp] theorem execPinPolicySet_clock (s : State) : ResKeeps (SameClock s) (execPinPolicySet s) :=
  withCmd_clock (fun h p => by simp)

@[simp] theorem limiterPoint_clock (s : State) : (limiterPoint s).tick = s.tick ∧ (limiterPoint s).pending = s.pending := by
  unfold limiterPoint
  split <;> simp

/-! ### Machine/PinFns -/

@[simp] theorem drawPin_clock (len : Nat) (s : State) : (drawPin len s).2.tick = s.tick ∧ (drawPin len s).2.pending = s.pending := by
  simp [drawPin]

@[simp] theorem translate_clock (i : PinIn) (key key1 : List Byte) (s : State) :
    (translate i key key1 s).2.tick = s.tick ∧ (translate i key key1 s).2.pending = s.pending := by
  unfold translate
  split <;> simp

@[simp] theorem generatePin_clock (i : PinIn) (key pvk : List Byte) (d : DecTab) (s : State) :
    (generatePin i key pvk d s).2.tick = s.tick ∧ (generatePin i key pvk d s).2.pending = s.pending := by simp [generatePin]

@[simp] theorem runPinFn_clock (w : Work) (s : State) : (runPinFn w s).2.tick = s.tick ∧ (runPinFn w s).2.pending = s.pending := by
  unfold runPinFn
  dsimp only
  (repeat' split) <;> simp

@[simp] theorem runCardFn_clock (w : Work) (s : State) : (runCardFn w s).2.tick = s.tick ∧ (runCardFn w s).2.pending = s.pending := by
  simp [runCardFn]

/-! ### Machine/CryptoFns -/

@[simp] theorem runEmvFn_clock (w : Work) (s : State) : (runEmvFn w s).2.tick = s.tick ∧ (runEmvFn w s).2.pending = s.pending := by
  unfold runEmvFn
  dsimp only
  (repeat' split) <;> simp

@[simp] theorem runMacFn_clock (w : Work) (s : State) : (runMacFn w s).2.tick = s.tick ∧ (runMacFn w s).2.pending = s.pending := by
  simp [runMacFn]

@[simp] theorem runTokenFn_clock (w : Work) (s : State) :
    (runTokenFn w s).2.tick = s.tick ∧ (runTokenFn w s).2.pending = s.pending := by
  unfold runTokenFn
  dsimp only
  (repeat' split) <;> simp

@[simp] theorem p2peSeal_clock (p : List Byte) (zone : List Byte) (d : List Byte) (s : State) :
    (p2peSeal p zone d s).2.tick = s.tick ∧ (p2peSeal p zone d s).2.pending = s.pending := by simp [p2peSeal]

@[simp] theorem runP2peFn_clock (w : Work) (s : State) : (runP2peFn w s).2.tick = s.tick ∧ (runP2peFn w s).2.pending = s.pending := by
  unfold runP2peFn
  dsimp only
  (repeat' split) <;> simp

/-! ### Machine/PkBase -/

@[simp] theorem pkAssign_clock (id u : Nat) (s : State) : (pkAssign id u s).tick = s.tick ∧ (pkAssign id u s).pending = s.pending := by
  unfold pkAssign
  split <;> simp

@[simp] theorem pkGrant_clock (id : Nat) (s : State) : (pkGrant id s).tick = s.tick ∧ (pkGrant id s).pending = s.pending := by
  unfold pkGrant
  (repeat' split) <;> simp

@[simp] theorem pkSteps_clock (f t : Nat) (s : State) : (pkSteps f t s).2.tick = s.tick ∧ (pkSteps f t s).2.pending = s.pending := by
  unfold pkSteps
  split <;> simp

@[simp] theorem pkStart_clock (w : Work) (s : State) : (pkStart w s).2.tick = s.tick ∧ (pkStart w s).2.pending = s.pending := by
  unfold pkStart
  dsimp only
  (repeat' split) <;> simp

/-! ### Machine/Functions -/

@[simp] theorem runProg_clock (w : Work) (s : State) : (runProg w s).2.tick = s.tick ∧ (runProg w s).2.pending = s.pending := by
  unfold runProg
  split <;> simp

@[simp] theorem runBody_clock (id : Nat) (w : Work) (s : State) :
    (runBody id w s).2.tick = s.tick ∧ (runBody id w s).2.pending = s.pending := by
  unfold runBody
  (repeat' split) <;> simp

@[simp] theorem runFn_clock (id : Nat) (w : Work) (s : State) :
    (runFn id w s).2.tick = s.tick ∧ (runFn id w s).2.pending = s.pending := by
  unfold runFn
  dsimp only
  (repeat' split) <;> simp

@[simp] theorem runChainFn_clock (id mid : Nat) (w : Work) (plan : ChainPlan) (k : Nat) (s : State) :
    (runChainFn id mid w plan k s).tick = s.tick ∧ (runChainFn id mid w plan k s).pending = s.pending := by
  unfold runChainFn
  dsimp only
  (repeat' split) <;> simp

@[simp] theorem runChainStep_clock (id mid : Nat) (w : Work) (plan : ChainPlan) (s : State) :
    (runChainStep id mid w plan s).2.tick = s.tick ∧ (runChainStep id mid w plan s).2.pending = s.pending := by
  unfold runChainStep
  dsimp only
  (repeat' split) <;> simp

@[simp] theorem runStep_clock (id : Nat) (s : State) : (runStep id s).2.tick = s.tick ∧ (runStep id s).2.pending = s.pending := by
  unfold runStep
  (repeat' split) <;> simp

/-! ### Machine/Costs -/

@[simp] theorem askWake_clock (s : State) : (askWake s).tick = s.tick ∧ (askWake s).pending = s.pending := by simp [askWake]

@[simp] theorem refreshPool_clock (s : State) : (refreshPool s).tick = s.tick ∧ (refreshPool s).pending = s.pending := by simp [refreshPool]

@[simp] theorem commitCal_clock (key : Nat) (s : State) : (commitCal key s).tick = s.tick ∧ (commitCal key s).pending = s.pending := by
  simp [commitCal]

@[simp] theorem calPoint_clock (s : State) : (calPoint s).tick = s.tick ∧ (calPoint s).pending = s.pending := by simp [calPoint]

@[simp] theorem uncalibrate_clock (hit : Nat → Bool) (s : State) :
    (uncalibrate hit s).tick = s.tick ∧ (uncalibrate hit s).pending = s.pending := by simp [uncalibrate]

@[simp] theorem vendorPoint_clock (s : State) : (vendorPoint s).tick = s.tick ∧ (vendorPoint s).pending = s.pending := by simp [vendorPoint]

@[simp] theorem calibrate_clock (func cycles misses wait : Nat) (s : State) :
    (calibrate func cycles misses wait s).tick = s.tick ∧ (calibrate func cycles misses wait s).pending = s.pending := by
  simp [calibrate]

@[simp] theorem loadBandPoint_clock (s : State) : (loadBandPoint s).tick = s.tick ∧ (loadBandPoint s).pending = s.pending := by
  simp [loadBandPoint]

@[simp] theorem powerFault_clock (s : State) : (powerFault s).tick = s.tick ∧ (powerFault s).pending = s.pending := by simp [powerFault]

@[simp] theorem execPowerSample_clock (mv ma : Int) (s : State) : ResKeeps (SameClock s) (execPowerSample mv ma s) := by
  simp [execPowerSample]

@[simp] theorem powerAbsent_clock (s : State) : (powerAbsent s).tick = s.tick ∧ (powerAbsent s).pending = s.pending := by simp [powerAbsent]

/-! ### Machine/RandomBase -/

@[simp] theorem drbgCall_clock (i k : Nat) (s : State) : (drbgCall i k s).tick = s.tick ∧ (drbgCall i k s).pending = s.pending := by
  simp [drbgCall]

@[simp] theorem instantiate_clock (i : Nat) (s : State) : (instantiate i s).tick = s.tick ∧ (instantiate i s).pending = s.pending := by
  simp [instantiate]

@[simp] theorem instantiateAll_clock (s : State) : (instantiateAll s).tick = s.tick ∧ (instantiateAll s).pending = s.pending := by
  simp [instantiateAll]

@[simp] theorem reseed_clock (i : Nat) (s : State) : (reseed i s).tick = s.tick ∧ (reseed i s).pending = s.pending := by simp [reseed]

/-! ### Machine/House -/

@[simp] theorem raiseRetest_clock (e : Nat) (s : State) : (raiseRetest e s).tick = s.tick ∧ (raiseRetest e s).pending = s.pending := by
  simp [raiseRetest]

@[simp] theorem startRetest_clock (e : Nat) (s : State) : (startRetest e s).tick = s.tick ∧ (startRetest e s).pending = s.pending := by
  simp [startRetest]

@[simp] theorem runTask_clock (t : HkTask) (s : State) : (runTask t s).tick = s.tick ∧ (runTask t s).pending = s.pending := by
  unfold runTask
  dsimp only
  (repeat' split) <;> simp

@[simp] theorem grantTasks_clock (ts : List HkTask) (budget : Nat) (s : State) :
    (grantTasks ts budget s).1.tick = s.tick ∧ (grantTasks ts budget s).1.pending = s.pending := by simp [grantTasks]

@[simp] theorem hkPass_clock (s : State) : (hkPass s).1.tick = s.tick ∧ (hkPass s).1.pending = s.pending := by simp [hkPass]

@[simp] theorem grantOverdue_clock (od : Bool) (pool : Nat) (s : State) :
    (grantOverdue od pool s).1.tick = s.tick ∧ (grantOverdue od pool s).1.pending = s.pending := by simp [grantOverdue]

/-! ### Machine/Usage -/

@[simp] theorem countUsage_clock (id : Nat) (s : State) : (countUsage id s).tick = s.tick ∧ (countUsage id s).pending = s.pending := by
  unfold countUsage
  dsimp only
  (repeat' split) <;> simp

/-! ### Machine/Grants -/

@[simp] theorem toBack_clock (id : Nat) (s : State) : (toBack id s).tick = s.tick ∧ (toBack id s).pending = s.pending := by simp [toBack]

@[simp] theorem hostPeak_clock (n : Nat) (s : State) : (hostPeak n s).tick = s.tick ∧ (hostPeak n s).pending = s.pending := by
  simp [hostPeak]

@[simp] theorem readChunk_clock (id : Nat) (s : State) : (readChunk id s).tick = s.tick ∧ (readChunk id s).pending = s.pending := by
  unfold readChunk
  dsimp only
  (repeat' split) <;> simp

@[simp] theorem laneReads_clock (n : Nat) (s : State) : (laneReads n s).tick = s.tick ∧ (laneReads n s).pending = s.pending := by
  unfold laneReads
  dsimp only
  (repeat' split) <;> simp

@[simp] theorem grantRandom_finish'_clock (id : Nat) (r : FnRes) (s : State) :
    (grantRandom.finish' id r s).tick = s.tick ∧ (grantRandom.finish' id r s).pending = s.pending := by
  simp [grantRandom.finish']

@[simp] theorem grantRandom_clock (id : Nat) (w : Work) (s : State) :
    (grantRandom id w s).tick = s.tick ∧ (grantRandom id w s).pending = s.pending := by simp [grantRandom]

@[simp] theorem grantPlace_clock (id : Nat) (w : Work) (place : Option Nat) (role : KRec → Bool) (s : State) :
    (grantPlace id w place role s).tick = s.tick ∧ (grantPlace id w place role s).pending = s.pending := by
  unfold grantPlace
  dsimp only
  (repeat' split) <;> simp

@[simp] theorem grantUses_clock (id : Nat) (w : Work) (s : State) :
    (grantUses id w s).tick = s.tick ∧ (grantUses id w s).pending = s.pending := by simp [grantUses]

@[simp] theorem takeSignKey_clock (e : Nat) (s : State) : (takeSignKey e s).tick = s.tick ∧ (takeSignKey e s).pending = s.pending := by
  unfold takeSignKey
  split <;> simp

@[simp] theorem onGrant_clock (id : Nat) (s : State) : (onGrant id s).tick = s.tick ∧ (onGrant id s).pending = s.pending := by
  unfold onGrant
  dsimp only
  (repeat' split) <;> simp

/-! ### Machine/Requests -/

@[simp] theorem refund_clock (w : Work) (s : State) : (refund w s).tick = s.tick ∧ (refund w s).pending = s.pending := by simp [refund]

@[simp] theorem finish_clock (id : Nat) (r : FnRes) (s : State) :
    (finish id r s).tick = s.tick ∧ (finish id r s).pending = s.pending := by
  unfold finish
  split <;> simp

@[simp] theorem laneEnd_clock (id : Nat) (r : FnRes) (s : State) :
    (laneEnd id r s).tick = s.tick ∧ (laneEnd id r s).pending = s.pending := by
  unfold laneEnd
  split <;> simp

@[simp] theorem withdraw_clock (id status detail ticks : Nat) (s : State) :
    (withdraw id status detail ticks s).tick = s.tick ∧ (withdraw id status detail ticks s).pending = s.pending := by
  unfold withdraw
  split <;> simp

@[simp] theorem failAtomic_clock (b : Batch) (s : State) :
    (failAtomic b s).2.tick = s.tick ∧ (failAtomic b s).2.pending = s.pending :=
  foldl_snd_clock (fun s a => by (repeat' split) <;> simp) _ _

@[simp] theorem writePart_clock (head : Option Work) (addr : Nat) (out : List Byte) (s : State) :
    (writePart head addr out s).tick = s.tick ∧ (writePart head addr out s).pending = s.pending := by
  unfold writePart
  dsimp only
  (repeat' split) <;> simp

@[simp] theorem endPart_clock (id bid idx : Nat) (w : Work) (r : FnRes) (s : State) :
    (endPart id bid idx w r s).tick = s.tick ∧ (endPart id bid idx w r s).pending = s.pending := by
  unfold endPart
  split <;> simp

/-! ### Machine/Spread -/

@[simp] theorem readPart_clock (bid id c : Nat) (s : State) :
    (readPart bid id c s).tick = s.tick ∧ (readPart bid id c s).pending = s.pending := by
  unfold readPart
  split <;> simp

@[simp] theorem readSent_clock (bid : Nat) (ps : List (Nat × Nat)) (s : State) :
    (readSent bid ps s).tick = s.tick ∧ (readSent bid ps s).pending = s.pending := by simp [readSent]

@[simp] theorem sendRange_clock (bid m : Nat) (ps : List (Nat × Nat)) (s : State) :
    (sendRange bid m ps s).tick = s.tick ∧ (sendRange bid m ps s).pending = s.pending := by simp [sendRange]

@[simp] theorem sendRanges_clock (bid : Nat) : ∀ (l ps : List (Nat × Nat)) (s : State),
    (sendRanges bid l ps s).tick = s.tick ∧ (sendRanges bid l ps s).pending = s.pending
  | [], _, _ => ⟨rfl, rfl⟩
  | (m, k) :: l, ps, s => by simp [sendRanges, sendRanges_clock bid l]

@[simp] theorem splitBatch_clock (bid : Nat) (b : Batch) (s : State) :
    (splitBatch bid b s).tick = s.tick ∧ (splitBatch bid b s).pending = s.pending := by simp [splitBatch]

@[simp] theorem splitBatches_clock (s : State) : (splitBatches s).tick = s.tick ∧ (splitBatches s).pending = s.pending := by
  simp [splitBatches]

/-! ### Machine/Dispatcher -/

@[simp] theorem loadEngine_clock (e cycles : Nat) (s : State) :
    (loadEngine e cycles s).tick = s.tick ∧ (loadEngine e cycles s).pending = s.pending := by simp [loadEngine]

@[simp] theorem placeOn_clock (id : Nat) (p : Nat × Nat) (cycles : Nat) (s : State) :
    (placeOn id p cycles s).tick = s.tick ∧ (placeOn id p cycles s).pending = s.pending := by simp [placeOn]

@[simp] theorem placeStep_clock (id : Nat) (c : Nat) (s : State) :
    (placeStep id c s).tick = s.tick ∧ (placeStep id c s).pending = s.pending := by
  unfold placeStep
  (repeat' split) <;> simp

@[simp] theorem startSpilled_clock (s : State) : (startSpilled s).tick = s.tick ∧ (startSpilled s).pending = s.pending :=
  foldl_clock (fun s a => by (repeat' split) <;> simp) _ _

@[simp] theorem touchBatch_clock (w : Work) (s : State) : (touchBatch w s).tick = s.tick ∧ (touchBatch w s).pending = s.pending := by
  unfold touchBatch
  (repeat' split) <;> simp

@[simp] theorem grantStep_clock (id note cost : Nat) (s : State) :
    (grantStep id note cost s).tick = s.tick ∧ (grantStep id note cost s).pending = s.pending := by
  unfold grantStep
  split <;> simp

@[simp] theorem refill_clock (s : State) : (refill s).tick = s.tick ∧ (refill s).pending = s.pending := by simp [refill]

@[simp] theorem ageBase_clock (s : State) : (ageBase s).tick = s.tick ∧ (ageBase s).pending = s.pending := by simp [ageBase]

@[simp] theorem endAtomicWhole_clock (bid : Nat) (r : FnRes) (only : Option Nat) (s : State) :
    (endAtomicWhole bid r only s).tick = s.tick ∧ (endAtomicWhole bid r only s).pending = s.pending := by
  unfold endAtomicWhole
  split
  · simp only [modWork_frame, refund_clock]
    exact foldl_clock (fun s p => by split <;> simp) _ _
  · simp

@[simp] theorem endUngranted_clock (id status detail ticks : Nat) (s : State) :
    (endUngranted id status detail ticks s).tick = s.tick ∧ (endUngranted id status detail ticks s).pending = s.pending := by
  simp [endUngranted]

@[simp] theorem chargeOne_clock (acc : State × List (Nat × Nat)) (id : Nat) :
    (chargeOne acc id).1.tick = acc.1.tick ∧ (chargeOne acc id).1.pending = acc.1.pending := by
  unfold chargeOne
  dsimp only
  split <;> simp

@[simp] theorem refuseBase_clock (refused : List (Nat × Nat)) (s : State) :
    (refuseBase refused s).tick = s.tick ∧ (refuseBase refused s).pending = s.pending :=
  foldl_fst_clock (fun s a => by (repeat' split) <;> simp) _ _

@[simp] theorem chargeBase_clock (s : State) : (chargeBase s).tick = s.tick ∧ (chargeBase s).pending = s.pending := by simp [chargeBase]

@[simp] theorem checkEligible_clock (s : State) : (checkEligible s).tick = s.tick ∧ (checkEligible s).pending = s.pending :=
  foldl_clock (fun s a => by (repeat' split) <;> simp) _ _

@[simp] theorem beginAtomic_clock (bid note cost : Nat) (s : State) :
    (beginAtomic bid note cost s).tick = s.tick ∧ (beginAtomic bid note cost s).pending = s.pending := by
  unfold beginAtomic
  dsimp only
  (repeat' split) <;> simp

@[simp] theorem grantAny_clock (id note cost : Nat) (s : State) :
    (grantAny id note cost s).tick = s.tick ∧ (grantAny id note cost s).pending = s.pending := by simp [grantAny]

@[simp] theorem endAtGrant_clock (id : Nat) (r : FnRes) (s : State) :
    (endAtGrant id r s).tick = s.tick ∧ (endAtGrant id r s).pending = s.pending := by
  unfold endAtGrant
  dsimp only
  (repeat' split) <;> simp

@[simp] theorem grantRetries_clock (budget : Nat) (s : State) :
    (grantRetries budget s).1.tick = s.tick ∧ (grantRetries budget s).1.pending = s.pending :=
  foldl_fst_clock (fun s a => by (repeat' split) <;> simp) _ _

@[simp] theorem refuseHeart_clock (granted : Nat) (s : State) :
    (refuseHeart granted s).tick = s.tick ∧ (refuseHeart granted s).pending = s.pending := by simp [refuseHeart]

@[simp] theorem passOne_clock (note : Nat) (p : Pass) (id : Nat) :
    (passOne note p id).s.tick = p.s.tick ∧ (passOne note p id).s.pending = p.s.pending := by
  unfold passOne
  dsimp only
  (repeat' split) <;> simp

@[simp] theorem demote_clock (id a : Nat) (p : Pass) : (demote id a p).s.tick = p.s.tick ∧ (demote id a p).s.pending = p.s.pending := by
  simp [demote]

@[simp] theorem topOne_clock (p : Pass) (id : Nat) : (topOne p id).s.tick = p.s.tick ∧ (topOne p id).s.pending = p.s.pending := by
  unfold topOne
  dsimp only
  (repeat' split) <;> simp

theorem foldl_pass_clock {f : Pass → Nat → Pass} (h : ∀ p id, SameClock p.s (f p id).s) (l : List Nat) (p : Pass) :
    (l.foldl f p).s.tick = p.s.tick ∧ (l.foldl f p).s.pending = p.s.pending :=
  ⟨foldl_same (·.s.tick) (fun p id => (h p id).1) l p, foldl_same (·.s.pending) (fun p id => (h p id).2) l p⟩

@[simp] theorem topPass_clock (stop : Bool) (s : State) : (topPass stop s).s.tick = s.tick ∧ (topPass stop s).s.pending = s.pending :=
  foldl_pass_clock (fun p id => by (repeat' split) <;> simp) _ _

@[simp] theorem grantPasses_clock (s : State) : (grantPasses s).tick = s.tick ∧ (grantPasses s).pending = s.pending := by
  simp [grantPasses, foldl_pass_clock]

/-! ### Machine/TpcBase -/

@[simp] theorem modEp_clock (e : Nat) (f : Ep → Ep) (s : State) : (modEp e f s).tick = s.tick ∧ (modEp e f s).pending = s.pending := by
  unfold modEp
  split <;> simp

@[simp] theorem sendOpen_clock (p sub : Nat) (dst : List Byte) (e type phase ref : Nat) (payload : List Byte) (s : State) :
    (sendOpen p sub dst e type phase ref payload s).tick = s.tick ∧ (sendOpen p sub dst e type phase ref payload s).pending = s.pending := by
  simp [sendOpen]

@[simp] theorem sendReject_clock (e : Nat) (h : Hello) (status detail disp : Nat) (s : State) :
    (sendReject e h status detail disp s).tick = s.tick ∧ (sendReject e h status detail disp s).pending = s.pending := by
  simp [sendReject]

@[simp] theorem sendSeq_clock (e type note accord ref echo : Nat) (payload : List Byte) (m : Option OutMsg) (s : State) :
    (sendSeq e type note accord ref echo payload m s).2.tick = s.tick ∧
    (sendSeq e type note accord ref echo payload m s).2.pending = s.pending := by
  unfold sendSeq
  dsimp only
  (repeat' split) <;> simp

@[simp] theorem closeSession_clock (e : Nat) (s : State) :
    (closeSession e s).tick = s.tick ∧ (closeSession e s).pending = s.pending := by
  unfold closeSession
  split <;> simp

@[simp] theorem closeIfSpent_clock (e : Nat) (s : State) :
    (closeIfSpent e s).tick = s.tick ∧ (closeIfSpent e s).pending = s.pending := by
  unfold closeIfSpent
  split <;> simp

@[simp] theorem sendMsg_clock (m : OutMsg) (s : State) : (sendMsg m s).tick = s.tick ∧ (sendMsg m s).pending = s.pending := by
  unfold sendMsg
  dsimp only
  (repeat' split) <;> simp

@[simp] theorem discardOut_clock (m : OutMsg) (s : State) : (discardOut m s).tick = s.tick ∧ (discardOut m s).pending = s.pending := by
  simp [discardOut]

@[simp] theorem holdOut_clock (m : OutMsg) (s : State) : (holdOut m s).tick = s.tick ∧ (holdOut m s).pending = s.pending := by
  simp [holdOut]

@[simp] theorem deliverOrHold_clock (m : OutMsg) (s : State) :
    (deliverOrHold m s).tick = s.tick ∧ (deliverOrHold m s).pending = s.pending := by simp [deliverOrHold]

@[simp] theorem sendHeld_clock (e : Nat) (s : State) : (sendHeld e s).tick = s.tick ∧ (sendHeld e s).pending = s.pending := by
  simp [sendHeld]

@[simp] theorem queueOut_clock (m : OutMsg) (s : State) : (queueOut m s).tick = s.tick ∧ (queueOut m s).pending = s.pending := by
  simp [queueOut]

@[simp] theorem execResponseReady_clock (id : Nat) (s : State) : ResKeeps (SameClock s) (execResponseReady id s) := by
  unfold execResponseReady
  split <;> simp

@[simp] theorem execResumeWindowEnd_clock (e : Nat) (s : State) : ResKeeps (SameClock s) (execResumeWindowEnd e s) := by
  unfold execResumeWindowEnd
  split <;> simp

/-! ### Machine/AccordEnd -/

@[simp] theorem dropHdr_clock (n : Nat) (s : State) : (dropHdr n s).tick = s.tick ∧ (dropHdr n s).pending = s.pending := by simp [dropHdr]

@[simp] theorem writeHeader_clock (h : Header) (gran : Nat) (s : State) :
    (writeHeader h gran s).tick = s.tick ∧ (writeHeader h gran s).pending = s.pending := by simp [writeHeader]

@[simp] theorem openForward_clock (m : Msg) (dest : Nat) (body : List Byte) (pin : Option (Nat × Nat)) (effects : Bool)
    (s : State) :
    (openForward m dest body pin effects s).1.tick = s.tick ∧ (openForward m dest body pin effects s).1.pending = s.pending := by
  simp [openForward]

@[simp] theorem openReferral_clock (m : Msg) (status detail : Nat) (step : Option Nat) (effects : Bool) (s : State) :
    (openReferral m status detail step effects s).1.tick = s.tick ∧ (openReferral m status detail step effects s).1.pending = s.pending := by
  simp [openReferral]

@[simp] theorem writeTagged_clock (w : Work) (m : Msg) (outs : List MField) (h : Header) (gran : Nat) (s : State) :
    (writeTagged w m outs h gran s).tick = s.tick ∧ (writeTagged w m outs h gran s).pending = s.pending := by
  unfold writeTagged
  dsimp only
  (repeat' split) <;> simp

@[simp] theorem countChain_clock (w : Work) (m : Msg) (status : Nat) (s : State) :
    (countChain w m status s).tick = s.tick ∧ (countChain w m status s).pending = s.pending := by simp [countChain]

@[simp] theorem endRefused_clock (w : Work) (m : Msg) (status detail step : Nat) (s : State) :
    (endRefused w m status detail step s).tick = s.tick ∧ (endRefused w m status detail step s).pending = s.pending := by
  simp [endRefused]

@[simp] theorem endReferred_clock (w : Work) (m : Msg) (status detail : Nat) (step : Option Nat) (outs : List MField)
    (s : State) :
    (endReferred w m status detail step outs s).tick = s.tick ∧ (endReferred w m status detail step outs s).pending = s.pending := by
  simp [endReferred]

@[simp] theorem endGood_clock (w : Work) (m : Msg) (raised detail : Nat) (step : Option Nat) (s : State) :
    (endGood w m raised detail step s).tick = s.tick ∧ (endGood w m raised detail step s).pending = s.pending := by
  unfold endGood
  split <;> simp

@[simp] theorem endVerdict_clock (w : Work) (m : Msg) (s : State) :
    (endVerdict w m s).tick = s.tick ∧ (endVerdict w m s).pending = s.pending := by simp [endVerdict]

@[simp] theorem chainStepEnd_clock (id mid : Nat) (w : Work) (r : FnRes) (s : State) :
    (chainStepEnd id mid w r s).tick = s.tick ∧ (chainStepEnd id mid w r s).pending = s.pending := by
  unfold chainStepEnd
  dsimp only
  (repeat' split) <;> simp

@[simp] theorem spreadPartEnd_clock (id bid idx : Nat) (w : Work) (r : FnRes) (s : State) :
    (spreadPartEnd id bid idx w r s).tick = s.tick ∧ (spreadPartEnd id bid idx w r s).pending = s.pending := by simp [spreadPartEnd]

@[simp] theorem handshakeEnd_clock (id e : Nat) (w : Work) (r : FnRes) (s : State) :
    (handshakeEnd id e w r s).tick = s.tick ∧ (handshakeEnd id e w r s).pending = s.pending := by
  unfold handshakeEnd
  dsimp only
  (repeat' split) <;> simp

/-! ### Machine/Settle -/

@[simp] theorem landed_clock (n : Nat) (s : State) : (landed n s).tick = s.tick ∧ (landed n s).pending = s.pending := by simp [landed]

@[simp] theorem settleBatch_clock (bid : Nat) (s : State) :
    (settleBatch bid s).tick = s.tick ∧ (settleBatch bid s).pending = s.pending := by
  unfold settleBatch
  dsimp only
  (repeat' split) <;> simp

@[simp] theorem settleOne_clock (id : Nat) (s : State) : (settleOne id s).tick = s.tick ∧ (settleOne id s).pending = s.pending := by
  unfold settleOne
  (repeat' split) <;> simp

@[simp] theorem settle_clock (s : State) : (settle s).tick = s.tick ∧ (settle s).pending = s.pending := by simp [settle]

/-! ### Machine/HostPath -/

@[simp] theorem issueFetch_clock (n : Nat) (s : State) : (issueFetch n s).tick = s.tick ∧ (issueFetch n s).pending = s.pending := by
  simp [issueFetch]

@[simp] theorem pump_clock (s : State) : (pump s).tick = s.tick ∧ (pump s).pending = s.pending := by simp [pump]

@[simp] theorem spoofed_clock (home n seq : Nat) (x : Sub) (s : State) :
    (spoofed home n seq x s).tick = s.tick ∧ (spoofed home n seq x s).pending = s.pending := by
  unfold spoofed
  split <;> simp

@[simp] theorem refuseSub_clock (n seq : Nat) (x : Sub) (st d : Nat) (s : State) :
    (refuseSub n seq x st d s).tick = s.tick ∧ (refuseSub n seq x st d s).pending = s.pending := by simp [refuseSub]

@[simp] theorem makeEligible_clock (id : Nat) (s : State) :
    (makeEligible id s).tick = s.tick ∧ (makeEligible id s).pending = s.pending := by
  unfold makeEligible
  (repeat' split) <;> simp

@[simp] theorem takeEntry_clock (n seq : Nat) (raw : List Byte) (s : State) :
    (takeEntry n seq raw s).tick = s.tick ∧ (takeEntry n seq raw s).pending = s.pending := by
  unfold takeEntry
  dsimp only
  (repeat' split) <;> simp

@[simp] theorem qpError_clock (n cause : Nat) (s : State) :
    (qpError n cause s).tick = s.tick ∧ (qpError n cause s).pending = s.pending := by simp [qpError]

@[simp] theorem fetchFailed_clock (n : Nat) (f : FetchRead) (status : Nat) (s : State) :
    (fetchFailed n f status s).tick = s.tick ∧ (fetchFailed n f status s).pending = s.pending := by simp [fetchFailed]

@[simp] theorem execSubmissionFetchDone_clock (n : Nat) (r : ReadResult) (s : State) :
    ResKeeps (SameClock s) (execSubmissionFetchDone n r s) := by
  unfold execSubmissionFetchDone
  dsimp only
  (repeat' split) <;> simp

@[simp] theorem takePart_clock (bid : Nat) (head : Work) (n seq : Nat) (acc : State × Batch) (p : Sub × Nat) :
    (takePart bid head n seq acc p).1.tick = acc.1.tick ∧ (takePart bid head n seq acc p).1.pending = acc.1.pending := by
  unfold takePart
  dsimp only
  (repeat' split) <;> simp

@[simp] theorem failAtomicChecks_clock (bid : Nat) (s : State) :
    (failAtomicChecks bid s).tick = s.tick ∧ (failAtomicChecks bid s).pending = s.pending := by
  unfold failAtomicChecks
  split <;> simp

@[simp] theorem buildBatch_clock (bid : Nat) (head : Work) (arr : List Byte) (s : State) :
    (buildBatch bid head arr s).tick = s.tick ∧ (buildBatch bid head arr s).pending = s.pending := by
  unfold buildBatch
  split <;> simp

@[simp] theorem sliceReady_clock (i : Nat) (s : State) : (sliceReady i s).tick = s.tick ∧ (sliceReady i s).pending = s.pending := by
  simp [sliceReady]

@[simp] theorem orphansReady_clock (s : State) : (orphansReady s).tick = s.tick ∧ (orphansReady s).pending = s.pending := by
  simp [orphansReady]

@[simp] theorem noRead_clock (id : Nat) (s : State) : (noRead id s).tick = s.tick ∧ (noRead id s).pending = s.pending := by simp [noRead]

@[simp] theorem execInputReadDone_clock (id : Nat) (r : ReadResult) (s : State) :
    ResKeeps (SameClock s) (execInputReadDone id r s) := by
  unfold execInputReadDone
  dsimp only
  (repeat' split) <;> simp

@[simp] theorem stageFailed_clock (bid idx id st d : Nat) (s : State) :
    (stageFailed bid idx id st d s).tick = s.tick ∧ (stageFailed bid idx id st d s).pending = s.pending := by
  unfold stageFailed
  dsimp only
  (repeat' split) <;> simp

@[simp] theorem stagePart_clock (bid idx id : Nat) (bs : List Byte) (s : State) :
    (stagePart bid idx id bs s).tick = s.tick ∧ (stagePart bid idx id bs s).pending = s.pending := by
  unfold stagePart
  dsimp only
  (repeat' split) <;> simp

@[simp] theorem stageOne_clock (bid : Nat) (acc : State × Bool) (p : Nat × Nat) :
    (stageOne bid acc p).1.tick = acc.1.tick ∧ (stageOne bid acc p).1.pending = acc.1.pending := by
  unfold stageOne
  dsimp only
  (repeat' split) <;> simp

@[simp] theorem stagePump_clock (s : State) : (stagePump s).tick = s.tick ∧ (stagePump s).pending = s.pending :=
  foldl_clock (fun s a => by (repeat' split) <;> simp) _ _

@[simp] theorem execBatchPartInputRead_clock (bid idx : Nat) (r : ReadResult) (s : State) :
    ResKeeps (SameClock s) (execBatchPartInputRead bid idx r s) := by
  unfold execBatchPartInputRead
  dsimp only
  (repeat' split) <;> simp

@[simp] theorem orphanTimeout_clock (o : Orphan) (s : State) :
    (orphanTimeout o s).tick = s.tick ∧ (orphanTimeout o s).pending = s.pending := by simp [orphanTimeout]

@[simp] theorem imageFails_clock (st op prior : Nat) (s : State) :
    (imageFails st op prior s).tick = s.tick ∧ (imageFails st op prior s).pending = s.pending := by simp [imageFails]

@[simp] theorem execDmaReadTimeout_clock (r : ReadId) (s : State) : ResKeeps (SameClock s) (execDmaReadTimeout r s) := by
  unfold execDmaReadTimeout
  dsimp only
  (repeat' split) <;> simp

@[simp] theorem execLateCompletion_clock (s : State) : ResKeeps (SameClock s) (execLateCompletion s) := by simp [execLateCompletion]

@[simp] theorem masters_clock (i : Nat) (s : State) : (masters i s).tick = s.tick ∧ (masters i s).pending = s.pending := by simp [masters]

@[simp] theorem execSliceFlushDone_clock (i : Nat) (s : State) : ResKeeps (SameClock s) (execSliceFlushDone i s) := by
  simp [execSliceFlushDone]

@[simp] theorem doorbellNotice_clock (event n link : Nat) (s : State) :
    (doorbellNotice event n link s).tick = s.tick ∧ (doorbellNotice event n link s).pending = s.pending := by simp [doorbellNotice]

theorem doorbellOpen_clock {n inst : Nat} {s t : State} (h : doorbellOpen n inst s = .error t) : SameClock s t := by
  unfold doorbellOpen at h
  dsimp only at h
  split at h
  · obtain rfl := Except.error.inj h
    simp
  · split at h
    · obtain rfl := Except.error.inj h
      simp
    · split at h
      · obtain rfl := Except.error.inj h
        simp
      · simp at h

@[simp] theorem execQpSqTail_clock (n inst value : Nat) (s : State) : ResKeeps (SameClock s) (execQpSqTail n inst value s) := by
  unfold execQpSqTail
  split
  next ht => exact doorbellOpen_clock ht
  · simp

@[simp] theorem execQpCqHead_clock (n inst value : Nat) (s : State) : ResKeeps (SameClock s) (execQpCqHead n inst value s) := by
  unfold execQpCqHead
  split
  next ht => exact doorbellOpen_clock ht
  · simp

@[simp] theorem execQpCancel_clock (n inst value : Nat) (s : State) : ResKeeps (SameClock s) (execQpCancel n inst value s) := by
  unfold execQpCancel
  split
  next ht => exact doorbellOpen_clock ht
  · simp

@[simp] theorem execQpPoll_clock (n inst : Nat) (s : State) : ResKeeps (SameClock s) (execQpPoll n inst s) := by simp [execQpPoll]

@[simp] theorem execCqWaitExpiry_clock (n : Nat) (s : State) : ResKeeps (SameClock s) (execCqWaitExpiry n s) := by simp [execCqWaitExpiry]

@[simp] theorem stopAway_clock (mode bid idx : Nat) (s : State) :
    (stopAway mode bid idx s).tick = s.tick ∧ (stopAway mode bid idx s).pending = s.pending := by
  unfold stopAway
  split <;> simp

@[simp] theorem cancelWork_clock (id : Nat) (w : Work) (s : State) :
    (cancelWork id w s).tick = s.tick ∧ (cancelWork id w s).pending = s.pending := by
  unfold cancelWork
  split
  · split
    · simp
    · exact foldl_clock (fun s p => by (repeat' split) <;> simp) _ _
  · simp

@[simp] theorem applyCancel_clock (n : Nat) (s : State) (c : Cancel) :
    (applyCancel n s c).tick = s.tick ∧ (applyCancel n s c).pending = s.pending := by
  unfold applyCancel
  dsimp only
  (repeat' split) <;> simp

@[simp] theorem applyCancels_clock (s : State) : (applyCancels s).tick = s.tick ∧ (applyCancels s).pending = s.pending := by
  simp [applyCancels]

@[simp] theorem resetWork_clock (mode : Nat) (id : Nat) (w : Work) (s : State) :
    (resetWork mode id w s).tick = s.tick ∧ (resetWork mode id w s).pending = s.pending := by
  unfold resetWork
  dsimp only
  (repeat' split) <;> simp

@[simp] theorem applyReset_clock (i : Nat) (s : State) : (applyReset i s).tick = s.tick ∧ (applyReset i s).pending = s.pending := by
  simp only [applyReset, modSlice_frame, settle_clock]
  exact foldl_clock (fun s p => by split <;> simp) _ _

@[simp] theorem flushSlice_clock (i : Nat) (s : State) : (flushSlice i s).tick = s.tick ∧ (flushSlice i s).pending = s.pending := by
  simp [flushSlice]

@[simp] theorem slicesPoint_clock (s : State) : (slicesPoint s).tick = s.tick ∧ (slicesPoint s).pending = s.pending := by simp [slicesPoint]

@[simp] theorem linkDown_linkReads_clock (l : Nat) (s : State) :
    (linkDown.linkReads l s).tick = s.tick ∧ (linkDown.linkReads l s).pending = s.pending := by
  simp [linkDown.linkReads]

@[simp] theorem linkDown_transfersEnd_clock (l : Nat) (s : State) :
    (linkDown.transfersEnd l s).tick = s.tick ∧ (linkDown.transfersEnd l s).pending = s.pending :=
  SameClock.trans (foldl_clock (fun s p => by (repeat' split) <;> simp) _ _) (settle_clock _)

@[simp] theorem linkDown_clock (l : Nat) (s : State) : (linkDown l s).tick = s.tick ∧ (linkDown l s).pending = s.pending := by
  simp only [linkDown, linkDown_linkReads_clock, linkDown_transfersEnd_clock, settle_clock]
  refine SameClock.trans ?_ (foldl_clock (fun s p => ?_) _ _)
  · simp
  · (repeat' split) <;> simp

@[simp] theorem execHostLinkUp_clock (l width speed : Nat) (s : State) : ResKeeps (SameClock s) (execHostLinkUp l width speed s) := by
  simp [execHostLinkUp]

@[simp] theorem pf0Down_clock (s : State) : (pf0Down s).tick = s.tick ∧ (pf0Down s).pending = s.pending := by
  unfold pf0Down
  dsimp only
  (repeat' split) <;> simp

@[simp] theorem execHostLinkDown_clock (l : Nat) (s : State) : ResKeeps (SameClock s) (execHostLinkDown l s) := by
  unfold execHostLinkDown
  split <;> simp

@[simp] theorem execBusMasterClear_clock (l : Nat) (s : State) : ResKeeps (SameClock s) (execBusMasterClear l s) := by
  simp [execBusMasterClear]

@[simp] theorem execHostLinkError_clock (l : Nat) (correctable : Bool) (s : State) :
    ResKeeps (SameClock s) (execHostLinkError l correctable s) := by simp [execHostLinkError]

@[simp] theorem execHostLinkRecovery_clock (l : Nat) (enters : Bool) (s : State) :
    ResKeeps (SameClock s) (execHostLinkRecovery l enters s) := by simp [execHostLinkRecovery]

/-! ### Machine/HostCmds -/

@[simp] theorem sliceBindCmd_clock (h : Held) (p : List Byte) (s : State) :
    (sliceBindCmd h p s).tick = s.tick ∧ (sliceBindCmd h p s).pending = s.pending := by simp [sliceBindCmd]

@[simp] theorem execSliceBind_clock (s : State) : ResKeeps (SameClock s) (execSliceBind s) :=
  withCmd_clock (fun h p => by simp)

@[simp] theorem sliceStartCmd_clock (h : Held) (p : List Byte) (s : State) :
    (sliceStartCmd h p s).tick = s.tick ∧ (sliceStartCmd h p s).pending = s.pending := by simp [sliceStartCmd]

@[simp] theorem execSliceStart_clock (s : State) : ResKeeps (SameClock s) (execSliceStart s) :=
  withCmd_clock (fun h p => by simp)

@[simp] theorem sliceResetCmd_clock (h : Held) (p : List Byte) (s : State) :
    (sliceResetCmd h p s).tick = s.tick ∧ (sliceResetCmd h p s).pending = s.pending := by simp [sliceResetCmd]

@[simp] theorem execSliceReset_clock (s : State) : ResKeeps (SameClock s) (execSliceReset s) :=
  withCmd_clock (fun h p => by simp)

@[simp] theorem sliceUnbindCmd_clock (h : Held) (p : List Byte) (s : State) :
    (sliceUnbindCmd h p s).tick = s.tick ∧ (sliceUnbindCmd h p s).pending = s.pending := by simp [sliceUnbindCmd]

@[simp] theorem execSliceUnbind_clock (s : State) : ResKeeps (SameClock s) (execSliceUnbind s) :=
  withCmd_clock (fun h p => by simp)

@[simp] theorem qpSetCmd_clock (h : Held) (p : List Byte) (s : State) :
    (qpSetCmd h p s).tick = s.tick ∧ (qpSetCmd h p s).pending = s.pending := by simp [qpSetCmd]

@[simp] theorem execQpSet_clock (s : State) : ResKeeps (SameClock s) (execQpSet s) :=
  withCmd_clock (fun h p => by simp)

@[simp] theorem admitSetCmd_clock (h : Held) (p : List Byte) (s : State) :
    (admitSetCmd h p s).tick = s.tick ∧ (admitSetCmd h p s).pending = s.pending := by simp [admitSetCmd]

@[simp] theorem execAdmitSet_clock (s : State) : ResKeeps (SameClock s) (execAdmitSet s) :=
  withCmd_clock (fun h p => by simp)

@[simp] theorem acctSetCmd_clock (h : Held) (p : List Byte) (s : State) :
    (acctSetCmd h p s).tick = s.tick ∧ (acctSetCmd h p s).pending = s.pending := by simp [acctSetCmd]

@[simp] theorem execAcctSet_clock (s : State) : ResKeeps (SameClock s) (execAcctSet s) :=
  withCmd_clock (fun h p => by simp)

@[simp] theorem applyAdmission_clock (s : State) : (applyAdmission s).tick = s.tick ∧ (applyAdmission s).pending = s.pending := by
  simp [applyAdmission]

@[simp] theorem timeSetCmd_clock (h : Held) (p : List Byte) (s : State) :
    (timeSetCmd h p s).tick = s.tick ∧ (timeSetCmd h p s).pending = s.pending := by simp [timeSetCmd]

@[simp] theorem execTimeSet_clock (s : State) : ResKeeps (SameClock s) (execTimeSet s) :=
  withCmd_clock (fun h p => by simp)

@[simp] theorem utcUpdate_clock (s : State) : (utcUpdate s).tick = s.tick ∧ (utcUpdate s).pending = s.pending := by
  unfold utcUpdate
  dsimp only
  (repeat' split) <;> simp

@[simp] theorem execUtcUpdate_clock (s : State) : ResKeeps (SameClock s) (execUtcUpdate s) := by simp [execUtcUpdate]

@[simp] theorem execUtcValidExpiry_clock (s : State) : ResKeeps (SameClock s) (execUtcValidExpiry s) := by simp [execUtcValidExpiry]

@[simp] theorem execTkCountLowRead_clock (s : State) : ResKeeps (SameClock s) (execTkCountLowRead s) := by simp [execTkCountLowRead]

/-! ### Machine/Fences -/

@[simp] theorem violate_clock (g : Nat) (a : Access) (master : Nat) (b : Blocked) (s : State) :
    (violate g a master b s).tick = s.tick ∧ (violate g a master b s).pending = s.pending := by simp [violate]

@[simp] theorem fenceCheck_clock (g : Nat) (a : Option Access) (master : Nat) (s : State) :
    (fenceCheck g a master s).2.tick = s.tick ∧ (fenceCheck g a master s).2.pending = s.pending := by
  unfold fenceCheck
  (repeat' split) <;> simp

@[simp] theorem fenceSetCmd_clock (h : Held) (p : List Byte) (s : State) :
    (fenceSetCmd h p s).tick = s.tick ∧ (fenceSetCmd h p s).pending = s.pending := by simp [fenceSetCmd]

@[simp] theorem execFenceSet_clock (s : State) : ResKeeps (SameClock s) (execFenceSet s) :=
  withCmd_clock (fun h p => by simp)

@[simp] theorem fenceLockCmd_clock (h : Held) (p : List Byte) (s : State) :
    (fenceLockCmd h p s).tick = s.tick ∧ (fenceLockCmd h p s).pending = s.pending := by simp [fenceLockCmd]

@[simp] theorem execFenceLock_clock (s : State) : ResKeeps (SameClock s) (execFenceLock s) :=
  withCmd_clock (fun h p => by simp)

@[simp] theorem applyFences_clock (s : State) : (applyFences s).tick = s.tick ∧ (applyFences s).pending = s.pending := by simp [applyFences]

/-! ### Machine/Trace -/

@[simp] theorem putPacket_clock (p : Packet) (s : State) : (putPacket p s).tick = s.tick ∧ (putPacket p s).pending = s.pending := by
  simp [putPacket]

@[simp] theorem tracePacket_clock (type source code data : Nat) (s : State) :
    (tracePacket type source code data s).tick = s.tick ∧ (tracePacket type source code data s).pending = s.pending := by
  simp [tracePacket]

@[simp] theorem traceGap_clock (c : Nat) (s : State) : (traceGap c s).tick = s.tick ∧ (traceGap c s).pending = s.pending := by
  simp [traceGap]

@[simp] theorem traceResume_clock (c : Nat) (s : State) : (traceResume c s).tick = s.tick ∧ (traceResume c s).pending = s.pending := by
  simp [traceResume]

@[simp] theorem traceSync_clock (s : State) : (traceSync s).tick = s.tick ∧ (traceSync s).pending = s.pending := by simp [traceSync]

@[simp] theorem traceOpenCmd_clock (h : Held) (p : List Byte) (s : State) :
    (traceOpenCmd h p s).tick = s.tick ∧ (traceOpenCmd h p s).pending = s.pending := by simp [traceOpenCmd]

@[simp] theorem execTraceOpen_clock (s : State) : ResKeeps (SameClock s) (execTraceOpen s) :=
  withCmd_clock (fun h p => by simp)

@[simp] theorem traceCloseCmd_clock (h : Held) (k : List Byte) (s : State) :
    (traceCloseCmd h k s).tick = s.tick ∧ (traceCloseCmd h k s).pending = s.pending := by simp [traceCloseCmd]

@[simp] theorem execTraceClose_clock (s : State) : ResKeeps (SameClock s) (execTraceClose s) :=
  withCmd_clock (fun h p => by simp)

@[simp] theorem traceEndPoint_clock (s : State) : (traceEndPoint s).tick = s.tick ∧ (traceEndPoint s).pending = s.pending := by
  simp [traceEndPoint]

@[simp] theorem execTraceEndTick_clock (s : State) : ResKeeps (SameClock s) (execTraceEndTick s) := by simp [execTraceEndTick]

@[simp] theorem execTraceSync_clock (s : State) : ResKeeps (SameClock s) (execTraceSync s) := by simp [execTraceSync]

/-! ### Machine/Clusters -/

@[simp] theorem scoreEngine_clock (e : Nat) (s : State) : (scoreEngine e s).tick = s.tick ∧ (scoreEngine e s).pending = s.pending := by
  simp [scoreEngine]

@[simp] theorem scoreIf_clock (c : Bool) (e : Nat) (s : State) :
    (scoreIf c e s).tick = s.tick ∧ (scoreIf c e s).pending = s.pending := by simp [scoreIf]

@[simp] theorem retireOne_clock (e : Nat) (s : State) : (retireOne e s).tick = s.tick ∧ (retireOne e s).pending = s.pending := by
  simp [retireOne]

@[simp] theorem retireEngine_clock (e : Nat) (s : State) :
    (retireEngine e s).tick = s.tick ∧ (retireEngine e s).pending = s.pending := by simp [retireEngine]

@[simp] theorem retireDue_clock (s : State) : (retireDue s).tick = s.tick ∧ (retireDue s).pending = s.pending := by simp [retireDue]

@[simp] theorem latentOn_clock (e : Nat) (s : State) : (latentOn e s).tick = s.tick ∧ (latentOn e s).pending = s.pending := by
  simp [latentOn]

@[simp] theorem execRetestEnd_clock (e : Nat) (passed : Bool) (s : State) : ResKeeps (SameClock s) (execRetestEnd e passed s) := by
  unfold execRetestEnd
  dsimp only
  (repeat' split) <;> simp

@[simp] theorem keepCounts_clock (s after : State) :
    (keepCounts s after).tick = s.tick ∧ (keepCounts s after).pending = s.pending := ⟨rfl, rfl⟩

@[simp] theorem takeResult_clock (id : Nat) (w : Work) (s : State) :
    (takeResult id w s).tick = s.tick ∧ (takeResult id w s).pending = s.pending := by
  unfold takeResult
  dsimp only
  (repeat' split) <;> simp

@[simp] theorem countMismatch_clock (w : Work) (s : State) :
    (countMismatch w s).tick = s.tick ∧ (countMismatch w s).pending = s.pending := by simp [countMismatch]

@[simp] theorem startRetry_clock (id : Nat) (w : Work) (bad1 bad2 now : Bool) (s : State) :
    (startRetry id w bad1 bad2 now s).tick = s.tick ∧ (startRetry id w bad1 bad2 now s).pending = s.pending := by
  unfold startRetry
  dsimp only
  (repeat' split) <;> simp

@[simp] theorem twinFail_clock (id : Nat) (w : Work) (s : State) :
    (twinFail id w s).tick = s.tick ∧ (twinFail id w s).pending = s.pending := by simp [twinFail]

@[simp] theorem retryOk_clock (id : Nat) (w : Work) (s : State) :
    (retryOk id w s).tick = s.tick ∧ (retryOk id w s).pending = s.pending := by simp [retryOk]

@[simp] theorem latentSeen_clock (w : Work) (fields : Nat) (s : State) :
    (latentSeen w fields s).tick = s.tick ∧ (latentSeen w fields s).pending = s.pending := by simp [latentSeen]

@[simp] theorem calibrateStep_clock (w : Work) (o : StepOut) (s : State) :
    (calibrateStep w o s).tick = s.tick ∧ (calibrateStep w o s).pending = s.pending := by simp [calibrateStep]

@[simp] theorem stepGood_clock (id : Nat) (w : Work) (o : StepOut) (latent : Option Nat) (s : State) :
    (stepGood id w o latent s).tick = s.tick ∧ (stepGood id w o latent s).pending = s.pending := by
  unfold stepGood
  dsimp only
  (repeat' split) <;> simp

@[simp] theorem stepFence_clock (w : Work) (o : StepOut) (s : State) :
    (stepFence w o s).2.tick = s.tick ∧ (stepFence w o s).2.pending = s.pending := by simp [stepFence]

@[simp] theorem execEngineStepEnd_clock (id : Nat) (o : StepOut) (s : State) : ResKeeps (SameClock s) (execEngineStepEnd id o s) := by
  unfold execEngineStepEnd
  dsimp only
  (repeat' split) <;> simp

@[simp] theorem machineCheck_clock (id : Nat) (w : Work) (second now : Bool) (s : State) :
    (machineCheck id w second now s).tick = s.tick ∧ (machineCheck id w second now s).pending = s.pending := by simp [machineCheck]

@[simp] theorem execMachineCheck_clock (id : Nat) (second : Bool) (s : State) :
    ResKeeps (SameClock s) (execMachineCheck id second s) := by
  unfold execMachineCheck
  split <;> simp

@[simp] theorem programFault_clock (id : Nat) (w : Work) (s : State) :
    (programFault id w s).tick = s.tick ∧ (programFault id w s).pending = s.pending := by
  simp [programFault]

@[simp] theorem execEngineCycleOverrun_clock (id : Nat) (both second : Bool) (s : State) :
    ResKeeps (SameClock s) (execEngineCycleOverrun id both second s) := by
  unfold execEngineCycleOverrun
  split <;> simp

@[simp] theorem clDrainCmd_clock (h : Held) (p : List Byte) (s : State) :
    (clDrainCmd h p s).tick = s.tick ∧ (clDrainCmd h p s).pending = s.pending := by simp [clDrainCmd]

@[simp] theorem execClDrain_clock (s : State) : ResKeeps (SameClock s) (execClDrain s) :=
  withCmd_clock (fun h p => by simp)

@[simp] theorem clLoadCmd_clock (h : Held) (p : List Byte) (s : State) :
    (clLoadCmd h p s).tick = s.tick ∧ (clLoadCmd h p s).pending = s.pending := by simp [clLoadCmd]

@[simp] theorem execClLoad_clock (s : State) : ResKeeps (SameClock s) (execClLoad s) :=
  withCmd_clock (fun h p => by simp)

@[simp] theorem endRollout_clock (s : State) : (endRollout s).tick = s.tick ∧ (endRollout s).pending = s.pending := by simp [endRollout]

@[simp] theorem execClLoadDone_clock (c : Nat) (ok : Bool) (s : State) : ResKeeps (SameClock s) (execClLoadDone c ok s) := by
  simp [execClLoadDone]

@[simp] theorem clReturnCmd_clock (h : Held) (p : List Byte) (s : State) :
    (clReturnCmd h p s).tick = s.tick ∧ (clReturnCmd h p s).pending = s.pending := by simp [clReturnCmd]

@[simp] theorem execClReturn_clock (s : State) : ResKeeps (SameClock s) (execClReturn s) :=
  withCmd_clock (fun h p => by simp)

@[simp] theorem clGatingCmd_clock (h : Held) (p : List Byte) (s : State) :
    (clGatingCmd h p s).tick = s.tick ∧ (clGatingCmd h p s).pending = s.pending := by simp [clGatingCmd]

@[simp] theorem execClGating_clock (s : State) : ResKeeps (SameClock s) (execClGating s) :=
  withCmd_clock (fun h p => by simp)

@[simp] theorem moveSlots_clock (c : Nat) (s : State) : (moveSlots c s).tick = s.tick ∧ (moveSlots c s).pending = s.pending := by
  simp [moveSlots]

@[simp] theorem clusterPoint_clock (c : Nat) (s : State) :
    (clusterPoint c s).tick = s.tick ∧ (clusterPoint c s).pending = s.pending := by
  unfold clusterPoint
  split <;> simp

@[simp] theorem drainPoint_clock (s : State) : (drainPoint s).tick = s.tick ∧ (drainPoint s).pending = s.pending := by simp [drainPoint]

@[simp] theorem clustersPoint_clock (s : State) : (clustersPoint s).tick = s.tick ∧ (clustersPoint s).pending = s.pending := by
  simp [clustersPoint]

@[simp] theorem gatingHistory_clock (s : State) : (gatingHistory s).tick = s.tick ∧ (gatingHistory s).pending = s.pending := by
  simp [gatingHistory]

@[simp] theorem execGatingDecision_clock (c : Nat) (s : State) : ResKeeps (SameClock s) (execGatingDecision c s) := by
  simp [execGatingDecision]

@[simp] theorem execClusterWakeEnd_clock (c : Nat) (s : State) : ResKeeps (SameClock s) (execClusterWakeEnd c s) := by
  simp [execClusterWakeEnd]

@[simp] theorem readmitEngine_clock (e : Nat) (s : State) :
    (readmitEngine e s).tick = s.tick ∧ (readmitEngine e s).pending = s.pending := by simp [readmitEngine]

/-! ### Machine/PkUnits -/

@[simp] theorem handshakeSteps_clock (x : Ep) (h : Hello) (s : State) :
    (handshakeSteps x h s).2.tick = s.tick ∧ (handshakeSteps x h s).2.pending = s.pending := by simp [handshakeSteps]

@[simp] theorem handshakeStart_clock (e : Nat) (s : State) :
    (handshakeStart e s).2.tick = s.tick ∧ (handshakeStart e s).2.pending = s.pending := by
  unfold handshakeStart
  dsimp only
  (repeat' split) <;> simp

@[simp] theorem pkFirstStep_clock (w : Work) (s : State) :
    (pkFirstStep w s).2.tick = s.tick ∧ (pkFirstStep w s).2.pending = s.pending := by
  unfold pkFirstStep
  split <;> simp

@[simp] theorem pkUsage_clock (id : Nat) (w : Work) (s : State) :
    (pkUsage id w s).tick = s.tick ∧ (pkUsage id w s).pending = s.pending := by simp [pkUsage]

@[simp] theorem pkPassed_clock (id : Nat) (w : Work) (s : State) :
    (pkPassed id w s).tick = s.tick ∧ (pkPassed id w s).pending = s.pending := by
  unfold pkPassed
  split <;> simp

@[simp] theorem helloDone_clock (e : Nat) (s : State) : (helloDone e s).tick = s.tick ∧ (helloDone e s).pending = s.pending := by
  simp [helloDone]

@[simp] theorem pkFinish_clock (id : Nat) (w : Work) (s : State) :
    (pkFinish id w s).tick = s.tick ∧ (pkFinish id w s).pending = s.pending := by
  unfold pkFinish
  split <;> simp

@[simp] theorem countCheck_clock (u : Nat) (s : State) : (countCheck u s).tick = s.tick ∧ (countCheck u s).pending = s.pending := by
  simp [countCheck]

@[simp] theorem pkFailed_clock (id u : Nat) (w : Work) (s : State) :
    (pkFailed id u w s).tick = s.tick ∧ (pkFailed id u w s).pending = s.pending := by
  unfold pkFailed
  split <;> simp

@[simp] theorem pkAdvance_clock (id u : Nat) (w : Work) (s : State) :
    (pkAdvance id u w s).tick = s.tick ∧ (pkAdvance id u w s).pending = s.pending := by
  unfold pkAdvance
  dsimp only
  (repeat' split) <;> simp

@[simp] theorem ctlFailed_clock (u : Nat) (c : PkCtl) (s : State) :
    (ctlFailed u c s).tick = s.tick ∧ (ctlFailed u c s).pending = s.pending := by
  unfold ctlFailed
  dsimp only
  (repeat' split) <;> simp

@[simp] theorem ctlStep_clock (u : Nat) (c : PkCtl) (rest : List PkCtl) (failed : Bool) (s : State) :
    (ctlStep u c rest failed s).tick = s.tick ∧ (ctlStep u c rest failed s).pending = s.pending := by
  unfold ctlStep
  dsimp only
  (repeat' split) <;> simp

@[simp] theorem dataStep_clock (u c : Nat) (failed : Bool) (a : Option Access) (s : State) :
    (dataStep u c failed a s).tick = s.tick ∧ (dataStep u c failed a s).pending = s.pending := by
  unfold dataStep
  split <;> simp

@[simp] theorem execPkUnitStep_clock (u : Nat) (failed : Bool) (a : Option Access) (s : State) :
    ResKeeps (SameClock s) (execPkUnitStep u failed a s) := by
  unfold execPkUnitStep
  dsimp only
  (repeat' split) <;> simp

@[simp] theorem pkPoint_clock (s : State) : (pkPoint s).tick = s.tick ∧ (pkPoint s).pending = s.pending :=
  SameClock.trans (foldl_clock (fun s p => by simp) _ _) (foldl_clock (fun s p => by split <;> simp) _ _)

@[simp] theorem unitQueryCmd_clock (h : Held) (p : List Byte) (s : State) :
    (unitQueryCmd h p s).tick = s.tick ∧ (unitQueryCmd h p s).pending = s.pending := by simp [unitQueryCmd]

@[simp] theorem execUnitQuery_clock (s : State) : ResKeeps (SameClock s) (execUnitQuery s) :=
  withCmd_clock (fun h p => by simp)

@[simp] theorem readmitUnit_clock (u : Nat) (passed : Bool) (s : State) :
    (readmitUnit u passed s).tick = s.tick ∧ (readmitUnit u passed s).pending = s.pending := by simp [readmitUnit]

/-! ### Machine/PortBase -/

@[simp] theorem chooseSource_clock (s : State) : (chooseSource s).tick = s.tick ∧ (chooseSource s).pending = s.pending := by
  simp [chooseSource]

@[simp] theorem dormantOn_clock (c : Ep → Bool) (s : State) : (dormantOn c s).tick = s.tick ∧ (dormantOn c s).pending = s.pending := by
  simp [dormantOn]

@[simp] theorem dropTx_clock (p : Nat) (c : EgItem → Bool) (s : State) :
    (dropTx p c s).tick = s.tick ∧ (dropTx p c s).pending = s.pending :=
  foldl_clock (fun s a => by (repeat' split) <;> simp) _ _

@[simp] theorem stopTraffic_clock (p : Nat) (s : State) : (stopTraffic p s).tick = s.tick ∧ (stopTraffic p s).pending = s.pending := by
  simp [stopTraffic]

@[simp] theorem startTraining_clock (p : Nat) (s : State) :
    (startTraining p s).tick = s.tick ∧ (startTraining p s).pending = s.pending := by simp [startTraining]

/-! ### Machine/Lanes -/

@[simp] theorem writeBulk_clock (w : Work) (addr : Nat) (d : List Byte) (s : State) :
    (writeBulk w addr d s).tick = s.tick ∧ (writeBulk w addr d s).pending = s.pending := by
  unfold writeBulk
  split <;> simp

@[simp] theorem execHostLaneChunkEnd_clock (id : Nat) (r : ReadResult) (a : Option Access) (s : State) :
    ResKeeps (SameClock s) (execHostLaneChunkEnd id r a s) := by
  unfold execHostLaneChunkEnd
  split
  · simp
  · split
    · simp
    · split
      · simp
      · extract_lets s1 s2 q s3 c
        obtain ⟨htick, hpend⟩ : SameClock s q.2 := by simp [q, s2, s1]
        clear_value q
        split
        · simp [htick, hpend]
        · split
          · simp [s3, htick, hpend]
          · split
            · simp [s3, htick, hpend]
            · extract_lets d y t1 t2 t3 w t4 res t5
              obtain ⟨htick', hpend'⟩ : SameClock s t4 := by simp [t4, t3, t2, t1, s3, htick, hpend]
              clear_value t4
              split
              · simp [htick', hpend']
              · split
                · simp [t5, htick', hpend']
                · simp [htick', hpend']

@[simp] theorem faultLane_clock (n : Nat) (s : State) : (faultLane n s).tick = s.tick ∧ (faultLane n s).pending = s.pending := by
  simp [faultLane]

@[simp] theorem moveOps_clock (n : Nat) (s : State) : (moveOps n s).tick = s.tick ∧ (moveOps n s).pending = s.pending :=
  foldl_clock (fun s a => by (repeat' split) <;> simp) _ _

@[simp] theorem execHostLaneMismatch_clock (n id : Nat) (s : State) : ResKeeps (SameClock s) (execHostLaneMismatch n id s) := by
  unfold execHostLaneMismatch
  split <;> simp

@[simp] theorem faultNote_clock (n slot spare hold : Nat) (s : State) :
    (faultNote n slot spare hold s).tick = s.tick ∧ (faultNote n slot spare hold s).pending = s.pending := by simp [faultNote]

@[simp] theorem portFailed_clock (p : Nat) (s : State) : (portFailed p s).tick = s.tick ∧ (portFailed p s).pending = s.pending := by
  simp [portFailed]

@[simp] theorem handoverDone_clock (n : Nat) (s : State) :
    (handoverDone n s).tick = s.tick ∧ (handoverDone n s).pending = s.pending := by simp [handoverDone]

@[simp] theorem runSets_clock (m : Nat) (sets : List LaneReplay) (s : State) :
    (runSets m sets s).tick = s.tick ∧ (runSets m sets s).pending = s.pending := by simp [runSets]

@[simp] theorem setsLost_clock (k : Nat) (sets : List LaneReplay) (s : State) :
    (setsLost k sets s).tick = s.tick ∧ (setsLost k sets s).pending = s.pending := by simp [setsLost]

@[simp] theorem rerunSets_clock (n k : Nat) (sets : List LaneReplay) (s : State) :
    (rerunSets n k sets s).tick = s.tick ∧ (rerunSets n k sets s).pending = s.pending := by
  unfold rerunSets
  dsimp only
  (repeat' split) <;> simp

@[simp] theorem refillSlot_clock (n k : Nat) (sets : List LaneReplay) (s : State) :
    (refillSlot n k sets s).tick = s.tick ∧ (refillSlot n k sets s).pending = s.pending := by
  unfold refillSlot
  split <;> simp

@[simp] theorem execLaneBeatMismatch_clock (n : Nat) (s : State) : ResKeeps (SameClock s) (execLaneBeatMismatch n s) := by
  unfold execLaneBeatMismatch
  dsimp only
  (repeat' split) <;> simp

@[simp] theorem releaseHold_clock (p : Nat) (s : State) : (releaseHold p s).tick = s.tick ∧ (releaseHold p s).pending = s.pending := by
  simp [releaseHold]

@[simp] theorem execLaneReplayDone_clock (n hold : Nat) (s : State) : ResKeeps (SameClock s) (execLaneReplayDone n hold s) := by
  unfold execLaneReplayDone
  split <;> simp

@[simp] theorem execSpareKatFault_clock (n : Nat) (s : State) : ResKeeps (SameClock s) (execSpareKatFault n s) := by
  unfold execSpareKatFault
  dsimp only
  (repeat' split) <;> simp

@[simp] theorem execLaneRetestStart_clock (n : Nat) (s : State) : ResKeeps (SameClock s) (execLaneRetestStart n s) := by
  simp [execLaneRetestStart]

@[simp] theorem execLaneRetestEnd_clock (n : Nat) (passed : Bool) (s : State) :
    ResKeeps (SameClock s) (execLaneRetestEnd n passed s) := by
  unfold execLaneRetestEnd
  dsimp only
  (repeat' split) <;> simp

@[simp] theorem lanesPoint_clock (s : State) : (lanesPoint s).tick = s.tick ∧ (lanesPoint s).pending = s.pending := by simp [lanesPoint]

@[simp] theorem execLaneRotationStart_clock (d : Nat) (s : State) : ResKeeps (SameClock s) (execLaneRotationStart d s) := by
  unfold execLaneRotationStart
  dsimp only
  (repeat' split) <;> simp

@[simp] theorem execHandoverEnd_clock (d : Nat) (s : State) : ResKeeps (SameClock s) (execHandoverEnd d s) := by
  unfold execHandoverEnd
  split <;> simp

@[simp] theorem execHandoverRetestEnd_clock (d : Nat) (s : State) : ResKeeps (SameClock s) (execHandoverRetestEnd d s) := by
  unfold execHandoverRetestEnd
  split <;> simp

@[simp] theorem laneSetCmd_clock (h : Held) (p : List Byte) (s : State) :
    (laneSetCmd h p s).tick = s.tick ∧ (laneSetCmd h p s).pending = s.pending := by simp [laneSetCmd]

@[simp] theorem execLaneSet_clock (s : State) : ResKeeps (SameClock s) (execLaneSet s) :=
  withCmd_clock (fun h p => by simp)

@[simp] theorem readmitLane_clock (n : Nat) (s : State) : (readmitLane n s).tick = s.tick ∧ (readmitLane n s).pending = s.pending := by
  simp [readmitLane]

@[simp] theorem execReadmit_clock (passed : Bool) (s : State) : ResKeeps (SameClock s) (execReadmit passed s) :=
  withCmd_clock (fun h p => by dsimp only; (repeat' split) <;> simp)

/-! ### Machine/Ports -/

@[simp] theorem portSetCmd_clock (h : Held) (p : List Byte) (s : State) :
    (portSetCmd h p s).tick = s.tick ∧ (portSetCmd h p s).pending = s.pending := by
  unfold portSetCmd
  split <;> simp

@[simp] theorem execPortSet_clock (s : State) : ResKeeps (SameClock s) (execPortSet s) :=
  withCmd_clock (fun h p => by simp)

@[simp] theorem portFromLinks_clock (p cause : Nat) (s : State) :
    (portFromLinks p cause s).tick = s.tick ∧ (portFromLinks p cause s).pending = s.pending := by simp [portFromLinks]

@[simp] theorem linkGoesDown_clock (p k cause : Nat) (s : State) :
    (linkGoesDown p k cause s).tick = s.tick ∧ (linkGoesDown p k cause s).pending = s.pending := by
  unfold linkGoesDown
  split <;> simp

@[simp] theorem linkFault_clock (p k cause : Nat) (s : State) : ResKeeps (SameClock s) (linkFault p k cause s) := by
  unfold linkFault
  split <;> simp

@[simp] theorem execLossOfSignal_clock (p k : Nat) (s : State) : ResKeeps (SameClock s) (execLossOfSignal p k s) := by
  simp [execLossOfSignal]

@[simp] theorem execLossOfAlignment_clock (p k : Nat) (s : State) : ResKeeps (SameClock s) (execLossOfAlignment p k s) := by
  simp [execLossOfAlignment]

@[simp] theorem execRemoteFault_clock (p k : Nat) (s : State) : ResKeeps (SameClock s) (execRemoteFault p k s) := by simp [execRemoteFault]

@[simp] theorem execLinkUp_clock (p k : Nat) (s : State) : ResKeeps (SameClock s) (execLinkUp p k s) := by
  unfold execLinkUp
  split <;> simp

@[simp] theorem execTrainingEnd_clock (p k : Nat) (ok : Bool) (s : State) : ResKeeps (SameClock s) (execTrainingEnd p k ok s) := by
  unfold execTrainingEnd
  dsimp only
  (repeat' split) <;> simp

@[simp] theorem execFecUncorrectable_clock (p k : Nat) (s : State) : ResKeeps (SameClock s) (execFecUncorrectable p k s) := by
  simp [execFecUncorrectable]

@[simp] theorem bandPoint_clock (s : State) : (bandPoint s).tick = s.tick ∧ (bandPoint s).pending = s.pending := by simp [bandPoint]

@[simp] theorem execSerdesBandApply_clock (s : State) : ResKeeps (SameClock s) (execSerdesBandApply s) := by
  unfold execSerdesBandApply
  split <;> simp

@[simp] theorem execAutoRetrainStart_clock (p : Nat) (s : State) : ResKeeps (SameClock s) (execAutoRetrainStart p s) := by
  simp [execAutoRetrainStart]

@[simp] theorem rxFrame_clock (p n : Nat) (s : State) : (rxFrame p n s).tick = s.tick ∧ (rxFrame p n s).pending = s.pending := by
  simp [rxFrame]

@[simp] theorem dropFull_clock (p : Nat) (s : State) : (dropFull p s).tick = s.tick ∧ (dropFull p s).pending = s.pending := by
  simp [dropFull]

@[simp] theorem dropOther_clock (p : Nat) (s : State) : (dropOther p s).tick = s.tick ∧ (dropOther p s).pending = s.pending := by
  simp [dropOther]

@[simp] theorem execMacControlFrame_clock (p k : Nat) (frame : List Byte) (s : State) :
    ResKeeps (SameClock s) (execMacControlFrame p k frame s) := by simp [execMacControlFrame]

@[simp] theorem forwardFrame_clock (p b k : Nat) (clear : List Byte) (s : State) :
    (forwardFrame p b k clear s).tick = s.tick ∧ (forwardFrame p b k clear s).pending = s.pending := by simp [forwardFrame]

@[simp] theorem groupFrame_clock (p k : Nat) (clear : List Byte) (s : State) :
    (groupFrame p k clear s).tick = s.tick ∧ (groupFrame p k clear s).pending = s.pending := by simp [groupFrame]

@[simp] theorem receiveMacsec_clock (p k n : Nat) (f : List Byte) (s : State) :
    (receiveMacsec p k n f s).tick = s.tick ∧ (receiveMacsec p k n f s).pending = s.pending := by
  unfold receiveMacsec
  dsimp only
  (repeat' split) <;> simp

@[simp] theorem stagingLook_clock (die : Nat) (s : State) :
    (stagingLook die s).tick = s.tick ∧ (stagingLook die s).pending = s.pending := by simp [stagingLook]

@[simp] theorem stagingTake_clock (p : Nat) (top : Bool) (n : Nat) (s : State) :
    (stagingTake p top n s).tick = s.tick ∧ (stagingTake p top n s).pending = s.pending := by simp [stagingTake]

@[simp] theorem dispatchIn_clock (p : Nat) (f : InFrame) (s : State) :
    (dispatchIn p f s).2.tick = s.tick ∧ (dispatchIn p f s).2.pending = s.pending := by simp [dispatchIn]

@[simp] theorem inPump_clock {run : Nat → Nat → InFrame → State → State} (hrun : ∀ p n f s, SameClock s (run p n f s))
    (p : Nat) (s : State) :
    (inPump run p s).tick = s.tick ∧ (inPump run p s).pending = s.pending := by
  simp only [sameClock_iff] at hrun
  unfold inPump
  dsimp only
  split
  · exact ⟨rfl, rfl⟩
  · refine SameClock.trans (t := modPort p (fun x => { x with inq := [] }) s) (by simp) ?_
    simp only [sameClock_iff, modPort_frame]
    exact foldl_snd_clock (fun a f => by (repeat' split) <;> simp [hrun]) _ _

@[simp] theorem inMeets_clock {g : State → State} (hg : ∀ s, SameClock s (g s)) (p : Nat) (f : InFrame) (s : State) :
    (inMeets p f s g).tick = s.tick ∧ (inMeets p f s g).pending = s.pending := by
  simp only [sameClock_iff] at hg
  simp [inMeets, hg]

@[simp] theorem inEnter_clock (p : Nat) (f : InFrame) (s : State) :
    (inEnter p f s).tick = s.tick ∧ (inEnter p f s).pending = s.pending := by simp [inEnter]

@[simp] theorem saSetCmd_clock (h : Held) (p : List Byte) (s : State) :
    (saSetCmd h p s).tick = s.tick ∧ (saSetCmd h p s).pending = s.pending := by
  unfold saSetCmd
  dsimp only
  (repeat' split) <;> simp

@[simp] theorem execSaSet_clock (s : State) : ResKeeps (SameClock s) (execSaSet s) :=
  withCmd_clock (fun h p => by simp)

@[simp] theorem saRemoveCmd_clock (h : Held) (p : List Byte) (s : State) :
    (saRemoveCmd h p s).tick = s.tick ∧ (saRemoveCmd h p s).pending = s.pending := by simp [saRemoveCmd]

@[simp] theorem execSaRemove_clock (s : State) : ResKeeps (SameClock s) (execSaRemove s) :=
  withCmd_clock (fun h p => by simp)

@[simp] theorem saPoint_clock (s : State) : (saPoint s).tick = s.tick ∧ (saPoint s).pending = s.pending := by simp [saPoint]

@[simp] theorem plainFrame_clock {g : State → State} (hg : ∀ s, SameClock s (g s)) (p k : Nat) (f : List Byte) (s : State) :
    (plainFrame p k f s g).tick = s.tick ∧ (plainFrame p k f s g).pending = s.pending := by
  simp only [sameClock_iff] at hg
  simp [plainFrame, hg]

@[simp] theorem answerFrame_clock (p k : Nat) (answer : List Byte) (s : State) :
    (answerFrame p k answer s).tick = s.tick ∧ (answerFrame p k answer s).pending = s.pending := by simp [answerFrame]

@[simp] theorem execArpRequest_clock (p k : Nat) (f : List Byte) (s : State) : ResKeeps (SameClock s) (execArpRequest p k f s) := by
  unfold execArpRequest
  split <;> simp

@[simp] theorem execNeighborSolicitation_clock (p k : Nat) (f : List Byte) (s : State) :
    ResKeeps (SameClock s) (execNeighborSolicitation p k f s) := by
  unfold execNeighborSolicitation
  split <;> simp

@[simp] theorem execOtherFrame_clock (p k : Nat) (f : List Byte) (s : State) : ResKeeps (SameClock s) (execOtherFrame p k f s) := by
  simp [execOtherFrame]

/-! ### Machine/Sessions -/

@[simp] theorem verified_clock (e p : Nat) (f : InFrame) (new : Bool) (set : KeySet) (s : State) :
    (verified e p f new set s).2.tick = s.tick ∧ (verified e p f new set s).2.pending = s.pending := by
  unfold verified
  split <;> simp

@[simp] theorem refuseEarly_clock (i : HdrInfo) (note status detail ticks : Nat) (s : State) :
    (refuseEarly i note status detail ticks s).tick = s.tick ∧ (refuseEarly i note status detail ticks s).pending = s.pending := by
  simp [refuseEarly]

theorem checkMessage_clock {s : State} {p : Nat} {x : Ep} {h body : List Byte} {q : Msg × State}
    (e : checkMessage s p x h body = .inr q) : SameClock s q.2 := by
  unfold checkMessage at e
  dsimp only at e
  (repeat' split at e) <;> simp only [Sum.inr.injEq, reduceCtorEq] at e
  all_goals
    subst e
    exact ⟨rfl, rfl⟩

@[simp] theorem submitMsg_clock (x : Ep) (m : Msg) (s : State) :
    (submitMsg x m s).tick = s.tick ∧ (submitMsg x m s).pending = s.pending := by simp [submitMsg]

@[simp] theorem messagePass_clock (e p : Nat) (h body : List Byte) (s : State) :
    (messagePass e p h body s).tick = s.tick ∧ (messagePass e p h body s).pending = s.pending := by
  unfold messagePass
  dsimp only
  split
  · exact ⟨rfl, rfl⟩
  · split
    · simp
    · split
      · simp
      · split
        · simp
        next m t hm =>
          obtain ⟨htick, hpend⟩ : SameClock s t := checkMessage_clock hm
          split <;> simp [htick, hpend]

theorem badNote_clock {e p : Nat} {h : List Byte} {s t : State} (hb : badNote e p h s = some t) : SameClock s t := by
  unfold badNote at hb
  split at hb
  · cases hb
  · obtain ⟨x, -, rfl⟩ := Option.map_eq_some_iff.mp hb
    simp

@[simp] theorem keepalive_clock (e p : Nat) (h : List Byte) (s : State) :
    (keepalive e p h s).tick = s.tick ∧ (keepalive e p h s).pending = s.pending :=
  getD_clock (fun _ => badNote_clock) (by simp)

@[simp] theorem closed_clock (e p : Nat) (h : List Byte) (s : State) :
    (closed e p h s).tick = s.tick ∧ (closed e p h s).pending = s.pending :=
  getD_clock (fun _ => badNote_clock) (by simp)

@[simp] theorem otherType_clock (e p : Nat) (h : List Byte) (s : State) :
    (otherType e p h s).tick = s.tick ∧ (otherType e p h s).pending = s.pending := by
  unfold otherType
  split <;> simp

@[simp] theorem opened_clock (e p : Nat) (h body : List Byte) (s : State) :
    (opened e p h body s).tick = s.tick ∧ (opened e p h body s).pending = s.pending := by
  unfold opened
  split <;> simp

@[simp] theorem tagPass_clock (p n : Nat) (f : InFrame) (s : State) :
    (tagPass p n f s).tick = s.tick ∧ (tagPass p n f s).pending = s.pending := by
  unfold tagPass
  dsimp only
  (repeat' split) <;> simp

@[simp] theorem laneRun_clock (p n : Nat) (f : InFrame) (s : State) :
    (laneRun p n f s).tick = s.tick ∧ (laneRun p n f s).pending = s.pending := by simp [laneRun]

@[simp] theorem ingress_clock (p : Nat) (s : State) : (ingress p s).tick = s.tick ∧ (ingress p s).pending = s.pending := by simp [ingress]

@[simp] theorem buffersPoint_clock (s : State) : (buffersPoint s).tick = s.tick ∧ (buffersPoint s).pending = s.pending := by
  simp [buffersPoint]

@[simp] theorem execMacsecFrame_clock (p k : Nat) (f : List Byte) (s : State) : ResKeeps (SameClock s) (execMacsecFrame p k f s) := by
  simp [execMacsecFrame]

/-- What the header pass hands on. -/
def Arrived.state : Arrived → State
  | .dropped s => s
  | .clear _ _ s => s
  | .held s => s

theorem arrive_clock (p k : Nat) (src d : List Byte) (s : State) : SameClock s (arrive p k src d s).state := by
  unfold arrive
  dsimp only
  (repeat' split) <;> simp [Arrived.state]

theorem tpcRow_clock {types : Nat → Bool} {p k : Nat} {f : List Byte} {s : State}
    {g : List Byte → List Byte → Nat → Ep → State → State}
    (hg : ∀ src d e x s, SameClock s (g src d e x s)) : ResKeeps (SameClock s) (tpcRow types p k f s g) := by
  unfold tpcRow
  split
  · simp
  next src d _ =>
    have ha := arrive_clock p k src d s
    split
    · simp
    · split <;> simp_all [Arrived.state]

@[simp] theorem execTpcRequest_clock (p k : Nat) (f : List Byte) (s : State) : ResKeeps (SameClock s) (execTpcRequest p k f s) :=
  tpcRow_clock (fun src d e x s => by simp)

@[simp] theorem execTpcReply_clock (p k : Nat) (f : List Byte) (s : State) : ResKeeps (SameClock s) (execTpcReply p k f s) :=
  tpcRow_clock (fun src d e x s => by simp)

@[simp] theorem execTpcKeepalive_clock (p k : Nat) (f : List Byte) (s : State) : ResKeeps (SameClock s) (execTpcKeepalive p k f s) :=
  tpcRow_clock (fun src d e x s => by simp)

@[simp] theorem execTpcClose_clock (p k : Nat) (f : List Byte) (s : State) : ResKeeps (SameClock s) (execTpcClose p k f s) :=
  tpcRow_clock (fun src d e x s => by simp)

@[simp] theorem execTpcOtherType_clock (p k : Nat) (f : List Byte) (s : State) : ResKeeps (SameClock s) (execTpcOtherType p k f s) :=
  tpcRow_clock (fun src d e x s => by simp)

@[simp] theorem helloTaken_clock (p k : Nat) (src d : List Byte) (e : Nat) (x : Ep) (s : State) :
    (helloTaken p k src d e x s).tick = s.tick ∧ (helloTaken p k src d e x s).pending = s.pending := by simp [helloTaken]

@[simp] theorem execTpcHello_clock (p k : Nat) (f : List Byte) (s : State) : ResKeeps (SameClock s) (execTpcHello p k f s) :=
  tpcRow_clock (fun src d e x s => by simp)

@[simp] theorem acceptHello_clock (e : Nat) (x : Ep) (h : Hello) (s : State) :
    (acceptHello e x h s).tick = s.tick ∧ (acceptHello e x h s).pending = s.pending := by simp [acceptHello]

@[simp] theorem execHandshakeDone_clock (e : Nat) (s : State) : ResKeeps (SameClock s) (execHandshakeDone e s) := by
  unfold execHandshakeDone
  dsimp only
  (repeat' split) <;> simp

@[simp] theorem execAcceptTimeout_clock (e : Nat) (s : State) : ResKeeps (SameClock s) (execAcceptTimeout e s) := by
  unfold execAcceptTimeout
  split <;> simp

@[simp] theorem execSessionIdleTimeout_clock (e : Nat) (s : State) : ResKeeps (SameClock s) (execSessionIdleTimeout e s) := by
  unfold execSessionIdleTimeout
  split <;> simp

@[simp] theorem execDormantTimeout_clock (e : Nat) (s : State) : ResKeeps (SameClock s) (execDormantTimeout e s) := by
  unfold execDormantTimeout
  split <;> simp

@[simp] theorem execCertExpiry_clock (e : Nat) (s : State) : ResKeeps (SameClock s) (execCertExpiry e s) := by
  unfold execCertExpiry
  split <;> simp

@[simp] theorem sessionsPoint_clock (s : State) : (sessionsPoint s).tick = s.tick ∧ (sessionsPoint s).pending = s.pending := by
  simp [sessionsPoint]

@[simp] theorem epLoadCmd_clock (h : Held) (p : List Byte) (s : State) :
    (epLoadCmd h p s).tick = s.tick ∧ (epLoadCmd h p s).pending = s.pending := by
  unfold epLoadCmd
  dsimp only
  (repeat' split) <;> simp

@[simp] theorem execEpLoad_clock (s : State) : ResKeeps (SameClock s) (execEpLoad s) :=
  withCmd_clock (fun h p => by simp)

@[simp] theorem epRemoveCmd_clock (h : Held) (p : List Byte) (s : State) :
    (epRemoveCmd h p s).tick = s.tick ∧ (epRemoveCmd h p s).pending = s.pending := by simp [epRemoveCmd]

@[simp] theorem execEpRemove_clock (s : State) : ResKeeps (SameClock s) (execEpRemove s) :=
  withCmd_clock (fun h p => by simp)

@[simp] theorem epQueryCmd_clock (h : Held) (p : List Byte) (s : State) :
    (epQueryCmd h p s).tick = s.tick ∧ (epQueryCmd h p s).pending = s.pending := by simp [epQueryCmd]

@[simp] theorem execEpQuery_clock (s : State) : ResKeeps (SameClock s) (execEpQuery s) :=
  withCmd_clock (fun h p => by simp)

/-! ### Machine/Ptp -/

@[simp] theorem ptpReject_clock (p : Nat) (s : State) : (ptpReject p s).tick = s.tick ∧ (ptpReject p s).pending = s.pending := by
  simp [ptpReject]

@[simp] theorem ptpUnlock_clock (p : Nat) (s : State) : (ptpUnlock p s).tick = s.tick ∧ (ptpUnlock p s).pending = s.pending := by
  simp [ptpUnlock]

theorem ptpRow_clock {type p k : Nat} {f : List Byte} {s : State} {g : Nat → List Byte → State → State}
    (hg : ∀ v d s, SameClock s (g v d s)) :
    ResKeeps (SameClock s) (ptpRow type p k f s g) := by
  simp only [sameClock_iff] at hg
  unfold ptpRow
  split <;> simp [hg]

@[simp] theorem execPtpAnnounce_clock (p k : Nat) (f : List Byte) (s : State) : ResKeeps (SameClock s) (execPtpAnnounce p k f s) :=
  ptpRow_clock (fun v d s => by dsimp only; (repeat' split) <;> simp)

@[simp] theorem sendDelayReq_clock (p : Nat) (s : State) :
    (sendDelayReq p s).tick = s.tick ∧ (sendDelayReq p s).pending = s.pending := by simp [sendDelayReq]

@[simp] theorem originSeen_clock (p : Nat) (t1 : Int) (s : State) :
    (originSeen p t1 s).2.tick = s.tick ∧ (originSeen p t1 s).2.pending = s.pending := by simp [originSeen]

@[simp] theorem masterTime_clock (p : Nat) (origin correction : Int) (s : State) :
    (masterTime p origin correction s).tick = s.tick ∧ (masterTime p origin correction s).pending = s.pending := by
  simp [masterTime]

@[simp] theorem execPtpSync_clock (p k : Nat) (f : List Byte) (t2 : Int) (s : State) :
    ResKeeps (SameClock s) (execPtpSync p k f t2 s) :=
  ptpRow_clock (fun v d s => by dsimp only; (repeat' split) <;> simp)

theorem inExchange_clock {g : PtpIn → State} {s : State} (hg : ∀ x, SameClock s (g x)) (p : Nat) (d : List Byte) :
    SameClock s (inExchange p d s g) := by
  unfold inExchange
  dsimp only
  split
  · exact ⟨rfl, rfl⟩
  · split
    · simp
    · exact hg _

@[simp] theorem execPtpFollowUp_clock (p k : Nat) (f : List Byte) (s : State) : ResKeeps (SameClock s) (execPtpFollowUp p k f s) :=
  ptpRow_clock (fun _ d s => inExchange_clock (fun x => by simp) p d)

@[simp] theorem applyOffset_clock (p : Nat) (off : Int) (s : State) :
    (applyOffset p off s).tick = s.tick ∧ (applyOffset p off s).pending = s.pending := by simp [applyOffset]

@[simp] theorem filterOffset_clock (p : Nat) (off : Int) (s : State) :
    (filterOffset p off s).tick = s.tick ∧ (filterOffset p off s).pending = s.pending := by simp [filterOffset]

@[simp] theorem execPtpDelayResp_clock (p k : Nat) (f : List Byte) (t3 : Int) (s : State) :
    ResKeeps (SameClock s) (execPtpDelayResp p k f t3 s) :=
  ptpRow_clock (fun _ d s => inExchange_clock (fun x => by (repeat' split) <;> simp) p d)

@[simp] theorem execPtpExchangeTimeout_clock (p : Nat) (s : State) : ResKeeps (SameClock s) (execPtpExchangeTimeout p s) := by
  simp [execPtpExchangeTimeout]

@[simp] theorem execPtpLockLoss_clock (p : Nat) (s : State) : ResKeeps (SameClock s) (execPtpLockLoss p s) := by simp [execPtpLockLoss]

@[simp] theorem ptpSetCmd_clock (h : Held) (p : List Byte) (s : State) :
    (ptpSetCmd h p s).tick = s.tick ∧ (ptpSetCmd h p s).pending = s.pending := by simp [ptpSetCmd]

@[simp] theorem execPtpSet_clock (s : State) : ResKeeps (SameClock s) (execPtpSet s) :=
  withCmd_clock (fun h p => by simp)

/-! ### Machine/AccordCmds -/

@[simp] theorem accordLoadCmd_clock (h : Held) (p : List Byte) (s : State) :
    (accordLoadCmd h p s).tick = s.tick ∧ (accordLoadCmd h p s).pending = s.pending := by
  unfold accordLoadCmd
  dsimp only
  (repeat' split) <;> simp

@[simp] theorem execAccordLoad_clock (s : State) : ResKeeps (SameClock s) (execAccordLoad s) :=
  withCmd_clock (fun h p => by simp)

@[simp] theorem accordRemoveCmd_clock (h : Held) (p : List Byte) (s : State) :
    (accordRemoveCmd h p s).tick = s.tick ∧ (accordRemoveCmd h p s).pending = s.pending := by simp [accordRemoveCmd]

@[simp] theorem execAccordRemove_clock (s : State) : ResKeeps (SameClock s) (execAccordRemove s) :=
  withCmd_clock (fun h p => by simp)

@[simp] theorem accordQueryCmd_clock (h : Held) (p : List Byte) (s : State) :
    (accordQueryCmd h p s).tick = s.tick ∧ (accordQueryCmd h p s).pending = s.pending := by simp [accordQueryCmd]

@[simp] theorem execAccordQuery_clock (s : State) : ResKeeps (SameClock s) (execAccordQuery s) :=
  withCmd_clock (fun h p => by simp)

@[simp] theorem accordsPoint_clock (s : State) : (accordsPoint s).tick = s.tick ∧ (accordsPoint s).pending = s.pending :=
  foldl_clock (fun s a => by (repeat' split) <;> simp) _ _

@[simp] theorem routeSetCmd_clock (h : Held) (p : List Byte) (s : State) :
    (routeSetCmd h p s).tick = s.tick ∧ (routeSetCmd h p s).pending = s.pending := by simp [routeSetCmd]

@[simp] theorem execRouteSet_clock (s : State) : ResKeeps (SameClock s) (execRouteSet s) :=
  withCmd_clock (fun h p => by simp)

@[simp] theorem routesPoint_clock (s : State) : (routesPoint s).tick = s.tick ∧ (routesPoint s).pending = s.pending := by simp [routesPoint]

@[simp] theorem refuseLater_clock (i : HdrInfo) (note status : Nat) (s : State) :
    (refuseLater i note status s).tick = s.tick ∧ (refuseLater i note status s).pending = s.pending := by simp [refuseLater]

@[simp] theorem execForwardClose_clock (id : Nat) (s : State) : ResKeeps (SameClock s) (execForwardClose id s) := by
  unfold execForwardClose
  split <;> simp

@[simp] theorem execReferralVerdictExpiry_clock (id : Nat) (s : State) : ResKeeps (SameClock s) (execReferralVerdictExpiry id s) := by
  unfold execReferralVerdictExpiry
  split <;> simp

@[simp] theorem verdictCmd_clock (h : Held) (p : List Byte) (s : State) :
    (verdictCmd h p s).tick = s.tick ∧ (verdictCmd h p s).pending = s.pending := by simp [verdictCmd]

@[simp] theorem execVerdict_clock (s : State) : ResKeeps (SameClock s) (execVerdict s) :=
  withCmd_clock (fun h p => by simp)

@[simp] theorem applyVerdict_clock (s : State) (v : VerdictRec) :
    (applyVerdict s v).tick = s.tick ∧ (applyVerdict s v).pending = s.pending := by
  unfold applyVerdict
  split <;> simp

@[simp] theorem verdictsPoint_clock (s : State) : (verdictsPoint s).tick = s.tick ∧ (verdictsPoint s).pending = s.pending := by
  simp [verdictsPoint]

/-! ### Machine/Bar0 -/

@[simp] theorem bar0Notice_clock (off : Nat) (s : State) :
    (bar0Notice off s).tick = s.tick ∧ (bar0Notice off s).pending = s.pending := by simp [bar0Notice]

@[simp] theorem badWrite_clock (off : Nat) (s : State) : (badWrite off s).tick = s.tick ∧ (badWrite off s).pending = s.pending := by
  simp [badWrite]

@[simp] theorem badRead_clock (off size : Nat) (s : State) :
    (badRead off size s).tick = s.tick ∧ (badRead off size s).pending = s.pending := by simp [badRead]

/-! ### Machine/Digest -/

@[simp] theorem execDgClaim_clock (u : Nat) (s : State) : ResKeeps (SameClock s) (execDgClaim u s) := by simp [execDgClaim]

@[simp] theorem releaseUnit_clock (u : Nat) (s : State) : (releaseUnit u s).tick = s.tick ∧ (releaseUnit u s).pending = s.pending := by
  simp [releaseUnit]

@[simp] theorem execDgRelease_clock (u : Nat) (s : State) : ResKeeps (SameClock s) (execDgRelease u s) := by simp [execDgRelease]

@[simp] theorem releaseAll_clock (s : State) : (releaseAll s).tick = s.tick ∧ (releaseAll s).pending = s.pending := by simp [releaseAll]

@[simp] theorem execDgClaimComplete_clock (u : Nat) (s : State) : ResKeeps (SameClock s) (execDgClaimComplete u s) := by
  unfold execDgClaimComplete
  split
  · simp
  · exact SameClock.trans (t := modDg u (fun _ => { claimed := true }) s) (by simp) (foldl_clock (fun s p => by split <;> simp) _ _)

@[simp] theorem dgLost_clock (u : Nat) (s : State) : (dgLost u s).tick = s.tick ∧ (dgLost u s).pending = s.pending := by simp [dgLost]

theorem dgPage_clock {u off : Nat} {s : State} {f : DgUnit → State} (hf : ∀ x, SameClock s (f x)) :
    ResKeeps (SameClock s) (dgPage u off s f) := by
  simp only [sameClock_iff] at hf
  simp [dgPage, hf]

@[simp] theorem execDgStart_clock (u alg : Nat) (isSealed : Bool) (s : State) :
    ResKeeps (SameClock s) (execDgStart u alg isSealed s) := by simp [execDgStart, dgPage]

@[simp] theorem execDgSealedKeyReady_clock (u : Nat) (s : State) : ResKeeps (SameClock s) (execDgSealedKeyReady u s) := by
  unfold execDgSealedKeyReady
  dsimp only
  (repeat' split) <;> simp

@[simp] theorem dgRefused_clock (u : Nat) (x : DgUnit) (s : State) :
    (dgRefused u x s).tick = s.tick ∧ (dgRefused u x s).pending = s.pending := by simp [dgRefused]

@[simp] theorem execDgData_clock (u v : Nat) (s : State) : ResKeeps (SameClock s) (execDgData u v s) := by simp [execDgData, dgPage]

@[simp] theorem execDgLastCtl_clock (u vb : Nat) (s : State) : ResKeeps (SameClock s) (execDgLastCtl u vb s) := by
  simp [execDgLastCtl, dgPage]

@[simp] theorem dgBytes_clock (n : Nat) (s : State) : (dgBytes n s).tick = s.tick ∧ (dgBytes n s).pending = s.pending := by simp [dgBytes]

@[simp] theorem execDgBlockDone_clock (u : Nat) (s : State) : ResKeeps (SameClock s) (execDgBlockDone u s) := by
  unfold execDgBlockDone
  split <;> simp

@[simp] theorem execDgMessageDone_clock (u : Nat) (s : State) : ResKeeps (SameClock s) (execDgMessageDone u s) := by
  unfold execDgMessageDone
  split <;> simp

@[simp] theorem execDgAbort_clock (u : Nat) (s : State) : ResKeeps (SameClock s) (execDgAbort u s) := by simp [execDgAbort, dgPage]

@[simp] theorem execDgSave_clock (u : Nat) (s : State) : ResKeeps (SameClock s) (execDgSave u s) := by simp [execDgSave, dgPage]

@[simp] theorem execDgRestore_clock (u : Nat) (s : State) : ResKeeps (SameClock s) (execDgRestore u s) := by
  unfold execDgRestore
  rw [resKeeps_viaPf0]
  split
  · exact dgPage_clock (fun x => by dsimp only; (repeat' split) <;> simp)
  · simp

@[simp] theorem execDigestChunkEnd_clock (id : Nat) (s : State) : ResKeeps (SameClock s) (execDigestChunkEnd id s) := by
  unfold execDigestChunkEnd
  split <;> simp

@[simp] theorem digestDomwinCmd_clock (h : Held) (p : List Byte) (s : State) :
    (digestDomwinCmd h p s).tick = s.tick ∧ (digestDomwinCmd h p s).pending = s.pending := by simp [digestDomwinCmd]

@[simp] theorem execDigestDomwin_clock (s : State) : ResKeeps (SameClock s) (execDigestDomwin s) :=
  withCmd_clock (fun h p => by simp)

@[simp] theorem execRnData_clock (s : State) : ResKeeps (SameClock s) (execRnData s) := by
  unfold execRnData
  split <;> simp

@[simp] theorem execEntropyBlock_clock (s : State) : ResKeeps (SameClock s) (execEntropyBlock s) := by simp [execEntropyBlock]

@[simp] theorem sourcesChanged_clock (s : State) : (sourcesChanged s).tick = s.tick ∧ (sourcesChanged s).pending = s.pending := by
  simp [sourcesChanged]

@[simp] theorem sourceFails_clock (k cause : Nat) (s : State) :
    (sourceFails k cause s).tick = s.tick ∧ (sourceFails k cause s).pending = s.pending := by simp [sourceFails]

@[simp] theorem execNoiseSourceFail_clock (k cause : Nat) (s : State) : ResKeeps (SameClock s) (execNoiseSourceFail k cause s) := by
  simp [execNoiseSourceFail]

@[simp] theorem execSourceRetest_clock (k : Nat) (passed : Bool) (s : State) :
    ResKeeps (SameClock s) (execSourceRetest k passed s) := by simp [execSourceRetest]

@[simp] theorem noisePoint_clock (s : State) : (noisePoint s).tick = s.tick ∧ (noisePoint s).pending = s.pending := by simp [noisePoint]

@[simp] theorem execNoSourceTimeout_clock (s : State) : ResKeeps (SameClock s) (execNoSourceTimeout s) := by simp [execNoSourceTimeout]

@[simp] theorem execSourceWindowEnd_clock (k ones equal : Nat) (s : State) :
    ResKeeps (SameClock s) (execSourceWindowEnd k ones equal s) := by simp [execSourceWindowEnd]

/-! ### Machine/KeyCmds -/

@[simp] theorem domainSetCmd_clock (h : Held) (p : List Byte) (s : State) :
    (domainSetCmd h p s).tick = s.tick ∧ (domainSetCmd h p s).pending = s.pending := by
  unfold domainSetCmd
  split <;> simp

@[simp] theorem execDomainSet_clock (s : State) : ResKeeps (SameClock s) (execDomainSet s) :=
  withCmd_clock (fun h p => by simp)

@[simp] theorem epochCmd_clock (h : Held) (p : List Byte) (s : State) :
    (epochCmd h p s).tick = s.tick ∧ (epochCmd h p s).pending = s.pending := by simp [epochCmd]

@[simp] theorem execEpoch_clock (s : State) : ResKeeps (SameClock s) (execEpoch s) :=
  withCmd_clock (fun h p => by simp)

@[simp] theorem journalSetCmd_clock (h : Held) (p : List Byte) (s : State) :
    (journalSetCmd h p s).tick = s.tick ∧ (journalSetCmd h p s).pending = s.pending := by simp [journalSetCmd]

@[simp] theorem execJournalSet_clock (s : State) : ResKeeps (SameClock s) (execJournalSet s) :=
  withCmd_clock (fun h p => by simp)

@[simp] theorem ringWrite_clock (r : JRing) (slots : Nat) (data : List Byte) (s : State) :
    (ringWrite r slots data s).tick = s.tick ∧ (ringWrite r slots data s).pending = s.pending := by simp [ringWrite]

theorem sendEntry_clock {r : JRing} {e : JEntry} {s t : State} (h : sendEntry r e s = some t) : SameClock s t := by
  simp only [sendEntry, Option.ite_none_left_eq_some, Option.some.injEq] at h
  obtain ⟨-, -, rfl⟩ := h
  simp

@[simp] theorem sendEntries_clock (r : JRing) : ∀ (l : List JEntry) (s : State),
    (sendEntries r l s).2.tick = s.tick ∧ (sendEntries r l s).2.pending = s.pending
  | [], _ => ⟨rfl, rfl⟩
  | e :: l, s => by
    unfold sendEntries
    split
    · simp [sendEntries_clock r l]
    · split
      · exact ⟨rfl, rfl⟩
      next t ht =>
        obtain ⟨htick, hpend⟩ := sendEntry_clock ht
        simp [sendEntries_clock r l, htick, hpend]

@[simp] theorem updateFull_clock (s : State) : (updateFull s).tick = s.tick ∧ (updateFull s).pending = s.pending := by simp [updateFull]

@[simp] theorem execJournalStream_clock (s : State) : ResKeeps (SameClock s) (execJournalStream s) := by
  unfold execJournalStream
  split <;> simp

@[simp] theorem execRootSlotWrite_clock (s : State) : ResKeeps (SameClock s) (execRootSlotWrite s) := by
  unfold execRootSlotWrite
  split <;> simp

@[simp] theorem execKsJhead_clock (value : Nat) (s : State) : ResKeeps (SameClock s) (execKsJhead value s) := by
  unfold execKsJhead
  split <;> simp

@[simp] theorem execHoldDownExpiry_clock (i : Nat) (s : State) : ResKeeps (SameClock s) (execHoldDownExpiry i s) := by
  unfold execHoldDownExpiry
  split <;> simp

@[simp] theorem snapshotCmd_clock (h : Held) (p : List Byte) (s : State) :
    (snapshotCmd h p s).tick = s.tick ∧ (snapshotCmd h p s).pending = s.pending := by simp [snapshotCmd]

@[simp] theorem execSnapshot_clock (s : State) : ResKeeps (SameClock s) (execSnapshot s) :=
  withCmd_clock (fun h p => by simp)

@[simp] theorem takeSnap_clock (s : State) : (takeSnap s).tick = s.tick ∧ (takeSnap s).pending = s.pending := by
  unfold takeSnap
  split <;> simp

@[simp] theorem spill_clock : ∀ (l : List (Nat × Nat)) (bs : List Byte) (s : State),
    (spill l bs s).tick = s.tick ∧ (spill l bs s).pending = s.pending
  | [], _, _ => ⟨rfl, rfl⟩
  | (a, n) :: l, bs, s => by simp [spill, spill_clock l]

@[simp] theorem endSnapshot_clock (n : Snap) (s : State) :
    (endSnapshot n s).2.tick = s.tick ∧ (endSnapshot n s).2.pending = s.pending := by simp [endSnapshot]

@[simp] theorem reloadCmd_clock (h : Held) (p : List Byte) (s : State) :
    (reloadCmd h p s).tick = s.tick ∧ (reloadCmd h p s).pending = s.pending := by simp [reloadCmd]

@[simp] theorem execReload_clock (s : State) : ResKeeps (SameClock s) (execReload s) :=
  withCmd_clock (fun h p => by simp)

@[simp] theorem replay_clock (s : State) (e : Replay) : (replay s e).tick = s.tick ∧ (replay s e).pending = s.pending := by
  unfold replay
  split <;> simp

@[simp] theorem loadImage_clock (img : Image) (root : RootSlot) (s : State) :
    (loadImage img root s).tick = s.tick ∧ (loadImage img root s).pending = s.pending := by simp [loadImage]

@[simp] theorem endReload_clock (img : Image) (before : Nat) (s : State) :
    (endReload img before s).2.2.tick = s.tick ∧ (endReload img before s).2.2.pending = s.pending := by
  unfold endReload
  dsimp only
  (repeat' split) <;> simp

@[simp] theorem storeEmptyCmd_clock (h : Held) (k : List Byte) (s : State) :
    (storeEmptyCmd h k s).tick = s.tick ∧ (storeEmptyCmd h k s).pending = s.pending := by simp [storeEmptyCmd]

@[simp] theorem execStoreEmpty_clock (s : State) : ResKeeps (SameClock s) (execStoreEmpty s) :=
  withCmd_clock (fun h p => by simp)

@[simp] theorem cerOpenCmd_clock (h : Held) (p : List Byte) (s : State) :
    (cerOpenCmd h p s).tick = s.tick ∧ (cerOpenCmd h p s).pending = s.pending := by
  unfold cerOpenCmd
  split <;> simp

@[simp] theorem execCerOpen_clock (s : State) : ResKeeps (SameClock s) (execCerOpen s) :=
  withCmd_clock (fun h p => by simp)

@[simp] theorem cerComponentCmd_clock (h : Held) (p : List Byte) (s : State) :
    (cerComponentCmd h p s).tick = s.tick ∧ (cerComponentCmd h p s).pending = s.pending := by
  unfold cerComponentCmd
  dsimp only
  (repeat' split) <;> simp

@[simp] theorem execCerComponent_clock (s : State) : ResKeeps (SameClock s) (execCerComponent s) :=
  withCmd_clock (fun h p => by simp)

@[simp] theorem cerCommitCmd_clock (h : Held) (p : List Byte) (s : State) :
    (cerCommitCmd h p s).tick = s.tick ∧ (cerCommitCmd h p s).pending = s.pending := by
  unfold cerCommitCmd
  dsimp only
  (repeat' split) <;> simp

@[simp] theorem execCerCommit_clock (s : State) : ResKeeps (SameClock s) (execCerCommit s) :=
  withCmd_clock (fun h p => by simp)

@[simp] theorem cerAbortCmd_clock (h : Held) (p : List Byte) (s : State) :
    (cerAbortCmd h p s).tick = s.tick ∧ (cerAbortCmd h p s).pending = s.pending := by
  unfold cerAbortCmd
  split <;> simp

@[simp] theorem execCerAbort_clock (s : State) : ResKeeps (SameClock s) (execCerAbort s) :=
  withCmd_clock (fun h p => by simp)

@[simp] theorem execCeremonyExpiry_clock (s : State) : ResKeeps (SameClock s) (execCeremonyExpiry s) := by simp [execCeremonyExpiry]

@[simp] theorem startMigration_clock (s : State) : (startMigration s).tick = s.tick ∧ (startMigration s).pending = s.pending := by
  simp [startMigration]

@[simp] theorem execMigrationSegmentSwitch_clock (seg : Nat) (s : State) :
    ResKeeps (SameClock s) (execMigrationSegmentSwitch seg s) := by
  unfold execMigrationSegmentSwitch
  split <;> simp

@[simp] theorem switchSegment_clock (s : State) (seg : Nat) :
    (switchSegment s seg).tick = s.tick ∧ (switchSegment s seg).pending = s.pending := by
  unfold switchSegment
  split <;> simp

@[simp] theorem migrationPoint_clock (s : State) : (migrationPoint s).tick = s.tick ∧ (migrationPoint s).pending = s.pending := by
  unfold migrationPoint
  split <;> simp

/-! ### Machine/Firebox -/

@[simp] theorem stepCond_clock (r : SensorReading) (acc : State × List Hit) (c : Cond) :
    (stepCond r acc c).1.tick = acc.1.tick ∧ (stepCond r acc c).1.pending = acc.1.pending := ⟨rfl, rfl⟩

@[simp] theorem takeReading_clock (rs : List SensorReading) (acc : State × List Hit) (r : SensorReading) :
    (takeReading rs acc r).1.tick = acc.1.tick ∧ (takeReading rs acc r).1.pending = acc.1.pending := by
  simp [takeReading]

@[simp] theorem takeSample_clock (rs : List SensorReading) (s : State) :
    (takeSample rs s).1.tick = s.tick ∧ (takeSample rs s).1.pending = s.pending := by
  unfold takeSample
  dsimp only
  (repeat' split) <;> simp

@[simp] theorem battEvent_clock (e : BattEvt) (s : State) : (battEvent e s).tick = s.tick ∧ (battEvent e s).pending = s.pending := by
  unfold battEvent
  dsimp only
  (repeat' split) <;> simp

@[simp] theorem nEvent_clock (h : Hit) (s : State) : (nEvent h s).tick = s.tick ∧ (nEvent h s).pending = s.pending := by simp [nEvent]

@[simp] theorem recordLater_clock (h : Hit) (s : State) : (recordLater h s).tick = s.tick ∧ (recordLater h s).pending = s.pending := by
  simp [recordLater]

@[simp] theorem recordHit_clock (h : Hit) (s : State) : (recordHit h s).tick = s.tick ∧ (recordHit h s).pending = s.pending := by
  simp [recordHit]

@[simp] theorem firstDecision_clock (h : Hit) (s : State) :
    (firstDecision h s).tick = s.tick ∧ (firstDecision h s).pending = s.pending := by simp [firstDecision]

@[simp] theorem takeHit_clock (s : State) (h : Hit) : (takeHit s h).tick = s.tick ∧ (takeHit s h).pending = s.pending := by
  unfold takeHit
  dsimp only
  (repeat' split) <;> simp

@[simp] theorem clockFault_clock (hs : List Hit) (s : State) :
    (clockFault hs s).tick = s.tick ∧ (clockFault hs s).pending = s.pending := by simp [clockFault]

@[simp] theorem takeHits_clock (hs : List Hit) (s : State) : (takeHits hs s).tick = s.tick ∧ (takeHits hs s).pending = s.pending := by
  simp [takeHits]

@[simp] theorem collectBaselines_clock (rs : List SensorReading) (s : State) :
    (collectBaselines rs s).tick = s.tick ∧ (collectBaselines rs s).pending = s.pending := by simp [collectBaselines]

@[simp] theorem summaryPoint_clock (s : State) : (summaryPoint s).tick = s.tick ∧ (summaryPoint s).pending = s.pending := by
  unfold summaryPoint
  dsimp only
  (repeat' split) <;> simp

@[simp] theorem refreshHealth_clock (s : State) : (refreshHealth s).tick = s.tick ∧ (refreshHealth s).pending = s.pending := by
  simp [refreshHealth]

@[simp] theorem execTamperSample_clock (rs : List SensorReading) (s : State) : ResKeeps (SameClock s) (execTamperSample rs s) := by
  simp [execTamperSample]

@[simp] theorem execBatterySample_clock (rs : List SensorReading) (s : State) : ResKeeps (SameClock s) (execBatterySample rs s) := by
  simp [execBatterySample]

@[simp] theorem execVibrationWake_clock (s : State) : ResKeeps (SameClock s) (execVibrationWake s) := by simp [execVibrationWake]

@[simp] theorem tamperSplit_clock (d : TamperDec) (s : State) :
    (tamperSplit d s).tick = s.tick ∧ (tamperSplit d s).pending = s.pending := by simp [tamperSplit]

@[simp] theorem tamperAgreed_clock (d : TamperDec) (s : State) :
    (tamperAgreed d s).tick = s.tick ∧ (tamperAgreed d s).pending = s.pending := by simp [tamperAgreed]

@[simp] theorem execTamperSecondDecision_clock (fault : Bool) (s : State) :
    ResKeeps (SameClock s) (execTamperSecondDecision fault s) := by
  unfold execTamperSecondDecision
  split <;> simp

/-- A crystal period adds the ticks it makes up (R458). -/
theorem execMonitorCrystalPeriod_time (s : State) :
    ResKeeps (fun t => s.tick ≤ t.tick ∧ t.pending = s.pending) (execMonitorCrystalPeriod s) := by
  unfold execMonitorCrystalPeriod
  split <;> simp

@[simp] theorem execCrystalStop_clock (s : State) : ResKeeps (SameClock s) (execCrystalStop s) := by simp [execCrystalStop]

@[simp] theorem execCrystalRestored_clock (s : State) : ResKeeps (SameClock s) (execCrystalRestored s) := by simp [execCrystalRestored]

@[simp] theorem execCellSelectChange_clock (cellA cellB detail : Nat) (s : State) :
    ResKeeps (SameClock s) (execCellSelectChange cellA cellB detail s) := by simp [execCellSelectChange]

@[simp] theorem execBaselineComplete_clock (sensor inst : Nat) (s : State) :
    ResKeeps (SameClock s) (execBaselineComplete sensor inst s) := by simp [execBaselineComplete]

@[simp] theorem execTmEvidSel_clock (value : Nat) (s : State) : ResKeeps (SameClock s) (execTmEvidSel value s) := by simp [execTmEvidSel]

@[simp] theorem execThermalRailRemoval_clock (s : State) : ResKeeps (SameClock s) (execThermalRailRemoval s) := by
  unfold execThermalRailRemoval
  split <;> simp

/-! ### Machine/Pairs -/

@[simp] theorem abandonLongs_clock (s : State) : (abandonLongs s).tick = s.tick ∧ (abandonLongs s).pending = s.pending := by
  simp [abandonLongs]

@[simp] theorem loseActive_clock (i cause : Nat) (s : State) :
    (loseActive i cause s).tick = s.tick ∧ (loseActive i cause s).pending = s.pending := by simp [loseActive]

@[simp] theorem loseStandby_clock (s : State) : (loseStandby s).tick = s.tick ∧ (loseStandby s).pending = s.pending := by simp [loseStandby]

@[simp] theorem stopPair_clock (i cause : Nat) (s : State) :
    (stopPair i cause s).tick = s.tick ∧ (stopPair i cause s).pending = s.pending := by simp [stopPair]

@[simp] theorem endInHand_clock (pair : Nat) (s : State) :
    (endInHand pair s).tick = s.tick ∧ (endInHand pair s).pending = s.pending := by
  unfold endInHand
  (repeat' split) <;> simp

@[simp] theorem hcViolation_clock (pair : Nat) (a : Access) (b : Blocked) (s : State) :
    (hcViolation pair a b s).tick = s.tick ∧ (hcViolation pair a b s).pending = s.pending := by simp [hcViolation]

@[simp] theorem execHcPairStop_clock (pair cause : Nat) (a : Option Access) (s : State) :
    ResKeeps (SameClock s) (execHcPairStop pair cause a s) := by
  unfold execHcPairStop
  (repeat' split) <;> simp

@[simp] theorem fencePoint_clock (s : State) : (fencePoint s).tick = s.tick ∧ (fencePoint s).pending = s.pending := by simp [fencePoint]

@[simp] theorem execHcHeartbeatTimeout_clock (pair : Nat) (s : State) : ResKeeps (SameClock s) (execHcHeartbeatTimeout pair s) := by
  simp [execHcHeartbeatTimeout]

@[simp] theorem answerByLedger_clock (s : State) : (answerByLedger s).tick = s.tick ∧ (answerByLedger s).pending = s.pending := by
  unfold answerByLedger
  dsimp only
  (repeat' split) <;> simp

@[simp] theorem resolveTransition_clock (s : State) :
    (resolveTransition s).tick = s.tick ∧ (resolveTransition s).pending = s.pending := by simp [resolveTransition]

@[simp] theorem afterTakeover_clock (s : State) : (afterTakeover s).tick = s.tick ∧ (afterTakeover s).pending = s.pending := by
  unfold afterTakeover
  split <;> simp

@[simp] theorem rollBack_clock (s : State) : (rollBack s).tick = s.tick ∧ (rollBack s).pending = s.pending := by simp [rollBack]

@[simp] theorem execTakeoverFirstCommand_clock (gap : Nat) (s : State) : ResKeeps (SameClock s) (execTakeoverFirstCommand gap s) := by
  simp [execTakeoverFirstCommand]

@[simp] theorem switchFirmware_clock (out : Nat) (s : State) :
    (switchFirmware out s).tick = s.tick ∧ (switchFirmware out s).pending = s.pending := by
  unfold switchFirmware
  split <;> simp

@[simp] theorem handControl_clock (cause since : Nat) (s : State) :
    (handControl cause since s).tick = s.tick ∧ (handControl cause since s).pending = s.pending := by simp [handControl]

@[simp] theorem endHandOver_clock (cause since : Nat) (s : State) :
    (endHandOver cause since s).tick = s.tick ∧ (endHandOver cause since s).pending = s.pending := by
  unfold endHandOver
  split <;> simp

@[simp] theorem tryPlanned_clock (cause since : Nat) (s : State) :
    (tryPlanned cause since s).tick = s.tick ∧ (tryPlanned cause since s).pending = s.pending := by simp [tryPlanned]

@[simp] theorem retryPlanned_clock (s : State) : (retryPlanned s).tick = s.tick ∧ (retryPlanned s).pending = s.pending := by
  unfold retryPlanned
  split <;> simp

@[simp] theorem revertNow_clock (s : State) : (revertNow s).tick = s.tick ∧ (revertNow s).pending = s.pending := by simp [revertNow]

@[simp] theorem rotate_clock (s : State) : (rotate s).tick = s.tick ∧ (rotate s).pending = s.pending := by simp [rotate]

@[simp] theorem execRevertBoundary_clock (s : State) : ResKeeps (SameClock s) (execRevertBoundary s) := by simp [execRevertBoundary]

@[simp] theorem execRotationBoundary_clock (s : State) : ResKeeps (SameClock s) (execRotationBoundary s) := by simp [execRotationBoundary]

@[simp] theorem restartPair_clock (s : State) (i : Nat) : (restartPair s i).tick = s.tick ∧ (restartPair s i).pending = s.pending := by
  unfold restartPair
  split <;> simp

@[simp] theorem restartPairs_clock (s : State) : (restartPairs s).tick = s.tick ∧ (restartPairs s).pending = s.pending := by
  simp [restartPairs]

@[simp] theorem execPairRestartDone_clock (pair failStep : Nat) (s : State) :
    ResKeeps (SameClock s) (execPairRestartDone pair failStep s) := by simp [execPairRestartDone]

/-! ### Machine/LifeCmds -/

@[simp] theorem nonceCmd_clock (h : Held) (k : List Byte) (s : State) :
    (nonceCmd h k s).tick = s.tick ∧ (nonceCmd h k s).pending = s.pending := by simp [nonceCmd]

@[simp] theorem execNonce_clock (s : State) : ResKeeps (SameClock s) (execNonce s) :=
  withCmd_clock (fun h p => by simp)

@[simp] theorem statusCmd_clock (h : Held) (k : List Byte) (s : State) :
    (statusCmd h k s).tick = s.tick ∧ (statusCmd h k s).pending = s.pending := by simp [statusCmd]

@[simp] theorem execStatus_clock (s : State) : ResKeeps (SameClock s) (execStatus s) :=
  withCmd_clock (fun h p => by simp)

@[simp] theorem packageRefused_clock (pkg : List Byte) (check : Nat) (s : State) :
    (packageRefused pkg check s).tick = s.tick ∧ (packageRefused pkg check s).pending = s.pending := by simp [packageRefused]

@[simp] theorem gateRefusal_clock (h : Held) (e : Nat × Nat) (s : State) :
    (gateRefusal h e s).tick = s.tick ∧ (gateRefusal h e s).pending = s.pending := by simp [gateRefusal]

@[simp] theorem relaySend_clock (i : Held) (s : State) : (relaySend i s).tick = s.tick ∧ (relaySend i s).pending = s.pending := by
  unfold relaySend
  split <;> simp

@[simp] theorem execQuorumCheckDone_clock (faults : List (Bool × Bool)) (s : State) :
    ResKeeps (SameClock s) (execQuorumCheckDone faults s) := by
  unfold execQuorumCheckDone
  dsimp only
  (repeat' split) <;> simp

@[simp] theorem quorumSetCmd_clock (h : Held) (p : List Byte) (s : State) :
    (quorumSetCmd h p s).tick = s.tick ∧ (quorumSetCmd h p s).pending = s.pending := by
  unfold quorumSetCmd
  dsimp only
  (repeat' split) <;> simp

@[simp] theorem execQuorumSet_clock (s : State) : ResKeeps (SameClock s) (execQuorumSet s) :=
  withCmd_clock (fun h p => by simp)

@[simp] theorem beginDecision_clock (k : DecKind) (first : Bool) (s : State) :
    (beginDecision k first s).tick = s.tick ∧ (beginDecision k first s).pending = s.pending := by simp [beginDecision]

@[simp] theorem decideTwice_clock (k : DecKind) (first : Bool) (s : State) :
    (decideTwice k first s).tick = s.tick ∧ (decideTwice k first s).pending = s.pending := by simp [decideTwice]

@[simp] theorem stateChangeCmd_clock (h : Held) (p : List Byte) (s : State) :
    (stateChangeCmd h p s).tick = s.tick ∧ (stateChangeCmd h p s).pending = s.pending := by
  unfold stateChangeCmd
  (repeat' split) <;> simp

@[simp] theorem execStateChange_clock (s : State) : ResKeeps (SameClock s) (execStateChange s) :=
  withCmd_clock (fun h p => by simp)

@[simp] theorem unlockCmd_clock (h : Held) (k : List Byte) (s : State) :
    (unlockCmd h k s).tick = s.tick ∧ (unlockCmd h k s).pending = s.pending := by
  unfold unlockCmd
  split <;> simp

@[simp] theorem execUnlock_clock (s : State) : ResKeeps (SameClock s) (execUnlock s) :=
  withCmd_clock (fun h p => by simp)

@[simp] theorem writeSlotVer_clock (slot v : Nat) (s : State) :
    (writeSlotVer slot v s).tick = s.tick ∧ (writeSlotVer slot v s).pending = s.pending := by simp [writeSlotVer]

@[simp] theorem fwLoadCmd_clock (h : Held) (p : List Byte) (s : State) :
    (fwLoadCmd h p s).tick = s.tick ∧ (fwLoadCmd h p s).pending = s.pending := by simp [fwLoadCmd]

@[simp] theorem execFwLoad_clock (s : State) : ResKeeps (SameClock s) (execFwLoad s) :=
  withCmd_clock (fun h p => by simp)

@[simp] theorem commitTrial_clock (s : State) : (commitTrial s).tick = s.tick ∧ (commitTrial s).pending = s.pending := by simp [commitTrial]

@[simp] theorem fwActivateCmd_clock (h : Held) (p : List Byte) (s : State) :
    (fwActivateCmd h p s).tick = s.tick ∧ (fwActivateCmd h p s).pending = s.pending := by simp [fwActivateCmd]

@[simp] theorem execFwActivate_clock (s : State) : ResKeeps (SameClock s) (execFwActivate s) :=
  withCmd_clock (fun h p => by simp)

@[simp] theorem execFwStandbyLoaded_clock (s : State) : ResKeeps (SameClock s) (execFwStandbyLoaded s) := by
  unfold execFwStandbyLoaded
  split <;> simp

@[simp] theorem execFwTrialCommit_clock (s : State) : ResKeeps (SameClock s) (execFwTrialCommit s) := by simp [execFwTrialCommit]

@[simp] theorem progKeySetCmd_clock (h : Held) (p : List Byte) (s : State) :
    (progKeySetCmd h p s).tick = s.tick ∧ (progKeySetCmd h p s).pending = s.pending := by simp [progKeySetCmd]

@[simp] theorem execProgKeySet_clock (s : State) : ResKeeps (SameClock s) (execProgKeySet s) :=
  withCmd_clock (fun h p => by simp)

@[simp] theorem installProg_clock (p : Prog) (s : State) : (installProg p s).tick = s.tick ∧ (installProg p s).pending = s.pending := by
  simp [installProg]

@[simp] theorem progLoadCmd_clock (h : Held) (p : List Byte) (s : State) :
    (progLoadCmd h p s).tick = s.tick ∧ (progLoadCmd h p s).pending = s.pending := by simp [progLoadCmd]

@[simp] theorem execProgLoad_clock (s : State) : ResKeeps (SameClock s) (execProgLoad s) :=
  withCmd_clock (fun h p => by simp)

@[simp] theorem progWithdrawCmd_clock (h : Held) (p : List Byte) (s : State) :
    (progWithdrawCmd h p s).tick = s.tick ∧ (progWithdrawCmd h p s).pending = s.pending := by simp [progWithdrawCmd]

@[simp] theorem execProgWithdraw_clock (s : State) : ResKeeps (SameClock s) (execProgWithdraw s) :=
  withCmd_clock (fun h p => by simp)

@[simp] theorem decideLong_clock (op status detail : Nat) (s : State) :
    (decideLong op status detail s).tick = s.tick ∧ (decideLong op status detail s).pending = s.pending := by simp [decideLong]

@[simp] theorem startChange_clock (t : Lc) (s : State) : (startChange t s).tick = s.tick ∧ (startChange t s).pending = s.pending := by
  simp [startChange]

@[simp] theorem armDecision_clock (k : DecKind) (s : State) :
    (armDecision k s).tick = s.tick ∧ (armDecision k s).pending = s.pending := by
  unfold armDecision
  dsimp only
  (repeat' split) <;> simp

@[simp] theorem turnDown_clock (k : DecKind) (s : State) : (turnDown k s).tick = s.tick ∧ (turnDown k s).pending = s.pending := by
  unfold turnDown
  dsimp only
  (repeat' split) <;> simp

@[simp] theorem splitDecision_clock (k : DecKind) (s : State) :
    (splitDecision k s).tick = s.tick ∧ (splitDecision k s).pending = s.pending := by
  unfold splitDecision
  split <;> simp

@[simp] theorem execDecisionSecond_clock (fault : Bool) (s : State) : ResKeeps (SameClock s) (execDecisionSecond fault s) := by
  unfold execDecisionSecond
  split <;> simp

theorem clock_of_some {a b : Nat} {s t : State} {r : Nat × Nat × State} (h : some (a, b, t) = some r) (ht : SameClock s t) :
    SameClock s r.2.2 :=
  Option.some.inj h ▸ ht

theorem longWork_clock {l : LongCmd} {img : Option Image} {s : State} {r : Nat × Nat × State} (h : longWork l img s = some r) :
    SameClock s r.2.2 := by
  unfold longWork at h
  split at h
  · split at h
    · split at h
      · exact clock_of_some h (endSnapshot_clock _ _)
      · simp at h
    · exact clock_of_some h ⟨rfl, rfl⟩
  · split at h
    · split at h
      · exact Option.some.inj h ▸ endReload_clock _ _ s
      · exact clock_of_some h ⟨rfl, rfl⟩
      · split at h <;> exact clock_of_some h ⟨rfl, rfl⟩
    · dsimp only at h
      split at h
      · simp at h
      · split at h <;> exact clock_of_some h ⟨rfl, rfl⟩

@[simp] theorem execLongCommandEnd_clock (op : Nat) (img : Option Image) (s : State) :
    ResKeeps (SameClock s) (execLongCommandEnd op img s) := by
  unfold execLongCommandEnd
  split
  · simp
  · split
    · simp
    next st d t ht =>
      obtain ⟨htick, hpend⟩ : SameClock s t := longWork_clock ht
      simp [htick, hpend]

/-! ### Machine/Accounting -/

@[simp] theorem beginClose_clock (c : Close) (s : State) : (beginClose c s).tick = s.tick ∧ (beginClose c s).pending = s.pending := by
  simp [beginClose]

@[simp] theorem closeInterval_clock (cause : Nat) (deferred : Bool) (s : State) :
    (closeInterval cause deferred s).tick = s.tick ∧ (closeInterval cause deferred s).pending = s.pending := by simp [closeInterval]

@[simp] theorem closeOrDefer_clock (cause : Nat) (s : State) :
    (closeOrDefer cause s).tick = s.tick ∧ (closeOrDefer cause s).pending = s.pending := by simp [closeOrDefer]

@[simp] theorem intervalClose_clock (s : State) : (intervalClose s).tick = s.tick ∧ (intervalClose s).pending = s.pending := by
  unfold intervalClose
  split <;> simp

@[simp] theorem execIntervalClose_clock (s : State) : ResKeeps (SameClock s) (execIntervalClose s) := by simp [execIntervalClose]

@[simp] theorem tariffSwitch_clock (s : State) : (tariffSwitch s).tick = s.tick ∧ (tariffSwitch s).pending = s.pending := by
  unfold tariffSwitch
  split <;> simp

@[simp] theorem execTariffSwitch_clock (s : State) : ResKeeps (SameClock s) (execTariffSwitch s) := by simp [execTariffSwitch]

@[simp] theorem startCkpt_clock (s : State) : (startCkpt s).tick = s.tick ∧ (startCkpt s).pending = s.pending := by simp [startCkpt]

@[simp] theorem execCheckpointStart_clock (s : State) : ResKeeps (SameClock s) (execCheckpointStart s) := by simp [execCheckpointStart]

@[simp] theorem execCheckpointEnd_clock (s : State) : ResKeeps (SameClock s) (execCheckpointEnd s) := by
  unfold execCheckpointEnd
  split <;> simp

@[simp] theorem putRecord_clock (r : URing) (c : Close) (s : State) :
    (putRecord r c s).tick = s.tick ∧ (putRecord r c s).pending = s.pending := by simp [putRecord]

@[simp] theorem ringStalls_clock (s : State) : (ringStalls s).tick = s.tick ∧ (ringStalls s).pending = s.pending := by simp [ringStalls]

@[simp] theorem streamEnds_clock (s : State) : (streamEnds s).tick = s.tick ∧ (streamEnds s).pending = s.pending := by
  unfold streamEnds
  dsimp only
  (repeat' split) <;> simp

@[simp] theorem streamPoint_clock (s : State) : (streamPoint s).tick = s.tick ∧ (streamPoint s).pending = s.pending := by simp [streamPoint]

@[simp] theorem execUsageStream_clock (n : Nat) (s : State) : ResKeeps (SameClock s) (execUsageStream n s) := by
  unfold execUsageStream
  split <;> simp

@[simp] theorem execAcRhead_clock (value : Nat) (s : State) : ResKeeps (SameClock s) (execAcRhead value s) := by
  unfold execAcRhead
  split <;> simp

@[simp] theorem acConfigCmd_clock (h : Held) (p : List Byte) (s : State) :
    (acConfigCmd h p s).tick = s.tick ∧ (acConfigCmd h p s).pending = s.pending := by simp [acConfigCmd]

@[simp] theorem execAcConfig_clock (s : State) : ResKeeps (SameClock s) (execAcConfig s) :=
  withCmd_clock (fun h p => by simp)

@[simp] theorem acRateLoadCmd_clock (h : Held) (p : List Byte) (s : State) :
    (acRateLoadCmd h p s).tick = s.tick ∧ (acRateLoadCmd h p s).pending = s.pending := by simp [acRateLoadCmd]

@[simp] theorem execAcRateLoad_clock (s : State) : ResKeeps (SameClock s) (execAcRateLoad s) :=
  withCmd_clock (fun h p => by simp)

@[simp] theorem acTariffArmCmd_clock (h : Held) (p : List Byte) (s : State) :
    (acTariffArmCmd h p s).tick = s.tick ∧ (acTariffArmCmd h p s).pending = s.pending := by simp [acTariffArmCmd]

@[simp] theorem execAcTariffArm_clock (s : State) : ResKeeps (SameClock s) (execAcTariffArm s) :=
  withCmd_clock (fun h p => by simp)

@[simp] theorem acTariffCancelCmd_clock (h : Held) (k : List Byte) (s : State) :
    (acTariffCancelCmd h k s).tick = s.tick ∧ (acTariffCancelCmd h k s).pending = s.pending := by simp [acTariffCancelCmd]

@[simp] theorem execAcTariffCancel_clock (s : State) : ResKeeps (SameClock s) (execAcTariffCancel s) :=
  withCmd_clock (fun h p => by simp)

@[simp] theorem acRingSetCmd_clock (h : Held) (p : List Byte) (s : State) :
    (acRingSetCmd h p s).tick = s.tick ∧ (acRingSetCmd h p s).pending = s.pending := by simp [acRingSetCmd]

@[simp] theorem execAcRingSet_clock (s : State) : ResKeeps (SameClock s) (execAcRingSet s) :=
  withCmd_clock (fun h p => by simp)

@[simp] theorem acCloseNowCmd_clock (h : Held) (k : List Byte) (s : State) :
    (acCloseNowCmd h k s).tick = s.tick ∧ (acCloseNowCmd h k s).pending = s.pending := by simp [acCloseNowCmd]

@[simp] theorem execAcCloseNow_clock (s : State) : ResKeeps (SameClock s) (execAcCloseNow s) :=
  withCmd_clock (fun h p => by simp)

@[simp] theorem closesPoint_clock (s : State) : (closesPoint s).tick = s.tick ∧ (closesPoint s).pending = s.pending := by
  unfold closesPoint
  dsimp only
  (repeat' split) <;> simp

@[simp] theorem forcedPoint_clock (s : State) : (forcedPoint s).tick = s.tick ∧ (forcedPoint s).pending = s.pending := by simp [forcedPoint]

@[simp] theorem heldPoint_clock (s : State) : (heldPoint s).tick = s.tick ∧ (heldPoint s).pending = s.pending := by
  unfold heldPoint
  dsimp only
  (repeat' split) <;> simp

@[simp] theorem execInputLossDetected_clock (s : State) : ResKeeps (SameClock s) (execInputLossDetected s) := by
  simp [execInputLossDetected]

@[simp] theorem execPowerFailSave_clock (s : State) : ResKeeps (SameClock s) (execPowerFailSave s) := by
  unfold execPowerFailSave
  split <;> simp

@[simp] theorem restoreCounters_clock (s : State) : (restoreCounters s).tick = s.tick ∧ (restoreCounters s).pending = s.pending := by
  unfold restoreCounters
  dsimp only
  (repeat' split) <;> simp

@[simp] theorem restoreRecords_clock (s : State) : (restoreRecords s).tick = s.tick ∧ (restoreRecords s).pending = s.pending := by
  unfold restoreRecords
  split <;> simp

/-! ### Machine/Power -/

@[simp] theorem powerOff_clock (s : State) : (powerOff s).tick = s.tick ∧ (powerOff s).pending = s.pending := by simp [powerOff]

@[simp] theorem powerOn_clock (s : State) : (powerOn s).tick = s.tick ∧ (powerOn s).pending = s.pending := by simp [powerOn]

@[simp] theorem execPowerGood_clock (addr0 addr1 : Bool) (s : State) : ResKeeps (SameClock s) (execPowerGood addr0 addr1 s) := by
  simp [execPowerGood]

@[simp] theorem execPowerFailSaveEnd_clock (back : Bool) (s : State) : ResKeeps (SameClock s) (execPowerFailSaveEnd back s) := by
  simp [execPowerFailSaveEnd]

@[simp] theorem startFails_clock (stage cause : Nat) (s : State) :
    (startFails stage cause s).tick = s.tick ∧ (startFails stage cause s).pending = s.pending := by simp [startFails]

/-- The bellows takes over at the start of a tick (R26). -/
theorem execStage1BellowsLocked_time (s : State) :
    ResKeeps (fun t => s.tick ≤ t.tick ∧ t.tick ≤ s.tick + 1 ∧ t.pending = s.pending) (execStage1BellowsLocked s) := by
  unfold execStage1BellowsLocked
  rw [resKeeps_whenOk]
  split <;> simp

@[simp] theorem execStage2SelftestEnd_clock (aOk bOk : Bool) (s : State) :
    ResKeeps (SameClock s) (execStage2SelftestEnd aOk bOk s) := by simp [execStage2SelftestEnd]

@[simp] theorem tornEvid_clock (s : State) : (tornEvid s).tick = s.tick ∧ (tornEvid s).pending = s.pending := by simp [tornEvid]

@[simp] theorem battAppend_clock (s : State) : (battAppend s).tick = s.tick ∧ (battAppend s).pending = s.pending := by simp [battAppend]

@[simp] theorem runActions_clock : ∀ (n : Nat) (s : State), (runActions n s).tick = s.tick ∧ (runActions n s).pending = s.pending
  | 0, _ => ⟨rfl, rfl⟩
  | n + 1, s => by simp [runActions, runActions_clock n]

@[simp] theorem finishAtStart_clock (s : State) : (finishAtStart s).tick = s.tick ∧ (finishAtStart s).pending = s.pending := by
  simp [finishAtStart]

@[simp] theorem resolved_clock (origin target : Lc) (outcome : Nat) (s : State) :
    (resolved origin target outcome s).tick = s.tick ∧ (resolved origin target outcome s).pending = s.pending := by simp [resolved]

@[simp] theorem zeroAtStart_clock (s : State) : (zeroAtStart s).tick = s.tick ∧ (zeroAtStart s).pending = s.pending := by simp [zeroAtStart]

@[simp] theorem resolveIntent_clock (s : State) : (resolveIntent s).tick = s.tick ∧ (resolveIntent s).pending = s.pending := by
  simp [resolveIntent]

@[simp] theorem lockAtStart_clock (s : State) : (lockAtStart s).tick = s.tick ∧ (lockAtStart s).pending = s.pending := by simp [lockAtStart]

@[simp] theorem execStage3LcRecordRead_clock (aOk bOk : Bool) (s : State) :
    ResKeeps (SameClock s) (execStage3LcRecordRead aOk bOk s) := by simp [execStage3LcRecordRead]

@[simp] theorem execStage4RootDerived_clock (pufOk : Bool) (s : State) : ResKeeps (SameClock s) (execStage4RootDerived pufOk s) := by
  simp [execStage4RootDerived]

@[simp] theorem execStage5RandomReady_clock (srcOk : List Bool) (katOk : Bool) (s : State) :
    ResKeeps (SameClock s) (execStage5RandomReady srcOk katOk s) := by simp [execStage5RandomReady]

@[simp] theorem execStage6SlotDecided_clock (fault : Bool) (s : State) : ResKeeps (SameClock s) (execStage6SlotDecided fault s) := by
  unfold execStage6SlotDecided
  dsimp only
  (repeat' split) <;> simp

@[simp] theorem execStage7HbmReady_clock (s : State) : ResKeeps (SameClock s) (execStage7HbmReady s) := by simp [execStage7HbmReady]

@[simp] theorem lanesAtStart_clock (bad : List Nat) (s : State) :
    (lanesAtStart bad s).tick = s.tick ∧ (lanesAtStart bad s).pending = s.pending :=
  SameClock.trans (foldl_clock (fun s n => by simp) _ _) (foldl_clock (fun s k => by (repeat' split) <;> simp) _ _)

@[simp] theorem unitsAtStart_clock (bad : List Nat) (s : State) :
    (unitsAtStart bad s).tick = s.tick ∧ (unitsAtStart bad s).pending = s.pending := by simp [unitsAtStart]

@[simp] theorem clusterAtStart_clock (bad : List Nat) (c : Nat) (s : State) :
    (clusterAtStart bad c s).tick = s.tick ∧ (clusterAtStart bad c s).pending = s.pending := by simp [clusterAtStart]

@[simp] theorem execStage8UnitsTested_clock (engs lanes pks clusters : List Nat) (s : State) :
    ResKeeps (SameClock s) (execStage8UnitsTested engs lanes pks clusters s) := by simp [execStage8UnitsTested]

@[simp] theorem storeAtStart_clock (s : State) : (storeAtStart s).tick = s.tick ∧ (storeAtStart s).pending = s.pending := by
  unfold storeAtStart
  dsimp only
  (repeat' split) <;> simp

@[simp] theorem tornRecords_clock (s : State) : (tornRecords s).tick = s.tick ∧ (tornRecords s).pending = s.pending := by simp [tornRecords]

@[simp] theorem rejoin_clock (s : State) : (rejoin s).tick = s.tick ∧ (rejoin s).pending = s.pending := by simp [rejoin]

@[simp] theorem execStage9Ready_clock (s : State) : ResKeeps (SameClock s) (execStage9Ready s) := by simp [execStage9Ready]

/-! ### Machine/Groups -/

@[simp] theorem heard_clock (h : GpHead) (s : State) : (heard h s).tick = s.tick ∧ (heard h s).pending = s.pending := by simp [heard]

@[simp] theorem doubtPart_clock (m bid idx id : Nat) (w : Work) (res : Nat) (s : State) :
    (doubtPart m bid idx id w res s).tick = s.tick ∧ (doubtPart m bid idx id w res s).pending = s.pending := by simp [doubtPart]

@[simp] theorem losePart_clock (keep : Bool) (s : State) (a : Away) :
    (losePart keep s a).tick = s.tick ∧ (losePart keep s a).pending = s.pending := by
  unfold losePart
  split <;> simp

@[simp] theorem loseParts_clock (m : Nat) (s : State) : (loseParts m s).tick = s.tick ∧ (loseParts m s).pending = s.pending := by
  simp [loseParts]

@[simp] theorem loseDoubts_clock (c : Doubt → Bool) (s : State) :
    (loseDoubts c s).tick = s.tick ∧ (loseDoubts c s).pending = s.pending := by simp [loseDoubts]

@[simp] theorem memberRestarted_clock (m : Nat) (s : State) :
    (memberRestarted m s).tick = s.tick ∧ (memberRestarted m s).pending = s.pending := by simp [memberRestarted]

@[simp] theorem relayLost_clock (m : Nat) (s : State) : (relayLost m s).tick = s.tick ∧ (relayLost m s).pending = s.pending := by
  simp [relayLost]

@[simp] theorem depose_clock (g : Nat) (s : State) : (depose g s).tick = s.tick ∧ (depose g s).pending = s.pending := by
  unfold depose
  dsimp only
  (repeat' split) <;> simp

theorem takeFrame_clock {p k type : Nat} {h : GpHead} {s t : State} (e : takeFrame p k type h s = some t) : SameClock s t := by
  obtain ⟨f, -, rfl⟩ := Option.map_eq_some_iff.mp e
  exact ⟨rfl, rfl⟩

theorem withFrame_clock {from_ type p k : Nat} {h : GpHead} {s : State} {f : State → State} (hf : ∀ s, SameClock s (f s)) :
    ResKeeps (SameClock s) (withFrame from_ type p k h s f) := by
  unfold withFrame
  split
  · exact ⟨rfl, rfl⟩
  next t ht =>
    obtain ⟨htick, hpend⟩ := takeFrame_clock ht
    simp only [sameClock_iff] at hf
    (repeat' split) <;> simp [hf, htick, hpend]

@[simp] theorem sendChange_clock (m seq : Nat) (bytes : List Byte) (s : State) :
    (sendChange m seq bytes s).tick = s.tick ∧ (sendChange m seq bytes s).pending = s.pending := by simp [sendChange]

@[simp] theorem addChange_clock (ks : Nat) (bytes : List Byte) (s : State) :
    (addChange ks bytes s).tick = s.tick ∧ (addChange ks bytes s).pending = s.pending := by simp [addChange]

@[simp] theorem replicate_clock (s : State) : (replicate s).tick = s.tick ∧ (replicate s).pending = s.pending := by simp [replicate]

@[simp] theorem applyItem_clock (s : State) (i : ReplItem) : (applyItem s i).tick = s.tick ∧ (applyItem s i).pending = s.pending := by
  unfold applyItem
  split <;> simp

@[simp] theorem applyInbox_clock (s : State) : (applyInbox s).tick = s.tick ∧ (applyInbox s).pending = s.pending := by simp [applyInbox]

@[simp] theorem applyStop_clock (s : State) (c : PartStop) : (applyStop s c).tick = s.tick ∧ (applyStop s c).pending = s.pending := by
  unfold applyStop
  split <;> simp

@[simp] theorem refreshMajority_clock (s : State) : (refreshMajority s).tick = s.tick ∧ (refreshMajority s).pending = s.pending := by
  simp [refreshMajority]

@[simp] theorem placeRelayed_clock (s : State) : (placeRelayed s).tick = s.tick ∧ (placeRelayed s).pending = s.pending := by
  unfold placeRelayed
  split <;> simp

@[simp] theorem markGranted_clock (s : State) : (markGranted s).tick = s.tick ∧ (markGranted s).pending = s.pending := by simp [markGranted]

@[simp] theorem staleAway_clock (s : State) : (staleAway s).tick = s.tick ∧ (staleAway s).pending = s.pending := by simp [staleAway]

@[simp] theorem flueSync_clock (s : State) : (flueSync s).tick = s.tick ∧ (flueSync s).pending = s.pending := by
  unfold flueSync
  split <;> simp

@[simp] theorem askRecords_clock (s : State) : (askRecords s).tick = s.tick ∧ (askRecords s).pending = s.pending := by simp [askRecords]

@[simp] theorem sendRecord_clock (m : Nat) (s : State) (i : Nat) :
    (sendRecord m s i).tick = s.tick ∧ (sendRecord m s i).pending = s.pending := by simp [sendRecord]

@[simp] theorem emptyForResync_clock (s : State) : (emptyForResync s).tick = s.tick ∧ (emptyForResync s).pending = s.pending := by
  simp [emptyForResync]

@[simp] theorem ownFlue_clock (d : Nat) (s : State) : (ownFlue d s).tick = s.tick ∧ (ownFlue d s).pending = s.pending := by simp [ownFlue]

@[simp] theorem formGroup_clock (p : List Byte) (s : State) : (formGroup p s).tick = s.tick ∧ (formGroup p s).pending = s.pending := by
  simp [formGroup]

@[simp] theorem promoteSelf_clock (h : Held) (p : List Byte) (s : State) :
    (promoteSelf h p s).tick = s.tick ∧ (promoteSelf h p s).pending = s.pending := by simp [promoteSelf]

@[simp] theorem gpFormCmd_clock (h : Held) (p : List Byte) (s : State) :
    (gpFormCmd h p s).tick = s.tick ∧ (gpFormCmd h p s).pending = s.pending := by simp [gpFormCmd]

@[simp] theorem execGpForm_clock (s : State) : ResKeeps (SameClock s) (execGpForm s) :=
  withCmd_clock (fun h p => by simp)

theorem asManager_clock {s : State} {f : State → State} (hf : SameClock s (f s)) : SameClock s (asManager s f) := by
  obtain ⟨htick, hpend⟩ := hf
  simp [asManager, htick, hpend]

@[simp] theorem gpAdmitCmd_clock (h : Held) (p : List Byte) (s : State) :
    (gpAdmitCmd h p s).tick = s.tick ∧ (gpAdmitCmd h p s).pending = s.pending :=
  asManager_clock (by dsimp only; (repeat' split) <;> simp)

@[simp] theorem execGpAdmit_clock (s : State) : ResKeeps (SameClock s) (execGpAdmit s) :=
  withCmd_clock (fun h p => by simp)

@[simp] theorem gpJoinCmd_clock (h : Held) (p : List Byte) (s : State) :
    (gpJoinCmd h p s).tick = s.tick ∧ (gpJoinCmd h p s).pending = s.pending := by simp [gpJoinCmd]

@[simp] theorem execGpJoin_clock (s : State) : ResKeeps (SameClock s) (execGpJoin s) :=
  withCmd_clock (fun h p => by simp)

@[simp] theorem gpRemoveCmd_clock (h : Held) (p : List Byte) (s : State) :
    (gpRemoveCmd h p s).tick = s.tick ∧ (gpRemoveCmd h p s).pending = s.pending :=
  asManager_clock (by dsimp only; (repeat' split) <;> simp)

@[simp] theorem execGpRemove_clock (s : State) : ResKeeps (SameClock s) (execGpRemove s) :=
  withCmd_clock (fun h p => by simp)

@[simp] theorem gpSpreadCmd_clock (h : Held) (p : List Byte) (s : State) :
    (gpSpreadCmd h p s).tick = s.tick ∧ (gpSpreadCmd h p s).pending = s.pending :=
  asManager_clock (by dsimp only; (repeat' split) <;> simp)

@[simp] theorem execGpSpread_clock (s : State) : ResKeeps (SameClock s) (execGpSpread s) :=
  withCmd_clock (fun h p => by simp)

@[simp] theorem gpStatusCmd_clock (h : Held) (k : List Byte) (s : State) :
    (gpStatusCmd h k s).tick = s.tick ∧ (gpStatusCmd h k s).pending = s.pending := by simp [gpStatusCmd]

@[simp] theorem execGpStatus_clock (s : State) : ResKeeps (SameClock s) (execGpStatus s) :=
  withCmd_clock (fun h p => by simp)

@[simp] theorem gpDoubtsCmd_clock (h : Held) (p : List Byte) (s : State) :
    (gpDoubtsCmd h p s).tick = s.tick ∧ (gpDoubtsCmd h p s).pending = s.pending :=
  asManager_clock (by simp)

@[simp] theorem execGpDoubts_clock (s : State) : ResKeeps (SameClock s) (execGpDoubts s) :=
  withCmd_clock (fun h p => by simp)

@[simp] theorem gpRelayCmd_clock (h : Held) (p : List Byte) (s : State) :
    (gpRelayCmd h p s).tick = s.tick ∧ (gpRelayCmd h p s).pending = s.pending := by
  refine asManager_clock ?_
  dsimp only
  iterate 7
    split
    · simp
  split
  all_goals
    next hq =>
      obtain ⟨htick, hpend⟩ := clock_of_gateEntry hq
      simp [htick, hpend]

@[simp] theorem execGpRelay_clock (s : State) : ResKeeps (SameClock s) (execGpRelay s) :=
  withCmd_clock (fun h p => by simp)

@[simp] theorem streamResync_clock (m : Nat) (full : Bool) (s : State) :
    (streamResync m full s).tick = s.tick ∧ (streamResync m full s).pending = s.pending := by simp [streamResync]

@[simp] theorem execJoinHello_clock (p k : Nat) (group : Nat) (digest : List Byte) (sigOk restarted : Bool) (s : State) :
    ResKeeps (SameClock s) (execJoinHello p k group digest sigOk restarted s) := by
  unfold execJoinHello
  dsimp only
  (repeat' split) <;> simp

@[simp] theorem joined_clock (h : GpHead) (full : Bool) (s : State) :
    (joined h full s).tick = s.tick ∧ (joined h full s).pending = s.pending := by simp [joined]

@[simp] theorem execJoinAccept_clock (p k : Nat) (h : GpHead) (digest : List Byte) (sigOk : Bool) (lc rtt : Nat) (full : Bool)
    (sak : List Byte) (s : State) :
    ResKeeps (SameClock s) (execJoinAccept p k h digest sigOk lc rtt full sak s) := by
  unfold execJoinAccept
  dsimp only
  (repeat' split) <;> simp

@[simp] theorem execResyncDone_clock (m : Nat) (s : State) : ResKeeps (SameClock s) (execResyncDone m s) := by simp [execResyncDone]

@[simp] theorem heartTo_clock (m : Nat) (s : State) : (heartTo m s).tick = s.tick ∧ (heartTo m s).pending = s.pending := by simp [heartTo]

@[simp] theorem execHeartbeatSend_clock (s : State) : ResKeeps (SameClock s) (execHeartbeatSend s) := by simp [execHeartbeatSend]

@[simp] theorem execHeartbeat_clock (p k : Nat) (h : GpHead) (echo rtt pool _backlog last : Nat) (s : State) :
    ResKeeps (SameClock s) (execHeartbeat p k h echo rtt pool _backlog last s) :=
  withFrame_clock (fun s => by simp)

@[simp] theorem execControl_clock (p k : Nat) (h : GpHead) (inner : List Byte) (cls signers : Nat) (s : State) :
    ResKeeps (SameClock s) (execControl p k h inner cls signers s) :=
  withFrame_clock (fun s => by simp)

@[simp] theorem execControlResp_clock (p k : Nat) (h : GpHead) (response : List Byte) (s : State) :
    ResKeeps (SameClock s) (execControlResp p k h response s) :=
  withFrame_clock (fun s => by simp)

@[simp] theorem execRepl_clock (p k : Nat) (h : GpHead) (items : List (Nat × ReplItem)) (s : State) :
    ResKeeps (SameClock s) (execRepl p k h items s) :=
  withFrame_clock (fun s => by simp)

@[simp] theorem execReplAck_clock (p k : Nat) (h : GpHead) (last : Nat) (wants : List Nat) (s : State) :
    ResKeeps (SameClock s) (execReplAck p k h last wants s) :=
  withFrame_clock (fun s => by simp)

@[simp] theorem execLockout_clock (p k : Nat) (h : GpHead) (index until_ : Nat) (s : State) :
    ResKeeps (SameClock s) (execLockout p k h index until_ s) :=
  withFrame_clock (fun s => by simp)

@[simp] theorem takePartIn_clock (port m : Nat) (s : State) (x : PartIn) :
    (takePartIn port m s x).tick = s.tick ∧ (takePartIn port m s x).pending = s.pending := by simp [takePartIn]

@[simp] theorem execPartReq_clock (p k : Nat) (h : GpHead) (parts : List PartIn) (s : State) :
    ResKeeps (SameClock s) (execPartReq p k h parts s) :=
  withFrame_clock (fun s => by simp)

@[simp] theorem takePartOut_clock (m : Nat) (s : State) (x : PartOut) :
    (takePartOut m s x).tick = s.tick ∧ (takePartOut m s x).pending = s.pending := by
  unfold takePartOut
  dsimp only
  (repeat' split) <;> simp

@[simp] theorem execPartResult_slicesFlush_clock (s : State) :
    (execPartResult.slicesFlush s).tick = s.tick ∧ (execPartResult.slicesFlush s).pending = s.pending := by
  simp [execPartResult.slicesFlush]

@[simp] theorem execPartResult_clock (p k : Nat) (h : GpHead) (results : List PartOut) (s : State) :
    ResKeeps (SameClock s) (execPartResult p k h results s) :=
  withFrame_clock (fun s => by simp)

@[simp] theorem execPartCancel_clock (p k : Nat) (h : GpHead) (stops : List PartStop) (s : State) :
    ResKeeps (SameClock s) (execPartCancel p k h stops s) :=
  withFrame_clock (fun s => by simp)

@[simp] theorem execPartJournal_clock (p k : Nat) (h : GpHead) (entries : List JPart) (s : State) :
    ResKeeps (SameClock s) (execPartJournal p k h entries s) :=
  withFrame_clock (fun s => by simp)

@[simp] theorem expireDoubts_clock (m : Nat) (s : State) :
    (expireDoubts m s).tick = s.tick ∧ (expireDoubts m s).pending = s.pending := by simp [expireDoubts]

@[simp] theorem execDoubtExpiry_clock (s : State) : ResKeeps (SameClock s) (execDoubtExpiry s) := by
  unfold execDoubtExpiry
  split <;> simp

@[simp] theorem loseMember_clock (m : Nat) (s : State) : (loseMember m s).tick = s.tick ∧ (loseMember m s).pending = s.pending := by
  simp [loseMember]

@[simp] theorem execMemberLost_clock (m : Nat) (s : State) : ResKeeps (SameClock s) (execMemberLost m s) := by simp [execMemberLost]

@[simp] theorem withdrawParts_clock (s : State) : (withdrawParts s).tick = s.tick ∧ (withdrawParts s).pending = s.pending := by
  simp [withdrawParts]

@[simp] theorem execPartWithdrawTimeout_clock (s : State) : ResKeeps (SameClock s) (execPartWithdrawTimeout s) := by
  simp [execPartWithdrawTimeout]

@[simp] theorem orphaned_clock (s : State) : (orphaned s).tick = s.tick ∧ (orphaned s).pending = s.pending := by simp [orphaned]

@[simp] theorem execManagerLost_clock (s : State) : ResKeeps (SameClock s) (execManagerLost s) := by simp [execManagerLost]

@[simp] theorem silences_clock (s : State) : (silences s).tick = s.tick ∧ (silences s).pending = s.pending := by simp [silences]

@[simp] theorem groupPoint_clock (s : State) : (groupPoint s).tick = s.tick ∧ (groupPoint s).pending = s.pending := by simp [groupPoint]

@[simp] theorem acceptPromotion_clock (p k : Nat) (h : GpHead) (expel : Nat) (s : State) :
    (acceptPromotion p k h expel s).tick = s.tick ∧ (acceptPromotion p k h expel s).pending = s.pending := by simp [acceptPromotion]

@[simp] theorem execPromote_clock (p k : Nat) (h : GpHead) (f : Frame) (serial : Nat) (nonce : List Byte) (s : State) :
    ResKeeps (SameClock s) (execPromote p k h f serial nonce s) := by
  unfold execPromote
  split
  · simp
  next t ht =>
    obtain ⟨htick, hpend⟩ := takeFrame_clock ht
    simp [htick, hpend]

@[simp] theorem execPromoteAck_clock (p k : Nat) (h : GpHead) (s : State) : ResKeeps (SameClock s) (execPromoteAck p k h s) :=
  withFrame_clock (fun s => by simp)

/-! ### Machine/Watch -/

@[simp] theorem modWm_clock (k : Nat) (f : Wm → Wm) (s : State) : (modWm k f s).tick = s.tick ∧ (modWm k f s).pending = s.pending := by
  simp [modWm]

@[simp] theorem crossing_clock (k level : Nat) (s : State) :
    (crossing k level s).tick = s.tick ∧ (crossing k level s).pending = s.pending := by simp [crossing]

@[simp] theorem lookAt_clock (s : State) (k : Nat) : (lookAt s k).tick = s.tick ∧ (lookAt s k).pending = s.pending := by simp [lookAt]

@[simp] theorem watermarks_clock (s : State) : (watermarks s).tick = s.tick ∧ (watermarks s).pending = s.pending := by simp [watermarks]

@[simp] theorem execNqWmCfg_clock (k value : Nat) (s : State) : ResKeeps (SameClock s) (execNqWmCfg k value s) := by simp [execNqWmCfg]

@[simp] theorem execNqWmRearm_clock (k : Nat) (s : State) : ResKeeps (SameClock s) (execNqWmRearm k s) := by simp [execNqWmRearm]

@[simp] theorem evClearCmd_clock (h : Held) (p : List Byte) (s : State) :
    (evClearCmd h p s).tick = s.tick ∧ (evClearCmd h p s).pending = s.pending := by simp [evClearCmd]

@[simp] theorem execEvClear_clock (s : State) : ResKeeps (SameClock s) (execEvClear s) :=
  withCmd_clock (fun h p => by simp)

@[simp] theorem clearPoint_clock (s : State) : (clearPoint s).tick = s.tick ∧ (clearPoint s).pending = s.pending := by
  unfold clearPoint
  split <;> simp

@[simp] theorem execEvClearDone_clock (s : State) : ResKeeps (SameClock s) (execEvClearDone s) := by
  unfold execEvClearDone
  split <;> simp

/-! ### Machine/Registers -/

@[simp] theorem afterRead_clock (o : Nat) (s : State) : (afterRead o s).tick = s.tick ∧ (afterRead o s).pending = s.pending := by
  change SameClock s (afterRead o s)
  unfold afterRead
  dsimp only
  refine ite_keeps (by split <;> simp) ?_
  repeat' apply ite_keeps (P := SameClock s)
  all_goals simp

@[simp] theorem usedFree_clock (s : State) : (usedFree s).tick = s.tick ∧ (usedFree s).pending = s.pending := by simp [usedFree]

@[simp] theorem plainRead_clock (o size : Nat) (s : State) :
    (plainRead o size s).tick = s.tick ∧ (plainRead o size s).pending = s.pending := by
  unfold plainRead
  (repeat' split) <;> simp

@[simp] theorem readBar0_clock (o size : Nat) (s : State) : ResKeeps (SameClock s) (readBar0 o size s) := by
  have hdata := execRnData_clock s
  unfold readBar0
  split
  · simp
  · split
    · simp
    · split
      · simp
      · split
        · split <;> simp_all
        · simp

@[simp] theorem readBar2_clock (l o size : Nat) (s : State) : ResKeeps (SameClock s) (readBar2 l o size s) := by
  unfold readBar2
  dsimp only
  (repeat' split) <;> simp

@[simp] theorem execCounterReadClear_clock (bar2 : Option Nat) (off size : Nat) (s : State) :
    ResKeeps (SameClock s) (execCounterReadClear bar2 off size s) := by
  unfold execCounterReadClear
  split <;> simp

@[simp] theorem writeDgCtrl_clock (u value : Nat) (s : State) : ResKeeps (SameClock s) (writeDgCtrl u value s) := by
  unfold writeDgCtrl
  split <;> simp

@[simp] theorem writeDgPage_clock (u o value : Nat) (s : State) : ResKeeps (SameClock s) (writeDgPage u o value s) := by
  unfold writeDgPage
  split <;> simp

@[simp] theorem writeDgClaim_clock (value : Nat) (s : State) : ResKeeps (SameClock s) (writeDgClaim value s) := by simp [writeDgClaim]

@[simp] theorem writeEvSnap_clock (value : Nat) (s : State) : ResKeeps (SameClock s) (writeEvSnap value s) := by
  unfold writeEvSnap
  dsimp only
  split
  · exact execEvSnapTake_clock { s with rc.snapRefused := w1c s.rc.snapRefused value 29 }
  · simp

@[simp] theorem writeSrc_clock (k value : Nat) (s : State) :
    (writeSrc k value s).tick = s.tick ∧ (writeSrc k value s).pending = s.pending := by simp [writeSrc]

@[simp] theorem writeReg_clock (o value : Nat) (s : State) : ResKeeps (SameClock s) (writeReg o value s) := by simp [writeReg]

@[simp] theorem writeCmdBuf_clock (o size value : Nat) (s : State) :
    (writeCmdBuf o size value s).tick = s.tick ∧ (writeCmdBuf o size value s).pending = s.pending := by simp [writeCmdBuf]

@[simp] theorem writeBar0_clock (o size value : Nat) (s : State) : ResKeeps (SameClock s) (writeBar0 o size value s) := by
  unfold writeBar0
  dsimp only
  (repeat' split) <;> simp

@[simp] theorem writeBar2_clock (l o size value : Nat) (s : State) : ResKeeps (SameClock s) (writeBar2 l o size value s) := by
  unfold writeBar2
  dsimp only
  split
  · simp
  · split
    · simp
    · simp
    · simp
    all_goals
      split
      next ht => exact doorbellOpen_clock ht
      · simp

@[simp] theorem execRegisterWrite_clock (bar2 : Option Nat) (off size value : Nat) (s : State) :
    ResKeeps (SameClock s) (execRegisterWrite bar2 off size value s) := by
  unfold execRegisterWrite
  split <;> simp

@[simp] theorem execBar0AccessInvalid_clock (write : Bool) (off size value : Nat) (s : State) :
    ResKeeps (SameClock s) (execBar0AccessInvalid write off size value s) := by simp [execBar0AccessInvalid]

@[simp] theorem markStale_clock (s : State) : (markStale s).tick = s.tick ∧ (markStale s).pending = s.pending := by simp [markStale]

@[simp] theorem execPerstAssert_clock (l : Nat) (s : State) : ResKeeps (SameClock s) (execPerstAssert l s) := by simp [execPerstAssert]

@[simp] theorem execPerstDeassert_clock (l : Nat) (s : State) : ResKeeps (SameClock s) (execPerstDeassert l s) := by
  simp [execPerstDeassert]

@[simp] theorem execFunctionLevelReset_clock (fn : Nat) (s : State) : ResKeeps (SameClock s) (execFunctionLevelReset fn s) := by
  unfold execFunctionLevelReset
  split <;> simp

/-! ### Machine/Smbus -/

@[simp] theorem smbAnswer_clock (addr cmd : Nat) (pec : Bool) (data : List Byte) (s : State) :
    (smbAnswer addr cmd pec data s).tick = s.tick ∧ (smbAnswer addr cmd pec data s).pending = s.pending := by simp [smbAnswer]

@[simp] theorem smbSilent_clock (s : State) : (smbSilent s).tick = s.tick ∧ (smbSilent s).pending = s.pending := by simp [smbSilent]

@[simp] theorem smbFree_clock (s : State) : (smbFree s).2.tick = s.tick ∧ (smbFree s).2.pending = s.pending := by simp [smbFree]

@[simp] theorem execSmbusReadByte_clock (addr cmd : Nat) (pec : Bool) (s : State) :
    ResKeeps (SameClock s) (execSmbusReadByte addr cmd pec s) := by simp [execSmbusReadByte]

@[simp] theorem execSmbusReadWord_clock (addr cmd : Nat) (pec : Bool) (s : State) :
    ResKeeps (SameClock s) (execSmbusReadWord addr cmd pec s) := by simp [execSmbusReadWord]

@[simp] theorem execSmbusBlockRead_clock (addr cmd : Nat) (pec : Bool) (s : State) :
    ResKeeps (SameClock s) (execSmbusBlockRead addr cmd pec s) := by simp [execSmbusBlockRead]

@[simp] theorem execSmbusDataWrite_clock (_addr _cmd : Nat) (s : State) : ResKeeps (SameClock s) (execSmbusDataWrite _addr _cmd s) := by
  simp [execSmbusDataWrite]

@[simp] theorem execSmbusClockStuck_clock (s : State) : ResKeeps (SameClock s) (execSmbusClockStuck s) := by simp [execSmbusClockStuck]

/-! ### Machine/Sample -/

@[simp] theorem tableSwitches_clock (s : State) : (tableSwitches s).tick = s.tick ∧ (tableSwitches s).pending = s.pending := by
  simp [tableSwitches]

@[simp] theorem tickBoundaries_clock (s : State) : (tickBoundaries s).tick = s.tick ∧ (tickBoundaries s).pending = s.pending := by
  simp [tickBoundaries]

@[simp] theorem supervisors_clock (s : State) : (supervisors s).tick = s.tick ∧ (supervisors s).pending = s.pending := by simp [supervisors]

@[simp] theorem withdrawals_clock (s : State) : (withdrawals s).tick = s.tick ∧ (withdrawals s).pending = s.pending := by simp [withdrawals]

@[simp] theorem commits_clock (s : State) : (commits s).tick = s.tick ∧ (commits s).pending = s.pending := by simp [commits]

@[simp] theorem blankPoint_clock (s : State) : (blankPoint s).tick = s.tick ∧ (blankPoint s).pending = s.pending := by simp [blankPoint]

@[simp] theorem controls_clock (s : State) : (controls s).tick = s.tick ∧ (controls s).pending = s.pending := by simp [controls]

@[simp] theorem grants_clock (s : State) : (grants s).tick = s.tick ∧ (grants s).pending = s.pending := by simp [grants]

@[simp] theorem afterGrants_clock (s : State) : (afterGrants s).tick = s.tick ∧ (afterGrants s).pending = s.pending := by simp [afterGrants]

@[simp] theorem heartbeat_clock (s : State) : (heartbeat s).tick = s.tick ∧ (heartbeat s).pending = s.pending := by simp [heartbeat]

@[simp] theorem tracePoint_clock (source code data : Nat) (pin : Bool) (s : State) :
    (tracePoint source code data pin s).tick = s.tick ∧ (tracePoint source code data pin s).pending = s.pending := by
  simp [tracePoint]

@[simp] theorem firmwarePoint_clock (s : State) : (firmwarePoint s).tick = s.tick ∧ (firmwarePoint s).pending = s.pending := by
  unfold firmwarePoint
  dsimp only
  (repeat' split) <;> simp

@[simp] theorem firmwareTrace_clock (s : State) : (firmwareTrace s).tick = s.tick ∧ (firmwareTrace s).pending = s.pending := by
  simp [firmwareTrace]

@[simp] theorem samplePoint_clock (s : State) : (samplePoint s).tick = s.tick ∧ (samplePoint s).pending = s.pending := by simp [samplePoint]

/-- A sample point begins a tick where it takes place, and is no event otherwise (R6, R26). -/
theorem execSamplePoint_time (s : State) :
    ResKeeps (fun t => (t.tick = s.tick ∨ t.tick = s.tick + 1) ∧ t.pending = s.pending) (execSamplePoint s) := by
  unfold execSamplePoint
  rw [resKeeps_whenOk]
  split <;> simp

/-! ### Machine/Dispatch -/

/-- The frame of a command that no passing of time stands behind. -/
theorem exec_clock {c : Instr} (s : State) (hp : c ≠ .samplePoint) (hm : c ≠ .monitorCrystalPeriod) (hb : c ≠ .stage1BellowsLocked)
    (hx : c ≠ .supplyExhausted) : ResKeeps (SameClock s) (exec c s) := by
  cases c
  case samplePoint => exact absurd rfl hp
  case monitorCrystalPeriod => exact absurd rfl hm
  case stage1BellowsLocked => exact absurd rfl hb
  case supplyExhausted => exact absurd rfl hx
  all_goals simp [exec]

/-! ### The obligation -/

theorem ResKeeps.of_next {P : State → Prop} {r : Res} {t : State} (h : ResKeeps P r) (e : r = .next t) : P t := by
  subst e
  exact h

/-- Settles O5: a sample point adds at most one tick, a crystal period and the bellows' lock never take one away, and every other command
but SUPPLY_EXHAUSTED has the frame of `exec_clock`. -/
theorem tickRisesOnlyWithTime : Obligations.TickRisesOnlyWithTime := by
  intro c s t e
  refine ⟨?_, ?_, ?_, fun hp hm hb hx => ((exec_clock s hp hm hb hx).of_next e).1⟩
  · rintro rfl
    exact ((execSamplePoint_time s).of_next e).1
  · rintro rfl
    exact ((execMonitorCrystalPeriod_time s).of_next e).1
  · rintro rfl
    obtain ⟨hlo, hhi, -⟩ := (execStage1BellowsLocked_time s).of_next e
    exact ⟨hlo, hhi⟩

end Sys2Proof.Machine
end

section
/-!
PROOFS. The values after reset, and UTC with the tick count registers.
-/
namespace Sys2Proof.Machine
open Sys2Proof

/-! ### The state after reset (R74, R395, R411, R499) -/

/-- Every watermark is a blank one after reset, so none is enabled. -/
theorem reset_watermark_off : ∀ w ∈ State.reset.nq.wms, w.en = false := by
  intro w hw
  have hblank : w = {} := List.eq_of_mem_replicate (n := watermarkCount) hw
  rw [hblank]

/-- The default rule of class 4: two Security Officers (R411). -/
theorem reset_rule_class4 : State.reset.prov.rules.getD 4 ⟨0, 0, 0, 0⟩ = ⟨2, 0, 0, 0⟩ := rfl

/-- Settles O10: each value stands in the definition of its unit's state, and the watermarks are all blank. -/
theorem resetHoldsStatedValues : Obligations.ResetHoldsStatedValues :=
  ⟨rfl, rfl, rfl, rfl, rfl, rfl, rfl, rfl, reset_watermark_off, rfl, rfl, rfl, reset_rule_class4, rfl, rfl, rfl, rfl, rfl⟩

/-! ### TIME_SET (R73, R414) -/

/-- TIME_SET taken up is `timeSetCmd` of the frame's payload. -/
theorem exec_timeSet_taken {h : Held} {s : State} (taken : CmdTaken 0x0303 h s) :
    exec .timeSet s = .next (timeSetCmd h h.frame.payload s) := withCmd_of_taken taken

/-- TIME_SET with its fields in range, while no port holds PTP lock: UTC at this tick, from the host. -/
theorem timeSetCmd_unlocked {h : Held} {p : List Byte} {s : State} (hsec : be p 0 8 < 2 ^ 48) (hns : be p 8 4 ≤ 999999999)
    (hlock : ptpLocked s = false) :
    timeSetCmd h p s = respond St.ok 0 s.tick [] (setUtc ((be p 0 8 * 10 ^ 9 + be p 8 4 : Nat) : Int) 1 0 s) := by
  simp only [timeSetCmd, Nat.not_le.mpr hsec, Nat.not_lt.mpr hns, hlock, Bool.false_eq_true, if_false]

/-- TIME_SET with its fields in range is refused while a port holds PTP lock. -/
theorem timeSetCmd_locked {h : Held} {p : List Byte} {s : State} (hsec : be p 0 8 < 2 ^ 48) (hns : be p 8 4 ≤ 999999999)
    (hlock : ptpLocked s = true) : timeSetCmd h p s = respond St.stateForbids 0 0 [] s := by
  simp only [timeSetCmd, Nat.not_le.mpr hsec, Nat.not_lt.mpr hns, hlock, if_false, if_true, refuse_eq]

/-! ### The UTC fields and the tick count (R73, R74) -/

/-- UTC runs on from the last correction, 2,048 ns a tick. -/
theorem utcNow_corrected {r : Int} {s : State} (hr : s.tk.refNs = some r) :
    utcNow s = some (r + ((s.tick - s.tk.refTick) * 2048 : Nat)) := by
  rw [utcNow, hr, Option.map_some, tickNs]

/-- What an update of the UTC fields writes once UTC has been set. -/
theorem utcUpdate_of_utcNow {n : Int} {s : State} (hn : utcNow s = some n) :
    utcUpdate s = { s with tk := { s.tk with
      utcSec := (n / 10 ^ 9).toNat % 2 ^ 48, utcNs := (n % 10 ^ 9).toNat, utcTick := s.tick
      shValid := s.tk.utcValid, shSrc := s.tk.utcSrc, shPort := s.tk.utcPort } } := by
  have hshown : utcNow { s with tk.shValid := s.tk.utcValid, tk.shSrc := s.tk.utcSrc, tk.shPort := s.tk.utcPort } = some n := hn
  simp only [utcUpdate, hshown]

/-- The UTC fields are updated at every 512th tick. -/
theorem exec_utcUpdate_at {s : State} (hk : s.tick % 512 = 0) : exec .utcUpdate s = .next (utcUpdate s) :=
  whenOk_true (decide_eq_true hk)

/-- VALID clears 2^19 ticks after the last correction. -/
theorem exec_utcValidExpiry_overdue {s : State} (hv : s.tk.utcValid = true) (hk : s.tk.corrTick + 2 ^ 19 ≤ s.tick) :
    exec .utcValidExpiry s = .next { s with tk.utcValid := false } :=
  whenOk_true (by rw [hv, decide_eq_true hk, Bool.and_self])

/-- A 32-bit read of TK_COUNT answers the low half and latches the high half. -/
theorem exec_tkCountLowRead_up {s : State} (up : s.hl.link0.up = true) :
    exec .tkCountLowRead s = .next (emit (.readData 0x4000 (s.tick % 2 ^ 32)) { s with tk.countHi := s.tick / 2 ^ 32 % 2 ^ 32 }) :=
  viaPf0_up up

/-- Settles O25: a TIME_SET taken up, with and without PTP lock; the update shows `utcNow`; the expiry and the read of
the count are their events under their conditions. -/
theorem timeIsSetAndRead : Obligations.TimeIsSetAndRead := by
  refine ⟨fun h s taken hsec hns => ⟨fun unlocked => ?_, fun locked => ?_⟩, fun r s hk hr => ?_,
    fun s hv hk => exec_utcValidExpiry_overdue hv hk, fun s up => exec_tkCountLowRead_up up⟩
  · rw [exec_timeSet_taken taken, timeSetCmd_unlocked hsec hns unlocked, setUtc]
  · rw [exec_timeSet_taken taken, timeSetCmd_locked hsec hns locked]
  · rw [exec_utcUpdate_at hk, utcUpdate_of_utcNow (utcNow_corrected hr)]

end Sys2Proof.Machine
end

section
/-!
PROOFS. The read events of the host queues: a fetch or an input read that returns, fails or times out, and the time-outs beside them.
-/
namespace Sys2Proof.Machine
open Sys2Proof

/-! ### Fetch reads (R77, R78, R86) -/

section
variable {n : Nat} {f : FetchRead} {s : State}

theorem exec_submissionFetchDone_error (hf : (qp s n).fetch = some f) :
    exec (.submissionFetchDone n .error) s = .next (pump (fetchFailed n f St.hostDmaError s)) := by
  show execSubmissionFetchDone n .error s = _
  simp only [execSubmissionFetchDone, hf]

theorem exec_submissionFetchDone_data {bs : List Byte} (hf : (qp s n).fetch = some f) :
    exec (.submissionFetchDone n (.data bs)) s = .next (pump ((List.range f.n).foldl (fun s j =>
      takeEntry n ((f.seq + j) % 2 ^ 32) (octets bs (128 * j) 128) (modQp n (fun q => { q with fetched := q.fetched + 1 }) s))
      (modQp n (fun q => { q with fetch := none, failRun := 0 }) s))) := by
  show execSubmissionFetchDone n (.data bs) s = _
  simp only [execSubmissionFetchDone, hf]

theorem exec_dmaReadTimeout_fetch (hf : (qp s n).fetch = some f) (due : f.issued + 64 ≤ s.tick) :
    exec (.dmaReadTimeout (.fetch n)) s = .next (pump (fetchFailed n f St.grateTimeout { s with
      hl.timedOut := s.hl.timedOut + (readPieces (fetchAddr (qp s n) f.seq) (128 * f.n)).length })) := by
  show execDmaReadTimeout (.fetch n) s = _
  simp only [execDmaReadTimeout, hf, due, if_true]

end

/-! ### Input reads of requests of a queue pair (R77, R78, R88, R99) -/

/-- No read of an ended request bears the name of request `id`. -/
theorem orphans_any_work {id : Nat} {s : State} (live : ∀ o ∈ s.hl.orphans, o.work ≠ id) :
    s.hl.orphans.any (fun o => decide (o.work = id)) = false := by
  simpa using live

theorem orphans_find_work {id : Nat} {s : State} (live : ∀ o ∈ s.hl.orphans, o.work ≠ id) :
    s.hl.orphans.find? (fun o => decide (o.work = id)) = none := by
  simpa using live

section
variable {id n q : Nat} {w : Work} {bs : List Byte} {s : State}
  (live : ∀ o ∈ s.hl.orphans, o.work ≠ id) (hw : work s id = some w) (reading : w.phase = .reading) (src : w.src = .queue n q)
include live hw reading src

theorem exec_inputReadDone_error : exec (.inputReadDone id .error) s =
    .next (pump (landed n (refuseSub n q w.sub St.hostDmaError 0 (dropWork id (noRead id s))))) := by
  show execInputReadDone id .error s = _
  simp only [execInputReadDone, orphans_any_work live, hw, reading, src, ne_eq, not_true_eq_false, Bool.false_eq_true, if_false]

theorem exec_inputReadDone_data (single : w.sub.func / 256 ≠ 0x0B) : exec (.inputReadDone id (.data bs)) s =
    .next (pump (settle (makeEligible id (modWork id (fun w' => { w' with input := octets bs 0 w.sub.inLen }) (noRead id s))))) := by
  show execInputReadDone id (.data bs) s = _
  simp only [execInputReadDone, orphans_any_work live, hw, reading, src, single, ne_eq, not_true_eq_false, Bool.false_eq_true, if_false]

theorem exec_inputReadDone_batch (isBatch : w.sub.func / 256 = 0x0B) : exec (.inputReadDone id (.data bs)) s =
    .next (pump (settle (buildBatch id { w with asked := false } (octets bs 0 w.sub.inLen) (noRead id s)))) := by
  show execInputReadDone id (.data bs) s = _
  simp only [execInputReadDone, orphans_any_work live, hw, reading, src, isBatch, ne_eq, not_true_eq_false, Bool.false_eq_true,
    if_false, if_true]

theorem exec_dmaReadTimeout_input (asked : w.asked = true) (due : w.readTick + 64 ≤ s.tick) :
    exec (.dmaReadTimeout (.input id)) s = .next (pump (landed n (refuseSub n q w.sub St.grateTimeout 0
      (dropWork id (noRead id { s with hl.timedOut := s.hl.timedOut + w.reads }))))) := by
  show execDmaReadTimeout (.input id) s = _
  simp only [execDmaReadTimeout, orphans_find_work live, hw, reading, src, asked, Nat.not_lt.mpr due, Bool.true_eq_false, or_self,
    if_false, if_true]

end

/-! ### Input reads of parts of a batch (R77, R78, R100) -/

theorem orphans_any_part {p : Nat × Nat} {s : State} (live : ∀ o ∈ s.hl.orphans, o.part ≠ some p) :
    s.hl.orphans.any (fun o => decide (o.part = some p)) = false := by
  simpa using live

section
variable {bid idx id : Nat} {b : Batch} {w : Work} {bs : List Byte} {s : State}

/-- The request that a part of a batch became. -/
theorem batch_bind_works (hb : batch s bid = some b) (hid : tblGet b.works idx = some id) :
    (batch s bid).bind (fun b => tblGet b.works idx) = some id := by
  rw [hb, Option.bind_some, hid]

section
variable (live : ∀ o ∈ s.hl.orphans, o.part ≠ some (bid, idx)) (hb : batch s bid = some b) (hid : tblGet b.works idx = some id)
  (hw : work s id = some w) (asked : w.asked = true) (unstaged : w.staged = false)
include live hb hid hw asked unstaged

theorem exec_batchPartInputRead_error :
    exec (.batchPartInputRead bid idx .error) s = .next (stagePump (stageFailed bid idx id St.hostDmaError 0 (noRead id s))) := by
  show execBatchPartInputRead bid idx .error s = _
  simp only [execBatchPartInputRead, orphans_any_part live, batch_bind_works hb hid, hw, asked, unstaged, Bool.not_true,
    Bool.false_eq_true, or_self, if_false]

theorem exec_batchPartInputRead_data :
    exec (.batchPartInputRead bid idx (.data bs)) s =
      .next (stagePump (stagePart bid idx id (octets bs 0 w.sub.inLen) (noRead id s))) := by
  show execBatchPartInputRead bid idx (.data bs) s = _
  simp only [execBatchPartInputRead, orphans_any_part live, batch_bind_works hb hid, hw, asked, unstaged, Bool.not_true,
    Bool.false_eq_true, or_self, if_false]

end

theorem exec_dmaReadTimeout_part (live : ∀ o ∈ s.hl.orphans, o.work ≠ id) (hw : work s id = some w) (asked : w.asked = true)
    (unstaged : w.staged = false) (src : w.src = .part bid idx) (grate : w.unit ≠ .hostLane) (due : w.readTick + 64 ≤ s.tick) :
    exec (.dmaReadTimeout (.input id)) s = .next (stagePump (stageFailed bid idx id St.grateTimeout 0
      (noRead id { s with hl.timedOut := s.hl.timedOut + w.reads }))) := by
  show execDmaReadTimeout (.input id) s = _
  simp only [execDmaReadTimeout, orphans_find_work live, hw, src, asked, unstaged, Nat.not_lt.mpr due, Bool.true_eq_false, or_self,
    if_false, ne_eq, grate, not_false_eq_true, and_self, if_true]

end

/-! ### Flush reads, image reads, late completions and CQ_WAIT (R77, R98, R112) -/

theorem exec_dmaReadTimeout_flush {i k t : Nat} {s : State} (mem : (k, t) ∈ (slice s i).flushAt) (due : t + 64 ≤ s.tick) :
    exec (.dmaReadTimeout (.flush i k)) s = .next (orphansReady (modSlice i (fun l => { l with
      flushTmo := true, flushAt := l.flushAt.filter (fun f => decide (f.1 ≠ k)) }) { s with hl.timedOut := s.hl.timedOut + 1 })) := by
  have hany : (slice s i).flushAt.any (fun f => decide (f.1 = k ∧ f.2 + 64 ≤ s.tick)) = true :=
    List.any_eq_true.mpr ⟨(k, t), mem, decide_eq_true ⟨rfl, due⟩⟩
  show execDmaReadTimeout (.flush i k) s = _
  simp only [execDmaReadTimeout, hany, if_true]

theorem exec_dmaReadTimeout_image {op prior : Nat} {s : State} (hop : s.ks.loadOp = some (op, prior))
    (due : s.ks.loadSince + 64 ≤ s.tick) : exec (.dmaReadTimeout .image) s =
      .next (imageFails St.grateTimeout op prior { s with hl.timedOut := s.hl.timedOut + 1 }) := by
  show execDmaReadTimeout .image s = _
  simp only [execDmaReadTimeout, hop, due, if_true]

theorem exec_lateCompletion {s : State} (h : 0 < s.hl.timedOut) : exec .lateCompletion s =
    .next { s with hl.timedOut := s.hl.timedOut - 1, hl.late := satAdd 32 s.hl.late 1 } :=
  whenOk_true (decide_eq_true h)

theorem exec_cqWaitExpiry {n : Nat} {s : State} (unsig : 0 < (qp s n).unsig) (wait : (qp s n).cqWait ≠ 0)
    (due : (qp s n).unsigSince + (qp s n).cqWait ≤ s.tick) (linked : (qp s n).state ≠ 3) :
    exec (.cqWaitExpiry n) s = .next (qpVector n s) :=
  whenOk_true (decide_eq_true ⟨unsig, wait, due, linked⟩)

/-- Settles O20: each event's row, read off where its read is outstanding: fetch reads, input reads of requests, input reads of
parts, flush and image reads, late completions and CQ_WAIT. -/
theorem fetchedEntriesAreTakenUp : Obligations.FetchedEntriesAreTakenUp := by
  refine ⟨fun n f bs s hf => ?_, fun id n q w bs s live hw reading src => ?_,
    fun bid idx id b w bs s live hb hid hw asked unstaged => ?_, fun i k t s mem due => exec_dmaReadTimeout_flush mem due,
    fun op prior s hop due => exec_dmaReadTimeout_image hop due, fun s h => exec_lateCompletion h,
    fun n s unsig wait due linked => exec_cqWaitExpiry unsig wait due linked⟩
  · exact ⟨exec_submissionFetchDone_error hf, exec_submissionFetchDone_data hf, exec_dmaReadTimeout_fetch hf⟩
  · exact ⟨exec_inputReadDone_error live hw reading src, exec_inputReadDone_data live hw reading src,
      exec_inputReadDone_batch live hw reading src, exec_dmaReadTimeout_input live hw reading src⟩
  · have livePart : ∀ o ∈ s.hl.orphans, o.part ≠ some (bid, idx) := fun o ho => (live o ho).1
    have liveWork : ∀ o ∈ s.hl.orphans, o.work ≠ id := fun o ho => (live o ho).2
    exact ⟨exec_batchPartInputRead_error livePart hb hid hw asked unstaged, exec_batchPartInputRead_data livePart hb hid hw asked unstaged,
      exec_dmaReadTimeout_part liveWork hw asked unstaged⟩

end Sys2Proof.Machine
end

section
/-!
PROOFS. The events of the host links, and the resets of their functions.
-/
namespace Sys2Proof.Machine
open Sys2Proof

/-! ### A link that trains (R75) -/

/-- What training leaves once the link is up: the notice of a narrow or slow link, then what was kept for link 0. -/
theorem exec_hostLinkUp_trains {l w v : Nat} {s : State} (hl : l ≤ 1) (power : s.pin.mainPower = true)
    (down : (hostLink s l).up = false) (released : (hostLink s l).perst = false) (hw : w ∈ [1, 2, 4, 8, 16]) (lo : 1 ≤ v) (hi : v ≤ 6) :
    exec (.hostLinkUp l w v) s = .next
      (let t := modLink l (fun k => { k with up := true, recov := false, bme := true, width := w, speed := v }) s
       let t := if w < 16 ∨ v < 6 then note 0x1501 0 l w v t else t
       let t := if l = 0 then { t with out := t.mb.outHeld ++ t.out, mb := { t.mb with outHeld := [] } } else t
       if l = 0 ∧ t.mb.vecOwed = true then vector 0 { t with mb := { t.mb with vecOwed := false } } else t) := by
  have taken : ¬(1 < l ∨ s.pin.mainPower = false ∨ (hostLink s l).up = true ∨ (hostLink s l).perst = true ∨
      w ∉ [1, 2, 4, 8, 16] ∨ v < 1 ∨ 6 < v) := by
    simp only [power, down, released, hw, not_true_eq_false, Bool.true_eq_false, Bool.false_eq_true, false_or]
    omega
  exact if_neg taken

/-! ### A link that goes down (R78, R79) -/

theorem exec_hostLinkDown_up {l : Nat} {s : State} (hl : l ≤ 1) (up : (hostLink s l).up = true) :
    exec (.hostLinkDown l) s = .next ((if l = 0 then pf0Down else id)
      (linkDown l (modLink l (fun k => { k with up := false, recov := false, width := 0, speed := 0 }) s))) :=
  whenOk_true (by rw [decide_eq_true hl, up, Bool.and_self])

/-- With no RELOAD under way, `pf0Down` ends the read of a command body alone. -/
theorem pf0Down_of_noImage {s : State} (idle : s.ks.loadOp = none) :
    pf0Down s = if s.mb.held.any (fun h => decide (h.stage = .body)) then respond St.hostDmaError 32 0 [] s else s := by
  have kept : (if s.mb.held.any (fun h => decide (h.stage = .body)) then respond St.hostDmaError 32 0 [] s else s).ks.loadOp = none := by
    split <;> simp [idle]
  simp only [pf0Down, refuse_eq, kept]

theorem pf0Down_of_noRead {s : State} (idle : s.ks.loadOp = none) (noBody : ∀ h, s.mb.held = some h → h.stage ≠ .body) : pf0Down s = s := by
  have hany : s.mb.held.any (fun h => decide (h.stage = .body)) = false := by
    cases hh : s.mb.held with
    | none => rfl
    | some h => exact decide_eq_false (noBody h hh)
  rw [pf0Down_of_noImage idle, hany, if_neg Bool.false_ne_true]

theorem pf0Down_of_body {h : Held} {s : State} (idle : s.ks.loadOp = none) (hh : s.mb.held = some h) (body : h.stage = .body) :
    pf0Down s = respond St.hostDmaError 32 0 [] s := by
  have hany : s.mb.held.any (fun h => decide (h.stage = .body)) = true := by
    rw [hh, Option.any_some, decide_eq_true body]
  rw [pf0Down_of_noImage idle, hany, if_pos rfl]

/-! ### Bus mastering, resets and errors of a link (R78, R79, R80, R567, R568) -/

/-- A reset of the PF1 function of a link stops the link's queue pairs as clearing Bus Master Enable does (R79). -/
theorem exec_functionLevelReset_pf1 {s : State} : ∀ {l : Nat}, l ≤ 1 →
    exec (.functionLevelReset (l + 1)) s = .next (linkDown l (modLink l (fun k => { k with bme := false }) s))
  | 0, _ => rfl
  | 1, _ => rfl

section
variable {l : Nat} {s : State}

theorem exec_busMasterClear (hl : l ≤ 1) :
    exec (.busMasterClear l) s = .next (linkDown l (modLink l (fun k => { k with bme := false }) s)) :=
  if_neg (Nat.not_lt.mpr hl)

/-- PERST# on link 0 also reaches PF0: the digest units, a held response and the reads of PF0 (R79, R395, R568). -/
theorem exec_perstAssert_link0 : exec (.perstAssert 0) s = .next (pf0Down (markStale (releaseAll
    (linkDown 0 (modLink 0 (fun k => { k with perst := true, up := false, recov := false, width := 0, speed := 0 }) s))))) := by
  show execPerstAssert 0 s = _
  simp only [execPerstAssert, Nat.not_lt_zero, if_false, if_true]

/-- PERST# on link 1 stops that link's queue pairs and nothing of PF0. -/
theorem exec_perstAssert_link1 : exec (.perstAssert 1) s = .next
    (linkDown 1 (modLink 1 (fun k => { k with perst := true, up := false, recov := false, width := 0, speed := 0 }) s)) := by
  show execPerstAssert 1 s = _
  simp only [execPerstAssert, Nat.lt_irrefl, Nat.one_ne_zero, if_false]

theorem exec_perstDeassert (hl : l ≤ 1) : exec (.perstDeassert l) s = .next (modLink l (fun k => { k with perst := false }) s) :=
  if_neg (Nat.not_lt.mpr hl)

theorem exec_hostLinkError_correctable (hl : l ≤ 1) :
    exec (.hostLinkError l true) s = .next (modLink l (fun k => { k with corr := satAdd 32 k.corr 1 }) s) :=
  if_neg (Nat.not_lt.mpr hl)

theorem exec_hostLinkError_uncorrectable (hl : l ≤ 1) : exec (.hostLinkError l false) s =
    .next (note 0x1502 1 l 0 0 (modLink l (fun k => { k with uncorr := satAdd 32 k.uncorr 1 }) s)) :=
  if_neg (Nat.not_lt.mpr hl)

theorem exec_hostLinkRecovery_change {e : Bool} (hl : l ≤ 1) (up : (hostLink s l).up = true) (change : (hostLink s l).recov ≠ e) :
    exec (.hostLinkRecovery l e) s = .next (modLink l (fun k => { k with recov := e }) s) :=
  whenOk_true (by rw [decide_eq_true hl, up, decide_eq_true change, Bool.and_self, Bool.and_self])

end

/-! ### The end of a flush (R112) -/

theorem exec_sliceFlushDone {i : Nat} {s : State} (flushing : (slice s i).flushing = true) (last : ∀ o ∈ s.hl.orphans, o.slice ≠ i) :
    exec (.sliceFlushDone i) s = .next (sliceReady i (masters i s)) := by
  have hany : s.hl.orphans.any (fun o => decide (o.slice = i)) = false := by simpa using last
  exact whenOk_true (by rw [flushing, hany, Bool.not_false, Bool.and_self])

/-- Settles O21: each event of a link has its row where it can arise, and `pf0Down` ends the reads of PF0. -/
theorem hostLinkEvents : Obligations.HostLinkEvents := by
  refine ⟨fun l w v s hl power down released hw lo hi => exec_hostLinkUp_trains hl power down released hw lo hi,
    fun l s hl up => exec_hostLinkDown_up hl up,
    fun s idle => ⟨pf0Down_of_noRead idle, fun h hh body => pf0Down_of_body idle hh body⟩,
    fun l s hl => ?_, fun s => rfl, fun s => exec_perstAssert_link0, fun s => exec_perstAssert_link1,
    fun l e s hl up change => exec_hostLinkRecovery_change hl up change,
    fun i s flushing last => exec_sliceFlushDone flushing last⟩
  exact ⟨exec_busMasterClear hl, exec_functionLevelReset_pf1 hl, exec_perstDeassert hl, exec_hostLinkError_correctable hl,
    exec_hostLinkError_uncorrectable hl⟩

end Sys2Proof.Machine
end

section
/-!
PROOFS. The commands of slices and of queue pairs.
-/
namespace Sys2Proof.Machine
open Sys2Proof

/-! ### A command taken up is its meaning on the frame's payload (R414) -/

section
variable {h : Held} {s : State}

theorem exec_sliceBind_taken (taken : CmdTaken 0x0401 h s) : exec .sliceBind s = .next (sliceBindCmd h h.frame.payload s) :=
  withCmd_of_taken taken

theorem exec_sliceStart_taken (taken : CmdTaken 0x0402 h s) : exec .sliceStart s = .next (sliceStartCmd h h.frame.payload s) :=
  withCmd_of_taken taken

theorem exec_sliceReset_taken (taken : CmdTaken 0x0403 h s) : exec .sliceReset s = .next (sliceResetCmd h h.frame.payload s) :=
  withCmd_of_taken taken

theorem exec_sliceUnbind_taken (taken : CmdTaken 0x0404 h s) : exec .sliceUnbind s = .next (sliceUnbindCmd h h.frame.payload s) :=
  withCmd_of_taken taken

theorem exec_qpSet_taken (taken : CmdTaken 0x0405 h s) : exec .qpSet s = .next (qpSetCmd h h.frame.payload s) :=
  withCmd_of_taken taken

end

/-! ### The slice commands in the states that take them (R105 to R109) -/

section
variable {h : Held} {p : List Byte} {s : State}

theorem sliceBindCmd_bindable (ready : s.lc.ready = true) (state : (slice s (be p 0 2)).state ≤ 1) :
    sliceBindCmd h p s = respond St.ok 0 s.tick [] (modSlice (be p 0 2) (fun l => { l with
      state := 1, pv := bitOf (be p 8 4) 31, pasid := be p 8 4 % 2 ^ 20, domLo := be p 2 2, domN := be p 4 2
      group := be p 6 2, detok := bitOf (be p 12 1) 0 }) s) := by
  simp only [sliceBindCmd, ready, Nat.not_lt.mpr state, Bool.true_eq_false, or_self, if_false]

theorem sliceStartCmd_ready (ready : s.lc.ready = true) (state : (slice s (be p 0 2)).state = 1) :
    sliceStartCmd h p s = pump (respond St.ok 0 s.tick [] (modSlice (be p 0 2) (fun l => { l with state := 2 }) s)) := by
  simp only [sliceStartCmd, ready, state, ne_eq, not_true_eq_false, Bool.true_eq_false, or_self, if_false]

theorem sliceUnbindCmd_ready (ready : s.lc.ready = true) (state : (slice s (be p 0 2)).state = 1) :
    sliceUnbindCmd h p s = respond St.ok 0 s.tick [] (modSlice (be p 0 2) (fun l => { l with state := 0 })
      { s with hl.qps := s.hl.qps.map (fun q => if q.2.slice = be p 0 2 then (q.1, q.2.disable) else q) }) := by
  simp only [sliceUnbindCmd, ready, state, ne_eq, not_true_eq_false, Bool.true_eq_false, or_self, if_false]

/-- A reset of a RUNNING slice, or a squash of one that drains: the held cancels are discarded and counted, the reset is armed for
the next tick and the command goes on running (R109). -/
theorem sliceResetCmd_taken (ready : s.lc.ready = true)
    (state : (slice s (be p 0 2)).state = 2 ∨ (be p 2 1 = 1 ∧ (slice s (be p 0 2)).state = 3)) :
    sliceResetCmd h p s = setStage .running (arm (s.tick + 1) (modSlice (be p 0 2)
      (fun l => { l with state := (if be p 2 1 = 1 then 4 else 3), resetAt := some (s.tick + 1), applied := false, flushTmo := false
                         discards := satAdd 32 l.discards
                           ((s.hl.qps.filter (fun q => decide (q.2.slice = be p 0 2))).map (fun q => q.2.cancels.length)).sum })
      { s with hl.qps := s.hl.qps.map (fun q => if q.2.slice = be p 0 2 then (q.1, { q.2 with cancels := [] }) else q) })) := by
  simp only [sliceResetCmd, ready, state, decide_eq_true_eq, not_true_eq_false, Bool.true_eq_false, or_self, if_false]
  rfl

/-! ### The states that refuse them (R105) -/

theorem sliceStartCmd_refused (bad : s.lc.ready = false ∨ (slice s (be p 0 2)).state ≠ 1) :
    sliceStartCmd h p s = respond St.stateForbids 0 0 [] s := if_pos bad

theorem sliceUnbindCmd_refused (bad : s.lc.ready = false ∨ (slice s (be p 0 2)).state ≠ 1) :
    sliceUnbindCmd h p s = respond St.stateForbids 0 0 [] s := if_pos bad

end

/-- Settles O22: each command taken up is its meaning on the frame's payload, in the states that take it and in those that refuse it. -/
theorem slicesAreBoundStartedAndReset : Obligations.SlicesAreBoundStartedAndReset := by
  refine ⟨fun h s taken ready state => ?_, fun h s taken ready state => ?_, fun h s taken ready state => ?_,
    fun h s taken ready state => ?_, fun h s c hc => ?_⟩
  · rw [exec_sliceBind_taken taken, sliceBindCmd_bindable ready state]
  · rw [exec_sliceStart_taken taken, sliceStartCmd_ready ready state]
  · rw [exec_sliceReset_taken taken, sliceResetCmd_taken ready state]
  · rw [exec_sliceUnbind_taken taken, sliceUnbindCmd_ready ready state]
  · simp only [List.mem_cons, List.not_mem_nil, or_false] at hc
    obtain rfl | rfl := hc <;> intro taken bad
    · rw [exec_sliceStart_taken taken, sliceStartCmd_refused bad]
    · rw [exec_sliceUnbind_taken taken, sliceUnbindCmd_refused bad]

/-! ### QP_SET (R81, R82, R106) -/

/-- The state QP_SET leaves a queue pair in (R81, R112; log entry 46). -/
def qpSetState (s : State) (p : List Byte) : Nat :=
  if (qp s (be p 0 2)).state = 2 ∨ (qp s (be p 0 2)).state = 3 then (qp s (be p 0 2)).state
  else if (hostLink s (b2n (bitOf (be p 6 1) 2))).up then 1 else 3

/-- The queue pair that QP_SET with EN 1 configures: the fields of the payload, fresh rings, and the counters it had (R81, R414). -/
def qpConfigured (s : State) (p : List Byte) : Qp :=
  let q := qp s (be p 0 2)
  { sqBase := be p 8 8, cqBase := be p 16 8, sqLog := be p 4 1, cqLog := be p 5 1, en := true, top := bitOf (be p 6 1) 1
    link := b2n (bitOf (be p 6 1) 2), roData := bitOf (be p 6 1) 3, slice := be p 2 2, vector := be p 24 2, topSlots := be p 7 1
    cqWait := be p 26 2, cqThresh := be p 28 2, state := qpSetState s p, cause := if qpSetState s p = 2 then q.cause else 0
    miss := q.miss, ovf := q.ovf, noticed := q.noticed, discarded := q.discarded }

section
variable {h : Held} {p : List Byte} {s : State} (ready : s.lc.ready = true)
  (bound : (qp s (be p 0 2)).slice = be p 2 2 ∨ (qp s (be p 0 2)).state = 0) (state : (slice s (be p 2 2)).state = 1)

include bound in
/-- A queue pair that is the slice's, or DISABLED, is no other slice's. -/
theorem not_boundElsewhere : ¬((qp s (be p 0 2)).slice ≠ be p 2 2 ∧ (qp s (be p 0 2)).state ≠ 0) := by
  rintro ⟨other, enabled⟩
  exact bound.elim other enabled

include ready bound state

theorem qpSetCmd_disable (en : bitOf (be p 6 1) 0 = false) :
    qpSetCmd h p s = respond St.ok 0 s.tick [] (modQp (be p 0 2) Qp.disable s) := by
  simp only [qpSetCmd, ready, not_boundElsewhere bound, state, en, ne_eq, not_true_eq_false, Bool.true_eq_false, if_false, if_true]

theorem qpSetCmd_topOver (en : bitOf (be p 6 1) 0 = true) (short : topOver s (be p 0 2) p = true) :
    qpSetCmd h p s = respond St.grateRange 71 0 [] s := by
  simp only [qpSetCmd, ready, not_boundElsewhere bound, state, en, short, ne_eq, not_true_eq_false, Bool.true_eq_false, if_false,
    if_true, refuse_eq]

theorem qpSetCmd_configure (en : bitOf (be p 6 1) 0 = true) (room : topOver s (be p 0 2) p = false) :
    qpSetCmd h p s = respond St.ok 0 s.tick [] (modQp (be p 0 2) (fun _ => qpConfigured s p) s) := by
  simp only [qpSetCmd, ready, not_boundElsewhere bound, state, en, room, ne_eq, not_true_eq_false, Bool.true_eq_false,
    Bool.false_eq_true, if_false]
  rfl

end

/-- A queue pair that was DISABLED or ENABLED follows its link. -/
theorem qpSetState_of_le_one {p : List Byte} {s : State} (h : (qp s (be p 0 2)).state ≤ 1) :
    qpSetState s p = if (hostLink s (qpConfigured s p).link).up then 1 else 3 :=
  if_neg (by omega)

/-- Settles O23: QP_SET taken up disables the queue pair, refuses the top slots, or leaves `qpConfigured`. -/
theorem queuePairsAreConfigured : Obligations.QueuePairsAreConfigured := by
  intro h s taken ready bound state
  refine ⟨fun en => ?_, fun en short => ?_, fun en room => ⟨qpConfigured s h.frame.payload, ?_, ?_⟩⟩
  · rw [exec_qpSet_taken taken, qpSetCmd_disable ready bound state en]
  · rw [exec_qpSet_taken taken, qpSetCmd_topOver ready bound state en short]
  · rw [exec_qpSet_taken taken, qpSetCmd_configure ready bound state en room]
  · exact ⟨rfl, rfl, rfl, rfl, rfl, rfl, rfl, rfl, rfl, rfl, rfl, rfl, rfl, rfl, rfl, rfl, rfl, qpSetState_of_le_one⟩

end Sys2Proof.Machine
end

section
/-!
PROOFS. The end of an engine's step with its checks and its retry, machine checks, overruns and retests.
-/
namespace Sys2Proof.Machine
open Sys2Proof

/-! ### The fence of a step and the comparison of its outputs (R129, R130, R429) -/

section
variable {w : Work} {o : StepOut} {s : State}

/-- A step without an access meets no fence. -/
theorem stepFence_noAccess (free : o.access = none) : stepFence w o s = (false, s) := by
  simp [stepFence, fenceCheck, free]

theorem fenceCheck_blocked {g master : Nat} {a : Access} {b : Blocked} (blocks : fenceBlocks s g a master = some b) :
    fenceCheck g (some a) master s = (true, violate g a master b s) := by
  simp only [fenceCheck, blocks]

/-- A single run is stopped where its engine's fence blocks it, and the violation is reported. -/
theorem stepFence_single {a : Access} {b : Blocked} (access : o.access = some a) (single : workTwin s w = false)
    (blocks : fenceBlocks s (w.grant.getD s.tick) a w.e1 = some b) :
    stepFence w o s = (true, violate (w.grant.getD s.tick) a w.e1 b s) := by
  simp only [stepFence, access, single, fenceCheck_blocked blocks, Bool.false_eq_true, if_false]

/-- A twin step is stopped where the fence of its first engine blocks it. -/
theorem stepFence_twin {a : Access} {b : Blocked} (access : o.access = some a) (twin : workTwin s w = true)
    (blocks : fenceBlocks s (w.grant.getD s.tick) a w.e1 = some b) : (stepFence w o s).1 = true := by
  simp only [stepFence, access, twin, fenceCheck_blocked blocks, if_true, Bool.true_or]

theorem compareOut_equal (same : o.diff = 0) : compareOut s w o = .equal := if_pos same

theorem compareOut_latent (differ : o.diff ≠ 0) (unread : consumed s w o.diff = false) : compareOut s w o = .latent o.diff := by
  simp only [compareOut, differ, unread, Bool.false_eq_true, if_false]

theorem compareOut_mismatch (differ : o.diff ≠ 0) (read : consumed s w o.diff = true) : compareOut s w o = .mismatch := by
  simp only [compareOut, differ, read, if_false, if_true]

/-- The side-effect requests are always consumed (R129). -/
theorem consumed_sideEffects {d : Nat} (side : bitOf d 32 = true) : consumed s w d = true := by
  simp only [consumed, side, Bool.true_or]

end

/-! ### The end of a step (R130 to R132, R429) -/

section
variable {id : Nat} {w : Work} {o : StepOut} {s : State}

section
variable (held : work s id = some w) (runs : stepping w = true) (closed : fetchOpen s w = false)
include held runs closed

/-- A step that its fences stop ends its request. -/
theorem exec_engineStepEnd_fenced (plain : workTwin s w = true ∨ o.diff = 0) (stopped : (stepFence w o s).1 = true) :
    exec (.engineStepEnd id o) s = .next (settle (finish id { status := St.fenceViolation } (stepFence w o s).2)) := by
  have ends : ¬(workTwin s w = false ∧ o.diff ≠ 0) := by
    rintro ⟨single, differ⟩
    exact plain.elim (by simp [single]) differ
  simp [exec, execEngineStepEnd, held, runs, closed, ends, stopped]

variable (free : o.access = none)
include free

theorem exec_engineStepEnd_equal (same : o.diff = 0) :
    exec (.engineStepEnd id o) s = .next (settle (stepGood id w o none s)) := by
  simp [exec, execEngineStepEnd, held, runs, closed, same, stepFence_noAccess free, compareOut_equal same]

variable (twin : workTwin s w = true) (differ : o.diff ≠ 0)
include twin differ

theorem exec_engineStepEnd_latent (unread : consumed s w o.diff = false) :
    exec (.engineStepEnd id o) s = .next (settle (stepGood id w o (some o.diff) s)) := by
  simp [exec, execEngineStepEnd, held, runs, closed, twin, stepFence_noAccess free, compareOut_latent differ unread]

variable (read : consumed s w o.diff = true) (atFault : o.bad1 = true ∨ o.bad2 = true)
include read atFault

theorem exec_engineStepEnd_mismatch :
    exec (.engineStepEnd id o) s = .next (settle (if w.phase = .retrying then
        twinFail id w (scoreIf (!w.mc1) w.old1 (scoreIf (!w.mc2) w.old2 (scoreEngine w.e1 (scoreEngine w.e2 s))))
      else startRetry id w o.bad1 o.bad2 true s)) := by
  have blamed : ¬(o.bad1 = false ∧ o.bad2 = false) := by
    rintro ⟨one, two⟩
    simp [one, two] at atFault
  simp only [exec, execEngineStepEnd, held, runs, closed, twin, stepFence_noAccess free, compareOut_mismatch differ read, if_neg blamed,
    Bool.not_true, Bool.false_eq_true, Bool.true_eq_false, false_and, or_self, if_false]
  split <;> rfl

end

/-! ### Machine checks and overruns (R133 to R135) -/

/-- A machine check of a first run starts the retry and scores its engine. -/
theorem machineCheck_first {second now : Bool} (first : w.phase ≠ .retrying) :
    machineCheck id w second now s = settle (startRetry id w (!second) second now
      (modWork id (fun w => { w with mc1 := true, mc2 := true }) (scoreEngine (if second then w.e2 else w.e1) s))) := if_neg first

section
variable (held : work s id = some w) (runs : stepping w = true)
include held runs

theorem exec_machineCheck_stepping (second : Bool) : exec (.machineCheck id second) s = .next (machineCheck id w second true s) := by
  simp only [exec, execMachineCheck, held, runs, if_true]

/-- An overrun of both engines of a twin step is the program's fault, of one a machine check with no cycles left. -/
theorem exec_engineCycleOverrun_twin (twin : workTwin s w = true) (both second : Bool) : exec (.engineCycleOverrun id both second) s =
    .next (if both then settle (programFault id w s) else machineCheck id w second false s) := by
  simp only [exec, execEngineCycleOverrun, held, runs, twin, Bool.not_true, Bool.false_eq_true, if_false, if_true]

variable (single : workTwin s w = false) (both second : Bool)
include single

/-- The first overrun of a single run is retried. -/
theorem exec_engineCycleOverrun_first (first : w.phase ≠ .retrying) : exec (.engineCycleOverrun id both second) s =
    .next (settle (startRetry id w false false false (modWork id (fun w => { w with overruns := 1 }) s))) := by
  simp only [exec, execEngineCycleOverrun, held, runs, single, first, Bool.not_true, Bool.false_eq_true, if_false]

/-- An overrun of the retry of an overrun is the program's fault. -/
theorem exec_engineCycleOverrun_again (retry : w.phase = .retrying) (before : 0 < w.overruns) :
    exec (.engineCycleOverrun id both second) s = .next (settle (programFault id w s)) := by
  simp only [exec, execEngineCycleOverrun, held, runs, single, retry, before, Bool.not_true, Bool.false_eq_true, if_false, if_true]

end
end

/-! ### The end of a retest (R137, R139) -/

/-- The state with the retest of an engine over, its verdict not yet written. -/
def retestOver (e : Nat) (s : State) : State :=
  modEng e (fun x => { x with retest := none, refEng := none })
    { s with tk.tasks := s.tk.tasks.filter (fun t => decide (¬ (t.kind = 3 ∧ t.arg = e))) }

section
variable {e t : Nat} {s : State} (begun : (engine s e).retest = some t) (due : t + 2 ≤ s.tick)
include begun due

/-- A failed engine is to be retired; one back on trial stays retired. -/
theorem exec_retestEnd_failed : exec (.retestEnd e false) s = .next (modEng e
    (fun x => { x with estate := if (engine s e).back then 2 else 1, retireDue := !(engine s e).back, back := false }) (retestOver e s)) := by
  simp only [exec, execRetestEnd, begun, Nat.not_lt.mpr due, Bool.false_eq_true, if_false]
  rfl

/-- A passed engine of a cluster that is not retired serves, its latent counts cleared. -/
theorem exec_retestEnd_passed (inUse : (cluster s (e / 16)).state ≠ 5) : exec (.retestEnd e true) s = .next (modEng e
    (fun x => { x with latents := [], estate := 0, back := false, readmit := x.readmit || (engine s e).back,
                       scores := if (engine s e).back then [] else x.scores }) (retestOver e s)) := by
  simp only [exec, execRetestEnd, begun, Nat.not_lt.mpr due, if_false, if_true]
  exact if_neg inUse

end

/-- Settles O29: a step ends as its fences and the comparison of its outputs say; its faults start the one retry or end the request. -/
theorem engineStepsEnd : Obligations.EngineStepsEnd := by
  refine ⟨fun id w o s held runs closed => ⟨fun free same => ?_, fun free differ twin unread => ?_,
      fun free differ twin read atFault => ?_, fun plain stopped => ?_, fun a b access single blocks => ?_,
      fun a b access twin blocks => ?_, fun second first => ?_, fun second _ => ?_, fun second twin => ?_, fun both second single => ?_⟩,
    fun s w d side => consumed_sideEffects side,
    fun e t s begun due => ⟨exec_retestEnd_failed begun due, exec_retestEnd_passed begun due⟩⟩
  · exact exec_engineStepEnd_equal held runs closed free same
  · exact exec_engineStepEnd_latent held runs closed free twin differ unread
  · rw [exec_engineStepEnd_mismatch held runs closed free twin differ read atFault]
    exact ⟨fun first => by rw [if_neg first], fun retry => by rw [if_pos retry]⟩
  · exact exec_engineStepEnd_fenced held runs closed plain stopped
  · exact stepFence_single access single blocks
  · exact stepFence_twin access twin blocks
  · rw [exec_machineCheck_stepping held runs, machineCheck_first first]
  · exact exec_machineCheck_stepping held runs second
  · exact ⟨exec_engineCycleOverrun_twin held runs twin true second, exec_engineCycleOverrun_twin held runs twin false second⟩
  · exact ⟨exec_engineCycleOverrun_first held runs single both second, exec_engineCycleOverrun_again held runs single both second⟩

end Sys2Proof.Machine
end

section
/-!
PROOFS. The commands of clusters, the end of a load, gating and wake.
-/
namespace Sys2Proof.Machine
open Sys2Proof

/-! ### A cluster command taken up is its meaning on the frame's payload (R414) -/

section
variable {h : Held} {s : State}

theorem exec_clDrain_taken (taken : CmdTaken 0x0501 h s) : exec .clDrain s = .next (clDrainCmd h h.frame.payload s) :=
  withCmd_of_taken taken

theorem exec_clLoad_taken (taken : CmdTaken 0x0502 h s) : exec .clLoad s = .next (clLoadCmd h h.frame.payload s) :=
  withCmd_of_taken taken

theorem exec_clReturn_taken (taken : CmdTaken 0x0503 h s) : exec .clReturn s = .next (clReturnCmd h h.frame.payload s) :=
  withCmd_of_taken taken

theorem exec_clGating_taken (taken : CmdTaken 0x0504 h s) : exec .clGating s = .next (clGatingCmd h h.frame.payload s) :=
  withCmd_of_taken taken

end

/-! ### Drain, load, return (R63, R146, R147) -/

section
variable {h : Held} {p : List Byte} {s : State}

/-- A cluster in service that no drain and no retest holds, and that the pool can spare, is armed to drain. -/
theorem clDrainCmd_armed (serves : (cluster s (be p 0 1)).state = 0) (staying : (cluster s (be p 0 1)).drainAt = none)
    (idle : retestIn s (be p 0 1) = false) (spare : 2 * s.tk.cfg.tTop ≤ poolOf (enginesAfter s (be p 0 1))) :
    clDrainCmd h p s = respondAt (switchAt (be p 8 8) s) []
      (modCluster (be p 0 1) (fun x => { x with drainAt := some (switchAt (be p 8 8) s) }) s) := by
  have free : ¬((cluster s (be p 0 1)).state ≠ 0 ∨ (cluster s (be p 0 1)).drainAt.isSome = true ∨ retestIn s (be p 0 1) = true) := by
    simp [serves, staying, idle]
  exact (if_neg free).trans (if_neg (Nat.not_lt.mpr spare))

theorem clDrainCmd_refused (away : (cluster s (be p 0 1)).state ≠ 0) : clDrainCmd h p s = respond St.busy 0 0 [] s :=
  if_pos (.inl away)

theorem clLoadCmd_begun (drained : (cluster s (be p 0 1)).state = 1) :
    clLoadCmd h p s = respond St.ok 0 s.tick [] (modCluster (be p 0 1)
      (fun x => { x with loadOk := false, loadTick := s.tick, returnAt := none }) (setClusterState (be p 0 1) 2 s)) :=
  if_neg (not_not_intro drained)

theorem clLoadCmd_refused (other : (cluster s (be p 0 1)).state ≠ 1) : clLoadCmd h p s = respond St.stateForbids 0 0 [] s :=
  if_pos other

/-- A drained cluster whose load is good, and whose return is not yet scheduled, is armed to return. -/
theorem clReturnCmd_armed (drained : (cluster s (be p 0 1)).state = 1) (unscheduled : (cluster s (be p 0 1)).returnAt = none)
    (loaded : (cluster s (be p 0 1)).loadOk = true) :
    clReturnCmd h p s = respondAt (switchAt (be p 8 8) s) []
      (modCluster (be p 0 1) (fun x => { x with returnAt := some (switchAt (be p 8 8) s) }) s) := by
  simp [clReturnCmd, drained, unscheduled, loaded]

end

/-! ### The end of a load (R147) -/

section
variable {c : Nat} {s : State}

theorem exec_clLoadDone_loading (loading : (cluster s c).state = 2) (ok : Bool) : exec (.clLoadDone c ok) s =
    .next (if ok then modCluster c (fun x => { x with loadOk := true, custVer := loadedSet s, vendVer := vendorVersion s })
        (setClusterState c 1 s)
      else note 0x0F04 1 c 0 0 (setClusterState c 1 s)) := by
  cases ok <;> exact if_neg (not_not_intro loading)

/-! ### Gating and wake (R149, R150) -/

/-- A gated cluster that is asked for, or after 16 high ticks, wakes. -/
theorem exec_gatingDecision_wakes (gating : s.en.gating = true) (inRange : c < 64) (gated : (cluster s c).state = 3)
    (wanted : s.en.wakeAsk = true ∨ 16 ≤ s.en.highTicks.length) :
    exec (.gatingDecision c) s = .next (setClusterState c 4 { s with en.wakeAsk := false, en.highTicks := [] }) := by
  simp only [exec, execGatingDecision, gating, gated, wanted, Nat.not_le.mpr inRange, Bool.not_true, Bool.false_eq_true, or_self,
    if_false, if_true]

theorem exec_clusterWakeEnd_due (waking : (cluster s c).state = 4) (due : (cluster s c).stTick + 16 ≤ s.tick) :
    exec (.clusterWakeEnd c) s = .next (traceResume c (setClusterState c 0 s)) := if_pos ⟨waking, due⟩

end

/-- Settles O30: each command taken up is its meaning on the frame's payload, armed, begun or refused by the cluster's state; the
events act in the state they belong to. -/
theorem clustersAreDrainedLoadedAndGated : Obligations.ClustersAreDrainedLoadedAndGated := by
  refine ⟨fun h s taken serves staying idle spare => ?_, fun h s taken away => ?_, fun h s taken drained => ?_,
    fun h s taken other => ?_, fun h s taken drained unscheduled loaded => ?_, fun h s taken => exec_clGating_taken taken,
    fun c s loading => ⟨exec_clLoadDone_loading loading true, exec_clLoadDone_loading loading false⟩,
    fun c s gating inRange gated wanted => exec_gatingDecision_wakes gating inRange gated wanted,
    fun c s waking due => exec_clusterWakeEnd_due waking due⟩
  · rw [exec_clDrain_taken taken, clDrainCmd_armed serves staying idle spare]
  · rw [exec_clDrain_taken taken, clDrainCmd_refused away]
  · rw [exec_clLoad_taken taken, clLoadCmd_begun drained]
  · rw [exec_clLoad_taken taken, clLoadCmd_refused other]
  · rw [exec_clReturn_taken taken, clReturnCmd_armed drained unscheduled loaded]

end Sys2Proof.Machine
end

section
/-!
PROOFS. The life-cycle, firmware and program commands, and the decisions taken twice.
-/
namespace Sys2Proof.Machine
open Sys2Proof

/-! ### A command taken up is its meaning on the frame's payload (R414) -/

section
variable {h : Held} {s : State}

theorem exec_stateChange_taken (taken : CmdTaken 0x0201 h s) : exec .stateChange s = .next (stateChangeCmd h h.frame.payload s) :=
  withCmd_of_taken taken

theorem exec_unlock_taken (taken : CmdTaken 0x0202 h s) : exec .unlock s = .next (unlockCmd h h.frame.payload s) :=
  withCmd_of_taken taken

theorem exec_fwLoad_taken (taken : CmdTaken 0x0203 h s) : exec .fwLoad s = .next (fwLoadCmd h h.frame.payload s) :=
  withCmd_of_taken taken

theorem exec_fwActivate_taken (taken : CmdTaken 0x0204 h s) : exec .fwActivate s = .next (fwActivateCmd h h.frame.payload s) :=
  withCmd_of_taken taken

theorem exec_progKeySet_taken (taken : CmdTaken 0x0205 h s) : exec .progKeySet s = .next (progKeySetCmd h h.frame.payload s) :=
  withCmd_of_taken taken

theorem exec_progLoad_taken (taken : CmdTaken 0x0206 h s) : exec .progLoad s = .next (progLoadCmd h h.frame.payload s) :=
  withCmd_of_taken taken

theorem exec_progWithdraw_taken (taken : CmdTaken 0x0207 h s) : exec .progWithdraw s = .next (progWithdrawCmd h h.frame.payload s) :=
  withCmd_of_taken taken

end

/-! ### The first decision (R440) -/

/-- The first decision is taken while the generator that times the second is below its limit. -/
theorem decideTwice_begins {k : DecKind} {first : Bool} {s : State} (room : (drbg s 64).limit = false) :
    decideTwice k first s = setStage .decision (beginDecision k first s) := if_neg (by simp [room])

/-- At its limit the command is BUSY (R369). -/
theorem decideTwice_busy {k : DecKind} {first : Bool} {s : State} (limit : (drbg s 64).limit = true) :
    decideTwice k first s = respond St.busy 0 0 [] s := if_pos limit

/-! ### STATE_CHANGE and UNLOCK (R434, R466) -/

section
variable {h : Held} {p : List Byte} {s : State} {t : Lc}

section
variable (quiet : (lcRec s).intent = false) (undecided : s.lc.decision = none)
include quiet undecided

/-- With no change and no decision under way, neither command is BUSY on their account. -/
theorem not_changing : ¬((lcRec s).intent = true ∨ s.lc.decision.isSome = true) := by
  simp [quiet, undecided]

theorem stateChangeCmd_decided (target : Lc.ofCode (be p 0 1) = some t) (asked : listed (lcState s) t = true)
    (may : mayChange s t = true) : stateChangeCmd h p s = decideTwice (.transition t) true s := by
  simp only [stateChangeCmd, if_neg (not_changing quiet undecided), target, asked, may, Bool.and_self, if_true]

theorem stateChangeCmd_unlisted (target : Lc.ofCode (be p 0 1) = some t) (unlisted : listed (lcState s) t = false) :
    stateChangeCmd h p s = respond St.stateForbids 0 0 [] s := by
  simp only [stateChangeCmd, if_neg (not_changing quiet undecided), target, unlisted, Bool.false_and, Bool.false_eq_true, if_false, refuse_eq]

theorem unlockCmd_decided (locked : lcState s = .locked) (origin : (lcRec s).origin = some t) (calm : activeL s = false) :
    unlockCmd h p s = decideTwice (.transition t) true s := by
  simp only [unlockCmd, locked, origin, if_neg (not_changing quiet undecided), calm, Bool.false_eq_true, if_false]

end

/-- At the limit of that generator a STATE_CHANGE that might run is BUSY, whatever else is under way. -/
theorem stateChangeCmd_busy (target : Lc.ofCode (be p 0 1) = some t) (asked : listed (lcState s) t = true)
    (may : mayChange s t = true) (limit : (drbg s 64).limit = true) : stateChangeCmd h p s = respond St.busy 0 0 [] s := by
  simp only [stateChangeCmd, target, asked, may, Bool.and_self, decideTwice_busy limit, refuse_eq, if_true, ite_self]

theorem unlockCmd_noOrigin (locked : lcState s = .locked) (origin : (lcRec s).origin = none) :
    unlockCmd h p s = respond St.stateForbids 0 0 [] s := by
  simp only [unlockCmd, locked, origin, refuse_eq]

/-! ### Firmware (R446, R449) -/

/-- A load of the inactive slot outside a trial begins its long command and the decision on its image. -/
theorem fwLoadCmd_begun (inactive : be p 0 1 ≠ (lcRec s).activeSlot) (settled : (lcRec s).trial = false)
    (quiet : (lcRec s).intent = false) (undecided : s.lc.decision = none) (few : longsRunning s < 4) (room : (drbg s 64).limit = false) :
    fwLoadCmd h p s =
      (let q := beginLong h.frame.code p s
       let t := setFwSlot (be p 0 1) { image := p.drop 8 } q.2
       let u := beginDecision (.fwAccept q.1 (be p 0 1)) (slotPasses t (be p 0 1)) t
       respond St.ok 0 u.tick (beBytes 8 q.1) u) := by
  refine if_neg ?_
  simp [inactive, settled, quiet, undecided, few, room]

theorem fwLoadCmd_busy (limit : (drbg s 64).limit = true) : fwLoadCmd h p s = respond St.busy 0 0 [] s :=
  if_pos (by simp [limit])

theorem fwActivateCmd_invalid (bad : (fwSlot s (be p 0 1)).valid = false) : fwActivateCmd h p s = respond St.fwRejected 2 0 [] s :=
  if_pos (by simp [bad])

section
variable (valid : (fwSlot s (be p 0 1)).valid = true)
include valid

/-- The active slot named commits its trial, or leaves everything as it is. -/
theorem fwActivateCmd_active (active : be p 0 1 = (lcRec s).activeSlot) :
    fwActivateCmd h p s = respond St.ok 0 s.tick [] (if (lcRec s).trial then commitTrial s else s) := by
  simp only [fwActivateCmd, valid, Bool.not_true, Bool.false_eq_true, if_false]
  exact if_pos active

theorem fwActivateCmd_decided (inactive : be p 0 1 ≠ (lcRec s).activeSlot) (undecided : s.lc.decision = none)
    (quiet : (lcRec s).intent = false) (standby : hasStandby s = true) :
    fwActivateCmd h p s = decideTwice (.fwActivate (be p 0 1)) (slotPasses s (be p 0 1)) s := by
  simp [fwActivateCmd, valid, inactive, undecided, quiet, standby]

end

/-! ### Customer programs (R123, R126, R413) -/

/-- A load of a first or second version begins its long command and the decision on its package. -/
theorem progLoadCmd_begun (undecided : s.lc.decision = none)
    (versions : (s.en.progs.filter (fun q => decide (q.func = be p 2 2))).length < 2) (few : longsRunning s < 4)
    (room : (drbg s 64).limit = false) :
    progLoadCmd h p s =
      (let q := beginLong h.frame.code p s
       let u := beginDecision (.progAccept q.1) (progBad q.2 p).isNone q.2
       respond St.ok 0 u.tick (beBytes 8 q.1) u) := by
  refine if_neg ?_
  simp [undecided, versions, few, room]

theorem progLoadCmd_busy (limit : (drbg s 64).limit = true) : progLoadCmd h p s = respond St.busy 0 0 [] s :=
  if_pos (by simp [limit])

theorem progKeySetCmd_eq : progKeySetCmd h p s =
    (let key := octets p 8 (keyLen (be p 2 1))
     if pubKeyValid (if be p 2 1 = 1 then 17 else 24) key = false then respond St.publicKeyInvalid 0 0 [] s
     else respond St.ok 0 s.tick [] { s with prov.progKeys := tblPut s.prov.progKeys (be p 0 2) ⟨be p 2 1, key⟩ }) := by
  simp only [progKeySetCmd, Bool.not_eq_true', refuse_eq]

/-- A customer function in force leaves the next set. -/
theorem progWithdrawCmd_withdrawn (customer : isCustomer (be p 0 2) = true) (installed : progNow s (be p 0 2) ≠ none) :
    progWithdrawCmd h p s =
      (let v := s.en.setVer + 1
       let progs := s.en.progs.map (fun q => if q.func = be p 0 2 ∧ q.gone.isNone = true then { q with gone := some v } else q)
       respond St.ok 0 s.tick [] { s with en.progs := progs, en.setVer := v, en.rollout := true }) := by
  refine if_neg ?_
  simp [customer, installed]

theorem progWithdrawCmd_refused (bad : isCustomer (be p 0 2) = false ∨ progNow s (be p 0 2) = none) :
    progWithdrawCmd h p s = respond St.grateRange 64 0 [] s :=
  if_pos (by simpa using bad)

end

/-! ### The second decision (R440, R464) -/

/-- A decision that is due is closed: two results that disagree split it, two that agree make the change or turn it down. -/
theorem exec_decisionSecond_due {d : Decision} {s : State} (opened : s.lc.decision = some d) (due : d.due ≤ s.tick)
    (controlled : noController s = false ∨ s.lc.startFail ≠ none) (fault : Bool) : exec (.decisionSecond fault) s =
    .next (if (evalDecision s d.kind != fault) ≠ d.first then splitDecision d.kind { s with lc.decision := none }
      else if evalDecision s d.kind != fault then armDecision d.kind { s with lc.decision := none }
      else turnDown d.kind { s with lc.decision := none }) := by
  have acts : ¬(s.tick < d.due ∨ (noController s = true ∧ s.lc.startFail.isNone = true)) := by
    rintro (early | ⟨stopped, started⟩)
    · omega
    · exact controlled.elim (by simp [stopped]) (absurd (Option.isNone_iff_eq_none.mp started))
  simp only [exec, execDecisionSecond, opened, if_neg acts]

/-! ### The standby load and the trial (R449) -/

/-- With a standby loaded the switch-over of cause 7 is planned. -/
theorem exec_fwStandbyLoaded_plans {a : Activation} {s : State} (running : s.lc.activation = some a) (waiting : a.loaded = false)
    (standby : hasStandby s = true) (active : s.hc.active ≠ none) :
    exec .fwStandbyLoaded s = .next { s with lc.activation := some { a with loaded := true }, hc.planned := some (7, s.tick) } := by
  simp [exec, execFwStandbyLoaded, running, waiting, standby, active]

theorem exec_fwTrialCommit_due {s : State} (trial : (lcRec s).trial = true) (kept : s.lc.rollback = false)
    (due : s.lc.trialStart + 2 ^ 28 ≤ s.tick) : exec .fwTrialCommit s = .next (commitTrial s) :=
  whenOk_true (by simpa [trial, kept] using due)

/-- Settles O47: each command taken up begins its decision, is refused or is BUSY; the second decision closes it. -/
theorem lifeCycleChangesTakeTwoDecisions : Obligations.LifeCycleChangesTakeTwoDecisions := by
  refine ⟨fun h t s taken target quiet undecided room => ⟨fun asked may => ?_, fun unlisted => ?_⟩,
    fun h s taken => ⟨fun t locked origin quiet undecided calm room => ?_, fun locked origin => ?_⟩,
    fun h s taken inactive settled quiet undecided few room => ?_,
    fun h s taken valid => ⟨fun active => ?_, fun inactive undecided quiet standby room => ?_⟩,
    fun h s taken bad => ?_, fun h s taken => ?_, fun h s taken undecided versions few room => ?_,
    fun h s taken => ⟨fun customer installed => ?_, fun bad => ?_⟩,
    fun h s limit => ⟨fun taken => ?_, fun taken => ?_, fun t taken target asked may => ?_⟩,
    fun d s opened due controlled => ?_,
    fun a s running waiting standby active => exec_fwStandbyLoaded_plans running waiting standby active,
    fun s trial kept due => exec_fwTrialCommit_due trial kept due⟩
  · rw [exec_stateChange_taken taken, stateChangeCmd_decided quiet undecided target asked may, decideTwice_begins room]
  · rw [exec_stateChange_taken taken, stateChangeCmd_unlisted quiet undecided target unlisted]
  · rw [exec_unlock_taken taken, unlockCmd_decided quiet undecided locked origin calm, decideTwice_begins room]
  · rw [exec_unlock_taken taken, unlockCmd_noOrigin locked origin]
  · rw [exec_fwLoad_taken taken, fwLoadCmd_begun inactive settled quiet undecided few room]
  · rw [exec_fwActivate_taken taken, fwActivateCmd_active valid active]
  · rw [exec_fwActivate_taken taken, fwActivateCmd_decided valid inactive undecided quiet standby, decideTwice_begins room]
  · rw [exec_fwActivate_taken taken, fwActivateCmd_invalid bad]
  · rw [exec_progKeySet_taken taken, progKeySetCmd_eq]
  · rw [exec_progLoad_taken taken, progLoadCmd_begun undecided versions few room]
  · rw [exec_progWithdraw_taken taken, progWithdrawCmd_withdrawn customer installed]
  · rw [exec_progWithdraw_taken taken, progWithdrawCmd_refused bad]
  · rw [exec_fwLoad_taken taken, fwLoadCmd_busy limit]
  · rw [exec_progLoad_taken taken, progLoadCmd_busy limit]
  · rw [exec_stateChange_taken taken, stateChangeCmd_busy target asked may limit]
  · simp only [exec_decisionSecond_due opened due controlled]
    refine ⟨fun differ => ?_, fun agree => ?_, fun yes first => ?_, fun no first => ?_⟩
    · simp [differ]
    · simp [agree]
    · simp [yes, first]
    · simp [no, first]

end Sys2Proof.Machine
end

section
/-!
PROOFS. The PIN limiter: its commands, windows, lockouts and their second decision.
-/
namespace Sys2Proof.Machine
open Sys2Proof

/-! ### The limiter's commands (R178, R179) -/

section
variable {h : Held} {s : State}

theorem exec_pinPolicySet_taken (taken : CmdTaken 0x0701 h s) : exec .pinPolicySet s = .next (pinPolicySetCmd h h.frame.payload s) :=
  withCmd_of_taken taken

theorem exec_limitQuery_taken (taken : CmdTaken 0x0702 h s) : exec .limitQuery s = .next (limitQueryCmd h h.frame.payload s) :=
  withCmd_of_taken taken

theorem exec_limitClear_taken (taken : CmdTaken 0x0703 h s) : exec .limitClear s = .next (limitClearCmd h h.frame.payload s) :=
  withCmd_of_taken taken

end

/-- The indexes of records and of the two guards may be named, up to the card guard. -/
theorem limIndexOk_iff {i : Nat} : limIndexOk i = true ↔ i ≤ 0x08000001 := decide_eq_true_iff

theorem limIndexOk_eq_false_iff {i : Nat} : limIndexOk i = false ↔ 0x08000001 < i := by
  rw [← Bool.not_eq_true, limIndexOk_iff, Nat.not_le]

section
variable {h : Held} {p : List Byte} {s : State}

theorem limitQueryCmd_answered (known : be p 0 4 ≤ 0x08000001) :
    limitQueryCmd h p s = respond St.ok 0 s.tick (limStatus s (be p 0 4)) s := by
  simp [limitQueryCmd, limIndexOk_iff.mpr known]

theorem limitQueryCmd_refused (beyond : 0x08000001 < be p 0 4) : limitQueryCmd h p s = respond St.grateRange 64 0 [] s := by
  simp [limitQueryCmd, limIndexOk_eq_false_iff.mpr beyond]

theorem limitClearCmd_refused (beyond : 0x08000001 < be p 0 4) : limitClearCmd h p s = respond St.grateRange 64 0 [] s := by
  simp [limitClearCmd, limIndexOk_eq_false_iff.mpr beyond]

/-- An index that is not locked is only reported. -/
theorem limitClearCmd_unlocked (known : be p 0 4 ≤ 0x08000001) (unlocked : lockOf s (be p 0 4) = none) :
    limitClearCmd h p s = respond St.ok 0 s.tick (limStatus s (be p 0 4)) s := by
  simp [limitClearCmd, limIndexOk_iff.mpr known, unlocked]

/-- A lock is cleared at the next tick, its second decision put aside, and the response shows the index without it. -/
theorem limitClearCmd_armed {l : LimLock} (known : be p 0 4 ≤ 0x08000001) (locked : lockOf s (be p 0 4) = some l) :
    limitClearCmd h p s =
      respondAt (s.tick + 1) (limStatus { s with lim.locks := tblDel s.lim.locks (be p 0 4) } (be p 0 4))
        { s with lim.clears := s.lim.clears ++ [be p 0 4], lim.locks := tblPut s.lim.locks (be p 0 4) { l with due := none } } := by
  simp [limitClearCmd, limIndexOk_iff.mpr known, locked]

end

/-! ### A window begins (R172, R173, R176, R178) -/

section
variable {s : State} (new : s.lim.window ≠ s.tick / 2 ^ 19)
include new

/-- In a window not yet taken the boundary keeps only the counts of confirmed lockouts and puts the new ceilings in force. -/
theorem windowBoundary_new : windowBoundary s = { s with
    lim.window := s.tick / 2 ^ 19
    lim.counts := s.lim.counts.filter (fun p => (lockOf s p.1).any (·.confirmed))
    lim.pinV := 0, lim.pinF := 0, lim.cardV := 0, lim.cardF := 0, lim.fullNoted := false
    lim.starting := s.lim.starting && !s.lim.running
    lim.ceilings := s.lim.nextCeilings.getD s.lim.ceilings, lim.nextCeilings := none } := if_neg new

theorem exec_limiterWindowBoundary_new : exec .limiterWindowBoundary s = .next (windowBoundary s) :=
  whenOk_true (by rw [windowOf, decide_eq_true new, Bool.true_or])

end

/-! ### The end of a lockout and its second decision (R174, R175) -/

section
variable {i : Nat} {l : LimLock} {s : State} (locked : tblGet s.lim.locks i = some l)
include locked

theorem exec_limiterLockoutEnd_run (ended : l.until_ ≤ s.tick) : exec (.limiterLockoutEnd i) s = .next (endLock i s) := by
  simp only [exec, execLimiterLockoutEnd, locked, whenOk_true (decide_eq_true ended)]

section
variable {d : Nat} (armed : l.due = some d) (due : d ≤ s.tick)
include armed due

/-- A second decision that disagrees is an event of class L; the lock stays unconfirmed. -/
theorem exec_limiterSecondDecision_disagrees : exec (.limiterSecondDecision i true) s =
    .next (lockClass 0x20 St.refusedLimit { s with lim.locks := tblPut s.lim.locks i { l with confirmed := false, due := none } }) := by
  simp only [exec, execLimiterSecondDecision, locked, armed, Nat.not_lt.mpr due, Bool.not_true, if_true, if_false]

/-- The lockout of an index is confirmed, noticed and told to the group. -/
theorem exec_limiterSecondDecision_confirmsIndex (index : i < 2 ^ 27) : exec (.limiterSecondDecision i false) s =
    .next (sendLockout i l.until_ (note 0x1201 1 0xFFFF i l.until_
      { s with lim.locks := tblPut s.lim.locks i { l with confirmed := true, due := none } })) := by
  simp only [exec, execLimiterSecondDecision, locked, armed, Nat.not_lt.mpr due, index, Bool.not_false, Bool.false_eq_true, if_true,
    if_false]

/-- The lockout of a guard is confirmed, recorded with the guard's counts, and noticed. -/
theorem exec_limiterSecondDecision_confirmsGuard (guard : 2 ^ 27 ≤ i) : exec (.limiterSecondDecision i false) s =
    (let t := { s with lim.locks := tblPut s.lim.locks i { l with confirmed := true, due := none } }
     let f := if i = pinGuard then s.lim.pinF else s.lim.cardF
     let v := if i = pinGuard then s.lim.pinV else s.lim.cardV
     .next (note 0x1202 1 0xFFFF i l.until_ (evidAppend (evidNow 6 0 0x20 f v i t) t))) := by
  simp only [exec, execLimiterSecondDecision, locked, armed, Nat.not_lt.mpr due, Nat.not_lt.mpr guard, Bool.not_false,
    Bool.false_eq_true, if_false]

end

end

/-- Settles O31: each command taken up is its meaning on the frame's payload, decided by the index and its lock; a boundary, the end
of a lockout and its second decision act when they are due. -/
theorem pinLimitsCountLockAndClear : Obligations.PinLimitsCountLockAndClear := by
  refine ⟨fun h s taken => exec_pinPolicySet_taken taken,
    fun h s taken => ⟨fun known => ?_, fun beyond => ?_⟩,
    fun h s taken => ⟨fun beyond => ?_, fun known unlocked => ?_, fun l known locked => ?_⟩,
    fun s new => ?_,
    fun i l s locked => ⟨fun ended => exec_limiterLockoutEnd_run locked ended, fun d armed due =>
      ⟨exec_limiterSecondDecision_disagrees locked armed due,
       fun index => exec_limiterSecondDecision_confirmsIndex locked armed due index, fun guard => ?_⟩⟩⟩
  · rw [exec_limitQuery_taken taken, limitQueryCmd_answered known]
  · rw [exec_limitQuery_taken taken, limitQueryCmd_refused beyond]
  · rw [exec_limitClear_taken taken, limitClearCmd_refused beyond]
  · rw [exec_limitClear_taken taken, limitClearCmd_unlocked known unlocked]
  · rw [exec_limitClear_taken taken, limitClearCmd_armed known locked]
  · rw [exec_limiterWindowBoundary_new new, windowBoundary_new new]
  · rw [exec_limiterSecondDecision_confirmsGuard locked armed due (Nat.le_of_eq guard.symm)]
    simp only [guard, if_true]

end Sys2Proof.Machine
end

section
/-!
PROOFS. The long commands of the key store and its emptying.
-/
namespace Sys2Proof.Machine
open Sys2Proof

/-! ### A store command taken up is its meaning on the frame's payload (R414) -/

section
variable {h : Held} {s : State}

theorem exec_snapshot_taken (taken : CmdTaken 0x0604 h s) : exec .snapshot s = .next (snapshotCmd h h.frame.payload s) :=
  withCmd_of_taken taken

theorem exec_reload_taken (taken : CmdTaken 0x0605 h s) : exec .reload s = .next (reloadCmd h h.frame.payload s) :=
  withCmd_of_taken taken

theorem exec_storeEmpty_taken (taken : CmdTaken 0x0606 h s) : exec .storeEmpty s = .next (storeEmptyCmd h h.frame.payload s) :=
  withCmd_of_taken taken

end

/-! ### SNAPSHOT (R240) -/

section
variable {h : Held} {p : List Byte} {s : State}

theorem snapshotCmd_busy (busy : s.ks.state ≠ 2 ∨ migrating s = true ∨ s.ks.snap ≠ none ∨ 4 ≤ longsRunning s) :
    snapshotCmd h p s = respond St.busy 0 0 [] s :=
  if_pos (by rwa [Option.isSome_iff_ne_none])

section
variable (ready : s.ks.state = 2) (settled : migrating s = false) (alone : s.ks.snap = none) (few : longsRunning s < 4)
include ready settled alone few

/-- A ready store without a migration or a snapshot, and with room for a long command, does not answer BUSY. -/
theorem not_snapshotBusy : ¬(s.ks.state ≠ 2 ∨ migrating s = true ∨ s.ks.snap.isSome = true ∨ 4 ≤ longsRunning s) := by
  simp [ready, settled, alone, few]

theorem snapshotCmd_tooSmall (small : ((parseBufs (be p 0 4) (p.drop 8)).map (·.2)).sum < imageSize (segments s.ks.recs).length) :
    snapshotCmd h p s = respond St.grateRange 64 0 [] s :=
  (if_neg (not_snapshotBusy ready settled alone few)).trans (if_pos small)

theorem snapshotCmd_begun (fits : imageSize (segments s.ks.recs).length ≤ ((parseBufs (be p 0 4) (p.drop 8)).map (·.2)).sum) :
    snapshotCmd h p s = respond St.ok 0 s.tick (beBytes 8 (beginLong h.frame.code p s).1)
      { (beginLong h.frame.code p s).2 with
        ks.snap := some { opId := (beginLong h.frame.code p s).1, seq := s.ks.snapSeq + 1, bufs := parseBufs (be p 0 4) (p.drop 8) } } :=
  (if_neg (not_snapshotBusy ready settled alone few)).trans (if_neg (Nat.not_lt.mpr fits))

end

/-! ### RELOAD (R241) -/

theorem reloadCmd_erased (erased : s.ks.state = 4) : reloadCmd h p s = respond St.stateForbids 0 0 [] s := if_pos erased

section
variable (kept : s.ks.state ≠ 4)
include kept

theorem reloadCmd_busy (busy : s.ks.loadOp ≠ none ∨ s.ks.snap ≠ none ∨ 4 ≤ longsRunning s) :
    reloadCmd h p s = respond St.busy 0 0 [] s :=
  (if_neg kept).trans (if_pos (by rwa [Option.isSome_iff_ne_none, Option.isSome_iff_ne_none]))

/-- A reload of a store that is not erased begins: it remembers the state before it, and the store is LOADING. -/
theorem reloadCmd_begun (unloaded : s.ks.loadOp = none) (alone : s.ks.snap = none) (few : longsRunning s < 4) :
    reloadCmd h p s = respond St.ok 0 s.tick (beBytes 8 (beginLong h.frame.code p s).1)
      (refreshRegime { (beginLong h.frame.code p s).2 with
        ks.loadOp := some ((beginLong h.frame.code p s).1, s.ks.state), ks.loadSince := s.tick, ks.state := 1 }) := by
  have free : ¬(s.ks.loadOp.isSome = true ∨ s.ks.snap.isSome = true ∨ 4 ≤ longsRunning s) := by
    simp [unloaded, alone, few]
  exact (if_neg kept).trans (if_neg free)

end

/-- While a reload runs, in service and without a gap, the read regime is live with cause 2 (R485). -/
theorem refreshRegime_reloading (ready : s.lc.ready = true) (whole : s.hc.gap = false) (loading : s.ks.loadOp ≠ none) :
    refreshRegime s = setLive 2 s := by
  have reload : regime s = 2 := by simp [regime, ready, whole, Option.isSome_iff_ne_none.mpr loading]
  simp [refreshRegime, reload]

/-! ### STORE_EMPTY (R243) -/

theorem storeEmptyCmd_erased (erased : s.ks.state = 4) : storeEmptyCmd h p s = respond St.stateForbids 0 0 [] s := if_pos erased

theorem storeEmptyCmd_emptied (kept : s.ks.state ≠ 4) : storeEmptyCmd h p s = respond St.ok 0 s.tick [] (emptyStore s) := if_neg kept

end

/-- The read regime is the record unit's alone. -/
theorem refreshRegime_keepsStore (s : State) :
    (refreshRegime s).ks = s.ks ∧ (refreshRegime s).lc = s.lc ∧ (refreshRegime s).prov = s.prov := by
  simp [refreshRegime, apply_ite State.ks, apply_ite State.lc, apply_ite State.prov]

/-- A root slot leaves the records, the copies and changes of them, the generation and the hold-down alone, and the other units. -/
theorem writeSlot_keepsRecords (n : Nat) (chain : List Byte) (s : State) :
    (writeSlot n chain s).ks.recs = s.ks.recs ∧ (writeSlot n chain s).ks.cache = s.ks.cache ∧
    (writeSlot n chain s).ks.changes = s.ks.changes ∧ (writeSlot n chain s).ks.storeGen = s.ks.storeGen ∧
    (writeSlot n chain s).ks.held = s.ks.held ∧ (writeSlot n chain s).lc = s.lc ∧ (writeSlot n chain s).prov = s.prov :=
  ⟨rfl, rfl, rfl, rfl, rfl, rfl, rfl⟩

/-- Emptying leaves no record, copy or change, counts the generation up, and keeps the hold-down, the life cycle, the provisioning
block and the tick. -/
theorem emptyStore_empties (s : State) : (emptyStore s).ks.recs = [] ∧ (emptyStore s).ks.cache = [] ∧ (emptyStore s).ks.changes = [] ∧
    (emptyStore s).ks.storeGen = (s.ks.storeGen + 1) % 2 ^ 32 ∧ (emptyStore s).ks.held = s.ks.held ∧
    (emptyStore s).lc = s.lc ∧ (emptyStore s).prov = s.prov ∧ (emptyStore s).tick = s.tick := by
  simp only [emptyStore, writeSlot_keepsRecords, writeSlot_clock, refreshRegime_keepsStore, refreshRegime_clock, and_self]

/-- Settles O33: each command taken up is its meaning on the frame's payload, begun or refused by the state of the store; the running
reload makes the read regime live. -/
theorem theStoreIsSavedReloadedAndEmptied : Obligations.TheStoreIsSavedReloadedAndEmptied := by
  refine ⟨fun h s taken => ⟨fun ready settled alone few => ⟨fun fits => ?_, fun small => ?_⟩, fun busy => ?_⟩,
    fun h s taken => ⟨fun kept unloaded alone few => ?_, refreshRegime_reloading⟩,
    fun h s taken => ⟨fun erased => ?_, fun kept busy => ?_⟩,
    fun h s taken => ⟨fun kept => ?_, fun erased => ?_⟩, emptyStore_empties⟩
  · rw [exec_snapshot_taken taken, snapshotCmd_begun ready settled alone few fits]
  · rw [exec_snapshot_taken taken, snapshotCmd_tooSmall ready settled alone few small]
  · rw [exec_snapshot_taken taken, snapshotCmd_busy busy]
  · rw [exec_reload_taken taken, reloadCmd_begun kept unloaded alone few]
  · rw [exec_reload_taken taken, reloadCmd_erased erased]
  · rw [exec_reload_taken taken, reloadCmd_busy kept busy]
  · rw [exec_storeEmpty_taken taken, storeEmptyCmd_emptied kept]
  · rw [exec_storeEmpty_taken taken, storeEmptyCmd_erased erased]

end Sys2Proof.Machine
end

section
/-!
PROOFS. Component ceremonies: opening, components, commit, abort and expiry.
-/
namespace Sys2Proof.Machine
open Sys2Proof

/-! ### A ceremony command taken up is its meaning on the frame's payload (R414) -/

section
variable {h : Held} {s : State}

theorem exec_cerOpen_taken (taken : CmdTaken 0x0607 h s) : exec .cerOpen s = .next (cerOpenCmd h h.frame.payload s) :=
  withCmd_of_taken taken

theorem exec_cerComponent_taken (taken : CmdTaken 0x0608 h s) : exec .cerComponent s = .next (cerComponentCmd h h.frame.payload s) :=
  withCmd_of_taken taken

theorem exec_cerCommit_taken (taken : CmdTaken 0x0609 h s) : exec .cerCommit s = .next (cerCommitCmd h h.frame.payload s) :=
  withCmd_of_taken taken

theorem exec_cerAbort_taken (taken : CmdTaken 0x060A h s) : exec .cerAbort s = .next (cerAbortCmd h h.frame.payload s) :=
  withCmd_of_taken taken

end

/-! ### What the components given decide (R234) -/

/-- A number from 1 to the components needed, and not yet given, is in order. -/
theorem componentNumber_ok {n : Nat} {c : Ceremony} (least : 1 ≤ n) (most : n ≤ c.needed) (unused : ∀ q ∈ c.parts, q.1 ≠ n) :
    ¬(n = 0 ∨ c.needed < n ∨ c.parts.any (fun q => decide (q.1 = n)) = true) := by
  rintro (zero | above | given)
  · omega
  · omega
  · obtain ⟨q, member, same⟩ := List.any_eq_true.mp given
    exact unused q member (of_decide_eq_true same)

theorem custodians_unused {h : Held} {c : Ceremony} {s : State} (fresh : ∀ k ∈ custodians s h, k ∉ c.used) :
    (custodians s h).any (fun k => decide (k ∈ c.used)) = false := by simpa using fresh

/-- With a journal ring and every component given, a commit does not answer BUSY. -/
theorem not_commitBusy {c : Ceremony} {s : State} (ring : s.ks.ring.isSome = true) (whole : c.needed ≤ c.parts.length) :
    ¬(noRing s = true ∨ c.parts.length < c.needed) := by
  simp [noRing, Option.isSome_iff_ne_none.mp ring, whole]

theorem combined_noComponent {c : Ceremony} (differ : ∀ q ∈ c.parts, q.2 ≠ combined c) :
    c.parts.any (fun q => decide (q.2 = combined c)) = false := by simpa using differ

/-! ### CER_OPEN (R226, R234) -/

/-- The ceremony that CER_OPEN opens: its seed and nonce are the next two free values. -/
def cerDrawn (s : State) (p : List Byte) : Ceremony :=
  { id := s.ks.nextCer, place := octets p 0 64, domain := be p 64 2, nonce := beBytes 32 (draw (draw s).2).1, seed := (draw s).1
    needed := (s.prov.rules.getD 5 ⟨0, 0, 0, 0⟩).kc, opened := s.tick }

section
variable {h : Held} {p : List Byte} {s : State}

section
variable (placed : firstBad (placeNew [1, 2, 3, 4, 5] p) = none)
include placed

theorem cerOpenCmd_busy (running : s.ks.cer ≠ none) : cerOpenCmd h p s = respond St.busy 0 0 [] s := by
  simp only [cerOpenCmd, placed, Option.isSome_iff_ne_none.mpr running, if_true, refuse_eq]

theorem cerOpenCmd_opened (free : s.ks.cer = none) :
    cerOpenCmd h p s = respond St.ok 0 s.tick
      (beBytes 8 (cerDrawn s p).id ++ (cerDrawn s p).nonce ++ octets (Config.cerEk (cerDrawn s p).seed) 0 1184 ++
        octets (Config.cerX25519 (cerDrawn s p).seed) 0 32)
      { (draw (draw s).2).2 with ks.nextCer := (cerDrawn s p).id + 1, ks.cer := some (cerDrawn s p) } := by
  simp only [cerOpenCmd, placed, free, Option.isSome_none, Bool.false_eq_true, if_false]
  rfl

end

/-! ### No ceremony open under the id named -/

section
variable (unnamed : openCer s p = none)
include unnamed

theorem cerComponentCmd_unnamed : cerComponentCmd h p s = respond St.grateRange 64 0 [] s := by
  simp only [cerComponentCmd, unnamed, refuse_eq]

theorem cerCommitCmd_unnamed : cerCommitCmd h p s = respond St.grateRange 64 0 [] s := by
  simp only [cerCommitCmd, unnamed, refuse_eq]

theorem cerAbortCmd_unnamed : cerAbortCmd h p s = respond St.grateRange 64 0 [] s := by
  simp only [cerAbortCmd, unnamed, refuse_eq]

end

section
variable {c : Ceremony} (named : openCer s p = some c)
include named

/-! ### CER_COMPONENT (R232, R234) -/

section
variable (least : 1 ≤ be p 8 1) (most : be p 8 1 ≤ c.needed) (unused : ∀ q ∈ c.parts, q.1 ≠ be p 8 1)
  (kcvLen : be p 9 1 = kcvLenOf (le c.place 4 1))
include least most unused kcvLen

/-- A custodian gives one component of a ceremony. -/
theorem cerComponentCmd_usedCustodian (used : ∃ k ∈ custodians s h, k ∈ c.used) :
    cerComponentCmd h p s = respond St.notAuthorised 0 0 [] s := by
  have again : (custodians s h).any (fun k => decide (k ∈ c.used)) = true := by simpa using used
  simp only [cerComponentCmd, named, componentNumber_ok least most unused, kcvLen, again, ne_eq, not_true_eq_false, if_false, if_true,
    refuse_eq]

section
variable (fresh : ∀ k ∈ custodians s h, k ∉ c.used)
include fresh

/-- A component of new custodians that is not recovered is refused. -/
theorem cerComponentCmd_unopened
    (unopened : cerOpened c (be p 8 1) (octets p 24 1088) (octets p 1112 32) (p.drop 1152) = none) :
    cerComponentCmd h p s = respond St.keyBlockInvalid 0 0 [] s := by
  simp only [cerComponentCmd, named, componentNumber_ok least most unused, kcvLen, custodians_unused fresh, unopened, ne_eq,
    not_true_eq_false, Bool.false_eq_true, if_false, refuse_eq]

/-- A component of new custodians that is recovered is held to its length and its check value, and added. -/
theorem cerComponentCmd_opened {m : List Byte}
    (opened : cerOpened c (be p 8 1) (octets p 24 1088) (octets p 1112 32) (p.drop 1152) = some m) :
    cerComponentCmd h p s =
      if lengthFits (le c.place 4 1) m.length = false then respond St.keyBlockInvalid 0 0 [] s
      else if octets (kcvOf (le c.place 4 1) m) 0 (kcvLenOf (le c.place 4 1)) ≠ octets p 16 (kcvLenOf (le c.place 4 1)) then
        respond St.keyCheckFailed 0 0 [] s
      else respond St.ok 0 s.tick []
        { s with ks.cer := some { c with parts := c.parts ++ [(be p 8 1, m)], used := c.used ++ custodians s h } } := by
  simp only [cerComponentCmd, named, componentNumber_ok least most unused, kcvLen, custodians_unused fresh, opened, ne_eq,
    not_true_eq_false, Bool.false_eq_true, if_false, Bool.not_eq_true', refuse_eq]

end
end

/-! ### CER_COMMIT (R225, R234) -/

section
variable (ring : s.ks.ring.isSome = true) (whole : c.needed ≤ c.parts.length)
include ring whole

theorem cerCommitCmd_equalsComponent (same : ∃ q ∈ c.parts, q.2 = combined c) :
    cerCommitCmd h p s = respond St.keyCheckFailed 0 0 [] s := by
  have given : c.parts.any (fun q => decide (q.2 = combined c)) = true := by simpa using same
  simp only [cerCommitCmd, named, not_commitBusy ring whole, given, Bool.true_or, if_false, if_true, refuse_eq]

section
variable (differ : ∀ q ∈ c.parts, q.2 ≠ combined c) (plain : isTdes (le c.place 4 1) = false)
include differ plain

theorem cerCommitCmd_unplaced {e : Nat × Nat}
    (refused : placement s c.domain c.place (namedKey c.place 4 (combined c)) = .inl e) :
    cerCommitCmd h p s = respond e.1 e.2 0 [] s := by
  simp only [cerCommitCmd, named, not_commitBusy ring whole, combined_noComponent differ, plain, refused, Bool.false_and, Bool.or_self,
    Bool.false_eq_true, if_false, refuse_eq]

/-- The combined key's record is armed for the next tick, and the ceremony is over. -/
theorem cerCommitCmd_placed {i : Nat} {r : KRec}
    (placed : placement s c.domain c.place (namedKey c.place 4 (combined c)) = .inr (i, r)) :
    cerCommitCmd h p s = respondAt (s.tick + 1) (beBytes 4 (r.gen * 2 ^ 27 + i) ++ beBytes 4 0 ++ octets r.kcv 0 8)
      { s with ks.cer := none, ks.changes := s.ks.changes ++ [{ kind := .place i r }] } := by
  simp only [cerCommitCmd, named, not_commitBusy ring whole, combined_noComponent differ, plain, placed, Bool.false_and, Bool.or_self,
    Bool.false_eq_true, if_false]

end
end

/-! ### CER_ABORT and the expiry (R234) -/

theorem cerAbortCmd_named : cerAbortCmd h p s = respond St.ok 0 s.tick [] { s with ks.cer := none } := by
  simp only [cerAbortCmd, named]

end

theorem exec_ceremonyExpiry_due {c : Ceremony} (running : s.ks.cer = some c) (due : c.opened + 2 ^ 29 ≤ s.tick) :
    exec .ceremonyExpiry s = .next { s with ks.cer := none } :=
  whenOk_true (by rw [running, Option.any_some, decide_eq_true due])

end

/-- Settles O34: each command taken up is its meaning on the frame's payload, decided by the ceremony it names; the expiry closes it. -/
theorem ceremoniesOpenCollectAndCommit : Obligations.CeremoniesOpenCollectAndCommit := by
  refine ⟨fun h s taken placed => ⟨fun free => ?_, fun running => ?_⟩,
    fun h c s taken named least most unused kcvLen => ⟨fun used => ?_, fun fresh => ?_⟩,
    fun h c s taken named ring whole => ⟨fun same => ?_, fun differ plain => ?_⟩,
    fun h c s taken named => ?_, fun c s running due => exec_ceremonyExpiry_due running due, fun h s c hc taken unnamed => ?_⟩
  · rw [exec_cerOpen_taken taken, cerOpenCmd_opened placed free]
    rfl
  · rw [exec_cerOpen_taken taken, cerOpenCmd_busy placed running]
  · rw [exec_cerComponent_taken taken, cerComponentCmd_usedCustodian named least most unused kcvLen used]
  · cases opened : cerOpened c (be h.frame.payload 8 1) (octets h.frame.payload 24 1088) (octets h.frame.payload 1112 32)
        (h.frame.payload.drop 1152) with
    | none => rw [exec_cerComponent_taken taken, cerComponentCmd_unopened named least most unused kcvLen fresh opened]
    | some m => rw [exec_cerComponent_taken taken, cerComponentCmd_opened named least most unused kcvLen fresh opened]
  · rw [exec_cerCommit_taken taken, cerCommitCmd_equalsComponent named ring whole same]
  · rcases placing : placement s c.domain c.place (namedKey c.place 4 (combined c)) with e | ⟨i, r⟩
    · rw [exec_cerCommit_taken taken, cerCommitCmd_unplaced named ring whole differ plain placing]
    · rw [exec_cerCommit_taken taken, cerCommitCmd_placed named ring whole differ plain placing]
  · rw [exec_cerAbort_taken taken, cerAbortCmd_named named]
  · simp only [List.mem_cons, List.not_mem_nil, or_false] at hc
    obtain rfl | rfl | rfl := hc
    · rw [exec_cerComponent_taken taken, cerComponentCmd_unnamed unnamed]
    · rw [exec_cerCommit_taken taken, cerCommitCmd_unnamed unnamed]
    · rw [exec_cerAbort_taken taken, cerAbortCmd_unnamed unnamed]

end Sys2Proof.Machine
end

section
/-!
PROOFS. The lane supervisor: mismatches and replays, the chunks of host lanes, retests, rotation, LANE_SET and READMIT.
-/
namespace Sys2Proof.Machine
open Sys2Proof

/-! ### Mismatches and replays of port lanes (R261, R262) -/

@[simp] theorem faultLane_hands (n : Nat) (s : State) : (faultLane n s).ln.hands = s.ln.hands := rfl

section
variable {n : Nat} {s : State}

/-- A lane no handover names is not finishing one. -/
theorem handOf_noHands (noHands : s.ln.hands = []) : handOf s n = none := by rw [handOf, noHands, List.find?_nil]

/-- A port lane that serves a slot loses it to a spare with its own set to replay, where nothing is due, replayed or handed over. -/
theorem exec_laneBeatMismatch_serving {k : Nat} (portSide : n < 152) (serves : (lane s n).state = 0) (slot : (lane s n).slot = some k)
    (noneDue : s.ln.slotDue = []) (noReplays : s.ln.replays = []) (noHands : s.ln.hands = []) :
    exec (.laneBeatMismatch n) s = .next (refillSlot n k [⟨n, k, 0, false⟩] (faultLane n s)) := by
  have due : s.ln.slotDue.filter (fun q => decide (q.1 ≠ n)) = s.ln.slotDue := by rw [noneDue, List.filter_nil]
  have others : s.ln.replays.filter (fun r => decide (r.runs ≠ n)) = s.ln.replays := by rw [noReplays, List.filter_nil]
  have mine : s.ln.replays.filter (fun r => decide (r.runs = n)) = [] := by rw [noReplays, List.filter_nil]
  have acts : ¬(152 ≤ n ∨ ¬((lane s n).state = 0 ∨ (lane s n).state = 5 ∨
      ((lane s n).state = 1 ∧ ([] : List LaneReplay) ≠ []))) := by omega
  have free : handOf (faultLane n s) n = none := handOf_noHands noHands
  show execLaneBeatMismatch n s = _
  simp only [execLaneBeatMismatch, due, others, mine, if_neg acts, free, slot, Option.some_or]

/-- A replay that ends is counted at the lane it ran on, its hold at the lane that failed; the port's output goes on, and the record is written. -/
theorem exec_laneReplayDone_found {hold : Nat} {r : LaneReplay} (found : s.ln.replays.find? (fun x => decide (x.lane = n)) = some r)
    (plain : r.reserved = false) :
    exec (.laneReplayDone n hold) s = .next (faultNote n r.slot r.runs hold (releaseHold (r.slot / 4)
      (modLane n (fun l => { l with holdPeak := max l.holdPeak hold }) (modLane r.runs (fun l => { l with replays := satAdd 32 l.replays 1 })
        { s with ln.replays := s.ln.replays.filter (fun x => decide (x.lane ≠ n)) })))) := by
  show execLaneReplayDone n hold s = _
  simp only [execLaneReplayDone, found, plain, Bool.false_eq_true, if_false]

end

/-! ### The chunks of host lanes (R251, R252, R264, R269) -/

/-- A chunk that ended and is not the last: its lane and its domain count it, its output is written, its operation goes to the end of the
round with the running state kept, and the lane reads on (R251, R252). -/
def chunkWritten (n id : Nat) (w : Work) (d : List Byte) (s : State) : State :=
  let y := runChunk w (w.key 0).rec_.material d
  let w' := { w with pos := w.pos + (if (nextChunk w).1 then 0 else d.length), aad := w.aad || (nextChunk w).1, ckpt := y.2, rerun := false
                     asked := false }
  laneReads n (toBack id (modWork id (fun _ => w') (addUsage w.sub.domain 8 0 0 d.length
    (writeBulk w (w.sub.outAddr + w.pos) y.1 (laneFrame n d.length y.1.length (modWork id (fun w => { w with asked := false }) s))))))

/-- An operation that has read text or AAD is past its first chunk. -/
theorem not_firstChunk {w : Work} (begun : w.pos ≠ 0 ∨ w.aad = true) : ¬(w.pos = 0 ∧ w.aad = false) := by
  rintro ⟨start, noAad⟩
  exact begun.elim (absurd start) (by simp [noAad])

section
variable {n id : Nat} {w : Work} {s : State}

section
variable (held : work s id = some w) (host : w.unit = .hostLane) (running : w.phase = .unit) (place : w.place = some n)
  (turn : unitHead s .hostLane n = some id)
include held host running place turn

/-- A mismatch on a host lane in service faults it: the operation that was running again ends, another is to run again, and what the lane
held moves. -/
theorem exec_hostLaneMismatch_serving (serves : (lane s n).state = 0) :
    exec (.hostLaneMismatch n id) s = .next (settle (moveOps n (if w.rerun then
        laneEnd id { status := St.laneFault, detail := n, wrote := some w.pos } (faultLane n s)
      else modWork id (fun w => { w with rerun := true }) (faultLane n s)))) := by
  show execHostLaneMismatch n id s = _
  simp only [execHostLaneMismatch, held, host, running, place, turn, serves, ne_eq, not_true_eq_false, or_self, if_false]
  split <;> rfl

section
variable (asked : w.asked = true) (fetched : fetchOpen s w = false) (begun : w.pos ≠ 0 ∨ w.aad = true)
include asked fetched begun

/-- A key whose fetch failed ends the operation, whatever was read (R208). -/
theorem exec_hostLaneChunkEnd_badKey (bad : (w.key 0).bad = true) (r : ReadResult) :
    exec (.hostLaneChunkEnd id r none) s = .next (settle (laneEnd id { status := St.keyIntegrity, detail := 1, wrote := some w.pos }
      (modWork id (fun w => { w with asked := false }) s))) := by
  show execHostLaneChunkEnd id r none s = _
  simp only [execHostLaneChunkEnd, held, place, host, running, turn, asked, fetched, not_firstChunk begun,
    ne_eq, not_true_eq_false, Bool.true_eq_false, false_and, or_self, fenceCheck, bad, Bool.false_eq_true, if_false, if_true]

/-- A read that failed ends the operation (R115). -/
theorem exec_hostLaneChunkEnd_readError (good : (w.key 0).bad = false) :
    exec (.hostLaneChunkEnd id .error none) s = .next (settle (laneEnd id { status := St.hostDmaError, wrote := some w.pos }
      (modWork id (fun w => { w with asked := false }) s))) := by
  show execHostLaneChunkEnd id .error none s = _
  simp only [execHostLaneChunkEnd, held, place, host, running, turn, asked, fetched, not_firstChunk begun,
    ne_eq, not_true_eq_false, Bool.true_eq_false, false_and, or_self, fenceCheck, good, Bool.false_eq_true, if_false]

/-- An access the lane's fence blocks ends the operation, and the violation is reported (R429). -/
theorem exec_hostLaneChunkEnd_blocked {r : ReadResult} {a : Access} {x : Blocked}
    (blocks : fenceBlocks (modWork id (fun w => { w with asked := false }) s) (w.grant.getD s.tick) a (0x500 + n) = some x) :
    exec (.hostLaneChunkEnd id r (some a)) s = .next (settle (laneEnd id { status := St.fenceViolation, wrote := some w.pos }
      (violate (w.grant.getD s.tick) a (0x500 + n) x (modWork id (fun w => { w with asked := false }) s)))) := by
  have clock : (modWork id (fun w => { w with asked := false }) s).tick = s.tick := by simp
  show execHostLaneChunkEnd id r (some a) s = _
  simp only [execHostLaneChunkEnd, held, place, host, running, turn, asked, fetched, not_firstChunk begun,
    ne_eq, not_true_eq_false, Bool.true_eq_false, false_and, or_self, clock,
    fenceCheck_blocked blocks, Bool.false_eq_true, if_false, if_true]

/-- A chunk that is not the last is counted and written, and the next operation on the lane takes its turn (R251, R252). -/
theorem exec_hostLaneChunkEnd_more {bs : List Byte} (good : (w.key 0).bad = false) (first : w.rerun = false) (kept : w.squash = 0)
    (more : w.pos + (if (nextChunk w).1 then 0 else (octets bs 0 (nextChunk w).2.2).length) < w.sub.inLen) :
    exec (.hostLaneChunkEnd id (.data bs) none) s = .next (chunkWritten n id w (octets bs 0 (nextChunk w).2.2) s) := by
  show execHostLaneChunkEnd id (.data bs) none s = _
  simp only [execHostLaneChunkEnd, held, place, host, running, turn, asked, fetched, not_firstChunk begun,
    ne_eq, not_true_eq_false, Bool.true_eq_false, false_and, or_self, fenceCheck,
    good, first, kept, Nat.not_le.mpr more, Bool.false_eq_true, if_false, chunkWritten]

end
end
end

/-! ### A spare's known answer, and retests (R265, R266) -/

section
variable {n : Nat} {s : State}

/-- A host lane without work whose known answer differs is faulted. -/
theorem exec_spareKatFault_idleHost (least : 152 ≤ n) (most : n < 160) (serves : (lane s n).state = 0) (noSlot : (lane s n).slot = none)
    (idle : hostIdle s n = true) :
    exec (.spareKatFault n) s = .next (faultNote n 0xFFFF 0xFFFF 0 (modLane n (fun l => { l with katOk := false }) (faultLane n s))) := by
  show execSpareKatFault n s = _
  simp only [execSpareKatFault, least, most, serves, noSlot, idle, and_self, decide_true, Bool.and_self, Bool.true_or, Bool.not_true,
    Bool.false_eq_true, if_false]

theorem exec_laneRetestStart_due (inRange : n < 160) (quarantined : (lane s n).state = 2) (due : (lane s n).stTick + 16 ≤ s.tick) :
    exec (.laneRetestStart n) s = .next (modLane n (fun l => { l with state := 3, stTick := s.tick }) s) :=
  whenOk_true (by simp [inRange, quarantined, due])

section
variable (inRange : n < 160) (testing : (lane s n).state = 3) (due : (lane s n).stTick + 2 ^ 16 ≤ s.tick)
include inRange testing due

/-- A lane in a retest that has run its 2^16 ticks ends it. -/
theorem not_retestRunning : ¬(160 ≤ n ∨ (lane s n).state ≠ 3 ∨ s.tick < (lane s n).stTick + 2 ^ 16) := by omega

theorem exec_laneRetestEnd_failed : exec (.laneRetestEnd n false) s = .next (modLane n (fun l =>
    { l with stTick := s.tick, katOk := false, state := 4, since := s.tick, back := false, mismatch := satAdd 32 l.mismatch 1 }) s) := by
  show execLaneRetestEnd n false s = _
  simp only [execLaneRetestEnd, if_neg (not_retestRunning inRange testing due), Bool.and_false, Bool.or_false, Bool.not_false,
    Bool.false_eq_true, true_or, if_false, if_true]

theorem exec_laneRetestEnd_hostPassed (host : 152 ≤ n) : exec (.laneRetestEnd n true) s = .next (modLane n (fun l =>
    { l with stTick := s.tick, katOk := true, passes := satAdd 24 l.passes 1, state := 0, since := s.tick, readmit := l.readmit || l.back,
             back := false }) s) := by
  show execLaneRetestEnd n true s = _
  simp only [execLaneRetestEnd, if_neg (not_retestRunning inRange testing due), host, Nat.not_lt.mpr host, Bool.and_true, or_true,
    if_false, if_true]

end
end

/-! ### Rotation (R267) -/

/-- A handover begun: the outgoing lane gives its slot to the incoming one, and the reserve is held. -/
def rotated (d o i r k : Nat) (s : State) : State :=
  let t := modLane i (fun l => { l with state := 0, stTick := s.tick, slot := some k, since := s.tick, rotations := satAdd 32 l.rotations 1 })
    (modLane o (fun l => { l with state := 5, stTick := s.tick, slot := none }) s)
  { t with ln.hands := s.ln.hands ++ [⟨d, o, r, k, none⟩], ln.rotTick := tblPut s.ln.rotTick d s.tick }

/-- A handover touches no port and no work. -/
theorem rotated_keeps (d o i r k : Nat) (s : State) : (rotated d o i r k s).ln.hands = s.ln.hands ++ [⟨d, o, r, k, none⟩] ∧
    (rotated d o i r k s).ln.rotTick = tblPut s.ln.rotTick d s.tick ∧ (rotated d o i r k s).pt = s.pt ∧ (rotated d o i r k s).wk = s.wk ∧
    (rotated d o i r k s).tick = s.tick := by
  simp [rotated]

section
variable {d : Nat} {s : State}

/-- On a rotation tick not yet used, with two spares and no handover on the die, the longest in service hands over to the longest idle. -/
theorem exec_laneRotationStart_due {o i k r : Nat} (die : d < 2) (enabled : s.ln.rotEn = true) (tick : s.tick % 2 ^ s.ln.rotLog = 0)
    (begun : s.tick ≠ 0) (unused : tblGet s.ln.rotTick d ≠ some s.tick) (two : 2 ≤ (spares s d).length) (alone : ∀ h ∈ s.ln.hands, h.die ≠ d)
    (out : outgoing s d = some o) (incoming : longest s (spares s d) = some i) (slot : (lane s o).slot = some k)
    (reserve : longest s ((spares s d).filter (fun n => decide (n ≠ i))) = some r) :
    exec (.laneRotationStart d) s = .next (rotated d o i r k s) := by
  have noHand : s.ln.hands.any (fun h => decide (h.die = d)) = false := by simpa using alone
  have starts : ¬(2 ≤ d ∨ s.ln.rotEn = false ∨ s.tick % 2 ^ s.ln.rotLog ≠ 0 ∨ s.tick = 0 ∨ tblGet s.ln.rotTick d = some s.tick ∨
      (spares s d).length < 2 ∨ s.ln.hands.any (fun h => decide (h.die = d)) = true) := by
    simp [die, enabled, tick, begun, unused, Nat.not_lt.mpr two, noHand]
  show execLaneRotationStart d s = _
  simp only [execLaneRotationStart, if_neg starts, out, incoming, slot, reserve]
  rfl

section
variable {h : Handover} (found : s.ln.hands.find? (fun h => decide (h.die = d)) = some h) (leaves : (lane s h.out).state = 5)
include found leaves

theorem exec_handoverEnd_emptied (filled : h.emptied = none) (noReplay : ∀ r ∈ s.ln.replays, r.runs ≠ h.out) :
    exec (.handoverEnd d) s = .next
      { s with ln.hands := s.ln.hands.map (fun x => if x.die = d then { x with emptied := some s.tick } else x) } := by
  have quiet : s.ln.replays.any (fun r => decide (r.runs = h.out)) = false := by simpa using noReplay
  show execHandoverEnd d s = _
  simp only [execHandoverEnd, found]
  exact whenOk_true (by simp [filled, leaves, quiet])

theorem exec_handoverRetestEnd_due {t : Nat} (emptied : h.emptied = some t) (due : t + 2 ^ 10 ≤ s.tick) :
    exec (.handoverRetestEnd d) s = .next
      { modLane h.out (fun l => { l with state := 1, stTick := s.tick, since := s.tick, katOk := true, passes := satAdd 24 l.passes 1 }) s with
        ln.hands := s.ln.hands.filter (fun x => decide (x.die ≠ d)) } := by
  show execHandoverRetestEnd d s = _
  simp only [execHandoverRetestEnd, found]
  exact whenOk_true (by simp only [emptied, leaves, due, Option.any_some, decide_true, Bool.and_self])

end
end

/-! ### LANE_SET and READMIT (R137, R265, R270, R391) -/

section
variable {h : Held} {passed : Bool} {s : State}

theorem exec_laneSet_taken (taken : CmdTaken 0x0506 h s) : exec .laneSet s = .next (laneSetCmd h h.frame.payload s) :=
  withCmd_of_taken taken

section
variable (taken : CmdTaken 0x0505 h s)
include taken

theorem exec_readmit_engine (kind : be h.frame.payload 0 1 = 0) :
    exec (.readmit passed) s = .next (readmitEngine (be h.frame.payload 2 2) s) := by
  show execReadmit passed s = _
  simp only [execReadmit, withCmd_of_taken taken, kind]

theorem exec_readmit_lane (kind : be h.frame.payload 0 1 = 1) :
    exec (.readmit passed) s = .next (readmitLane (be h.frame.payload 2 2) s) := by
  show execReadmit passed s = _
  simp only [execReadmit, withCmd_of_taken taken, kind]

theorem exec_readmit_unit (kind : be h.frame.payload 0 1 = 2) :
    exec (.readmit passed) s = .next (readmitUnit (be h.frame.payload 2 2) passed s) := by
  show execReadmit passed s = _
  simp only [execReadmit, withCmd_of_taken taken, kind]

end

/-- A lane that is out and was not yet taken back enters its retest. -/
theorem readmitLane_retested {n : Nat} (inRange : n < 160) (out : (lane s n).state = 4) (once : (lane s n).readmit = false) :
    readmitLane n s = respond St.ok 0 s.tick [] (modLane n (fun l => { l with state := 3, stTick := s.tick, back := true }) s) := by
  simp only [readmitLane, out, once, Nat.not_le.mpr inRange, Nat.reduceEqDiff, ne_eq, not_true_eq_false, Bool.false_eq_true, or_self,
    if_false]

/-- A retired unit is taken back once, where its known answer passed. -/
theorem readmitUnit_retired {u : Nat} (inRange : u < 64) (retired : (pkUnit s u).retired = true) (once : (pkUnit s u).readmit = false) :
    readmitUnit u passed s = respond St.ok 0 s.tick []
      (if passed then modPk u (fun k => { k with retired := false, readmit := true, scores := [], retireDue := false }) s else s) := by
  simp only [readmitUnit, retired, once, Nat.not_le.mpr inRange, Bool.not_true, Bool.or_self, Bool.false_eq_true, if_false]

/-- The retest of a retired engine not yet taken back is raised, where none runs or is due. -/
theorem readmitEngine_retired {e : Nat} (inRange : e < 1024) (retired : (engine s e).estate = 2) (once : (engine s e).readmit = false)
    (idle : (engine s e).retest = none) (noTask : ∀ t ∈ s.tk.tasks, ¬(t.kind = 3 ∧ t.arg = e)) :
    readmitEngine e s = respond St.ok 0 s.tick [] (raiseRetest e s) := by
  have none : s.tk.tasks.any (fun t => decide (t.kind = 3 ∧ t.arg = e)) = false := by simpa using noTask
  simp only [readmitEngine, retired, once, idle, none, Nat.not_le.mpr inRange, Option.isSome_none, Bool.false_eq_true, ne_eq,
    not_true_eq_false, or_self, if_false]

end

/-- Settles O35: each event acts by the state of the lane, the operation or the handover it is about; each command taken up is its meaning
on the frame's payload. -/
theorem lanesFaultRetestAndRotate : Obligations.LanesFaultRetestAndRotate := by
  refine ⟨fun n k s portSide serves slot noneDue noReplays noHands =>
      exec_laneBeatMismatch_serving portSide serves slot noneDue noReplays noHands,
    fun n hold r s found plain => exec_laneReplayDone_found found plain,
    fun n id w s held host running place turn serves => ?_,
    fun n id w s held host running place turn asked fetched begun =>
      ⟨exec_hostLaneChunkEnd_readError held host running place turn asked fetched begun,
        exec_hostLaneChunkEnd_badKey held host running place turn asked fetched begun,
        fun r a x => exec_hostLaneChunkEnd_blocked held host running place turn asked fetched begun⟩,
    fun n id w bs s held host running place turn asked fetched good begun first kept more =>
      exec_hostLaneChunkEnd_more held host running place turn asked fetched begun good first kept more,
    fun n s least most serves noSlot idle => exec_spareKatFault_idleHost least most serves noSlot idle,
    fun n s inRange => ⟨exec_laneRetestStart_due inRange, exec_laneRetestEnd_failed inRange, exec_laneRetestEnd_hostPassed inRange⟩,
    fun d o i k r s die enabled tick begun unused two alone out incoming slot reserve => ⟨rotated d o i r k s,
      exec_laneRotationStart_due die enabled tick begun unused two alone out incoming slot reserve, rotated_keeps d o i r k s⟩,
    fun d h s found leaves => ⟨exec_handoverEnd_emptied found leaves, fun t => exec_handoverRetestEnd_due found leaves⟩,
    fun h s taken => exec_laneSet_taken taken,
    fun h p s taken => ⟨fun kind inRange out once => ?_, fun kind inRange retired once => ?_,
      fun kind inRange retired once idle noTask => ?_⟩⟩
  · rw [exec_hostLaneMismatch_serving held host running place turn serves]
    exact ⟨fun again => by rw [if_pos again], fun first => by rw [first, if_neg Bool.false_ne_true]⟩
  · rw [exec_readmit_lane taken kind, readmitLane_retested inRange out once]
  · rw [exec_readmit_unit taken kind, readmitUnit_retired inRange retired once]
  · rw [exec_readmit_engine taken kind, readmitEngine_retired inRange retired once idle noTask]

end Sys2Proof.Machine
end

section
/-!
PROOFS. Frames on a link, what a receive lane drops, what a sub-port answers, and the MACsec associations.
-/
namespace Sys2Proof.Machine
open Sys2Proof

/-! ### A frame meets the ingress buffer (R285) -/

@[simp] theorem onlyPtp_rxFrame (p n : Nat) (s : State) : onlyPtp (rxFrame p n s) = onlyPtp s := rfl

section
variable {p : Nat} (f : InFrame) {s : State} {g : State → State}

theorem inMeets_room (room : inRoom (port (rxFrame p f.size s) p) f = true) : inMeets p f s g = g (rxFrame p f.size s) := if_pos room

theorem inMeets_full (full : inRoom (port (rxFrame p f.size s) p) f = false) : inMeets p f s g = dropFull p (rxFrame p f.size s) :=
  if_neg (by simp [full])

end

/-! ### MACsec frames (R258, R270, R285) -/

section
variable {p k : Nat} {f : List Byte} {s : State}

theorem exec_macsecFrame_stopped (stopped : lanesStopped s = true) (served : onlyPtp s = false) : exec (.macsecFrame p k f) s = .next s :=
  if_pos (by simp [stopped, served])

section
variable (up : linkUp s p k = true) (secured : (port s p).role = 1 ∨ ((port s p).role = 3 ∧ isJoin f = false))
  (running : lanesStopped s = false)
include up secured running

/-- A frame on a link of a THROUGH port, or of a FLUE port but for a JOIN frame, meets the buffer while the lanes run. -/
theorem exec_macsecFrame_up :
    exec (.macsecFrame p k f) s = .next (inMeets p ⟨k, false, [], f, f.length, s.tick⟩ s (fun t =>
      if onlyPtp t then dropOther p t else ingress p (inEnter p ⟨k, false, [], f, f.length, s.tick⟩ t))) := by
  refine if_neg ?_
  rcases secured with through | ⟨flue, noJoin⟩
  · simp [up, running, through]
  · simp [up, running, flue, noJoin]

/-- Where it has room, it waits in the buffer, which moves on. -/
theorem exec_macsecFrame_enters (served : onlyPtp s = false)
    (room : inRoom (port (rxFrame p f.length s) p) ⟨k, false, [], f, f.length, s.tick⟩ = true) :
    exec (.macsecFrame p k f) s = .next (ingress p (inEnter p ⟨k, false, [], f, f.length, s.tick⟩ (rxFrame p f.length s))) := by
  rw [exec_macsecFrame_up up secured running, inMeets_room ⟨k, false, [], f, f.length, s.tick⟩ room, onlyPtp_rxFrame, served,
    if_neg Bool.false_ne_true]

theorem exec_macsecFrame_full
    (full : inRoom (port (rxFrame p f.length s) p) ⟨k, false, [], f, f.length, s.tick⟩ = false) :
    exec (.macsecFrame p k f) s = .next (dropFull p (rxFrame p f.length s)) := by
  rw [exec_macsecFrame_up up secured running, inMeets_full ⟨k, false, [], f, f.length, s.tick⟩ full]

end
end

/-! ### The ingress buffer moves on (R259, R261, R270, R285) -/

section
variable {p n : Nat} {f : InFrame} {s : State}

theorem ingress_stopped (stopped : lanesStopped s = true) : ingress p s = s := if_pos (by simp [stopped])

/-- A frame under MACsec goes through the receive lane; its bytes are no datagram. -/
theorem laneRun_macsec (plain : f.tpc = false) : laneRun p n f s = receiveMacsec p f.sub n f.data s := if_neg (by simp [plain])

section
variable (running : lanesStopped s = false) (unheld : ingressHeld s p = false) (single : (port s p).inq = [f])
include running unheld single

/-- The only frame of a buffer goes through the lane that takes it, and the buffer is empty. -/
theorem ingress_taken {t : State} (takes : dispatchIn p f (modPort p (fun x => { x with inq := [] }) s) = (some n, t)) :
    ingress p s = modPort p (fun x => { x with inq := [] }) (laneRun p n f t) := by
  simp only [ingress, inPump, running, unheld, single, List.foldl_cons, List.foldl_nil, takes, ite_self, Bool.or_self, Bool.false_eq_true,
    if_false]

/-- The only frame of a buffer waits where no lane takes it. -/
theorem ingress_waits {t : State} (waits : dispatchIn p f (modPort p (fun x => { x with inq := [] }) s) = (none, t)) :
    ingress p s = modPort p (fun x => { x with inq := [f] }) t := by
  simp only [ingress, inPump, running, unheld, single, List.foldl_cons, List.foldl_nil, waits, List.nil_append, ite_self, Bool.or_self,
    Bool.false_eq_true, if_false]

end
end

/-! ### What a receive lane drops and counts (R254, R288) -/

section
variable {p k n : Nat} {f : List Byte} {s : State}

/-- Too short or too long a frame is counted by the lane. -/
theorem receiveMacsec_badLength
    (bad : f.length < (if (decide (be f 12 2 = 0x88E5)) && bitOf (be f 14 1) 5 then 44 else 36) ∨ 9216 < f.length) :
    receiveMacsec p k n f s = modLane n (fun l => { l with lenDrop := satAdd 32 l.lenDrop 1 }) s := if_pos bad

/-- A frame without SecTAG is counted by the port. -/
theorem receiveMacsec_untagged (least : 36 ≤ f.length) (most : f.length ≤ 9216) (untagged : be f 12 2 ≠ 0x88E5) :
    receiveMacsec p k n f s = modCnt p (fun c => { c with noSectag := satAdd 32 c.noSectag 1 }) s := by
  simp [receiveMacsec, untagged, Nat.not_lt.mpr least, Nat.not_lt.mpr most]

/-- A frame whose SecTAG names no association of the port is counted by the port. -/
theorem receiveMacsec_unknown (least : 44 ≤ f.length) (most : f.length ≤ 9216) (tagged : be f 12 2 = 0x88E5)
    (named : bitOf (be f 14 1) 5 = true) (through : (port s p).role = 1)
    (unknown : ∀ a ∈ s.ln.sas, a.place ≠ (p, k, 0, be f 14 1 % 4, be f 20 8)) :
    receiveMacsec p k n f s = modCnt p (fun c => { c with unknownSa := satAdd 32 c.unknownSa 1 }) s := by
  have noSa : s.ln.sas.find? (fun a => decide (a.place = (p, k, 0, be f 14 1 % 4, be f 20 8))) = none := by simpa using unknown
  simp [receiveMacsec, tagged, named, through, noSa, Nat.not_lt.mpr least, Nat.not_lt.mpr most]

end

/-! ### Frames without protection (R279, R285, R289) -/

/-- A field after the first octets of a frame, as a field of the frame. -/
theorem octets_drop (bs : List Byte) (k off n : Nat) : octets (bs.drop k) off n = octets bs (k + off) n := by
  simp only [octets, List.drop_drop]

theorem be_drop (bs : List Byte) (k off n : Nat) : be (bs.drop k) off n = be bs (k + off) n := by rw [be, octets_drop, be]

/-- Without a VLAN the EtherType of a frame that carries no VLAN tag stands at octet 12. -/
theorem etherAt_untagged {a : SubAddr} {f : List Byte} (noVlan : a.vlan = 0) (untagged : be f 12 2 ≠ 0x8100) : etherAt a f = some 12 :=
  (if_neg untagged).trans (if_pos noVlan)

/-- The answer to an ARP request, without what it asks of the request. -/
def arpReply (a : SubAddr) (f : List Byte) : List Byte :=
  etherHead a (octets (f.drop 14) 8 6) 0x0806 ++ beBytes 8 0x0001080006040002 ++ a.mac ++ a.ip4 ++ octets (f.drop 14) 8 6 ++
    octets (f.drop 14) 14 4

section
variable {a : SubAddr} {f : List Byte} (noVlan : a.vlan = 0)
include noVlan

/-- A request for the sub-port's IPv4 address, where it has one, is answered. -/
theorem arpAnswer_asked (type : be f 12 2 = 0x0806) (request : octets (f.drop 14) 0 8 = beBytes 8 0x0001080006040001)
    (address : be a.ip4 0 4 ≠ 0) (asked : octets (f.drop 14) 24 4 = a.ip4) : arpAnswer a f = some (arpReply a f) := by
  simp only [arpAnswer, etherAt_untagged noVlan (by simp [type] : be f 12 2 ≠ 0x8100)]
  exact if_neg (by simp [type, request, address, asked])

/-- A solicitation of the sub-port's IPv6 address, where it has one, is answered. -/
theorem nsAnswer_asked (type : be f 12 2 = 0x86DD) (icmp : be f 20 1 = 58) (hops : be f 21 1 = 255) (solicits : be f 54 2 = 0x8700)
    (address : be a.ip6 0 16 ≠ 0) (asked : octets (f.drop 54) 8 16 = a.ip6) : (nsAnswer a f).isSome = true := by
  have wellFormed : ¬(be f 12 2 ≠ 0x86DD ∨ be (f.drop 14) 6 1 ≠ 58 ∨ be (f.drop 14) 7 1 ≠ 255 ∨ be ((f.drop 14).drop 40) 0 2 ≠ 0x8700 ∨
      be a.ip6 0 16 = 0 ∨ octets ((f.drop 14).drop 40) 8 16 ≠ a.ip6) := by
    simp [be_drop, type, icmp, hops, solicits, address, asked]
  simp only [nsAnswer, etherAt_untagged noVlan (by simp [type] : be f 12 2 ≠ 0x8100), if_neg wellFormed, Option.isSome_some]

end

section
variable {p k : Nat} {f : List Byte} {s : State}

theorem exec_macControlFrame_up (up : linkUp s p k = true) :
    exec (.macControlFrame p k f) s = .next (modCnt p (fun c => { c with ctrlDrop := satAdd 32 c.ctrlDrop 1 }) (rxFrame p f.length s)) :=
  whenOk_true up

variable (room : inRoom (port (rxFrame p f.length s) p) ⟨k, false, [], f, f.length, s.tick⟩ = true)
include room

/-- A frame that found room is dropped in PROVISIONED, and meets what its row does with it elsewhere. -/
theorem plainFrame_room {g : State → State} :
    plainFrame p k f s g = if onlyPtp s then dropOther p (rxFrame p f.length s) else g (rxFrame p f.length s) :=
  inMeets_room ⟨k, false, [], f, f.length, s.tick⟩ room

/-- Outside PROVISIONED a frame that found room meets what its row does with it. -/
theorem plainFrame_served {g : State → State} (served : onlyPtp s = false) : plainFrame p k f s g = g (rxFrame p f.length s) :=
  (plainFrame_room room).trans (if_neg (by simp [served]))

variable (takes : termTakes s p k = true)
include takes

/-- A frame of no accepted kind is dropped, in PROVISIONED as elsewhere. -/
theorem exec_otherFrame_dropped (unaccepted : acceptedFrame s p k f = false) :
    exec (.otherFrame p k f) s = .next (dropOther p (rxFrame p f.length s)) := by
  have acts : (termTakes s p k && !acceptedFrame s p k f) = true := by simp [takes, unaccepted]
  show execOtherFrame p k f s = _
  simp only [execOtherFrame, whenOk_true acts, plainFrame_room room, ite_self]

section
variable (served : onlyPtp s = false)
include served

theorem exec_arpRequest_answered {answer : List Byte} (answers : arpAnswer (subAddr s p k) f = some answer) :
    exec (.arpRequest p k f) s = .next (portOut p k answer.length (.frame p k answer) none (rxFrame p f.length s)) := by
  show execArpRequest p k f s = _
  simp only [execArpRequest, answers, whenOk_true takes, plainFrame_served room served, answerFrame]

theorem exec_neighborSolicitation_answered {answer : List Byte} (answers : nsAnswer (subAddr s p k) f = some answer) :
    exec (.neighborSolicitation p k f) s = .next (portOut p k answer.length (.frame p k answer) none (rxFrame p f.length s)) := by
  show execNeighborSolicitation p k f s = _
  simp only [execNeighborSolicitation, answers, whenOk_true takes, plainFrame_served room served, answerFrame]

end
end

/-! ### SA_SET and SA_REMOVE (R255 to R257, R413, R414) -/

section
variable {h : Held} {p : List Byte} {s : State}

theorem exec_saSet_taken (taken : CmdTaken 0x0802 h s) : exec .saSet s = .next (saSetCmd h h.frame.payload s) := withCmd_of_taken taken

theorem exec_saRemove_taken (taken : CmdTaken 0x0803 h s) : exec .saRemove s = .next (saRemoveCmd h h.frame.payload s) :=
  withCmd_of_taken taken

/-- The association SA_SET spells. -/
def saSpelled (p : List Byte) (s : State) : Sa := parseSa p (switchAt (be p 0x30 8) s)

/-- What the key tests find of an association's SAK (R216, R257). -/
def sakTests (a : Sa) (s : State) : Option (Nat × Nat) :=
  keyTests (port s a.port).owner [(1, keyRead s a.sak, false, sakRole a (keyRead s a.sak).rec_)]

/-- MACsec runs on THROUGH and FLUE ports alone. -/
theorem saSetCmd_otherRole (role : (port s (saSpelled p s).port).role ≠ 1 ∧ (port s (saSpelled p s).port).role ≠ 3) :
    saSetCmd h p s = respond St.grateRange 68 0 [] s := if_pos role

section
variable (secured : ¬((port s (saSpelled p s).port).role ≠ 1 ∧ (port s (saSpelled p s).port).role ≠ 3))
include secured

theorem saSetCmd_noSubport (beyond : 2 ^ (port s (saSpelled p s).port).split ≤ (saSpelled p s).subport) :
    saSetCmd h p s = respond St.grateRange 69 0 [] s := (if_neg secured).trans (if_pos beyond)

section
variable (onPort : ¬2 ^ (port s (saSpelled p s).port).split ≤ (saSpelled p s).subport)
include onPort

theorem saSetCmd_noRoom (full : saRoom s (saSpelled p s) = false) : saSetCmd h p s = respond St.grateRange 80 0 [] s :=
  (if_neg secured).trans ((if_neg onPort).trans (if_pos (show (!saRoom s (saSpelled p s)) = true by rw [full]; rfl)))

section
variable (room : saRoom s (saSpelled p s) = true)
include room

/-- A SAK that fails its key tests answers the failed integrity of its record, or that its usage is forbidden. -/
theorem saSetCmd_keyFails {e : Nat × Nat} (fails : sakTests (saSpelled p s) s = some e) :
    saSetCmd h p s = respond (if e.1 = St.keyIntegrity then e.1 else St.usageForbidden) 1 0 [] s := by
  simp only [saSpelled, sakTests] at secured onPort room fails
  simp only [saSetCmd, secured, onPort, room, fails, Bool.not_true, Bool.false_eq_true, if_false, refuse_eq]
  exact (apply_ite (fun st => respond st 1 0 [] s) _ _ _).symm

/-- An association whose SAK passes is armed for its tick. -/
theorem saSetCmd_armed (passes : sakTests (saSpelled p s) s = none) : saSetCmd h p s =
    respondAt (switchAt (be p 0x30 8) s) [] { s with ln.saArmed := s.ln.saArmed ++ [saSpelled p s] } := by
  simp only [saSpelled, sakTests] at secured onPort room passes
  simp only [saSetCmd, secured, onPort, room, passes, Bool.not_true, Bool.false_eq_true, if_false, saSpelled]

end
end
end

/-- The removal SA_REMOVE spells. -/
def saGoneSpelled (p : List Byte) (s : State) : SaGone := ⟨be p 0 1, be p 1 1, be p 2 1, be p 3 1, be p 8 8, switchAt (be p 16 8) s⟩

theorem saRemoveCmd_known (known : ∃ a ∈ s.ln.sas ++ s.ln.saArmed, a.place = (be p 0 1, be p 1 1, be p 2 1, be p 3 1, be p 8 8)) :
    saRemoveCmd h p s = respondAt (switchAt (be p 16 8) s) [] { s with ln.saGone := s.ln.saGone ++ [saGoneSpelled p s] } := by
  have found : (s.ln.sas ++ s.ln.saArmed).any (fun a => decide (a.place = (be p 0 1, be p 1 1, be p 2 1, be p 3 1, be p 8 8))) = true := by
    simpa only [List.any_eq_true, decide_eq_true_eq] using known
  exact if_neg (by rw [found]; decide)

theorem saRemoveCmd_unknown (unknown : ∀ a ∈ s.ln.sas ++ s.ln.saArmed, a.place ≠ (be p 0 1, be p 1 1, be p 2 1, be p 3 1, be p 8 8)) :
    saRemoveCmd h p s = respond St.grateRange 72 0 [] s := by
  have absent : (s.ln.sas ++ s.ln.saArmed).any (fun a => decide (a.place = (be p 0 1, be p 1 1, be p 2 1, be p 3 1, be p 8 8))) = false := by
    simpa only [List.any_eq_false, decide_eq_true_eq] using unknown
  exact if_pos (by rw [absent]; decide)

end

/-- Settles O37: a frame meets the buffer, the lane and its row in turn, by the state of the link, the lanes and the frame's own fields;
each command taken up is its meaning on the frame's payload, refused by the first of its checks that fails. -/
theorem framesArePassedAnsweredOrDropped : Obligations.FramesArePassedAnsweredOrDropped := by
  refine ⟨fun p k f s up secured running served =>
      ⟨exec_macsecFrame_enters up secured running served, exec_macsecFrame_full up secured running⟩,
    fun p k f s stopped served => exec_macsecFrame_stopped stopped served,
    fun p f s => ⟨ingress_stopped, fun running unheld single =>
      ⟨fun n t takes => ingress_taken running unheld single takes, fun t waits => ingress_waits running unheld single waits⟩,
      fun n plain => laneRun_macsec plain⟩,
    fun p k n f s => ⟨receiveMacsec_badLength, receiveMacsec_untagged, receiveMacsec_unknown⟩,
    fun p k f s up => ⟨exec_macControlFrame_up up, fun takes unaccepted room => exec_otherFrame_dropped room takes unaccepted⟩,
    fun p k f s takes served noVlan room type request address asked =>
      exec_arpRequest_answered room takes served (arpAnswer_asked noVlan type request address asked),
    fun p k f s takes served noVlan room type icmp hops solicits address asked => ?_,
    fun h s taken => ?_,
    fun h s taken => ⟨fun known => ?_, fun unknown => ?_⟩⟩
  · obtain ⟨answer, answers⟩ := Option.isSome_iff_exists.mp (nsAnswer_asked noVlan type icmp hops solicits address asked)
    exact ⟨answer, exec_neighborSolicitation_answered room takes served answers⟩
  · rw [exec_saSet_taken taken]
    dsimp only
    split
    case isTrue role => rw [saSetCmd_otherRole role]
    case isFalse secured =>
      split
      case isTrue beyond => rw [saSetCmd_noSubport secured beyond]
      case isFalse onPort =>
        split
        case isTrue full => rw [saSetCmd_noRoom secured onPort full]
        case isFalse roomy =>
          have room : saRoom s (saSpelled h.frame.payload s) = true := eq_true_of_ne_false roomy
          split
          case h_1 fails => rw [saSetCmd_keyFails secured onPort room fails]
          case h_2 passes => rw [saSetCmd_armed secured onPort room passes, saSpelled]
  · rw [exec_saRemove_taken taken, saRemoveCmd_known known, saGoneSpelled]
  · rw [exec_saRemove_taken taken, saRemoveCmd_unknown unknown]

end Sys2Proof.Machine
end

section
/-!
PROOFS. Ports: PORT_SET, the faults and the training of links, FEC blocks, the band of the SerDes and the retrain it may start.
-/
namespace Sys2Proof.Machine
open Sys2Proof

/-! ### PORT_SET (R276, R277, R414) -/

section
variable {h : Held} {p : List Byte} {s : State}

theorem exec_portSet_taken (taken : CmdTaken 0x0801 h s) : exec .portSet s = .next (portSetCmd h h.frame.payload s) :=
  withCmd_of_taken taken

section
variable (serves : outOfService (port s (be p 0 1)) = false)
include serves

/-- ROLE OFF takes a port in service out of it. -/
theorem portSetCmd_stops (off : be p 1 1 = 0) (inRange : portRange s p = none) :
    portSetCmd h p s = respond St.ok 0 s.tick [] (setPort (be p 0 1) 1 7 (stopTraffic (be p 0 1) s)) := by
  simp only [portSetCmd, serves, off, inRange, Bool.not_false, ne_eq, not_true_eq_false, and_false, if_false, if_true]

theorem portSetCmd_forbidden (role : be p 1 1 ≠ 0) : portSetCmd h p s = respond St.stateForbids 0 0 [] s :=
  if_pos ⟨by rw [serves, Bool.not_false], role⟩

end

/-- A port configured: it is off, or FAILED for want of a lane, or it trains (R276, R277). -/
def portStarted (n role : Nat) (s : State) : State :=
  if role = 0 then setPort n 0 7 s
  else if (dirLanes s n 0).isEmpty || (dirLanes s n 1).isEmpty then setPort n 6 5 s
  else startTraining n s

@[simp] theorem portStarted_tick (n role : Nat) (s : State) : (portStarted n role s).tick = s.tick := by
  unfold portStarted
  (repeat' split) <;> simp

section
variable (out : outOfService (port s (be p 0 1)) = true)
include out

theorem portSetCmd_badField {d : Nat} (field : portRange s p = some d) : portSetCmd h p s = respond St.grateRange d 0 [] s := by
  simp only [portSetCmd, out, field, Bool.not_true, Bool.false_eq_true, false_and, if_false, refuse_eq]

/-- A record in range configures a port out of service, and the port starts as its role says. -/
theorem portSetCmd_configures (inRange : portRange s p = none) : portSetCmd h p s = respond St.ok 0 s.tick []
    (portStarted (be p 0 1) (be p 1 1) (chooseSource (modPort (be p 0 1) (fun x => newPort x p s) s))) := by
  have clock : (portStarted (be p 0 1) (be p 1 1) (chooseSource (modPort (be p 0 1) (fun x => newPort x p s) s))).tick = s.tick := by simp
  rw [← clock]
  simp only [portSetCmd, out, inRange, Bool.not_true, Bool.false_eq_true, false_and, if_false, portStarted]

end
end

/-! ### Faults of links, and their recovery (R283) -/

section
variable {p k : Nat} {l : Lnk} {s : State}

section
variable (link : lnk s p k = some l) (serves : outOfService (port s p) = false) (free : l.held = false)
include link serves free

/-- A fault takes a link that is up down, with the fault's cause. -/
theorem linkFault_up (up : l.up = true) (cause : Nat) : linkFault p k cause s = .next (linkGoesDown p k cause s) := by
  simp only [linkFault, link, serves, free, up, Bool.or_self, Bool.false_eq_true, if_false, if_true]

/-- A fault of a link that is down and idle, other than a remote one, begins its training. -/
theorem linkFault_idle {cause : Nat} (down : l.up = false) (idle : l.training = none) (own : cause ≠ 3) :
    linkFault p k cause s = .next (modLnk p k (fun l => { l with training := some s.tick, fresh := false, remote := false }) s) := by
  simp only [linkFault, link, serves, free, down, idle, own, Option.isNone_none, ne_eq, not_false_eq_true, and_self, Bool.or_self,
    Bool.false_eq_true, if_false, if_true]

/-- A link that has held its alignment for 2^12 ticks is up. -/
theorem exec_linkUp_aligned (down : l.up = false) (idle : l.training = none) (due : l.since + 2 ^ 12 ≤ s.tick) :
    exec (.linkUp p k) s = .next (portFromLinks p 0 (modLnk p k (fun l => { l with up := true, remote := false }) s)) := by
  show execLinkUp p k s = _
  simp only [execLinkUp, link, serves, free, down, idle, decide_eq_false (Nat.not_lt.mpr due), Option.isSome_none, Bool.or_self,
    Bool.false_eq_true, if_false]

end

/-! ### The end of a training (R277, R280) -/

section
variable {t : Nat} (link : lnk s p k = some l) (training : l.training = some t) (serves : outOfService (port s p) = false)
include link training serves

/-- A training that ends in time stores the band's settings and brings its first link up. -/
theorem exec_trainingEnd_inTime (inTime : s.tick < t + 2 ^ 17) : exec (.trainingEnd p k true) s = .next (portFromLinks p 0
    (modLnk p k (fun l => { l with training := none, since := s.tick, up := l.fresh, fresh := false })
      (modPort p (fun x =>
        { x with cal := x.cal ||| 2 ^ s.tk.band, sdCons := false, band := s.tk.band, trainTick := s.tick, pend := false }) s))) := by
  show execTrainingEnd p k true s = _
  simp only [execTrainingEnd, link, training, serves, inTime, decide_true, Bool.and_self, Bool.false_eq_true, if_false, if_true]
  rfl

/-- A training that has run 2^17 ticks fails, however it ends. -/
theorem exec_trainingEnd_late (late : t + 2 ^ 17 ≤ s.tick) (ok : Bool) : exec (.trainingEnd p k ok) s = .next (linkGoesDown p k 6 s) := by
  show execTrainingEnd p k ok s = _
  simp only [execTrainingEnd, link, training, serves, Nat.not_lt.mpr late, decide_false, Bool.and_false, Bool.false_eq_true, if_false]

end

/-! ### FEC blocks (R283) -/

/-- The uncorrectable blocks of a link in the last 2^16 ticks. -/
def fecRecent (l : Lnk) (s : State) : List Nat := l.fecTicks.filter (fun t => decide (s.tick < t + 2 ^ 16))

section
variable (up : linkUp s p k = true) (link : lnk s p k = some l)
include up link

/-- A block is counted, and its tick is kept. -/
theorem exec_fecUncorrectable_few (few : (fecRecent l s).length < 16) : exec (.fecUncorrectable p k) s = .next
    (modLnk p k (fun x => { x with fecTicks := fecRecent l s ++ [s.tick] })
      (modCnt p (fun c => { c with fecUncorr := satAdd 32 c.fecUncorr 1 }) s)) := by
  have quiet : ¬16 < (fecRecent l s ++ [s.tick]).length := by
    rw [List.length_append, List.length_singleton]
    omega
  unfold fecRecent at quiet
  show execFecUncorrectable p k s = _
  simp only [execFecUncorrectable, up, link, Option.map_some, Option.getD_some, if_neg quiet, Bool.not_true, Bool.false_eq_true, if_false,
    fecRecent]

/-- A block above 16 in 2^16 ticks posts the notice and begins the count afresh. -/
theorem exec_fecUncorrectable_many (many : 16 ≤ (fecRecent l s).length) : exec (.fecUncorrectable p k) s = .next
    (note 0x0B02 1 p k 0 (modLnk p k (fun x => { x with fecTicks := [] })
      (modCnt p (fun c => { c with fecUncorr := satAdd 32 c.fecUncorr 1 }) s))) := by
  have above : 16 < (fecRecent l s ++ [s.tick]).length := by
    rw [List.length_append, List.length_singleton]
    omega
  unfold fecRecent at above
  show execFecUncorrectable p k s = _
  simp only [execFecUncorrectable, up, link, Option.map_some, Option.getD_some, if_pos above, Bool.not_true, Bool.false_eq_true, if_false]

end
end

/-! ### The band of the SerDes (R281) -/

/-- A write of a value that is listed leaves every other key alone, in any table. -/
theorem tget_set_other_of_ne {α : Type} [DecidableEq α] {d v : α} {i j : Nat} (listed : v ≠ d) (other : i ≠ j) (t : Tbl α) :
    tget d (tset d t j v) i = tget d t i := by
  rw [tget, tset, if_neg listed, tblGet_put_other other, tget]

/-- A change of one port leaves another alone, where what it leaves is listed. -/
theorem port_modPort_other {p q : Nat} {f : Port → Port} {s : State} (other : q ≠ p) (listed : f (port s p) ≠ {}) :
    port (modPort p f s) q = port s q := tget_set_other_of_ne listed other s.pt.ports

/-- A port with settings stored for a band is no port as it stands at start. -/
theorem ne_default_of_cal {x : Port} {b : Nat} (stored : bitOf x.cal b = true) : x ≠ {} := by
  rintro rfl
  simp [bitOf] at stored

section
variable {t : Nat} {s : State} (due : t + 4 ≤ s.tick)
include due

/-- The next lane is due 4 ticks after the one before. -/
theorem not_serdesEarly : ¬s.tick < t + (if s.pt.serdesLane = 0 then 0 else 4) := by split <;> omega

variable (under : s.pt.serdesAt = some t)
include under

variable (more : s.pt.serdesLane < 127)
include more

/-- A lane that is not the last of its port takes the band, and the port has it not yet. -/
theorem exec_serdesBandApply_lane (inner : s.pt.serdesLane % 8 ≠ 7) :
    exec .serdesBandApply s = .next { s with pt.serdesAt := some s.tick, pt.serdesLane := s.pt.serdesLane + 1 } := by
  have next : (s.pt.serdesLane + 1) % 128 = s.pt.serdesLane + 1 := by omega
  show execSerdesBandApply s = _
  simp only [execSerdesBandApply, under, if_neg (not_serdesEarly due), inner, false_and, if_false, Nat.ne_of_lt more, next]

/-- The last lanes of a port of each die take the band, and both ports have it. -/
theorem exec_serdesBandApply_port (last : s.pt.serdesLane % 8 = 7) (lower : bitOf (port s (s.pt.serdesLane / 8)).cal s.tk.band = true)
    (upper : bitOf (port s (16 + s.pt.serdesLane / 8)).cal s.tk.band = true) :
    exec .serdesBandApply s = .next
      (let u := modPort (16 + s.pt.serdesLane / 8) (fun x => { x with band := s.tk.band })
        (modPort (s.pt.serdesLane / 8) (fun x => { x with band := s.tk.band }) s)
       { u with pt.serdesAt := some s.tick, pt.serdesLane := s.pt.serdesLane + 1 }) := by
  have next : (s.pt.serdesLane + 1) % 128 = s.pt.serdesLane + 1 := by omega
  have kept : port (modPort (s.pt.serdesLane / 8) (fun x => { x with band := s.tk.band }) s) (16 + s.pt.serdesLane / 8) =
      port s (16 + s.pt.serdesLane / 8) := port_modPort_other (by omega) (ne_default_of_cal lower)
  have upper' : bitOf (port (modPort (s.pt.serdesLane / 8) (fun x => { x with band := s.tk.band }) s) (16 + s.pt.serdesLane / 8)).cal
      (modPort (s.pt.serdesLane / 8) (fun x => { x with band := s.tk.band }) s).tk.band = true := by rw [kept]; exact upper
  show execSerdesBandApply s = _
  simp only [execSerdesBandApply, under, if_neg (not_serdesEarly due), last, lower, upper', and_self, if_true, if_false,
    Nat.ne_of_lt more, next]
  rfl

end

/-! ### A retrain after a new band (R282) -/

/-- A port that waits for it retrains 2^20 ticks after the band changed, while no other of its die trains and UTC is not from it. -/
theorem exec_autoRetrainStart_due {p : Nat} {s : State} (pending : (port s p).pend = true) (auto : (port s p).auto = true)
    (serves : outOfService (port s p) = false) (due : s.tk.bandTick + 2 ^ 20 ≤ s.tick)
    (alone : ∀ q ∈ s.pt.ports, q.1 ≠ p → q.1 / 16 = p / 16 → q.2.state ≠ 2) (source : s.pt.source ≠ some p) :
    exec (.autoRetrainStart p) s = .next (startTraining p (stopTraffic p s)) := by
  have noOther : s.pt.ports.any (fun q => decide (q.1 ≠ p ∧ q.1 / 16 = p / 16 ∧ q.2.state = 2)) = false := by
    rw [List.any_eq_false]
    intro q mem training
    obtain ⟨other, die, trains⟩ := of_decide_eq_true training
    exact alone q mem other die trains
  exact whenOk_true (by
    simp only [pending, auto, serves, noOther, decide_eq_true due, decide_eq_true source, Bool.not_false, Bool.and_self])

/-- Settles O36: PORT_SET by whether the port is in service and its fields are in range; then each event of a link by the link's own
fields, and the band's lanes and retrain by theirs. -/
theorem portsAreSetTrainedAndFail : Obligations.PortsAreSetTrainedAndFail := by
  refine ⟨fun h s taken => ?_, fun p k l s link serves free => ?_, fun p k t l s link training serves => ?_,
    fun p k l s up link => ?_, fun t s under due more => ?_, fun p s pending auto serves due alone source => ?_⟩
  · rw [exec_portSet_taken taken]
    refine ⟨fun serves => ⟨fun off inRange => ?_, fun role => ?_⟩, fun out => ⟨fun d field => ?_, fun inRange => ?_⟩⟩
    · rw [portSetCmd_stops serves off inRange]
    · rw [portSetCmd_forbidden serves role]
    · rw [portSetCmd_badField out field]
    · rw [portSetCmd_configures out inRange]
      rfl
  · refine ⟨fun up => ?_, fun down idle => ?_, fun down idle due => exec_linkUp_aligned link serves free down idle due⟩
    · exact ⟨linkFault_up link serves free up 1, linkFault_up link serves free up 2, linkFault_up link serves free up 3⟩
    · rw [List.forall_mem_cons, List.forall_mem_singleton]
      exact ⟨linkFault_idle link serves free down idle (by decide), linkFault_idle link serves free down idle (by decide)⟩
  · exact ⟨exec_trainingEnd_inTime link training serves, exec_trainingEnd_late link training serves⟩
  · exact ⟨exec_fecUncorrectable_few up link, exec_fecUncorrectable_many up link⟩
  · exact ⟨exec_serdesBandApply_lane due under more, exec_serdesBandApply_port due under more⟩
  · exact exec_autoRetrainStart_due pending auto serves due alone source

end Sys2Proof.Machine
end

section
/-!
PROOFS. Messages of endpoints: the header pass, the tag pass and the replay check, what each type then meets, and responses.
-/
namespace Sys2Proof.Machine
open Sys2Proof

/-! ### The header pass (R285, R289, R293 checks 1 and 2) -/

/-- What follows the header pass: nothing, the ingress buffer moving on, or what the row does with a datagram without protection. -/
def afterHeader (p : Nat) (g : Nat → Ep → State → State) : Arrived → State
  | .dropped t => t
  | .clear e x t => g e x t
  | .held t => ingress p t

/-- A datagram for a sub-port that takes frames meets the header pass, by the row of its TYPE. -/
theorem tpcRow_takes {types : Nat → Bool} {p k : Nat} {f src d : List Byte} {s : State}
    {g : List Byte → List Byte → Nat → Ep → State → State} (takes : termTakes s p k = true) (datagram : tpcOf s p k f = some (src, d))
    (type : types (be d 1 1) = true) : tpcRow types p k f s g = .next (afterHeader p (g src d) (arrive p k src d s)) := by
  have row : ¬((!termTakes s p k) = true ∨ types (be d 1 1) = false) := by simp [takes, type]
  simp only [tpcRow, datagram, if_neg row]
  cases arrive p k src d s <;> rfl

section
variable {p k : Nat} {f src d : List Byte} {s : State} (takes : termTakes s p k = true) (datagram : tpcOf s p k f = some (src, d))
include takes datagram

/-- A protected message enters the ingress buffer: its row does nothing more. -/
theorem exec_protectedRow_takes :
    ∀ c ∈ [(0x10, Instr.tpcRequest p k f), (0x14, .tpcReply p k f), (0x20, .tpcKeepalive p k f), (0x21, .tpcClose p k f)],
    be d 1 1 = c.1 → exec c.2 s = .next (afterHeader p (fun _ _ t => t) (arrive p k src d s)) := by
  have row {c : Nat} (type : be d 1 1 = c) : tpcRow (fun t => decide (t = c)) p k f s (fun _ _ _ _ s => s) =
      .next (afterHeader p (fun _ _ t => t) (arrive p k src d s)) := tpcRow_takes takes datagram (decide_eq_true type)
  intro c mem type
  simp only [List.mem_cons, List.not_mem_nil, or_false] at mem
  obtain rfl | rfl | rfl | rfl := mem <;> exact row type

theorem exec_tpcOtherType_takes (type : be d 1 1 ∉ [0x01, 0x10, 0x14, 0x20, 0x21]) :
    exec (.tpcOtherType p k f) s = .next (afterHeader p
      (fun _ x t => refuseEarly (infoOf t p x (octets d 0 32)) (headerNote d) St.grateRange 0 65535 t) (arrive p k src d s)) :=
  tpcRow_takes takes datagram (types := fun t => decide (t ∉ [0x01, 0x10, 0x14, 0x20, 0x21])) (decide_eq_true type)

theorem exec_tpcHello_takes (type : be d 1 1 = 0x01) :
    exec (.tpcHello p k f) s = .next (afterHeader p (helloTaken p k src d) (arrive p k src d s)) :=
  tpcRow_takes takes datagram (types := fun t => decide (t = 0x01)) (decide_eq_true type)

end

/-! ### The tag pass and the replay check (R293 checks 2 to 4, R294) -/

section
variable {p n : Nat} {f : InFrame} {s : State}

/-- A datagram goes through the tag pass of its lane. -/
theorem laneRun_datagram (tpc : f.tpc = true) : laneRun p n f s = tagPass p n f s := if_pos tpc

section
variable {x : Ep} {new : Bool} {set : KeySet} (session : sessionOf s p f.data = some (x, some (new, set)))
include session

/-- A tag that does not verify is counted by the lane. -/
theorem tagPass_forged (forged : Config.gcmOpen set.kem (set.sem ++ octets f.data 8 8) (octets f.data 0 32) (f.data.drop 32) = none) :
    tagPass p n f s = modLane n (fun l => { l with icvFail := satAdd 32 l.icvFail 1 }) s := by
  simp only [tagPass, session, forged]

section
variable {body : List Byte} (opens : Config.gcmOpen set.kem (set.sem ++ octets f.data 8 8) (octets f.data 0 32) (f.data.drop 32) = some body)
include opens

/-- A SEQ that is not new is counted by the port. -/
theorem tagPass_replayed (replayed : set.accept (be f.data 8 8) = none) :
    tagPass p n f s = modCnt p (fun c => { c with tpcReplay := satAdd 32 c.tpcReplay 1 }) (laneFrame n f.data.length body.length s) := by
  simp only [tagPass, session, opens, replayed]

/-- A message verified moves its session on, sends what was held for its endpoint where it may be sent, and goes by its type. -/
theorem tagPass_verified {next : KeySet} (fresh : set.accept (be f.data 8 8) = some next) :
    tagPass p n f s =
      (let v := verified (be f.data 4 4) p f new next (laneFrame n f.data.length body.length s)
       opened (be f.data 4 4) p (octets f.data 0 32) (octets body 0 (be f.data 18 2)) (if v.1 then sendHeld (be f.data 4 4) v.2 else v.2)) := by
  simp only [tagPass, session, opens, fresh]

end
end
end

/-! ### An opened message, by its type (R293 check 5, R303) -/

section
variable {e p : Nat} {h body : List Byte} {s : State}

theorem opened_message (type : be h 1 1 = 0x10 ∨ be h 1 1 = 0x14) : opened e p h body s = messagePass e p h body s := by
  rcases type with request | reply
  · simp only [opened, request]
  · simp only [opened, reply]

theorem opened_keepalive (type : be h 1 1 = 0x20) : opened e p h body s = keepalive e p h s := by simp only [opened, type]

theorem opened_close (type : be h 1 1 = 0x21) : opened e p h body s = closed e p h s := by simp only [opened, type]

theorem opened_other (type : be h 1 1 ∉ [0x10, 0x14, 0x20, 0x21]) : opened e p h body s = otherType e p h s := by
  simp only [List.mem_cons, List.not_mem_nil, or_false, not_or] at type
  obtain ⟨noRequest, noReply, noKeepalive, noClose⟩ := type
  unfold opened
  split
  case h_1 request => exact absurd request noRequest
  case h_2 reply => exact absurd reply noReply
  case h_3 keepalive => exact absurd keepalive noKeepalive
  case h_4 close => exact absurd close noClose
  case h_5 => rfl

/-- A type no endpoint may send is refused. -/
theorem otherType_loaded {x : Ep} (loaded : ep s e = some x) :
    otherType e p h s = refuseEarly (infoOf s p x h) (headerNote h) St.grateRange 0 65535 s := by
  simp only [otherType, loaded]

end

/-! ### Responses (R34, R304, R305) -/

section
variable {m : OutMsg} {s : State}

/-- A response is sent or held once its endpoint is unreachable or the egress has room for it. -/
theorem exec_responseReady_taken {id : Nat} (ready : tblGet s.pt.ready id = some m) (room : reachable s m.ep = false ∨ outRoom s m = true) :
    exec (.responseReady id) s = .next (deliverOrHold m { s with pt.ready := tblDel s.pt.ready id }) := by
  have taken : ¬(reachable s m.ep && !outRoom s m) = true := by rcases room with away | room <;> simp [*]
  show execResponseReady id s = _
  simp only [execResponseReady, ready, if_neg taken]

/-- A response held past its window is discarded. -/
theorem exec_resumeWindowEnd_due {e : Nat} (held : s.pt.held.find? (fun m => decide (m.ep = e)) = some m) (due : m.since + 2 ^ 16 ≤ s.tick) :
    exec (.resumeWindowEnd e) s = .next (discardOut m { s with pt.held := s.pt.held.erase m }) := by
  show execResumeWindowEnd e s = _
  simp only [execResumeWindowEnd, held, whenOk_true (decide_eq_true due)]

end

/-- Settles O38: a datagram meets the header pass by its row, a protected one the tag pass and the replay check, an opened one what its
type is for; a response leaves or is held by whether its endpoint can be sent to. -/
theorem endpointMessagesAreOpenedAndPassed : Obligations.EndpointMessagesAreOpenedAndPassed := by
  refine ⟨fun p k f src d s takes datagram => ⟨?_, fun type => ?_, fun type => ?_⟩,
    fun p n f x new set s tpc session => ?_,
    fun e p h body s => ⟨opened_message, opened_keepalive, opened_close,
      fun x type loaded => (opened_other type).trans (otherType_loaded loaded)⟩,
    fun id m s ready room => exec_responseReady_taken ready room,
    fun e m s held due => exec_resumeWindowEnd_due held due⟩
  · intro c row type
    rw [exec_protectedRow_takes takes datagram c row type]
    cases arrive p k src d s <;> rfl
  · rw [exec_tpcOtherType_takes takes datagram type]
    cases arrive p k src d s <;> rfl
  · rw [exec_tpcHello_takes takes datagram type]
    cases arrive p k src d s <;> rfl
  · rw [laneRun_datagram tpc]
    exact ⟨tagPass_forged session, fun body opens => ⟨tagPass_replayed session opens, fun next fresh => tagPass_verified session opens fresh⟩⟩

end Sys2Proof.Machine
end

section
/-!
PROOFS. Endpoints: EP_LOAD, EP_REMOVE and EP_QUERY, the end of a handshake, and the timers of a session.
-/
namespace Sys2Proof.Machine
open Sys2Proof

/-! ### EP_LOAD (R296, R297, R414) -/

section
variable {h : Held} {p : List Byte} {s : State}

theorem exec_epLoad_taken (taken : CmdTaken 0x0804 h s) : exec .epLoad s = .next (epLoadCmd h h.frame.payload s) := withCmd_of_taken taken

theorem exec_epRemove_taken (taken : CmdTaken 0x0805 h s) : exec .epRemove s = .next (epRemoveCmd h h.frame.payload s) :=
  withCmd_of_taken taken

theorem exec_epQuery_taken (taken : CmdTaken 0x0806 h s) : exec .epQuery s = .next (epQueryCmd h h.frame.payload s) :=
  withCmd_of_taken taken

theorem epLoadCmd_loaded (loaded : ep s (be p 0 4) ≠ none) : epLoadCmd h p s = respond St.stateForbids 0 0 [] s :=
  if_pos (Option.isSome_iff_ne_none.mpr loaded)

/-- What a certificate that EP_LOAD carries reads as under its anchor (R297). -/
def certGiven (p : List Byte) (s : State) : Option (Bool × Nat × Nat × Bool × List Byte) :=
  let anchor := (keyRead s (be p 8 4)).rec_
  Config.certRead (be p 7 1) anchor.type anchor.material (octets p 32 (be p 16 2))

/-- The endpoint EP_LOAD spells, with the hash of its key and its last second. -/
def epSpelled (p : List Byte) (spki : List Byte) (notAfter : Nat) : Ep :=
  { domain := be p 4 2, topOk := bitOf (be p 6 1) 0, baseOk := bitOf (be p 6 1) 1, alg := be p 7 1, anchor := be p 8 4, mask := be p 12 4,
    spki := Config.sha384 spki, notAfter }

section
variable (fresh : ep s (be p 0 4) = none)
include fresh

theorem epLoadCmd_badAnchor (anchor : anchorOk s (be p 4 2) (be p 8 4) = false) : epLoadCmd h p s = respond St.certRejected 4 0 [] s := by
  simp only [epLoadCmd, fresh, anchor, Option.isSome_none, Bool.not_false, Bool.false_eq_true, if_false, if_true, refuse_eq]

section
variable (anchor : anchorOk s (be p 4 2) (be p 8 4) = true)
include anchor

theorem epLoadCmd_noTime (untimed : s.tk.utcValid = false) : epLoadCmd h p s = respond St.certRejected 5 0 [] s := by
  simp only [epLoadCmd, fresh, anchor, untimed, Option.isSome_none, Bool.not_true, Bool.not_false, Bool.false_eq_true, if_false, if_true,
    refuse_eq]

section
variable (timed : s.tk.utcValid = true)
include timed

theorem epLoadCmd_unread (unread : certGiven p s = none) : epLoadCmd h p s = respond St.certRejected 1 0 [] s := by
  unfold certGiven at unread
  simp only [epLoadCmd, fresh, anchor, timed, unread, Option.isSome_none, Bool.not_true, Bool.false_eq_true, if_false, refuse_eq]

/-- A certificate that reads is refused for its signature, its dates or its fit, in this order, or the endpoint is loaded. -/
theorem epLoadCmd_read {sig fits : Bool} {nb na : Nat} {spki : List Byte} (reads : certGiven p s = some (sig, nb, na, fits, spki)) :
    epLoadCmd h p s =
      if sig = false then respond St.certRejected 1 0 [] s
      else if utcSeconds s < (nb : Int) ∨ (na : Int) < utcSeconds s then respond St.certRejected 2 0 [] s
      else if fits = false then respond St.certRejected 3 0 [] s
      else respond St.ok 0 s.tick [] { s with pt.eps := tblPut s.pt.eps (be p 0 4) (epSpelled p spki na) } := by
  unfold certGiven at reads
  simp only [epLoadCmd, fresh, anchor, timed, reads, Option.isSome_none, Bool.not_true, Bool.not_eq_true', Bool.false_eq_true, if_false,
    refuse_eq, epSpelled]

end
end
end

/-! ### EP_REMOVE (R296, R303, R305) -/

/-- What is held for an endpoint is discarded. -/
def heldDiscarded (e : Nat) (s : State) : State :=
  (s.pt.held.filter (fun m => decide (m.ep = e))).foldl (fun s m => discardOut m s)
    { s with pt.held := s.pt.held.filter (fun m => decide (m.ep ≠ e)) }

theorem epRemoveCmd_unknown (unknown : ep s (be p 0 4) = none) : epRemoveCmd h p s = respond St.grateRange 64 0 [] s :=
  if_pos (Option.isNone_iff_eq_none.mpr unknown)

/-- A loaded endpoint's session ends, what is held for it is discarded, and it is removed. -/
theorem epRemoveCmd_loaded (loaded : ep s (be p 0 4) ≠ none) : epRemoveCmd h p s =
    (let u := heldDiscarded (be p 0 4) (closeSession (be p 0 4) s)
     respond St.ok 0 u.tick [] { u with pt.eps := tblDel u.pt.eps (be p 0 4) }) :=
  if_neg (fun unknown => loaded (Option.isNone_iff_eq_none.mp unknown))

end

/-! ### The end of a handshake (R30, R301 steps 4 to 6) -/

section
variable {e id : Nat} {x : Ep} {s : State} (loaded : ep s e = some x)
include loaded

/-- A sample point after its work, a handshake is accepted, or rejected where its checks fail. -/
theorem exec_handshakeDone_due {w : Work} {h : Hello} {t : Nat} (asked : handshakeWork s e = some (id, w)) (hello : x.hello = some h)
    (done : h.done = some t) (due : t < s.tick) : exec (.handshakeDone e) s = .next
      (let t := dropWork id (countUsage id s)
       if handshakeOk t x h = true then acceptHello e x h (countStatus (finalStatus w 0) t)
       else sendReject e h St.certRejected 0 (workDisp t w 0) (modEp e (fun x => { x with hello := none }) t)) := by
  have ready : x.hello.filter (fun h => h.done.any (fun t => decide (t < s.tick))) = some h := by simp [hello, done, due]
  show execHandshakeDone e s = _
  simp only [execHandshakeDone, loaded, asked, ready]
  split <;> rfl

/-! ### Session timers (R302, R303) -/

/-- A change of a loaded endpoint is by what it does to that endpoint's record. -/
theorem modEp_congr {f g : Ep → Ep} (same : f x = g x) : modEp e f s = modEp e g s := by
  simp only [modEp, loaded, same]

theorem exec_acceptTimeout_due (accepting : x.state = 2) (due : x.acceptAt + 2 ^ 16 ≤ s.tick) : exec (.acceptTimeout e) s =
    .next (modEp e (fun x => { x with next := none, nextSrc := none, state := if x.cur.isSome then x.back else 1 }) s) := by
  show execAcceptTimeout e s = _
  simp only [execAcceptTimeout, loaded, whenOk_true (decide_eq_true (And.intro accepting due))]

section
variable (silent : x.lastRx + 2 ^ (port s x.port).idleLog ≤ s.tick)
include silent

/-- A silent session becomes dormant, or the old session of an endpoint that accepts another. -/
theorem exec_sessionIdleTimeout_due (active : x.state = 3 ∨ (x.state = 2 ∧ x.back = 3)) : exec (.sessionIdleTimeout e) s =
    .next (modEp e (fun x => if x.state = 3 then { x with state := 4, dormantAt := s.tick } else { x with back := 4, dormantAt := s.tick }) s) := by
  show execSessionIdleTimeout e s = _
  simp only [execSessionIdleTimeout, loaded, whenOk_true (decide_eq_true (And.intro active silent))]

theorem exec_sessionIdleTimeout_established (established : x.state = 3) : exec (.sessionIdleTimeout e) s =
    .next (modEp e (fun x => { x with state := 4, dormantAt := s.tick }) s) :=
  (exec_sessionIdleTimeout_due loaded silent (.inl established)).trans (congrArg _ (modEp_congr loaded (if_pos established)))

theorem exec_sessionIdleTimeout_accepting (accepting : x.state = 2) (old : x.back = 3) : exec (.sessionIdleTimeout e) s =
    .next (modEp e (fun x => { x with back := 4, dormantAt := s.tick }) s) :=
  (exec_sessionIdleTimeout_due loaded silent (.inr ⟨accepting, old⟩)).trans (congrArg _ (modEp_congr loaded (if_neg (by omega))))

end

section
variable (due : x.dormantAt + 2 ^ 24 ≤ s.tick)
include due

/-- A dormant session ends, or the old session of an endpoint that accepts another. -/
theorem exec_dormantTimeout_due (dormant : x.state = 4 ∨ (x.state = 2 ∧ x.back = 4)) : exec (.dormantTimeout e) s =
    .next (modEp e (fun x => if x.state = 4 then x.idle else { x with cur := none, back := 1 }) s) := by
  show execDormantTimeout e s = _
  simp only [execDormantTimeout, loaded, whenOk_true (decide_eq_true (And.intro dormant due))]

theorem exec_dormantTimeout_dormant (dormant : x.state = 4) : exec (.dormantTimeout e) s = .next (modEp e Ep.idle s) :=
  (exec_dormantTimeout_due loaded due (.inl dormant)).trans (congrArg _ (modEp_congr loaded (if_pos dormant)))

theorem exec_dormantTimeout_accepting (accepting : x.state = 2) (old : x.back = 4) : exec (.dormantTimeout e) s =
    .next (modEp e (fun x => { x with cur := none, back := 1 }) s) :=
  (exec_dormantTimeout_due loaded due (.inr ⟨accepting, old⟩)).trans (congrArg _ (modEp_congr loaded (if_neg (by omega))))

end

theorem exec_certExpiry_due (timed : s.tk.utcValid = true) (session : 2 ≤ x.state) (expired : (x.notAfter : Int) < utcSeconds s) :
    exec (.certExpiry e) s = .next (closeSession e s) := by
  show execCertExpiry e s = _
  simp only [execCertExpiry, loaded]
  exact whenOk_true (by simp only [timed, decide_eq_true session, decide_eq_true expired, Bool.and_self])

end

/-- Settles O39: the commands taken up are their meanings on the frame's payload, EP_LOAD by the first of its checks that fails; each event of
a session acts in the states and at the ticks it is for. -/
theorem endpointsAreLoadedAndTheirSessionsEnd : Obligations.EndpointsAreLoadedAndTheirSessionsEnd := by
  refine ⟨fun h s taken fresh => ?_, fun h s taken loaded => ?_, fun h s taken => ⟨fun unknown => ?_, fun loaded => ?_⟩, fun h s taken => ?_,
    fun e id x w h s loaded asked hello done => ?_, fun e x s loaded => ?_⟩
  · rw [exec_epLoad_taken taken]
    dsimp only
    split
    case isTrue anchor => rw [epLoadCmd_badAnchor fresh anchor]
    case isFalse anchored =>
      have anchor := eq_true_of_ne_false anchored
      split
      case isTrue untimed => rw [epLoadCmd_noTime fresh anchor untimed]
      case isFalse clocked =>
        have timed := eq_true_of_ne_false clocked
        split
        case h_1 unread => rw [epLoadCmd_unread fresh anchor timed unread]
        case h_2 sig nb na fits spki reads => rw [epLoadCmd_read fresh anchor timed reads, epSpelled]
  · rw [exec_epLoad_taken taken, epLoadCmd_loaded loaded]
  · rw [exec_epRemove_taken taken, epRemoveCmd_unknown unknown]
  · rw [exec_epRemove_taken taken, epRemoveCmd_loaded loaded]
    rfl
  · rw [exec_epQuery_taken taken, epQueryCmd]
  · obtain ⟨t, ended, due⟩ := done
    exact exec_handshakeDone_due loaded asked hello ended due
  · exact ⟨exec_acceptTimeout_due loaded, fun established silent => exec_sessionIdleTimeout_established loaded silent established,
      fun accepting old silent => exec_sessionIdleTimeout_accepting loaded silent accepting old,
      fun dormant due => exec_dormantTimeout_dormant loaded due dormant,
      fun accepting old due => exec_dormantTimeout_accepting loaded due accepting old, exec_certExpiry_due loaded⟩

end Sys2Proof.Machine
end

section
/-!
PROOFS. PTP: a message of a row, announcements, Syncs, exchanges and what ends them, loss of lock, PTP_SET.
-/
namespace Sys2Proof.Machine
open Sys2Proof

/-! ### An exchange and a master's time (R311) -/

section
variable {p : Nat} {d : List Byte} {s : State} {g : PtpIn → State} (sender : (port s p).ptp.master = some (senderOf d))
  (seq : (port s p).ptp.seq = be d 30 2) (under : (port s p).ptp.t2 ≠ none)
include sender seq under

/-- A message of the followed master that names the exchange under way is of it. -/
theorem of_exchange : ¬((port s p).ptp.master ≠ some (senderOf d) ∨ (port s p).ptp.seq ≠ be d 30 2 ∨ (port s p).ptp.t2.isNone = true) := by
  simp [sender, seq, under]

theorem inExchange_inTime (inTime : s.tick ≤ (port s p).ptp.exTick + 2 ^ 12) : inExchange p d s g = g (port s p).ptp :=
  (if_neg (of_exchange sender seq under)).trans (if_neg (Nat.not_lt.mpr inTime))

theorem inExchange_late (late : (port s p).ptp.exTick + 2 ^ 12 < s.tick) : inExchange p d s g = ptpReject p (modPtp p PtpIn.clear s) :=
  (if_neg (of_exchange sender seq under)).trans (if_pos late)

end

/-- A master whose origin moves gives its time, and the delay is asked for. -/
theorem masterTime_moving {p : Nat} {origin correction : Int} {s : State} (moving : (originSeen p origin s).1 = false) :
    masterTime p origin correction s = sendDelayReq p
      (modPtp p (fun x => { x with t1 := some (origin + correction), followUp := false, exTick := s.tick }) (originSeen p origin s).2) :=
  if_neg (by simp [moving])

/-! ### A message of a row (R285, R310, R311) -/

section
variable {p k via : Nat} {f d : List Byte} {s u : State} (takes : ptpTakes s p k = true) (message : ptpOf s p k f = some (via, d))
  (received : u = rxFrame p f.length s) (room : inRoom (port u p) ⟨k, false, [], f, f.length, s.tick⟩ = true)
include takes message received room

section
variable {type : Nat} {g : Nat → List Byte → State → State} (row : be d 0 1 % 16 = type)
include row

/-- A message that found room is judged by its form and its domain. -/
theorem ptpRow_takes : ptpRow type p k f s g = .next (if !ptpGood type d ∨ be d 4 1 ≠ u.pt.ptpDomain then ptpReject p u else g via d u) := by
  subst received
  have acts : (ptpTakes s p k && decide (be d 0 1 % 16 = type)) = true := by simp [takes, row]
  simp only [ptpRow, message, whenOk_true acts, inMeets_room ⟨k, false, [], f, f.length, s.tick⟩ room]

theorem ptpRow_rejects (bad : ptpGood type d = false ∨ be d 4 1 ≠ s.pt.ptpDomain) : ptpRow type p k f s g = .next (ptpReject p u) := by
  have domain : u.pt.ptpDomain = s.pt.ptpDomain := by rw [received]; rfl
  rw [ptpRow_takes takes message received room row, domain, if_pos (bad.imp_left (fun bad => by rw [bad, Bool.not_false]))]

theorem ptpRow_serves (good : ptpGood type d = true) (same : be d 4 1 = s.pt.ptpDomain) : ptpRow type p k f s g = .next (g via d u) := by
  have domain : u.pt.ptpDomain = s.pt.ptpDomain := by rw [received]; rfl
  rw [ptpRow_takes takes message received room row, domain, if_neg (by simp [good, same])]

end

/-- A message that is malformed or of another domain is rejected, whatever its type. -/
theorem exec_ptp_rejects (t : Int) :
    ∀ c ∈ [(0, Instr.ptpSync p k f t), (8, .ptpFollowUp p k f), (9, .ptpDelayResp p k f t), (11, .ptpAnnounce p k f)],
    be d 0 1 % 16 = c.1 → (ptpGood c.1 d = false ∨ be d 4 1 ≠ s.pt.ptpDomain) → exec c.2 s = .next (ptpReject p u) := by
  intro c mem row bad
  simp only [List.mem_cons, List.not_mem_nil, or_false] at mem
  obtain rfl | rfl | rfl | rfl := mem <;> exact ptpRow_rejects takes message received room row bad

section
variable (same : be d 4 1 = s.pt.ptpDomain) (sender : (port u p).ptp.master = some (senderOf d))
include same sender

/-- An announcement of the followed master renews its quality, its interval and its offset (R310). -/
theorem exec_ptpAnnounce_followed (row : be d 0 1 % 16 = 11) (good : ptpGood 11 d = true) :
    exec (.ptpAnnounce p k f) s = .next (modPtp p (fun _ => { (port u p).ptp with
      quality := qualityOf d, interval := announceTicks (signedAt d 33 1), heard := u.tick
      utcOff := if bitOf (be d 7 1) 3 then signedAt d 44 2 * 10 ^ 9 else 0 }) u) := by
  show execPtpAnnounce p k f s = _
  rw [execPtpAnnounce, ptpRow_serves takes message received room row good same]
  dsimp only
  rw [if_pos sender, sender]

/-- A two-step Sync of the master starts an exchange (R311). -/
theorem exec_ptpSync_twoStep {t : Int} (row : be d 0 1 % 16 = 0) (good : ptpGood 0 d = true) (twoStep : bitOf (be d 6 1) 1 = true) :
    exec (.ptpSync p k f t) s = .next (modPtp p (fun x => { x.clear with
      heard := u.tick, seq := be d 30 2, t2 := some t, followUp := true, exTick := u.tick, via, sub := k, corr := correctionOf d }) u) := by
  show execPtpSync p k f t s = _
  rw [execPtpSync, ptpRow_serves takes message received room row good same]
  simp only [sender, twoStep, ne_eq, not_true_eq_false, if_false, if_true]

section
variable (seq : (port u p).ptp.seq = be d 30 2) (under : (port u p).ptp.t2 ≠ none)
include seq under

section
variable (inTime : u.tick ≤ (port u p).ptp.exTick + 2 ^ 12)
include inTime

/-- A Follow_Up that the exchange waits for gives the time of its Sync. -/
theorem exec_ptpFollowUp_awaited (row : be d 0 1 % 16 = 8) (good : ptpGood 8 d = true) (awaited : (port u p).ptp.followUp = true) :
    exec (.ptpFollowUp p k f) s = .next (masterTime p (stampAt d 34) ((port u p).ptp.corr + correctionOf d) u) := by
  show execPtpFollowUp p k f s = _
  rw [execPtpFollowUp, ptpRow_serves takes message received room row good same, inExchange_inTime sender seq under inTime, if_pos awaited]

/-- A Delay_Resp to the module completes the exchange: the port locks, and UTC follows it where it is the source. -/
theorem exec_ptpDelayResp_completes {t t1 t2 : Int} (row : be d 0 1 % 16 = 9) (good : ptpGood 9 d = true)
    (origin : (port u p).ptp.t1 = some t1) (arrival : (port u p).ptp.t2 = some t2)
    (addressed : octets d 44 10 = ptpIdentity (subAddr u p (port u p).ptp.sub)) :
    exec (.ptpDelayResp p k f t) s = .next
      (let v := chooseSource (modPtp p (fun x => { x.clear with lock := true }) u)
       if v.pt.source ≠ some p then v
       else filterOffset p (((t1 - t2) + (stampAt d 34 - correctionOf d - t)) / 2 - (port u p).ptp.utcOff + (v.tick * tickNs : Nat) -
         (utcNow v).getD 0) v) := by
  show execPtpDelayResp p k f t s = _
  rw [execPtpDelayResp, ptpRow_serves takes message received room row good same, inExchange_inTime sender seq under inTime]
  simp only [origin, arrival, addressed, ne_eq, not_true_eq_false, if_false]

end

/-- A Delay_Resp after 2^12 ticks discards the exchange. -/
theorem exec_ptpDelayResp_late {t : Int} (row : be d 0 1 % 16 = 9) (good : ptpGood 9 d = true)
    (late : (port u p).ptp.exTick + 2 ^ 12 < u.tick) :
    exec (.ptpDelayResp p k f t) s = .next (ptpReject p (modPtp p PtpIn.clear u)) := by
  show execPtpDelayResp p k f t s = _
  rw [execPtpDelayResp, ptpRow_serves takes message received room row good same, inExchange_late sender seq under late]

end
end
end

/-! ### Timeouts (R311) -/

section
variable {p : Nat} {s : State}

theorem exec_ptpExchangeTimeout_late {t : Int} (under : (port s p).ptp.t2 = some t) (late : (port s p).ptp.exTick + 2 ^ 12 < s.tick) :
    exec (.ptpExchangeTimeout p) s = .next (ptpReject p (modPtp p PtpIn.clear s)) :=
  whenOk_true (by rw [under, decide_eq_true late, Option.isSome_some, Bool.and_self])

theorem exec_ptpLockLoss_silent (followed : (port s p).ptp.master ≠ none)
    (silent : (port s p).ptp.heard + 3 * (port s p).ptp.interval ≤ s.tick) : exec (.ptpLockLoss p) s = .next (ptpUnlock p s) :=
  whenOk_true (by rw [Option.isSome_iff_ne_none.mpr followed, decide_eq_true silent, Bool.and_self])

end

/-! ### PTP_SET (R310, R414) -/

section
variable {h : Held} {p : List Byte} {s : State}

theorem exec_ptpSet_taken (taken : CmdTaken 0x0807 h s) : exec .ptpSet s = .next (ptpSetCmd h h.frame.payload s) := withCmd_of_taken taken

theorem ptpSetCmd_inRange (inRange : be p 0 1 ≤ 127) :
    ptpSetCmd h p s = respond St.ok 0 s.tick [] { s with pt.ptpDomain := be p 0 1 } := if_neg (Nat.not_lt.mpr inRange)

theorem ptpSetCmd_beyond (beyond : 127 < be p 0 1) : ptpSetCmd h p s = respond St.grateRange 64 0 [] s := if_pos beyond

end

/-- Settles O40: a message is rejected by its form or domain, or acts by its row on what the port follows and on the exchange under way;
an exchange, a lock and PTP_SET by their own conditions. -/
theorem timeIsTakenFromAMaster : Obligations.TimeIsTakenFromAMaster := by
  refine ⟨fun p k via f d t s u takes message received room => ⟨exec_ptp_rejects takes message received room t, ?_⟩,
    fun p t s under late => exec_ptpExchangeTimeout_late under late, fun p s followed silent => exec_ptpLockLoss_silent followed silent,
    fun h s taken => ⟨fun inRange => ?_, fun beyond => ?_⟩⟩
  · rintro same x rfl
    have clock : u.tick = s.tick := by rw [received]; rfl
    simp only [← clock]
    refine ⟨fun row good sender => exec_ptpAnnounce_followed takes message received room same sender row good,
      fun row good sender twoStep => exec_ptpSync_twoStep takes message received room same sender row good twoStep,
      fun sender seq under inTime => ⟨fun row good awaited moving => ?_, fun t1 t2 row good origin arrival addressed =>
        exec_ptpDelayResp_completes takes message received room same sender seq under inTime row good origin arrival addressed⟩,
      fun sender seq under late row good => exec_ptpDelayResp_late takes message received room same sender seq under row good late⟩
    rw [exec_ptpFollowUp_awaited takes message received room same sender seq under inTime row good awaited, masterTime_moving moving]
  · rw [exec_ptpSet_taken taken, ptpSetCmd_inRange inRange]
  · rw [exec_ptpSet_taken taken, ptpSetCmd_beyond beyond]

end Sys2Proof.Machine
end

section
/-!
PROOFS. Accords and routes: ACCORD_LOAD, ACCORD_REMOVE, ACCORD_QUERY, ROUTE_SET, VERDICT, and the ends of forwards and referrals.
-/
namespace Sys2Proof.Machine
open Sys2Proof

section
variable {h : Held} {p : List Byte} {s : State}

/-! ### Accord commands (R315, R316, R347, R414) -/

theorem exec_accordLoad_taken (taken : CmdTaken 0x0901 h s) : exec .accordLoad s = .next (accordLoadCmd h h.frame.payload s) :=
  withCmd_of_taken taken

theorem exec_accordRemove_taken (taken : CmdTaken 0x0902 h s) : exec .accordRemove s = .next (accordRemoveCmd h h.frame.payload s) :=
  withCmd_of_taken taken

theorem exec_accordQuery_taken (taken : CmdTaken 0x0903 h s) : exec .accordQuery s = .next (accordQueryCmd h h.frame.payload s) :=
  withCmd_of_taken taken

/-- The status and the offset of the first check that the accord of an ACCORD_LOAD fails, against the functions loaded (R316). -/
def accordFault (p : List Byte) (s : State) : Option (Nat × Nat) :=
  accordCheck (p.drop 8) (fun t => (fnRow s t.func).any (fun r => decide (r.inMin ≤ t.inLen ∧ t.inLen ≤ r.inMax)))

theorem accordLoadCmd_fails {e : Nat × Nat} (fails : accordFault p s = some e) : accordLoadCmd h p s = respond e.1 e.2 0 [] s := by
  unfold accordFault at fails
  simp only [accordLoadCmd, fails, refuse_eq]

/-- An accord that passes every check waits for its tick, or is BUSY (R315). -/
theorem accordLoadCmd_passes (passes : accordFault p s = none) : accordLoadCmd h p s =
    if accordBusy s (parseAccord (p.drop 8)).num then respond St.busy 0 0 [] s
    else respondAt (switchAt (be p 0 8) s) []
      { s with ad.armed := s.ad.armed ++ [(switchAt (be p 0 8) s, (parseAccord (p.drop 8)).num, some (parseAccord (p.drop 8)))] } := by
  unfold accordFault at passes
  simp only [accordLoadCmd, passes, refuse_eq]

theorem accordRemoveCmd_unknown (unknown : tblGet s.ad.accords (be p 0 2) = none) :
    accordRemoveCmd h p s = respond St.grateRange 64 0 [] s := if_pos (Option.isNone_iff_eq_none.mpr unknown)

theorem accordRemoveCmd_armed (loaded : tblGet s.ad.accords (be p 0 2) ≠ none) (free : accordBusy s (be p 0 2) = false) :
    accordRemoveCmd h p s = respondAt (switchAt (be p 8 8) s) []
      { s with ad.armed := s.ad.armed ++ [(switchAt (be p 8 8) s, be p 0 2, none)] } := by
  have known : ¬(tblGet s.ad.accords (be p 0 2)).isNone = true := fun unknown => loaded (Option.isNone_iff_eq_none.mp unknown)
  simp only [accordRemoveCmd, if_neg known, free, Bool.false_eq_true, if_false]

/-! ### ROUTE_SET and VERDICT (R337, R343) -/

theorem exec_routeSet_taken (taken : CmdTaken 0x0904 h s) : exec .routeSet s = .next (routeSetCmd h h.frame.payload s) :=
  withCmd_of_taken taken

theorem exec_verdict_taken (taken : CmdTaken 0x0905 h s) : exec .verdict s = .next (verdictCmd h h.frame.payload s) :=
  withCmd_of_taken taken

/-- A VERDICT of one record. -/
theorem verdictCmd_one (one : be p 0 1 = 1) : verdictCmd h p s =
    (let r := verdictResult s [] (parseVerdict p 8) (be p 17 1)
     respondAt (s.tick + 1) [BitVec.ofNat 8 r]
      { s with ad.verdicts := s.ad.verdicts ++ (if r = 0 then [parseVerdict p 8] else []) }) := by
  simp only [verdictCmd, one, List.range_one, List.foldl_cons, List.foldl_nil, List.map_nil, List.nil_append, Nat.mul_zero, Nat.add_zero,
    Nat.reduceAdd]

end

/-! ### What ends a forward or a referral (R341, R344, R347) -/

section
variable {id : Nat} {s : State}

theorem exec_forwardClose_due {f : Forward} (opened : tblGet s.ad.forwards id = some f) (due : f.closing ≤ s.tick) :
    exec (.forwardClose id) s = .next (writeHeader (outcomeHeader f.info f.note 4 St.forwardTimeout id f.dest f.effects s) f.gran
      (refuseLater f.info f.note St.forwardTimeout (modStat f.info.accord (fun a => { a with fwdTimeouts := satAdd 32 a.fwdTimeouts 1 })
        { s with ad.forwards := tblDel s.ad.forwards id }))) := by
  show execForwardClose id s = _
  simp only [execForwardClose, opened, whenOk_true (decide_eq_true due)]

theorem exec_referralVerdictExpiry_due {r : Referral} (opened : tblGet s.ad.referrals id = some r) (due : verdictTick r ≤ s.tick) :
    exec (.referralVerdictExpiry id) s = .next (writeHeader
      (outcomeHeader r.msg.outcome r.msg.note 6 St.verdictTimeout id 0xFFFFFFFF r.effects s) r.msg.granules
      (refuseLater r.msg.info r.msg.note St.verdictTimeout
        (modStat r.msg.info.accord (fun a => { a with verdictTimeouts := satAdd 32 a.verdictTimeouts 1 })
          { s with ad.referrals := tblDel s.ad.referrals id }))) := by
  show execReferralVerdictExpiry id s = _
  simp only [execReferralVerdictExpiry, opened, whenOk_true (decide_eq_true due)]

end

/-- Settles O41: ACCORD_LOAD by its first failed check, then by the accord's older messages and armed changes; the other commands by
what they do once taken up; a forward and a referral by their ticks. -/
theorem accordsRoutesAndVerdictsAreArmed : Obligations.AccordsRoutesAndVerdictsAreArmed := by
  refine ⟨fun h s taken => ?_, fun h s taken => ⟨fun unknown => ?_, fun loaded free => ?_⟩, fun h s taken => ?_, fun h s taken => ?_,
    fun h s taken one => ?_, fun id f s opened due => exec_forwardClose_due opened due,
    fun id r s opened due => exec_referralVerdictExpiry_due opened due⟩
  · rw [exec_accordLoad_taken taken]
    dsimp only
    split
    next e fails => rw [accordLoadCmd_fails fails]
    next passes => rw [accordLoadCmd_passes passes]
  · rw [exec_accordRemove_taken taken, accordRemoveCmd_unknown unknown]
  · rw [exec_accordRemove_taken taken, accordRemoveCmd_armed loaded free]
  · rw [exec_accordQuery_taken taken, accordQueryCmd]
  · rw [exec_routeSet_taken taken, routeSetCmd]
  · rw [exec_verdict_taken taken, verdictCmd_one one]

end Sys2Proof.Machine
end

section
/-!
PROOFS. The digest units and their window: the writes of a page, messages, saved states, claims, chunks of queue work, and the control
writes out of sequence.
-/
namespace Sys2Proof.Machine
open Sys2Proof

/-! ### A page and its unit (R13, R350, R351) -/

theorem dgPage_claimed {u off : Nat} {s : State} {f : DgUnit → State} (claimed : (dgUnit s u).claimed = true) :
    dgPage u off s f = .next (f (dgUnit s u)) := by
  simp only [dgPage, claimed, if_true]

theorem dgPage_unclaimed {u off : Nat} {s : State} {f : DgUnit → State} (free : (dgUnit s u).claimed = false) :
    dgPage u off s f = .next (badWrite (dgOff u off) s) := by
  simp only [dgPage, free, Bool.false_eq_true, if_false]

/-- Two changes that make the same of a unit as it stands are the same change. -/
theorem modDg_congr {u : Nat} {f g : DgUnit → DgUnit} {s : State} (same : f (dgUnit s u) = g (dgUnit s u)) : modDg u f s = modDg u g s := by
  simp only [modDg, same]

theorem leBytes_length : ∀ n v : Nat, (leBytes n v).length = n
  | 0, _ => rfl
  | n + 1, v => congrArg (· + 1) (leBytes_length n (v / 256))

/-! ### Claim and release (R350, R353) -/

section
variable {u : Nat} {s : State} (up : s.hl.link0.up = true)
include up

theorem exec_dgClaim_room (unit : u < 8) (free : (dgUnit s u).claimed = false) (settled : (dgUnit s u).pend = false)
    (room : dgClaims s < 6) : exec (.dgClaim u) s = .next (modDg u (fun x => { x with pend := true }) s) := by
  show execDgClaim u s = _
  simp only [execDgClaim, viaPf0_up up, Nat.not_le.mpr unit, free, settled, Nat.not_le.mpr room, Bool.false_eq_true, or_self, if_false]

theorem exec_dgClaim_full (unit : u < 8) (free : (dgUnit s u).claimed = false) (settled : (dgUnit s u).pend = false)
    (full : 6 ≤ dgClaims s) : exec (.dgClaim u) s = .next { s with dg.refused := true } := by
  show execDgClaim u s = _
  simp only [execDgClaim, viaPf0_up up, Nat.not_le.mpr unit, free, settled, full, Bool.false_eq_true, or_self, if_false, if_true]

theorem exec_dgRelease_up : exec (.dgRelease u) s = .next (releaseUnit u s) := viaPf0_up up

/-- The actions on an unclaimed unit are accesses that no register takes. -/
theorem exec_dgAction_unclaimed (free : (dgUnit s u).claimed = false) :
    ∀ i ∈ [Instr.dgAbort u, .dgSave u, .dgRestore u], exec i s = .next (badWrite (dgOff u 0) s) := by
  have discarded : ∀ f, viaPf0 s (dgPage u 0 s f) = .next (badWrite (dgOff u 0) s) :=
    fun f => (viaPf0_up up).trans (dgPage_unclaimed free)
  simp only [List.forall_mem_cons]
  exact ⟨discarded _, discarded _, discarded _, by simp⟩

theorem exec_dgData_unclaimed (free : (dgUnit s u).claimed = false) (v : Nat) :
    exec (.dgData u v) s = .next (badWrite (dgOff u 0x10) s) :=
  (viaPf0_up up).trans (dgPage_unclaimed free)

end

/-- A claim of a unit that holds no queue work completes with the unit cleared. -/
theorem exec_dgClaimComplete_empty {u : Nat} {s : State} (claiming : (dgUnit s u).pend = true)
    (empty : placed (modDg u (fun _ => { claimed := true }) s) .digest u = []) :
    exec (.dgClaimComplete u) s = .next (modDg u (fun _ => { claimed := true }) s) := by
  show execDgClaimComplete u s = _
  simp only [execDgClaimComplete, claiming, empty, Bool.not_true, Bool.false_eq_true, if_false, List.foldl_nil]

/-! ### Writes to a claimed unit (R355 to R358, R360, R362) -/

section
variable {u : Nat} {s : State} (up : s.hl.link0.up = true) (claimed : (dgUnit s u).claimed = true)
include up claimed

theorem exec_dgStart_active (active : (dgUnit s u).active = true) (alg : Nat) (keyed : Bool) :
    exec (.dgStart u alg keyed) s = .next (dgStatus u St.digestSequence s) :=
  (viaPf0_up up).trans ((dgPage_claimed claimed).trans (congrArg _ (if_pos (.inl active))))

theorem exec_dgRestore_active (active : (dgUnit s u).active = true) : exec (.dgRestore u) s = .next (dgStatus u St.digestSequence s) :=
  (viaPf0_up up).trans ((dgPage_claimed claimed).trans (congrArg _ (if_pos (.inl active))))

theorem exec_dgSave_inactive (idle : (dgUnit s u).active = false) : exec (.dgSave u) s = .next (dgStatus u St.digestSequence s) :=
  (viaPf0_up up).trans ((dgPage_claimed claimed).trans (congrArg _ (if_pos (.inl (by simp only [idle, Bool.not_false])))))

theorem exec_dgAbort_claimed : exec (.dgAbort u) s = .next (modDg u (fun x => { x.cleared with status := 0, count := 0 }) s) :=
  (viaPf0_up up).trans (dgPage_claimed claimed)

variable (ready : (dgUnit s u).wait = none)
include ready

theorem exec_dgStart_plain {alg : Nat} (idle : (dgUnit s u).active = false) (lo : 1 ≤ alg) (hi : alg ≤ 4) :
    exec (.dgStart u alg false) s = .next (modDg u (fun x => { x with
      active := true, done := false, saved := false, keyed := false, alg := alg, status := 0, count := 0, buf := [], last := []
      chain := octets (Config.dgInit alg) 0 (dgStateLen alg), outer := [] }) s) := by
  show execDgStart u alg false s = _
  simp only [execDgStart, viaPf0_up up, dgPage_claimed claimed, idle, ready, Nat.not_lt.mpr lo, Nat.not_lt.mpr hi, Option.isSome_none,
    Bool.false_eq_true, or_self, if_false, Bool.not_false, if_true]

/-- A sealed START tests its key as it stands, and waits (R358). -/
theorem exec_dgStart_sealed {alg : Nat} (idle : (dgUnit s u).active = false) (lo : 1 ≤ alg) (hi : alg ≤ 4)
    (unlocked : classL s = false) (allowed : inDomwin s (dgUnit s u).domain = true) :
    exec (.dgStart u alg true) s = .next (modDg u (fun x => { x with
      wait := some (.key alg (dgKeyTest s alg x.key x.domain)), done := false, saved := false, keyed := true, alg := alg
      handle := x.key, dom := x.domain, count := 0, buf := [], last := [] }) s) := by
  show execDgStart u alg true s = _
  simp only [execDgStart, viaPf0_up up, dgPage_claimed claimed, idle, ready, Nat.not_lt.mpr lo, Nat.not_lt.mpr hi, unlocked, allowed,
    Option.isSome_none, Bool.false_eq_true, or_self, if_false, Bool.not_true]

/-- Eight octets of an active message fill its block or wait for the rest of it (R356). -/
theorem exec_dgData_taken {v : Nat} (active : (dgUnit s u).active = true) (short : (dgUnit s u).length + 8 < 2 ^ 61) :
    exec (.dgData u v) s = .next (modDg u (fun y =>
      if (dgUnit s u).buf.length + 8 = dgBlockLen (dgUnit s u).alg then
        { y with wait := some (.block ((dgUnit s u).buf ++ leBytes 8 v)), buf := [] }
      else { y with buf := (dgUnit s u).buf ++ leBytes 8 v }) s) := by
  show execDgData u v s = _
  simp only [execDgData, viaPf0_up up, dgPage_claimed claimed, ready, active, Nat.not_le.mpr short, Option.isSome_none,
    Bool.false_eq_true, Bool.true_eq_false, or_self, if_false, List.length_append, leBytes_length]
  exact congrArg _ (modDg_congr rfl)

theorem exec_dgLastCtl_taken {vb : Nat} (active : (dgUnit s u).active = true) (word : vb ≤ 8)
    (short : (dgUnit s u).length + vb < 2 ^ 61) : exec (.dgLastCtl u vb) s = .next (modDg u (fun y => { y with
      wait := some (.final ((dgUnit s u).buf ++ octets (dgUnit s u).last 0 vb)), buf := [] }) s) := by
  show execDgLastCtl u vb s = _
  simp only [execDgLastCtl, viaPf0_up up, dgPage_claimed claimed, ready, active, Nat.not_lt.mpr word, Nat.not_le.mpr short,
    Option.isSome_none, Bool.false_eq_true, Bool.true_eq_false, or_self, if_false]
  exact congrArg _ (modDg_congr rfl)

/-- A plain message at a block boundary leaves its record in DG_STATE (R360, R361). -/
theorem exec_dgSave_plain (active : (dgUnit s u).active = true) (boundary : (dgUnit s u).buf = []) (plain : (dgUnit s u).keyed = false) :
    exec (.dgSave u) s = .next (modDg u (fun y => { y.cleared with regs := plainRecord (dgUnit s u), saved := true, status := 0 }) s) := by
  show execDgSave u s = _
  simp only [execDgSave, viaPf0_up up, dgPage_claimed claimed, ready, active, boundary, plain, Option.isSome_none, Bool.not_true,
    Bool.false_eq_true, ne_eq, not_true_eq_false, or_self, if_false]

/-- A well-formed plain record resumes its message (R362). -/
theorem exec_dgRestore_plain (idle : (dgUnit s u).active = false) (shape : stateShape (octets (dgUnit s u).regs 0 256) = true)
    (plain : le (octets (dgUnit s u).regs 0 256) 9 1 = 0) : exec (.dgRestore u) s = .next
      (let r := octets (dgUnit s u).regs 0 256
       let chain := octets (octets r 0x20 128 ++ octets r 0xB0 72) 0 (dgStateLen (le r 8 1))
       modDg u (fun x => { x with
         active := true, done := false, saved := false, keyed := false, alg := le r 8 1, status := 0, count := le r 0 8, buf := [], last := []
         chain := chain, outer := [], handle := le r 12 4, dom := le r 16 2 }) s) := by
  show execDgRestore u s = _
  simp only [execDgRestore, viaPf0_up up, dgPage_claimed claimed, idle, ready, shape, plain, Option.isSome_none, Bool.not_true,
    Bool.false_eq_true, or_self, if_false, if_true]

end

/-! ### What a busy unit waits for (R356 to R358) -/

section
variable {u : Nat} {s : State}

theorem exec_dgSealedKeyReady_refused {alg st : Nat} (waits : (dgUnit s u).wait = some (.key alg (.inl st))) :
    exec (.dgSealedKeyReady u) s = .next (modDg u (fun x => { x.cleared with status := st }) s) := by
  show execDgSealedKeyReady u s = _
  simp only [execDgSealedKeyReady, waits, Sum.elim_inl, ite_self]

theorem exec_dgSealedKeyReady_passed {alg : Nat} {k : List Byte} (waits : (dgUnit s u).wait = some (.key alg (.inr k))) :
    exec (.dgSealedKeyReady u) s = .next
      (if (keyRead s (dgUnit s u).handle).bad then modDg u (fun x => { x.cleared with status := St.keyIntegrity }) s
       else modDg u (fun x => { x with wait := none, active := true, status := 0, chain := hmacPad alg k 0x36, outer := hmacPad alg k 0x5C }) s) := by
  show execDgSealedKeyReady u s = _
  simp only [execDgSealedKeyReady, waits]
  cases (keyRead s (dgUnit s u).handle).bad <;> rfl

theorem exec_dgBlockDone_waited {b : List Byte} (waits : (dgUnit s u).wait = some (.block b)) : exec (.dgBlockDone u) s = .next
    (dgBytes b.length (modDg u (fun x => { x with wait := none, chain := dgRun x.alg x.chain b, count := x.count + b.length }) s)) := by
  show execDgBlockDone u s = _
  simp only [execDgBlockDone, waits]

theorem exec_dgMessageDone_waited {b : List Byte} (waits : (dgUnit s u).wait = some (.final b)) : exec (.dgMessageDone u) s = .next
    (dgBytes b.length (modDg u (fun x => { x.cleared with
      out := octets (x.result b) 0 64, done := true, status := 0, count := x.count + b.length }) s)) := by
  show execDgMessageDone u s = _
  simp only [execDgMessageDone, waits]

end

/-! ### Queue work and the owner window (R352, R365) -/

/-- A chunk that is neither the first nor the last of its operation counts its octets and sends the operation to the back. -/
theorem exec_digestChunkEnd_between {id n : Nat} {w : Work} {s : State} (held : work s id = some w) (unit : w.unit = .digest)
    (phase : w.phase = .unit) (place : w.place = some n) (turn : unitHead s .digest n = some id) (fetched : fetchOpen s w = false)
    (sound : w.sub.key0 ≠ 0 → (w.key 0).bad = false) (begun : w.pos ≠ 0) (kept : w.squash = 0)
    (rest : w.pos + min (digestChunk w.sub) (outstanding w) < w.sub.inLen) : exec (.digestChunkEnd id) s = .next
      (let c := min (digestChunk w.sub) (outstanding w)
       toBack id (modWork id (fun _ => { w with pos := w.pos + c }) (dgBytes c (addUsage w.sub.domain 9 0 0 c s)))) := by
  have keyed : ¬(w.sub.key0 ≠ 0 ∧ (w.key 0).bad = true) := fun ⟨named, bad⟩ => by simp [sound named] at bad
  show execDigestChunkEnd id s = _
  simp only [execDigestChunkEnd, held, unit, phase, place, turn, fetched, begun, keyed, kept, Nat.not_le.mpr rest, Option.any_some,
    decide_true, ne_eq, not_true_eq_false, Bool.true_eq_false, Bool.false_eq_true, or_self, if_false]

section
variable {h : Held} {p : List Byte} {s : State}

theorem exec_digestDomwin_taken (taken : CmdTaken 0x0704 h s) : exec .digestDomwin s = .next (digestDomwinCmd h h.frame.payload s) :=
  withCmd_of_taken taken

theorem digestDomwinCmd_inRange (inRange : be p 0 2 + be p 2 2 ≤ 65536) :
    digestDomwinCmd h p s = respond St.ok 0 s.tick [] { s with dg.domLo := be p 0 2, dg.domN := be p 2 2 } :=
  if_neg (Nat.not_lt.mpr inRange)

theorem digestDomwinCmd_beyond (beyond : 65536 < be p 0 2 + be p 2 2) : digestDomwinCmd h p s = respond St.grateRange 66 0 [] s :=
  if_pos beyond

end

/-- Settles O42: claims by the units claimed; the writes of a claimed unit that waits for nothing by its message; the ends of what a busy
unit waits for; a chunk between the first and the last; the owner window by its end. -/
theorem digestUnitsAreClaimedAndDigest : Obligations.DigestUnitsAreClaimedAndDigest := by
  refine ⟨fun u s up unit free settled => ⟨exec_dgClaim_room up unit free settled, exec_dgClaim_full up unit free settled,
      exec_dgAction_unclaimed up free, exec_dgData_unclaimed up free⟩,
    fun u s claiming empty => exec_dgClaimComplete_empty claiming empty, fun u s up => exec_dgRelease_up up, ?_,
    fun u alg st k s => ⟨exec_dgSealedKeyReady_refused, exec_dgSealedKeyReady_passed⟩,
    fun u b s => ⟨exec_dgBlockDone_waited, exec_dgMessageDone_waited⟩,
    fun id n w s held unit phase place turn fetched sound begun kept rest =>
      exec_digestChunkEnd_between held unit phase place turn fetched sound begun kept rest,
    fun h s taken => ⟨fun inRange => ?_, fun beyond => ?_⟩⟩
  · rintro u x s up rfl claimed ready
    exact ⟨fun alg idle lo hi => ⟨exec_dgStart_plain up claimed ready idle lo hi, exec_dgStart_sealed up claimed ready idle lo hi⟩,
      fun alg keyed active => exec_dgStart_active up claimed active alg keyed,
      fun v active short => exec_dgData_taken up claimed ready active short,
      fun vb active word short => exec_dgLastCtl_taken up claimed ready active word short,
      exec_dgAbort_claimed up claimed,
      fun active boundary plain => exec_dgSave_plain up claimed ready active boundary plain,
      fun idle shape plain => exec_dgRestore_plain up claimed ready idle shape plain⟩
  · rw [exec_digestDomwin_taken taken, digestDomwinCmd_inRange inRange]
  · rw [exec_digestDomwin_taken taken, digestDomwinCmd_beyond beyond]

/-! ### Control writes out of sequence (R351, R354, R355) -/

/-- The pages of the window, of claimed units. -/
theorem dgView_page {o : Nat} {s : State} (lo : 0x100 ≤ o) (hi : o < 0xF00) (claimed : (dgUnit s ((o - 0x100) / 0x1C0)).claimed = true) :
    dgView s o = dgPageView (dgUnit s ((o - 0x100) / 0x1C0)) ((o - 0x100) % 0x1C0) := by
  unfold dgView
  split
  case h_6 => exact if_pos ⟨lo, hi, claimed⟩
  all_goals omega

/-- DG_CTRL stands at the start of the page of a claimed unit. -/
theorem regAt_dgCtrl {u : Nat} {s : State} (unit : u < 8) (claimed : (dgUnit s u).claimed = true) :
    regAt s (0x5100 + 0x1C0 * u) = some (4, 0) := by
  have inWindow : (0x5100 + 0x1C0 * u) % 0x1000 = 0x100 + 0x1C0 * u := by omega
  have pageOf : (0x100 + 0x1C0 * u - 0x100) / 0x1C0 = u := by omega
  have pageStart : (0x100 + 0x1C0 * u - 0x100) % 0x1C0 = 0 := by omega
  have window : regAt s (0x5100 + 0x1C0 * u) = dgView s (0x100 + 0x1C0 * u) := by
    simp (disch := omega) only [regAt, inWindow, if_neg, if_pos]
  rw [window, dgView_page (by omega) (by omega) (by rw [pageOf]; exact claimed), pageOf, pageStart]
  rfl

/-- A write within the pages of the digest units is a write to its page. -/
theorem writeReg_dgPage {o v : Nat} {s : State} (lo : 0x5100 ≤ o) (hi : o < 0x5F00) :
    writeReg o v s = writeDgPage ((o - 0x5100) / 0x1C0) ((o - 0x5100) % 0x1C0) v s := by
  simp (disch := omega) only [writeReg, if_neg, if_pos]

/-- Every write to DG_CTRL that sets no action bit, or several, is out of sequence. -/
theorem writeDgCtrl_notOneAction {u v : Nat} {s : State}
    (actions : [bitOf v 31, bitOf v 30, bitOf v 29, bitOf v 28].count true ≠ 1) :
    writeDgCtrl u v s = .next (dgStatus u St.digestSequence s) := by
  unfold writeDgCtrl
  split
  case h_5 => rfl
  all_goals
    next b31 b30 b29 b28 => exact absurd (by rw [b31, b30, b29, b28]; rfl) actions

theorem exec_registerWrite_dgCtrl {u v : Nat} {s : State} (up : s.hl.link0.up = true) (unit : u < 8)
    (claimed : (dgUnit s u).claimed = true) (word : v < 2 ^ 32) :
    exec (.registerWrite none (0x5100 + 0x1C0 * u) 4 v) s = writeDgCtrl u v s := by
  have aligned : sizeOk (0x5100 + 0x1C0 * u) 4 = true := by
    simp only [sizeOk, Bool.and_eq_true, decide_eq_true_eq, true_or, true_and]
    omega
  have outside : ∀ base ≤ 0x2000, inBuf base (0x5100 + 0x1C0 * u) 4 = false := fun base low => by
    simp only [inBuf, Bool.and_eq_false_iff, decide_eq_false_iff_not]
    omega
  have pageOf : (0x5100 + 0x1C0 * u - 0x5100) / 0x1C0 = u := by omega
  have pageStart : (0x5100 + 0x1C0 * u - 0x5100) % 0x1C0 = 0 := by omega
  rw [exec_registerWrite_bar0 up,
    writeBar0_register (outside _ (by decide)) (outside _ (by decide)) aligned (regAt_dgCtrl unit claimed) word,
    writeReg_dgPage (by omega) (by omega), pageOf, pageStart]
  rfl

/-- Settles O56: through DG_CTRL by its action bits, through the rows of the actions by ACTIVE. -/
theorem digestControlWritesOutOfOrder : Obligations.DigestControlWritesOutOfOrder := by
  intro u s up unit claimed
  refine ⟨fun v word actions => ?_, fun active => ⟨exec_dgStart_active up claimed active, exec_dgRestore_active up claimed active⟩,
    exec_dgSave_inactive up claimed⟩
  rw [exec_registerWrite_dgCtrl up unit claimed word, writeDgCtrl_notOneAction actions]
  rfl

end Sys2Proof.Machine
end

section
/-!
PROOFS. The random chain and the public-key units: random words and their underrun, noise sources and their tests, unit steps, and
UNIT_QUERY.
-/
namespace Sys2Proof.Machine
open Sys2Proof

/-! ### Random words (R370) -/

section
variable {s : State} (up : s.hl.link0.up = true)
include up

theorem exec_rnData_buffered {v : Nat} {t : List Nat} (buffer : s.rn.buf = v :: t) :
    exec .rnData s = .next (emit (.readData 0x6000 v) { s with rn.buf := t }) := by
  show execRnData s = _
  simp only [execRnData, viaPf0_up up, buffer]

variable (empty : s.rn.buf = [])
include empty

theorem exec_rnData_underrun (unserved : s.rn.ready = false ∨ (drbg s 65).limit = true) : exec .rnData s = .next
    (emit (.readData 0x6000 0) { s with rn.underrun := true, rn.nUnderrun := satAdd 32 s.rn.nUnderrun 1 }) := by
  have under : (!s.rn.ready || (drbg s 65).limit) = true := by simpa using unserved
  show execRnData s = _
  simp only [execRnData, viaPf0_up up, empty, under, if_true]

/-- Eight words come of one call of the generator; the read takes the first. -/
theorem exec_rnData_generated (ready : s.rn.ready = true) (served : (drbg s 65).limit = false) : exec .rnData s = .next
    (let q := draw (drbgCall 65 1 s)
     let vs := (List.range 8).map (fun j => le (octets (Config.randomBytes q.1 64) 0 64) (8 * j) 8)
     emit (.readData 0x6000 (vs.headD 0)) { q.2 with rn.buf := vs.drop 1 }) := by
  show execRnData s = _
  simp only [execRnData, viaPf0_up up, empty, ready, served, Bool.not_true, Bool.or_self, Bool.false_eq_true, if_false]

end

/-! ### Entropy blocks and noise sources (R366, R367, R371 to R373) -/

section
variable {s : State}

section
variable (enabled : sourcesOn s ≠ 0)
include enabled

theorem exec_entropyBlock_reserve (short : s.rn.reserve < 2) : exec .entropyBlock s = .next { s with rn.reserve := s.rn.reserve + 1 } := by
  show execEntropyBlock s = _
  simp only [execEntropyBlock, enabled, short, if_false, if_true]

theorem exec_entropyBlock_pool (reserved : 2 ≤ s.rn.reserve) (room : s.rn.blocks < 62) :
    exec .entropyBlock s = .next { s with rn.blocks := s.rn.blocks + 1 } := by
  show execEntropyBlock s = _
  simp only [execEntropyBlock, enabled, Nat.not_lt.mpr reserved, room, if_false, if_true]

theorem exec_entropyBlock_full (reserved : 2 ≤ s.rn.reserve) (full : 62 ≤ s.rn.blocks) : exec .entropyBlock s = .next s := by
  show execEntropyBlock s = _
  simp only [execEntropyBlock, enabled, Nat.not_lt.mpr reserved, Nat.not_lt.mpr full, if_false]

end

section
variable {k : Nat} (source : k < 4)
include source

theorem exec_noiseSourceFail_enabled {c : Nat} (enabled : (noise s k).state = 0) (lo : 1 ≤ c) (hi : c ≤ 2) :
    exec (.noiseSourceFail k c) s = .next (sourceFails k c s) := by
  have cause : c = 1 ∨ c = 2 := by omega
  exact whenOk_true (by simp only [source, enabled, cause, decide_true, Bool.and_self])

theorem exec_sourceRetest_due (due : retestDue s (noise s k) = true) (passed : Bool) : exec (.sourceRetest k passed) s = .next
    (if passed then sourcesChanged (modNoise k (fun x => { x with state := 0 }) s) else sourceFails k 3 s) :=
  whenOk_true (by simp only [source, due, decide_true, Bool.and_self])

theorem exec_sourceWindowEnd_counts {ones equal : Nat} (honest : ones ≤ 2 ^ 20) (paired : equal ≤ 2 ^ 20) :
    exec (.sourceWindowEnd k ones equal) s = .next
      (let t := modNoise k (fun x => { x with
         ones, agree := equal, bias := x.bias || outsideWindow ones, corr := x.corr || outsideWindow equal }) s
       let u := if outsideWindow ones then note 0x0504 0 k 0 ones t else t
       if outsideWindow equal then note 0x0504 0 k 1 equal u else u) := by
  show execSourceWindowEnd k ones equal s = _
  simp only [execSourceWindowEnd, Nat.not_le.mpr source, Nat.not_lt.mpr honest, Nat.not_lt.mpr paired, or_self, if_false]

end

/-- With fewer than two failures in the 2^24 ticks before, a source that fails is DISABLED, not OFF (R372). -/
theorem sourceFails_disabled {k c : Nat}
    (few : ((noise s k).failTicks.filter (fun t => decide (s.tick < t + 2 ^ 24))).length < 2) :
    sourceFails k c s = sourcesChanged (note 0x0501 1 k c 0 (modNoise k (fun x => { x with
      state := 1, cause := c, fails := satAdd 32 x.fails 1
      failTicks := (noise s k).failTicks.filter (fun t => decide (s.tick < t + 2 ^ 24)) ++ [s.tick] }) s)) := by
  have notThird : ¬3 ≤ ((noise s k).failTicks.filter (fun t => decide (s.tick < t + 2 ^ 24)) ++ [s.tick]).length := by
    rw [List.length_append, List.length_singleton]
    omega
  simp only [sourceFails, notThird, decide_false, Bool.false_eq_true, if_false]

theorem exec_noSourceTimeout_due {t : Nat} (since : s.rn.noneSince = some t) (due : t + 2 ^ 16 ≤ s.tick) (off : sourcesOn s = 0) :
    exec .noSourceTimeout s = .next (lockClass 0x22 3 { s with rn.noneSince := none }) :=
  whenOk_true (by simp only [since, Option.any_some, due, off, decide_true, Bool.and_self])

end

/-! ### Steps of a public-key unit (R379, R389, R390, R429) -/

/-- The unit counts a step of a context, the last it ran and the one of this tick (R379). -/
def pkStepped (u c : Nat) (s : State) : State :=
  modPk u (fun k => { k with steps := wrapAdd 64 k.steps 1, last := c, ran := some s.tick }) s

section
variable {u c : Nat} {s : State}

theorem pkUnit_pkStepped : pkUnit (pkStepped u c s) u =
    { pkUnit s u with steps := wrapAdd 64 (pkUnit s u).steps 1, last := c, ran := some s.tick } :=
  tget_set_same_of_ne (fun blank => by simpa using congrArg PkUnit.ran blank) u s.pk.units

theorem modPk_pkStepped (g : PkUnit → PkUnit) : modPk u g (pkStepped u c s) =
    modPk u (fun k => g { k with steps := wrapAdd 64 k.steps 1, last := c, ran := some s.tick }) s :=
  modPk_modPk u _ g s (fun blank => by simpa using congrArg PkUnit.ran blank)

@[simp] theorem tick_pkStepped : (pkStepped u c s).tick = s.tick := rfl
@[simp] theorem pkReady_pkStepped (v : Nat) : pkReady (pkStepped u c s) v = pkReady s v := rfl
@[simp] theorem fenceBlocks_pkStepped (g m : Nat) (a : Access) : fenceBlocks (pkStepped u c s) g a m = fenceBlocks s g a m := rfl

/-- A step of a data context. -/
theorem exec_pkUnitStep_data {failed : Bool} {a : Option Access} (rested : (pkUnit s u).ran ≠ some s.tick) (data : c ≠ 0)
    (turn : pkNext s u = some c) :
    exec (.pkUnitStep u failed a) s = .next (settle (dataStep u c failed a (pkStepped u c s))) := by
  show execPkUnitStep u failed a s = _
  simp only [execPkUnitStep, rested, turn, data, if_false]
  rfl

/-- A step of context 0 runs the first operation it holds. -/
theorem exec_pkUnitStep_control {failed : Bool} {a : Option Access} {x : PkCtl} {rest : List PkCtl}
    (rested : (pkUnit s u).ran ≠ some s.tick) (turn : pkNext s u = some 0) (ctl : (pkUnit s u).ctl = x :: rest) :
    exec (.pkUnitStep u failed a) s = .next (ctlStep u x rest failed (pkStepped u 0 s)) := by
  have held : (pkUnit (pkStepped u 0 s) u).ctl = x :: rest := by rw [pkUnit_pkStepped]; exact ctl
  unfold pkStepped at held
  show execPkUnitStep u failed a s = _
  simp only [execPkUnitStep, rested, turn, held, if_false, if_true]
  rfl

theorem ctlStep_between {x : PkCtl} {rest : List PkCtl} (more : 1 < x.left) :
    ctlStep u x rest false s = modPk u (fun k => { k with ctl := { x with left := x.left - 1 } :: rest }) s := by
  simp only [ctlStep, Nat.not_le.mpr more, Bool.false_eq_true, if_false]

variable {id : Nat} {w : Work} {failed : Bool} (holder : (pkReady s u).find? (fun h => decide (h.1 = c)) = some (c, id, w))

include holder in
theorem dataStep_noAccess : dataStep u c failed none s = if failed then pkFailed id u w s else pkAdvance id u w s := by
  simp only [dataStep, holder, fenceCheck, Bool.false_eq_true, if_false]

include holder in
/-- An access that the unit's fences block ends the request, whether or not a check failed (R429). -/
theorem dataStep_blocked {a : Access} {x : Blocked} (blocks : fenceBlocks s (w.grant.getD s.tick) a (0x400 + u) = some x) :
    dataStep u c failed (some a) s = finish id { status := St.fenceViolation }
      (pkUsage id w (violate (w.grant.getD s.tick) a (0x400 + u) x s)) := by
  simp only [dataStep, holder, fenceCheck_blocked blocks, if_true]

/-- The first failed check of a request restarts it on another unit (R390). -/
theorem pkFailed_first (unrestarted : w.pkFirst = none) (kept : w.squash = 0) : pkFailed id u w s =
    modWork id (fun w => { w with phase := .unitDue, pkFirst := some u, pkUnit := none, pkDone := 0 })
      (modPk u (fun k => { k with checkFail := satAdd 32 k.checkFail 1, lastFail := s.tick }) s) := by
  simp only [pkFailed, unrestarted, kept, ne_eq, not_true_eq_false, if_false]
  rfl

end

theorem exec_unitQuery_taken {h : Held} {s : State} (taken : CmdTaken 0x0507 h s) :
    exec .unitQuery s = .next (unitQueryCmd h h.frame.payload s) :=
  withCmd_of_taken taken

/-- Settles O43: a random word by the buffer and its generator; entropy blocks and sources by the state of the chain; a unit's step by the
context whose turn it is and by its fences; UNIT_QUERY by its record. -/
theorem randomWordsAndUnitsOfPublicKeys : Obligations.RandomWordsAndUnitsOfPublicKeys := by
  refine ⟨fun v t s up buffer => exec_rnData_buffered up buffer,
    fun s up empty => ⟨exec_rnData_underrun up empty, exec_rnData_generated up empty⟩,
    fun s enabled => ⟨exec_entropyBlock_reserve enabled, exec_entropyBlock_pool enabled, exec_entropyBlock_full enabled⟩,
    fun k s source => ⟨fun c enabled lo hi => exec_noiseSourceFail_enabled source enabled lo hi,
      fun due => ⟨exec_sourceRetest_due source due true, exec_sourceRetest_due source due false⟩,
      fun ones equal honest paired => exec_sourceWindowEnd_counts source honest paired⟩,
    fun k c s few => sourceFails_disabled few, fun t s since due off => exec_noSourceTimeout_due since due off,
    fun u c id failed w s rested data turn holder => ?_, fun u c id failed w a x s rested data turn holder blocks => ?_,
    fun u x rest a s rested turn ctl more => ?_, fun id u w s unrestarted kept => pkFailed_first unrestarted kept,
    fun h s taken => ?_⟩
  · rw [exec_pkUnitStep_data rested data turn, dataStep_noAccess (by rw [pkReady_pkStepped, holder])]
    rfl
  · rw [exec_pkUnitStep_data rested data turn, dataStep_blocked (by rw [pkReady_pkStepped, holder])
      (by rw [tick_pkStepped, fenceBlocks_pkStepped, blocks])]
    rfl
  · rw [exec_pkUnitStep_control rested turn ctl, ctlStep_between more, modPk_pkStepped]
  · rw [exec_unitQuery_taken taken, unitQueryCmd]

end Sys2Proof.Machine
end

section
/-!
PROOFS. The SMBus health port (R573, R574).
-/
namespace Sys2Proof.Machine
open Sys2Proof

section
variable {addr c : Nat} {pec : Bool} {s : State}

/-- What the three reads answer is answered to each of a list of them. -/
theorem smbReads_all {t : State} (byte : exec (.smbusReadByte addr c pec) s = .next t) (word : exec (.smbusReadWord addr c pec) s = .next t)
    (block : exec (.smbusBlockRead addr c pec) s = .next t) :
    ∀ i ∈ [Instr.smbusReadByte addr c pec, .smbusReadWord addr c pec, .smbusBlockRead addr c pec], exec i s = .next t :=
  List.forall_mem_cons.mpr ⟨byte, List.forall_mem_cons.mpr ⟨word, List.forall_mem_singleton.mpr block⟩⟩

section
variable (heard : smbHears s addr = true)
include heard

-- Elaborated in the main thread: the equations of `exec`, which it asks for first, are then there before the proofs that run beside it
-- ask for them, and no threads that wait for them fill the memory.
set_option Elab.async false in
theorem exec_smbusReadByte_page (inPage : c < 0x20) :
    exec (.smbusReadByte addr c pec) s = .next (smbAnswer addr c pec (octets s.pin.smbFresh c 1) s) := by
  simp [exec, execSmbusReadByte, heard, inPage]

theorem exec_smbusReadWord_page (inPage : c < 0x1F) :
    exec (.smbusReadWord addr c pec) s = .next (smbAnswer addr c pec (octets s.pin.smbFresh c 2) s) := by
  simp [exec, execSmbusReadWord, heard, inPage]

theorem exec_smbusBlockRead_page :
    exec (.smbusBlockRead addr 0x80 pec) s = .next (smbAnswer addr 0x80 pec (32#8 :: octets s.pin.smbFresh 0 32) s) := by
  simp only [exec, execSmbusBlockRead, heard, Bool.not_true, Bool.false_eq_true, if_false, if_true]
  rfl

/-- A command code outside the page and 0x80 is not acknowledged. -/
theorem smbReads_outside (beyond : 0x20 ≤ c) (other : c ≠ 0x80) :
    ∀ i ∈ [Instr.smbusReadByte addr c pec, .smbusReadWord addr c pec, .smbusBlockRead addr c pec], exec i s = .next (emit (.smbus none) s) := by
  have notByte : ¬c < 0x20 := by omega
  have notWord : ¬c < 0x1F := by omega
  have notLast : c ≠ 0x1F := by omega
  refine smbReads_all ?_ ?_ ?_
  · simp [exec, execSmbusReadByte, heard, notByte, other, smbSilent]
  · simp [exec, execSmbusReadWord, heard, notWord, notLast, other, smbSilent]
  · simp [exec, execSmbusBlockRead, heard, notByte, other, smbSilent]

end

/-- Without power, or at another address, no read is acknowledged. -/
theorem smbReads_unheard (deaf : smbHears s addr = false) :
    ∀ i ∈ [Instr.smbusReadByte addr c pec, .smbusReadWord addr c pec, .smbusBlockRead addr c pec], exec i s = .next (emit (.smbus none) s) := by
  refine smbReads_all ?_ ?_ ?_
  · simp [exec, execSmbusReadByte, deaf, smbSilent]
  · simp [exec, execSmbusReadWord, deaf, smbSilent]
  · simp [exec, execSmbusBlockRead, deaf, smbSilent]

end

/-- Settles O27: the port answers what it hears with the page last refreshed, and acknowledges nothing else. -/
theorem boardManagementAnswersReads : Obligations.BoardManagementAnswersReads := by
  refine ⟨fun addr c pec s powered named => ?_, fun addr c pec s unheard => smbReads_unheard ?_, fun _ _ _ => rfl, fun _ => rfl⟩
  · have heard : smbHears s addr = true := by simp [smbHears, powered, named]
    exact ⟨exec_smbusReadByte_page heard, exec_smbusReadWord_page heard, exec_smbusBlockRead_page heard, smbReads_outside heard⟩
  · rcases unheard with dark | other
    · simp [smbHears, dark]
    · simp [smbHears, other]

end Sys2Proof.Machine
end

section
/-!
PROOFS. The bounds of the notice queue, the watermarks and the group role (R489, R490, R518) as an invariant of every step. Most commands
leave what the bounds speak of as it is: the queue stays within 1,024 notices exactly when it was, and the watermarks and the role stay.
Every operation on the state gets one lemma for that, in the order of the model's files. The few commands that set the role or take a
notice from the queue keep the bounds by lemmas of their own.
-/
namespace Sys2Proof.Machine
open Sys2Proof

/-! ### The shapes the meanings are written in -/

section
variable {α β : Type} {s t : State}

/-- `t` meets the bounds of its queue exactly when `s` does, and has as many watermarks and the group role of `s`. -/
@[simp] abbrev SameBounds (s t : State) : Prop :=
  (t.nq.queue.length ≤ noticeMax ↔ s.nq.queue.length ≤ noticeMax) ∧ t.nq.wms.length = s.nq.wms.length ∧ t.gp.role = s.gp.role

theorem SameBounds.of_eq (hq : t.nq = s.nq) (hr : t.gp.role = s.gp.role) : SameBounds s t := by simp [hq, hr]

theorem SameBounds.trans {u : State} (h : SameBounds s t) (k : SameBounds t u) : SameBounds s u :=
  ⟨k.1.trans h.1, k.2.1.trans h.2.1, k.2.2.trans h.2.2⟩

@[simp] theorem ite_bounds {c : Prop} [Decidable c] {a b : State} :
    ((if c then a else b).nq.queue.length ≤ noticeMax ↔ if c then a.nq.queue.length ≤ noticeMax else b.nq.queue.length ≤ noticeMax) ∧
    (if c then a else b).nq.wms.length = (if c then a.nq.wms.length else b.nq.wms.length) ∧
    (if c then a else b).gp.role = (if c then a.gp.role else b.gp.role) := by
  split <;> exact ⟨Iff.rfl, rfl, rfl⟩

@[simp] theorem ite_fst_bounds {c : Prop} [Decidable c] {a b : State × β} :
    ((if c then a else b).1.nq.queue.length ≤ noticeMax ↔ if c then a.1.nq.queue.length ≤ noticeMax else b.1.nq.queue.length ≤ noticeMax) ∧
    (if c then a else b).1.nq.wms.length = (if c then a.1.nq.wms.length else b.1.nq.wms.length) ∧
    (if c then a else b).1.gp.role = (if c then a.1.gp.role else b.1.gp.role) := by
  split <;> exact ⟨Iff.rfl, rfl, rfl⟩

@[simp] theorem ite_snd_bounds {c : Prop} [Decidable c] {a b : β × State} :
    ((if c then a else b).2.nq.queue.length ≤ noticeMax ↔ if c then a.2.nq.queue.length ≤ noticeMax else b.2.nq.queue.length ≤ noticeMax) ∧
    (if c then a else b).2.nq.wms.length = (if c then a.2.nq.wms.length else b.2.nq.wms.length) ∧
    (if c then a else b).2.gp.role = (if c then a.2.gp.role else b.2.gp.role) := by
  split <;> exact ⟨Iff.rfl, rfl, rfl⟩

@[simp] theorem elim_bounds {o : Option α} {f : α → State} (h : ∀ a, SameBounds s (f a)) : SameBounds s (o.elim s f) := by
  cases o with
  | none => exact .of_eq rfl rfl
  | some a => exact h a

theorem getD_bounds {o : Option State} (h : ∀ u, o = some u → SameBounds s u) (hd : SameBounds s t) : SameBounds s (o.getD t) := by
  cases o with
  | none => exact hd
  | some u => exact h u rfl

/-- What a fold carries besides the state does not matter to the bounds. -/
theorem foldl_part_bounds {σ : Type} (g : σ → State) {f : σ → α → σ} (h : ∀ x a, SameBounds (g x) (g (f x a))) :
    ∀ (l : List α) (x : σ), SameBounds (g x) (g (l.foldl f x))
  | [], _ => .of_eq rfl rfl
  | a :: l, x => (h x a).trans (foldl_part_bounds g h l (f x a))

@[simp] theorem foldl_bounds {f : State → α → State} (h : ∀ s a, SameBounds s (f s a)) (l : List α) (s : State) :
    SameBounds s (l.foldl f s) :=
  foldl_part_bounds id h l s

@[simp] theorem foldl_fst_bounds {f : State × β → α → State × β} (h : ∀ q a, SameBounds q.1 (f q a).1) (l : List α) (q : State × β) :
    SameBounds q.1 (l.foldl f q).1 :=
  foldl_part_bounds (·.1) h l q

@[simp] theorem foldl_snd_bounds {f : β × State → α → β × State} (h : ∀ q a, SameBounds q.2 (f q a).2) (l : List α) (q : β × State) :
    SameBounds q.2 (l.foldl f q).2 :=
  foldl_part_bounds (·.2) h l q

end

/-! ### Machine/Records: what enters the notice queue -/

@[simp] theorem length_insertNotice (n : Notice) : ∀ q : List Notice, (insertNotice n q).length = q.length + 1
  | [] => rfl
  | m :: q => by
    unfold insertNotice
    split <;> simp [length_insertNotice n q]

@[simp] theorem modMember_bounds (m : Nat) (f : Member → Member) (s : State) : SameBounds s (modMember m f s) := .of_eq rfl rfl

/-- A notice enters a queue with room, or takes the place of another: the bound of the queue holds as before (R489). -/
@[simp] theorem enterNotice_bounds (n : Notice) (s : State) : SameBounds s (enterNotice n s).2 := by
  unfold enterNotice
  dsimp only
  split
  next hroom =>
    have hle : s.nq.queue.length + 1 ≤ noticeMax ↔ s.nq.queue.length ≤ noticeMax := by omega
    split <;> simp [hle]
  next hfull =>
    have hne : s.nq.queue.length - 1 + 1 = s.nq.queue.length := by
      unfold noticeMax at hfull
      omega
    split <;> simp [hne]

@[simp] theorem createRec_bounds (p : Report) (cont : Bool) (s : State) : SameBounds s (createRec p cont s).2 := by simp

@[simp] theorem openLost_bounds (cont : Bool) (s : State) : SameBounds s (openLost cont s) := by
  unfold openLost
  dsimp only
  split <;> simp

@[simp] theorem lostNotice_bounds (s : State) : SameBounds s (lostNotice s) := by
  unfold lostNotice
  dsimp only
  split
  · simp
  · split <;> simp

@[simp] theorem postNotice_bounds (n : Notice) (s : State) : SameBounds s (postNotice n s) := by
  have henter := enterNotice_bounds n s
  unfold postNotice
  split
  all_goals
    next hq =>
      rw [hq] at henter
      simpa using henter

@[simp] theorem openRec_bounds (p : Report) (cont : Bool) (s : State) : SameBounds s (openRec p cont s) := by
  have hcreate := createRec_bounds p cont s
  unfold openRec
  split
  all_goals
    next hq =>
      rw [hq] at hcreate
      simpa using hcreate

@[simp] theorem report_bounds (p : Report) (s : State) : SameBounds s (report p s) := by
  unfold report
  dsimp only
  (repeat' split) <;> simp

@[simp] theorem note_bounds (event sev unit a b : Nat) (s : State) : SameBounds s (note event sev unit a b s) := by
  unfold note
  simp

@[simp] theorem fenceReport_bounds (a : Access) (master : Nat) (b : Blocked) (locked : Bool) (s : State) :
    SameBounds s (fenceReport a master b locked s) := by
  simp [fenceReport]

@[simp] theorem hcFence_bounds (kind addr len : Nat) (s : State) : SameBounds s (hcFence kind addr len s).2 := by
  unfold hcFence
  dsimp only
  (repeat' split) <;> simp

/-! ### What leaves through a port and the mailbox -/

@[simp] theorem macsecOut_bounds (b k : Nat) (clear : List Byte) (s : State) : SameBounds s (macsecOut b k clear s).2 := by
  unfold macsecOut
  dsimp only
  (repeat' split) <;> simp

@[simp] theorem gpFrame_bounds (m type : Nat) (payload : List Byte) (s : State) : SameBounds s (gpFrame m type payload s) := by
  simp [gpFrame]

@[simp] theorem gpSend_bounds (m type : Nat) (payload : List Byte) (s : State) : SameBounds s (gpSend m type payload s) := by
  simp [gpSend]

@[simp] theorem respondRelayed_bounds (f : Frame) (status detail tick : Nat) (payload : List Byte) (s : State) :
    SameBounds s (respondRelayed f status detail tick payload s) := by
  simp [respondRelayed]

@[simp] theorem respond_bounds (status detail tick : Nat) (payload : List Byte) (s : State) :
    SameBounds s (respond status detail tick payload s) := by
  unfold respond
  dsimp only
  (repeat' split) <;> simp

/-! ### Machine/Ops -/

@[simp] theorem raiseMsix_bounds {put : Output → State → State} (hput : ∀ o s, SameBounds s (put o s)) (fn : Nat)
    (pasid : Option Nat) (vec : Nat) (s : State) : SameBounds s (raiseMsix put fn pasid vec s) := by
  unfold raiseMsix
  dsimp only
  split
  · exact .of_eq rfl rfl
  · exact hput _ _

@[simp] theorem readHost_bounds (link : Nat) (pasid : Option Nat) (addr len : Nat) (s : State) :
    SameBounds s (readHost link pasid addr len s) := by simp [readHost]

@[simp] theorem writeHost_bounds (link : Nat) (pasid : Option Nat) (relaxed : Bool) (addr : Nat) (d : List Byte) (s : State) :
    SameBounds s (writeHost link pasid relaxed addr d s) := by simp [writeHost]

/-! ### Machine/Records -/

@[simp] theorem programRec_bounds (r : Rec) (s : State) : SameBounds s (programRec r s) := by
  unfold programRec
  dsimp only
  (repeat' split) <;> simp

@[simp] theorem execRecordFlush_bounds (seq : Nat) (s : State) : ResKeeps (SameBounds s) (execRecordFlush seq s) := by
  unfold execRecordFlush
  split <;> simp

@[simp] theorem execRecordCloseTimeout_bounds (seq : Nat) (s : State) : ResKeeps (SameBounds s) (execRecordCloseTimeout seq s) := by
  unfold execRecordCloseTimeout
  split <;> simp

@[simp] theorem execRecordStagingRoom_bounds (s : State) : ResKeeps (SameBounds s) (execRecordStagingRoom s) := by
  simp [execRecordStagingRoom]

@[simp] theorem refreshRegime_bounds (s : State) : SameBounds s (refreshRegime s) := by simp [refreshRegime]

@[simp] theorem execEvSnapTake_bounds (s : State) : ResKeeps (SameBounds s) (execEvSnapTake s) := by simp [execEvSnapTake]

@[simp] theorem execEvGo_bounds (value : Nat) (s : State) : ResKeeps (SameBounds s) (execEvGo value s) := by simp [execEvGo]

/-! ### Machine/Evidence -/

@[simp] theorem evidProgram_bounds (e : Evid) (s : State) : SameBounds s (evidProgram e s) := by simp [evidProgram]

@[simp] theorem evidAppend_bounds (e : Evid) (s : State) : SameBounds s (evidAppend e s) := by simp [evidAppend]

@[simp] theorem tmLast_bounds (cls source inst : Nat) (split : Bool) (s : State) : SameBounds s (tmLast cls source inst split s) := by
  simp [tmLast]

@[simp] theorem tamperReport_bounds (cls : Nat) (split : Bool) (seq : Nat) (s : State) : SameBounds s (tamperReport cls split seq s) := by
  simp [tamperReport]

/-! ### Machine/KeyStore -/

@[simp] theorem bump_bounds (level child : Nat) (s : State) : SameBounds s (bump level child s).2 := by simp [bump]

@[simp] theorem bumpTree_bounds (i : Nat) (s : State) : SameBounds s (bumpTree i s).2 := by simp [bumpTree]

@[simp] theorem journal_bounds (tick kind nrec fmt index : Nat) (payload : List Byte) (s : State) :
    SameBounds s (journal tick kind nrec fmt index payload s) := by simp [journal]

@[simp] theorem writeSlot_bounds (changeSeq : Nat) (chain : List Byte) (s : State) : SameBounds s (writeSlot changeSeq chain s) := by
  simp [writeSlot]

@[simp] theorem emptyStore_bounds (s : State) : SameBounds s (emptyStore s) := by simp [emptyStore]

@[simp] theorem loseStore_bounds (s : State) : SameBounds s (loseStore s) := by simp [loseStore]

/-! ### Machine/Exits -/

@[simp] theorem lanesStopPoint_bounds (s : State) : SameBounds s (lanesStopPoint s) := by simp [lanesStopPoint]

@[simp] theorem laneTakes_bounds (c : Nat) : ∀ (l : List Nat) (s : State),
    SameBounds s (laneTakes c l s).2
  | [], _ => .of_eq rfl rfl
  | n :: l, s => by simp [laneTakes, laneTakes_bounds c l]

@[simp] theorem laneOut_bounds (p sub inB bytes : Nat) (o : Output) (m : Option OutMsg) (s : State) :
    SameBounds s (laneOut p sub inB bytes o m s) := by
  unfold laneOut
  dsimp only
  (repeat' split) <;> simp

/-! ### Machine/GroupBase -/

@[simp] theorem joinFrame_bounds (m type : Nat) (payload : List Byte) (s : State) : SameBounds s (joinFrame m type payload s) := by
  simp [joinFrame]

@[simp] theorem drawIdentity_bounds (s : State) : SameBounds s (drawIdentity s) := by
  unfold drawIdentity
  split <;> simp

@[simp] theorem sendHello_bounds (restarted : Bool) (s : State) : SameBounds s (sendHello restarted s) := by simp [sendHello]

@[simp] theorem sendLockout_bounds (i until_ : Nat) (s : State) : SameBounds s (sendLockout i until_ s) := by simp [sendLockout]

@[simp] theorem sendStop_bounds (m b idx mode : Nat) (s : State) : SameBounds s (sendStop m b idx mode s) := by simp [sendStop]

@[simp] theorem dropAway_bounds (b idx : Nat) (s : State) : SameBounds s (dropAway b idx s) := by simp [dropAway]

/-! ### Machine/UnitBase -/

@[simp] theorem scorePk_bounds (u : Nat) (s : State) : SameBounds s (scorePk u s) := by simp [scorePk]

@[simp] theorem giveCtl_bounds (u : Nat) (c : PkCtl) (s : State) : SameBounds s (giveCtl u c s) := by simp [giveCtl]

@[simp] theorem giveBlock_bounds (b : SigBlock) (s : State) : SameBounds s (giveBlock b s) := by
  unfold giveBlock
  split <;> simp

/-! ### Machine/Mailbox -/

@[simp] theorem respondAt_bounds (k : Nat) (payload : List Byte) (s : State) : SameBounds s (respondAt k payload s) := by simp [respondAt]

@[simp] theorem answerPoint_bounds (s : State) : SameBounds s (answerPoint s) := by
  unfold answerPoint
  split <;> simp

@[simp] theorem gateEntry_bounds (h : Held) (s : State) : SameBounds s (gateEntry h s).2.2 := by
  unfold gateEntry
  dsimp only
  (repeat' split) <;> simp

@[simp] theorem giveBlocks_bounds (f : Frame) (s : State) : SameBounds s (giveBlocks f s) := by simp [giveBlocks]

theorem bounds_of_gateEntry {h k : Held} {s t : State} {o : Option (Nat × Nat)} (hq : gateEntry h s = (o, k, t)) : SameBounds s t := by
  have hgate := gateEntry_bounds h s
  rwa [hq] at hgate

@[simp] theorem enterGate_bounds (h : Held) (s : State) : SameBounds s (enterGate h s) := by
  unfold enterGate
  split
  all_goals
    next hq =>
      obtain ⟨hlen, hwms, hrole⟩ := bounds_of_gateEntry hq
      simp [hlen, hwms, hrole]

@[simp] theorem takeBody_bounds (h : Held) (body : List Byte) (s : State) : SameBounds s (takeBody h body s) := by
  unfold takeBody
  split <;> simp

@[simp] theorem runFrame_bounds (h : Held) (s : State) : SameBounds s (runFrame h s) := by
  unfold runFrame
  dsimp only
  (repeat' split) <;> simp

@[simp] theorem execMbCmdSubmit_bounds (value : Nat) (s : State) : ResKeeps (SameBounds s) (execMbCmdSubmit value s) := by
  simp [execMbCmdSubmit]

@[simp] theorem resumeWaiting_bounds (s : State) : SameBounds s (resumeWaiting s) := by
  unfold resumeWaiting
  split <;> simp

@[simp] theorem execMbBodyReadDone_bounds (r : ReadResult) (s : State) : ResKeeps (SameBounds s) (execMbBodyReadDone r s) := by
  unfold execMbBodyReadDone
  (repeat' split) <;> simp

@[simp] theorem execMbRspAck_bounds (tag : Nat) (s : State) : ResKeeps (SameBounds s) (execMbRspAck tag s) := by simp [execMbRspAck]

theorem withCmd_bounds {code : Nat} {s : State} {f : Held → List Byte → State → State} (h : ∀ k p, SameBounds s (f k p s)) :
    ResKeeps (SameBounds s) (withCmd code s f) := by
  simp only [SameBounds] at h
  unfold withCmd
  (repeat' split) <;> simp [h]

@[simp] theorem echoCmd_bounds (h : Held) (p : List Byte) (s : State) : SameBounds s (echoCmd h p s) := by simp [echoCmd]

@[simp] theorem execEcho_bounds (s : State) : ResKeeps (SameBounds s) (execEcho s) :=
  withCmd_bounds (fun h p => by simp)

@[simp] theorem cmdStatusCmd_bounds (h : Held) (p : List Byte) (s : State) : SameBounds s (cmdStatusCmd h p s) := by
  unfold cmdStatusCmd
  split <;> simp

@[simp] theorem execCmdStatus_bounds (s : State) : ResKeeps (SameBounds s) (execCmdStatus s) :=
  withCmd_bounds (fun h p => by simp)

@[simp] theorem beginLong_bounds (code : Nat) (data : List Byte) (s : State) : SameBounds s (beginLong code data s).2 := by
  simp [beginLong]

@[simp] theorem credEnrolCmd_bounds (h : Held) (p : List Byte) (s : State) : SameBounds s (credEnrolCmd h p s) := by simp [credEnrolCmd]

@[simp] theorem execCredEnrol_bounds (s : State) : ResKeeps (SameBounds s) (execCredEnrol s) :=
  withCmd_bounds (fun h p => by simp)

@[simp] theorem credRevokeCmd_bounds (h : Held) (p : List Byte) (s : State) : SameBounds s (credRevokeCmd h p s) := by simp [credRevokeCmd]

@[simp] theorem execCredRevoke_bounds (s : State) : ResKeeps (SameBounds s) (execCredRevoke s) :=
  withCmd_bounds (fun h p => by simp)

@[simp] theorem credListCmd_bounds (h : Held) (k : List Byte) (s : State) : SameBounds s (credListCmd h k s) := by simp [credListCmd]

@[simp] theorem execCredList_bounds (s : State) : ResKeeps (SameBounds s) (execCredList s) :=
  withCmd_bounds (fun h p => by simp)

@[simp] theorem quorumGetCmd_bounds (h : Held) (k : List Byte) (s : State) : SameBounds s (quorumGetCmd h k s) := by simp [quorumGetCmd]

@[simp] theorem execQuorumGet_bounds (s : State) : ResKeeps (SameBounds s) (execQuorumGet s) :=
  withCmd_bounds (fun h p => by simp)

@[simp] theorem credSealCmd_bounds (h : Held) (k : List Byte) (s : State) : SameBounds s (credSealCmd h k s) := by simp [credSealCmd]

@[simp] theorem execCredSeal_bounds (s : State) : ResKeeps (SameBounds s) (execCredSeal s) :=
  withCmd_bounds (fun h p => by simp)

/-! ### Machine/Erase -/

@[simp] theorem refreshCons_bounds (s : State) : SameBounds s (refreshCons s) := by simp [refreshCons]

@[simp] theorem closeTrace_bounds (s : State) : SameBounds s (closeTrace s) := by simp [closeTrace]

@[simp] theorem eraseTrace_bounds (s : State) : SameBounds s (eraseTrace s) := by simp [eraseTrace]

@[simp] theorem raiseStoreGen_bounds (s : State) : SameBounds s (raiseStoreGen s) := by simp [raiseStoreGen]

@[simp] theorem eraseRoot_bounds (s : State) : SameBounds s (eraseRoot s) := by simp [eraseRoot]

@[simp] theorem eraseLimits_bounds (s : State) : SameBounds s (eraseLimits s) := by simp [eraseLimits]

@[simp] theorem eraseEdges_bounds (s : State) : SameBounds s (eraseEdges s) := by simp [eraseEdges]

@[simp] theorem disarm_bounds (s : State) : SameBounds s (disarm s) := by simp [disarm]

@[simp] theorem eraseAtOnce_bounds (s : State) : SameBounds s (eraseAtOnce s) := by simp [eraseAtOnce]

/-! ### Machine/Transition -/

@[simp] theorem undoAction_bounds (a : LcAction) (s : State) : SameBounds s (undoAction a s) := by
  unfold undoAction
  split <;> simp

@[simp] theorem writeIntent_bounds (target : Lc) (causeKind cause : Nat) (s : State) :
    SameBounds s (writeIntent target causeKind cause s) := by simp [writeIntent]

@[simp] theorem afterCommit_bounds (t : Lc) (s : State) : SameBounds s (afterCommit t s) := by
  unfold afterCommit
  split <;> simp

@[simp] theorem commitTransition_bounds (s : State) : SameBounds s (commitTransition s) := by
  unfold commitTransition
  dsimp only
  (repeat' split) <;> simp

@[simp] theorem beginTransition_bounds (target : Lc) (causeKind cause : Nat) (s : State) :
    SameBounds s (beginTransition target causeKind cause s) := by simp [beginTransition]

@[simp] theorem undoOpening_bounds (s : State) : SameBounds s (undoOpening s) := by
  unfold undoOpening
  dsimp only
  split <;> simp [-List.foldl_reverse]

@[simp] theorem lockDue_bounds (s : State) : SameBounds s (lockDue s) := by
  unfold lockDue
  split <;> simp

/-! ### Machine/Responses -/

@[simp] theorem releaseExits_bounds (keep : Bool) (s : State) : SameBounds s (releaseExits keep s) := by
  unfold releaseExits
  dsimp only
  (repeat' split) <;> simp

@[simp] theorem lockHeld_bounds (s : State) : SameBounds s (lockHeld s) := by
  unfold lockHeld
  split <;> simp

@[simp] theorem lockResponse_bounds (cause : Nat) (s : State) : SameBounds s (lockResponse cause s) := by simp [lockResponse]

@[simp] theorem restartQps_bounds (which : Nat → Bool) (s : State) : SameBounds s (restartQps which s) := by simp [restartQps]

@[simp] theorem resetAnswer_bounds (s : State) : SameBounds s (resetAnswer s) := by simp [resetAnswer]

@[simp] theorem endResets_bounds (s : State) : SameBounds s (endResets s) := by simp [endResets]

@[simp] theorem flushStaging_bounds (s : State) : SameBounds s (flushStaging s) := by simp [flushStaging]

@[simp] theorem zeroResponse_bounds (cause : Nat) (s : State) : SameBounds s (zeroResponse cause s) := by
  unfold zeroResponse
  dsimp only
  (repeat' split) <;> simp

@[simp] theorem lockClass_bounds (source detail : Nat) (s : State) : SameBounds s (lockClass source detail s) := by simp [lockClass]

@[simp] theorem egressStop_bounds (func version exit_ : Nat) (s : State) : SameBounds s (egressStop func version exit_ s) := by
  simp [egressStop]

/-! ### Machine/Egress -/

@[simp] theorem dropWork_bounds (id : Nat) (s : State) : SameBounds s (dropWork id s) := by
  unfold dropWork
  split <;> simp

@[simp] theorem addWork_bounds (w : Work) (s : State) : SameBounds s (addWork w s) := by simp [addWork]

@[simp] theorem countStatus_bounds (st : Nat) (s : State) : SameBounds s (countStatus st s) := by simp [countStatus]

@[simp] theorem qpVector_bounds (n : Nat) (s : State) : SameBounds s (qpVector n s) := by simp [qpVector]

@[simp] theorem writeEntry_bounds (n : Nat) (c : Cpl) (ngran : Nat) (s : State) : SameBounds s (writeEntry n c ngran s) := by
  simp [writeEntry]

@[simp] theorem writeCpl_bounds (n : Nat) (c : Cpl) (s : State) : SameBounds s (writeCpl n c s) := by simp [writeCpl]

@[simp] theorem discardCpl_bounds (n seq : Nat) (s : State) : SameBounds s (discardCpl n seq s) := by simp [discardCpl]

@[simp] theorem deliver_bounds (n : Nat) (c : Cpl) (s : State) : SameBounds s (deliver n c s) := by simp [deliver]

@[simp] theorem completeQueue_bounds (w : Work) (n seq : Nat) (raised ticks : Nat) (r : FnRes) (wrote : Option Nat) (s : State) :
    SameBounds s (completeQueue w n seq raised ticks r wrote s) := by simp [completeQueue]

@[simp] theorem completeBatch_bounds (id : Nat) (n seq : Nat) (w : Work) (b : Batch) (s : State) :
    SameBounds s (completeBatch id n seq w b s) := by simp [completeBatch]

/-! ### Machine/KeyBase -/

@[simp] theorem evict_bounds (s : State) : SameBounds s (evict s) := by
  unfold evict
  dsimp only
  (repeat' split) <;> simp

@[simp] theorem touch_bounds (i : Nat) (s : State) : SameBounds s (touch i s) := by simp [touch]

@[simp] theorem touchNode_bounds (i : Nat) (s : State) : SameBounds s (touchNode i s) := by simp [touchNode]

@[simp] theorem lookUp_bounds (i : Nat) (s : State) : SameBounds s (lookUp i s) := by simp [lookUp]

@[simp] theorem lockKeys_bounds (id : Nat) (s : State) : SameBounds s (lockKeys id s) := by
  unfold lockKeys
  split <;> simp

@[simp] theorem failWhere_bounds (p : Nat → Bool) (s : State) : SameBounds s (failWhere p s) := by simp [failWhere]

@[simp] theorem failReads_bounds (is : List Nat) (s : State) : SameBounds s (failReads is s) := by simp [failReads]

@[simp] theorem storeFailed_bounds (s : State) : SameBounds s (storeFailed s) := by simp [storeFailed]

@[simp] theorem quarantine_bounds (i : Nat) (node : Bool) (s : State) : SameBounds s (quarantine i node s) := by simp [quarantine]

@[simp] theorem rewriteRecord_bounds (i : Nat) (s : State) : SameBounds s (rewriteRecord i s) := by simp [rewriteRecord]

@[simp] theorem recordRead_bounds (i : Nat) (e : FetchEnd) (s : State) : SameBounds s (recordRead i e s) := by
  unfold recordRead
  split <;> simp

@[simp] theorem execKeyFetchDone_bounds (i : Nat) (e : FetchEnd) (s : State) : ResKeeps (SameBounds s) (execKeyFetchDone i e s) := by
  unfold execKeyFetchDone
  dsimp only
  (repeat' split) <;> simp

@[simp] theorem execKeystoreScrub_bounds (a b c d : FetchEnd) (s : State) : ResKeeps (SameBounds s) (execKeystoreScrub a b c d s) := by
  simp [execKeystoreScrub]

@[simp] theorem handOver_bounds (id : Nat) (k : ChangeKind) (s : State) : SameBounds s (handOver id k s) := by
  unfold handOver
  split <;> simp

@[simp] theorem placeKey_bounds (id d : Nat) (p : List Byte) (k : NewKey) (s : State) : SameBounds s (placeKey id d p k s).2 := by
  unfold placeKey
  split <;> simp

@[simp] theorem putRec_bounds (i : Nat) (r : KRec) (s : State) : SameBounds s (putRec i r s) := by simp [putRec]

@[simp] theorem putExts_bounds (i : Nat) (r : KRec) (s : State) : SameBounds s (putExts i r s) := by simp [putExts]

@[simp] theorem eraseIndex_bounds (s : State) (i : Nat) : SameBounds s (eraseIndex s i) := by simp [eraseIndex]

@[simp] theorem copyAgain_bounds (i : Nat) (s : State) : SameBounds s (copyAgain i s) := by simp [copyAgain]

@[simp] theorem writeRec_bounds (i : Nat) (r : KRec) (s : State) : SameBounds s (writeRec i r s) := by simp [writeRec]

@[simp] theorem commitKind_bounds (k : ChangeKind) (s : State) : SameBounds s (commitKind k s) := by
  unfold commitKind
  split <;> simp

@[simp] theorem stampWork_bounds (c : Change) (s : State) : SameBounds s (stampWork c s) := by
  unfold stampWork
  dsimp only
  (repeat' split) <;> simp

@[simp] theorem commitOne_bounds (c : Change) (full : List (Nat × Nat)) (s : State) : SameBounds s (commitOne c full s).2 := by
  simp [commitOne]

@[simp] theorem commitAll_bounds (cs : List Change) (s : State) : SameBounds s (commitAll cs s).2.2 :=
  foldl_part_bounds (fun q : List Change × List (Nat × Nat) × State => q.2.2) (fun q c => by split <;> simp) cs _

@[simp] theorem commitBatch_bounds (bid : Nat) (q : List (Nat × Nat) × State) : SameBounds q.2 (commitBatch bid q).2 := by
  simp [commitBatch]

@[simp] theorem commitChanges_bounds (s : State) : SameBounds s (commitChanges s) := by simp [commitChanges]

@[simp] theorem applyDomains_bounds (s : State) : SameBounds s (applyDomains s) := by simp [applyDomains]

/-! ### Machine/FnTable -/

@[simp] theorem withKeys_bounds {d : Nat} {ks : List (Nat × KeyRead × Bool × Bool)} {s : State} {k : Unit → StepRes × State}
    (hk : SameBounds s (k ()).2) : SameBounds s (withKeys d ks s k).2 := by
  unfold withKeys
  split
  · exact .of_eq rfl rfl
  · exact hk

@[simp] theorem drawBytes_bounds (n : Nat) (s : State) : SameBounds s (drawBytes n s).2 := by simp [drawBytes]

/-! ### Machine/KeyFns -/

@[simp] theorem importBlock_bounds (id d : Nat) (p : List Byte) (kbpk : KRec) (block : List Byte) (s : State) :
    SameBounds s (importBlock id d p kbpk block s).2 := by
  unfold importBlock
  dsimp only
  (repeat' split) <;> simp

@[simp] theorem runImport_bounds (id : Nat) (w : Work) (s : State) : SameBounds s (runImport id w s).2 := by simp [runImport]

@[simp] theorem runExport_bounds (w : Work) (s : State) : SameBounds s (runExport w s).2 := by simp [runExport]

@[simp] theorem drawKey_bounds (t n : Nat) (s : State) : SameBounds s (drawKey t n s).2 := by simp [drawKey]

@[simp] theorem runGenerate_bounds (id : Nat) (w : Work) (s : State) : SameBounds s (runGenerate id w s).2 := by simp [runGenerate]

@[simp] theorem genSteps_bounds (t : Nat) (s : State) : SameBounds s (genSteps t s).2 := by
  unfold genSteps
  split <;> simp

@[simp] theorem runGenPair_bounds (id : Nat) (w : Work) (s : State) : SameBounds s (runGenPair id w s).2 := by simp [runGenPair]

@[simp] theorem runAgree_bounds (id : Nat) (w : Work) (s : State) : SameBounds s (runAgree id w s).2 := by
  unfold runAgree
  dsimp only
  (repeat' split) <;> simp

@[simp] theorem runDelete_bounds (id : Nat) (w : Work) (s : State) : SameBounds s (runDelete id w s).2 := by
  unfold runDelete
  split <;> simp

@[simp] theorem runQuery_bounds (w : Work) (s : State) : SameBounds s (runQuery w s).2 := by
  unfold runQuery
  split <;> simp

@[simp] theorem runRestrict_bounds (id : Nat) (w : Work) (s : State) : SameBounds s (runRestrict id w s).2 := by
  unfold runRestrict
  split <;> simp

@[simp] theorem runPin_bounds (id : Nat) (w : Work) (s : State) : SameBounds s (runPin id w s).2 := by simp [runPin]

@[simp] theorem runClearLoad_bounds (id : Nat) (w : Work) (s : State) : SameBounds s (runClearLoad id w s).2 := by simp [runClearLoad]

@[simp] theorem runPublic_bounds (w : Work) (s : State) : SameBounds s (runPublic w s).2 := by simp [runPublic]

@[simp] theorem runKeyFn_bounds (id : Nat) (w : Work) (s : State) : SameBounds s (runKeyFn id w s).2 := by
  unfold runKeyFn
  (repeat' split) <;> simp

/-! ### Machine/Limiter -/

@[simp] theorem limUse_bounds (w : Work) (s : State) : SameBounds s (limUse w s) := by
  unfold limUse
  split <;> simp

@[simp] theorem limFullNotice_bounds (w : Work) (s : State) : SameBounds s (limFullNotice w s) := by
  unfold limFullNotice
  split <;> simp

@[simp] theorem suspend_bounds (i windows : Nat) (s : State) : SameBounds s (suspend i windows s) := by simp [suspend]

@[simp] theorem limFail_bounds (i : Nat) (s : State) : SameBounds s (limFail i s) := by simp [limFail]

@[simp] theorem guardCount_bounds (g : Nat) (failed : Bool) (s : State) : SameBounds s (guardCount g failed s) := by simp [guardCount]

@[simp] theorem limResult_bounds (w : Work) (st : Nat) (s : State) : SameBounds s (limResult w st s) := by
  unfold limResult
  dsimp only
  (repeat' split) <;> simp

@[simp] theorem execLimiterSecondDecision_bounds (i : Nat) (fault : Bool) (s : State) :
    ResKeeps (SameBounds s) (execLimiterSecondDecision i fault s) := by
  unfold execLimiterSecondDecision
  dsimp only
  (repeat' split) <;> simp

@[simp] theorem windowBoundary_bounds (s : State) : SameBounds s (windowBoundary s) := by simp [windowBoundary]

@[simp] theorem execLimiterWindowBoundary_bounds (s : State) : ResKeeps (SameBounds s) (execLimiterWindowBoundary s) := by
  simp [execLimiterWindowBoundary]

@[simp] theorem endLock_bounds (i : Nat) (s : State) : SameBounds s (endLock i s) := by simp [endLock]

@[simp] theorem execLimiterLockoutEnd_bounds (i : Nat) (s : State) : ResKeeps (SameBounds s) (execLimiterLockoutEnd i s) := by
  unfold execLimiterLockoutEnd
  split <;> simp

@[simp] theorem limitQueryCmd_bounds (h : Held) (p : List Byte) (s : State) : SameBounds s (limitQueryCmd h p s) := by simp [limitQueryCmd]

@[simp] theorem execLimitQuery_bounds (s : State) : ResKeeps (SameBounds s) (execLimitQuery s) :=
  withCmd_bounds (fun h p => by simp)

@[simp] theorem limitClearCmd_bounds (h : Held) (p : List Byte) (s : State) : SameBounds s (limitClearCmd h p s) := by
  unfold limitClearCmd
  dsimp only
  (repeat' split) <;> simp

@[simp] theorem execLimitClear_bounds (s : State) : ResKeeps (SameBounds s) (execLimitClear s) :=
  withCmd_bounds (fun h p => by simp)

@[simp] theorem pinPolicySetCmd_bounds (h : Held) (p : List Byte) (s : State) : SameBounds s (pinPolicySetCmd h p s) := by
  simp [pinPolicySetCmd]

@[simp] theorem execPinPolicySet_bounds (s : State) : ResKeeps (SameBounds s) (execPinPolicySet s) :=
  withCmd_bounds (fun h p => by simp)

@[simp] theorem limiterPoint_bounds (s : State) : SameBounds s (limiterPoint s) := by
  unfold limiterPoint
  split <;> simp

/-! ### Machine/PinFns -/

@[simp] theorem drawPin_bounds (len : Nat) (s : State) : SameBounds s (drawPin len s).2 := by simp [drawPin]

@[simp] theorem translate_bounds (i : PinIn) (key key1 : List Byte) (s : State) : SameBounds s (translate i key key1 s).2 := by
  unfold translate
  split <;> simp

@[simp] theorem generatePin_bounds (i : PinIn) (key pvk : List Byte) (d : DecTab) (s : State) :
    SameBounds s (generatePin i key pvk d s).2 := by simp [generatePin]

@[simp] theorem runPinFn_bounds (w : Work) (s : State) : SameBounds s (runPinFn w s).2 := by
  unfold runPinFn
  refine withKeys_bounds ?_
  dsimp only
  split <;> simp

@[simp] theorem runCardFn_bounds (w : Work) (s : State) : SameBounds s (runCardFn w s).2 := by simp [runCardFn]

/-! ### Machine/CryptoFns -/

@[simp] theorem runEmvFn_bounds (w : Work) (s : State) : SameBounds s (runEmvFn w s).2 := by
  unfold runEmvFn
  dsimp only
  (repeat' split) <;> simp

@[simp] theorem runMacFn_bounds (w : Work) (s : State) : SameBounds s (runMacFn w s).2 := by simp [runMacFn]

@[simp] theorem runTokenFn_bounds (w : Work) (s : State) : SameBounds s (runTokenFn w s).2 := by
  unfold runTokenFn
  dsimp only
  (repeat' split) <;> simp

@[simp] theorem p2peSeal_bounds (p : List Byte) (zone : List Byte) (d : List Byte) (s : State) : SameBounds s (p2peSeal p zone d s).2 := by
  simp [p2peSeal]

@[simp] theorem runP2peFn_bounds (w : Work) (s : State) : SameBounds s (runP2peFn w s).2 := by
  unfold runP2peFn
  dsimp only
  (repeat' split) <;> simp

/-! ### Machine/PkBase -/

@[simp] theorem pkAssign_bounds (id u : Nat) (s : State) : SameBounds s (pkAssign id u s) := by
  unfold pkAssign
  split <;> simp

@[simp] theorem pkGrant_bounds (id : Nat) (s : State) : SameBounds s (pkGrant id s) := by
  unfold pkGrant
  (repeat' split) <;> simp

@[simp] theorem pkSteps_bounds (f t : Nat) (s : State) : SameBounds s (pkSteps f t s).2 := by
  unfold pkSteps
  split <;> simp

@[simp] theorem pkStart_bounds (w : Work) (s : State) : SameBounds s (pkStart w s).2 := by
  unfold pkStart
  dsimp only
  (repeat' split) <;> simp

/-! ### Machine/Functions -/

@[simp] theorem runProg_bounds (w : Work) (s : State) : SameBounds s (runProg w s).2 := by
  unfold runProg
  split <;> simp

@[simp] theorem runBody_bounds (id : Nat) (w : Work) (s : State) : SameBounds s (runBody id w s).2 := by
  unfold runBody
  (repeat' split) <;> simp

@[simp] theorem runFn_bounds (id : Nat) (w : Work) (s : State) : SameBounds s (runFn id w s).2 := by
  unfold runFn
  dsimp only
  (repeat' split) <;> simp

@[simp] theorem runChainFn_bounds (id mid : Nat) (w : Work) (plan : ChainPlan) (k : Nat) (s : State) :
    SameBounds s (runChainFn id mid w plan k s) := by
  unfold runChainFn
  dsimp only
  (repeat' split) <;> simp

@[simp] theorem runChainStep_bounds (id mid : Nat) (w : Work) (plan : ChainPlan) (s : State) :
    SameBounds s (runChainStep id mid w plan s).2 := by
  unfold runChainStep
  dsimp only
  (repeat' split) <;> simp

@[simp] theorem runStep_bounds (id : Nat) (s : State) : SameBounds s (runStep id s).2 := by
  unfold runStep
  (repeat' split) <;> simp

/-! ### Machine/Costs -/

@[simp] theorem askWake_bounds (s : State) : SameBounds s (askWake s) := by simp [askWake]

@[simp] theorem refreshPool_bounds (s : State) : SameBounds s (refreshPool s) := by simp [refreshPool]

@[simp] theorem commitCal_bounds (key : Nat) (s : State) : SameBounds s (commitCal key s) := by simp [commitCal]

@[simp] theorem calPoint_bounds (s : State) : SameBounds s (calPoint s) := by simp [calPoint]

@[simp] theorem uncalibrate_bounds (hit : Nat → Bool) (s : State) : SameBounds s (uncalibrate hit s) := by simp [uncalibrate]

@[simp] theorem vendorPoint_bounds (s : State) : SameBounds s (vendorPoint s) := by simp [vendorPoint]

@[simp] theorem calibrate_bounds (func cycles misses wait : Nat) (s : State) : SameBounds s (calibrate func cycles misses wait s) := by
  simp [calibrate]

@[simp] theorem loadBandPoint_bounds (s : State) : SameBounds s (loadBandPoint s) := by simp [loadBandPoint]

@[simp] theorem powerFault_bounds (s : State) : SameBounds s (powerFault s) := by simp [powerFault]

@[simp] theorem execPowerSample_bounds (mv ma : Int) (s : State) : ResKeeps (SameBounds s) (execPowerSample mv ma s) := by
  simp [execPowerSample]

@[simp] theorem powerAbsent_bounds (s : State) : SameBounds s (powerAbsent s) := by simp [powerAbsent]

/-! ### Machine/RandomBase -/

@[simp] theorem drbgCall_bounds (i k : Nat) (s : State) : SameBounds s (drbgCall i k s) := by simp [drbgCall]

@[simp] theorem instantiate_bounds (i : Nat) (s : State) : SameBounds s (instantiate i s) := by simp [instantiate]

@[simp] theorem instantiateAll_bounds (s : State) : SameBounds s (instantiateAll s) := by simp [instantiateAll]

@[simp] theorem reseed_bounds (i : Nat) (s : State) : SameBounds s (reseed i s) := by simp [reseed]

/-! ### Machine/House -/

@[simp] theorem raiseRetest_bounds (e : Nat) (s : State) : SameBounds s (raiseRetest e s) := by simp [raiseRetest]

@[simp] theorem startRetest_bounds (e : Nat) (s : State) : SameBounds s (startRetest e s) := by simp [startRetest]

@[simp] theorem runTask_bounds (t : HkTask) (s : State) : SameBounds s (runTask t s) := by
  unfold runTask
  dsimp only
  (repeat' split) <;> simp

@[simp] theorem grantTasks_bounds (ts : List HkTask) (budget : Nat) (s : State) : SameBounds s (grantTasks ts budget s).1 := by
  simp [grantTasks]

@[simp] theorem hkPass_bounds (s : State) : SameBounds s (hkPass s).1 := by simp [hkPass]

@[simp] theorem grantOverdue_bounds (od : Bool) (pool : Nat) (s : State) : SameBounds s (grantOverdue od pool s).1 := by
  simp [grantOverdue]

/-! ### Machine/Usage -/

@[simp] theorem countUsage_bounds (id : Nat) (s : State) : SameBounds s (countUsage id s) := by
  unfold countUsage
  dsimp only
  (repeat' split) <;> simp

/-! ### Machine/Grants -/

@[simp] theorem toBack_bounds (id : Nat) (s : State) : SameBounds s (toBack id s) := by simp [toBack]

@[simp] theorem hostPeak_bounds (n : Nat) (s : State) : SameBounds s (hostPeak n s) := by simp [hostPeak]

@[simp] theorem readChunk_bounds (id : Nat) (s : State) : SameBounds s (readChunk id s) := by
  unfold readChunk
  dsimp only
  (repeat' split) <;> simp

@[simp] theorem laneReads_bounds (n : Nat) (s : State) : SameBounds s (laneReads n s) := by
  unfold laneReads
  dsimp only
  (repeat' split) <;> simp

@[simp] theorem grantRandom_finish'_bounds (id : Nat) (r : FnRes) (s : State) : SameBounds s (grantRandom.finish' id r s) := by
  simp [grantRandom.finish']

@[simp] theorem grantRandom_bounds (id : Nat) (w : Work) (s : State) : SameBounds s (grantRandom id w s) := by simp [grantRandom]

@[simp] theorem grantPlace_bounds (id : Nat) (w : Work) (place : Option Nat) (role : KRec → Bool) (s : State) :
    SameBounds s (grantPlace id w place role s) := by
  unfold grantPlace
  dsimp only
  (repeat' split) <;> simp

@[simp] theorem grantUses_bounds (id : Nat) (w : Work) (s : State) : SameBounds s (grantUses id w s) := by simp [grantUses]

@[simp] theorem takeSignKey_bounds (e : Nat) (s : State) : SameBounds s (takeSignKey e s) := by
  unfold takeSignKey
  split <;> simp

@[simp] theorem onGrant_bounds (id : Nat) (s : State) : SameBounds s (onGrant id s) := by
  unfold onGrant
  dsimp only
  (repeat' split) <;> simp

/-! ### Machine/Requests -/

@[simp] theorem refund_bounds (w : Work) (s : State) : SameBounds s (refund w s) := by simp [refund]

@[simp] theorem finish_bounds (id : Nat) (r : FnRes) (s : State) : SameBounds s (finish id r s) := by
  unfold finish
  split <;> simp

@[simp] theorem laneEnd_bounds (id : Nat) (r : FnRes) (s : State) : SameBounds s (laneEnd id r s) := by
  unfold laneEnd
  split <;> simp

@[simp] theorem withdraw_bounds (id status detail ticks : Nat) (s : State) : SameBounds s (withdraw id status detail ticks s) := by
  unfold withdraw
  split <;> simp

@[simp] theorem failAtomic_bounds (b : Batch) (s : State) : SameBounds s (failAtomic b s).2 :=
  foldl_snd_bounds (fun s a => by (repeat' split) <;> simp) _ _

@[simp] theorem writePart_bounds (head : Option Work) (addr : Nat) (out : List Byte) (s : State) :
    SameBounds s (writePart head addr out s) := by
  unfold writePart
  dsimp only
  (repeat' split) <;> simp

@[simp] theorem endPart_bounds (id bid idx : Nat) (w : Work) (r : FnRes) (s : State) : SameBounds s (endPart id bid idx w r s) := by
  unfold endPart
  split <;> simp

/-! ### Machine/Spread -/

@[simp] theorem readPart_bounds (bid id c : Nat) (s : State) : SameBounds s (readPart bid id c s) := by
  unfold readPart
  split <;> simp

@[simp] theorem readSent_bounds (bid : Nat) (ps : List (Nat × Nat)) (s : State) : SameBounds s (readSent bid ps s) := by simp [readSent]

@[simp] theorem sendRange_bounds (bid m : Nat) (ps : List (Nat × Nat)) (s : State) : SameBounds s (sendRange bid m ps s) := by
  simp [sendRange]

@[simp] theorem sendRanges_bounds (bid : Nat) : ∀ (l ps : List (Nat × Nat)) (s : State),
    SameBounds s (sendRanges bid l ps s)
  | [], _, _ => .of_eq rfl rfl
  | (m, k) :: l, ps, s => by simp [sendRanges, sendRanges_bounds bid l]

@[simp] theorem splitBatch_bounds (bid : Nat) (b : Batch) (s : State) : SameBounds s (splitBatch bid b s) := by simp [splitBatch]

@[simp] theorem splitBatches_bounds (s : State) : SameBounds s (splitBatches s) := by simp [splitBatches]

/-! ### Machine/Dispatcher -/

@[simp] theorem loadEngine_bounds (e cycles : Nat) (s : State) : SameBounds s (loadEngine e cycles s) := by simp [loadEngine]

@[simp] theorem placeOn_bounds (id : Nat) (p : Nat × Nat) (cycles : Nat) (s : State) : SameBounds s (placeOn id p cycles s) := by
  simp [placeOn]

@[simp] theorem placeStep_bounds (id : Nat) (c : Nat) (s : State) : SameBounds s (placeStep id c s) := by
  unfold placeStep
  (repeat' split) <;> simp

@[simp] theorem startSpilled_bounds (s : State) : SameBounds s (startSpilled s) :=
  foldl_bounds (fun s a => by (repeat' split) <;> simp) _ _

@[simp] theorem touchBatch_bounds (w : Work) (s : State) : SameBounds s (touchBatch w s) := by
  unfold touchBatch
  (repeat' split) <;> simp

@[simp] theorem grantStep_bounds (id note cost : Nat) (s : State) : SameBounds s (grantStep id note cost s) := by
  unfold grantStep
  split <;> simp

@[simp] theorem refill_bounds (s : State) : SameBounds s (refill s) := by simp [refill]

@[simp] theorem ageBase_bounds (s : State) : SameBounds s (ageBase s) := by simp [ageBase]

@[simp] theorem endAtomicWhole_bounds (bid : Nat) (r : FnRes) (only : Option Nat) (s : State) :
    SameBounds s (endAtomicWhole bid r only s) := by
  unfold endAtomicWhole
  split
  · simp only [SameBounds, modWork_frame, refund_bounds]
    refine foldl_bounds (fun s p => ?_) _ _
    split <;> simp
  · simp

@[simp] theorem endUngranted_bounds (id status detail ticks : Nat) (s : State) : SameBounds s (endUngranted id status detail ticks s) := by
  simp [endUngranted]

@[simp] theorem chargeOne_bounds (acc : State × List (Nat × Nat)) (id : Nat) : SameBounds acc.1 (chargeOne acc id).1 := by
  unfold chargeOne
  dsimp only
  split <;> simp

@[simp] theorem refuseBase_bounds (refused : List (Nat × Nat)) (s : State) : SameBounds s (refuseBase refused s) :=
  foldl_fst_bounds (fun s a => by (repeat' split) <;> simp) _ _

@[simp] theorem chargeBase_bounds (s : State) : SameBounds s (chargeBase s) := by simp [chargeBase]

@[simp] theorem checkEligible_bounds (s : State) : SameBounds s (checkEligible s) :=
  foldl_bounds (fun s a => by (repeat' split) <;> simp) _ _

@[simp] theorem beginAtomic_bounds (bid note cost : Nat) (s : State) : SameBounds s (beginAtomic bid note cost s) := by
  unfold beginAtomic
  dsimp only
  (repeat' split) <;> simp

@[simp] theorem grantAny_bounds (id note cost : Nat) (s : State) : SameBounds s (grantAny id note cost s) := by simp [grantAny]

@[simp] theorem endAtGrant_bounds (id : Nat) (r : FnRes) (s : State) : SameBounds s (endAtGrant id r s) := by
  unfold endAtGrant
  dsimp only
  (repeat' split) <;> simp

@[simp] theorem grantRetries_bounds (budget : Nat) (s : State) : SameBounds s (grantRetries budget s).1 :=
  foldl_fst_bounds (fun s a => by (repeat' split) <;> simp) _ _

@[simp] theorem refuseHeart_bounds (granted : Nat) (s : State) : SameBounds s (refuseHeart granted s) := by simp [refuseHeart]

@[simp] theorem passOne_bounds (note : Nat) (p : Pass) (id : Nat) :
    SameBounds p.s (passOne note p id).s := by
  unfold passOne
  dsimp only
  (repeat' split) <;> simp

@[simp] theorem demote_bounds (id a : Nat) (p : Pass) : SameBounds p.s (demote id a p).s := by simp [demote]

@[simp] theorem topOne_bounds (p : Pass) (id : Nat) : SameBounds p.s (topOne p id).s := by
  unfold topOne
  dsimp only
  (repeat' split) <;> simp

theorem foldl_pass_bounds {f : Pass → Nat → Pass} (h : ∀ p id, SameBounds p.s (f p id).s) (l : List Nat) (p : Pass) :
    SameBounds p.s (l.foldl f p).s :=
  foldl_part_bounds (·.s) h l p

@[simp] theorem topPass_bounds (stop : Bool) (s : State) : SameBounds s (topPass stop s).s :=
  foldl_pass_bounds (fun p id => by (repeat' split) <;> simp) _ _

@[simp] theorem grantPasses_bounds (s : State) : SameBounds s (grantPasses s) := by simp [grantPasses, foldl_pass_bounds]

/-! ### Machine/TpcBase -/

@[simp] theorem modEp_bounds (e : Nat) (f : Ep → Ep) (s : State) : SameBounds s (modEp e f s) := by
  unfold modEp
  split <;> simp

@[simp] theorem sendOpen_bounds (p sub : Nat) (dst : List Byte) (e type phase ref : Nat) (payload : List Byte) (s : State) :
    SameBounds s (sendOpen p sub dst e type phase ref payload s) := by simp [sendOpen]

@[simp] theorem sendReject_bounds (e : Nat) (h : Hello) (status detail disp : Nat) (s : State) :
    SameBounds s (sendReject e h status detail disp s) := by simp [sendReject]

@[simp] theorem sendSeq_bounds (e type note accord ref echo : Nat) (payload : List Byte) (m : Option OutMsg) (s : State) :
    SameBounds s (sendSeq e type note accord ref echo payload m s).2 := by
  unfold sendSeq
  dsimp only
  (repeat' split) <;> simp

@[simp] theorem closeSession_bounds (e : Nat) (s : State) : SameBounds s (closeSession e s) := by
  unfold closeSession
  split <;> simp

@[simp] theorem closeIfSpent_bounds (e : Nat) (s : State) : SameBounds s (closeIfSpent e s) := by
  unfold closeIfSpent
  split <;> simp

@[simp] theorem sendMsg_bounds (m : OutMsg) (s : State) : SameBounds s (sendMsg m s) := by
  unfold sendMsg
  dsimp only
  (repeat' split) <;> simp

@[simp] theorem discardOut_bounds (m : OutMsg) (s : State) : SameBounds s (discardOut m s) := by simp [discardOut]

@[simp] theorem holdOut_bounds (m : OutMsg) (s : State) : SameBounds s (holdOut m s) := by simp [holdOut]

@[simp] theorem deliverOrHold_bounds (m : OutMsg) (s : State) : SameBounds s (deliverOrHold m s) := by simp [deliverOrHold]

@[simp] theorem sendHeld_bounds (e : Nat) (s : State) : SameBounds s (sendHeld e s) := by simp [sendHeld]

@[simp] theorem queueOut_bounds (m : OutMsg) (s : State) : SameBounds s (queueOut m s) := by simp [queueOut]

@[simp] theorem execResponseReady_bounds (id : Nat) (s : State) : ResKeeps (SameBounds s) (execResponseReady id s) := by
  unfold execResponseReady
  split <;> simp

@[simp] theorem execResumeWindowEnd_bounds (e : Nat) (s : State) : ResKeeps (SameBounds s) (execResumeWindowEnd e s) := by
  unfold execResumeWindowEnd
  split <;> simp

/-! ### Machine/AccordEnd -/

@[simp] theorem dropHdr_bounds (n : Nat) (s : State) : SameBounds s (dropHdr n s) := by simp [dropHdr]

@[simp] theorem writeHeader_bounds (h : Header) (gran : Nat) (s : State) : SameBounds s (writeHeader h gran s) := by simp [writeHeader]

@[simp] theorem openForward_bounds (m : Msg) (dest : Nat) (body : List Byte) (pin : Option (Nat × Nat)) (effects : Bool) (s : State) :
    SameBounds s (openForward m dest body pin effects s).1 := by simp [openForward]

@[simp] theorem openReferral_bounds (m : Msg) (status detail : Nat) (step : Option Nat) (effects : Bool) (s : State) :
    SameBounds s (openReferral m status detail step effects s).1 := by simp [openReferral]

@[simp] theorem writeTagged_bounds (w : Work) (m : Msg) (outs : List MField) (h : Header) (gran : Nat) (s : State) :
    SameBounds s (writeTagged w m outs h gran s) := by
  unfold writeTagged
  dsimp only
  (repeat' split) <;> simp

@[simp] theorem countChain_bounds (w : Work) (m : Msg) (status : Nat) (s : State) : SameBounds s (countChain w m status s) := by
  simp [countChain]

@[simp] theorem endRefused_bounds (w : Work) (m : Msg) (status detail step : Nat) (s : State) :
    SameBounds s (endRefused w m status detail step s) := by simp [endRefused]

@[simp] theorem endReferred_bounds (w : Work) (m : Msg) (status detail : Nat) (step : Option Nat) (outs : List MField) (s : State) :
    SameBounds s (endReferred w m status detail step outs s) := by simp [endReferred]

@[simp] theorem endGood_bounds (w : Work) (m : Msg) (raised detail : Nat) (step : Option Nat) (s : State) :
    SameBounds s (endGood w m raised detail step s) := by
  unfold endGood
  split <;> simp

@[simp] theorem endVerdict_bounds (w : Work) (m : Msg) (s : State) : SameBounds s (endVerdict w m s) := by simp [endVerdict]

@[simp] theorem chainStepEnd_bounds (id mid : Nat) (w : Work) (r : FnRes) (s : State) : SameBounds s (chainStepEnd id mid w r s) := by
  unfold chainStepEnd
  dsimp only
  (repeat' split) <;> simp

@[simp] theorem spreadPartEnd_bounds (id bid idx : Nat) (w : Work) (r : FnRes) (s : State) :
    SameBounds s (spreadPartEnd id bid idx w r s) := by simp [spreadPartEnd]

@[simp] theorem handshakeEnd_bounds (id e : Nat) (w : Work) (r : FnRes) (s : State) : SameBounds s (handshakeEnd id e w r s) := by
  unfold handshakeEnd
  dsimp only
  (repeat' split) <;> simp

/-! ### Machine/Settle -/

@[simp] theorem landed_bounds (n : Nat) (s : State) : SameBounds s (landed n s) := by simp [landed]

@[simp] theorem settleBatch_bounds (bid : Nat) (s : State) : SameBounds s (settleBatch bid s) := by
  unfold settleBatch
  dsimp only
  (repeat' split) <;> simp

@[simp] theorem settleOne_bounds (id : Nat) (s : State) : SameBounds s (settleOne id s) := by
  unfold settleOne
  (repeat' split) <;> simp

@[simp] theorem settle_bounds (s : State) : SameBounds s (settle s) := by simp [settle]

/-! ### Machine/HostPath -/

@[simp] theorem issueFetch_bounds (n : Nat) (s : State) : SameBounds s (issueFetch n s) := by simp [issueFetch]

@[simp] theorem pump_bounds (s : State) : SameBounds s (pump s) := by simp [pump]

@[simp] theorem spoofed_bounds (home n seq : Nat) (x : Sub) (s : State) : SameBounds s (spoofed home n seq x s) := by
  unfold spoofed
  split <;> simp

@[simp] theorem refuseSub_bounds (n seq : Nat) (x : Sub) (st d : Nat) (s : State) : SameBounds s (refuseSub n seq x st d s) := by
  simp [refuseSub]

@[simp] theorem makeEligible_bounds (id : Nat) (s : State) : SameBounds s (makeEligible id s) := by
  unfold makeEligible
  (repeat' split) <;> simp

@[simp] theorem takeEntry_bounds (n seq : Nat) (raw : List Byte) (s : State) : SameBounds s (takeEntry n seq raw s) := by
  unfold takeEntry
  dsimp only
  (repeat' split) <;> simp

@[simp] theorem qpError_bounds (n cause : Nat) (s : State) : SameBounds s (qpError n cause s) := by simp [qpError]

@[simp] theorem fetchFailed_bounds (n : Nat) (f : FetchRead) (status : Nat) (s : State) : SameBounds s (fetchFailed n f status s) := by
  simp [fetchFailed]

@[simp] theorem execSubmissionFetchDone_bounds (n : Nat) (r : ReadResult) (s : State) :
    ResKeeps (SameBounds s) (execSubmissionFetchDone n r s) := by
  unfold execSubmissionFetchDone
  dsimp only
  (repeat' split) <;> simp

@[simp] theorem takePart_bounds (bid : Nat) (head : Work) (n seq : Nat) (acc : State × Batch) (p : Sub × Nat) :
    SameBounds acc.1 (takePart bid head n seq acc p).1 := by
  unfold takePart
  dsimp only
  (repeat' split) <;> simp

@[simp] theorem failAtomicChecks_bounds (bid : Nat) (s : State) : SameBounds s (failAtomicChecks bid s) := by
  unfold failAtomicChecks
  split <;> simp

@[simp] theorem buildBatch_bounds (bid : Nat) (head : Work) (arr : List Byte) (s : State) : SameBounds s (buildBatch bid head arr s) := by
  unfold buildBatch
  split <;> simp

@[simp] theorem sliceReady_bounds (i : Nat) (s : State) : SameBounds s (sliceReady i s) := by simp [sliceReady]

@[simp] theorem orphansReady_bounds (s : State) : SameBounds s (orphansReady s) := by simp [orphansReady]

@[simp] theorem noRead_bounds (id : Nat) (s : State) : SameBounds s (noRead id s) := by simp [noRead]

@[simp] theorem execInputReadDone_bounds (id : Nat) (r : ReadResult) (s : State) :
    ResKeeps (SameBounds s) (execInputReadDone id r s) := by
  unfold execInputReadDone
  dsimp only
  (repeat' split) <;> simp

@[simp] theorem stageFailed_bounds (bid idx id st d : Nat) (s : State) : SameBounds s (stageFailed bid idx id st d s) := by
  unfold stageFailed
  dsimp only
  (repeat' split) <;> simp

@[simp] theorem stagePart_bounds (bid idx id : Nat) (bs : List Byte) (s : State) : SameBounds s (stagePart bid idx id bs s) := by
  unfold stagePart
  dsimp only
  (repeat' split) <;> simp

@[simp] theorem stageOne_bounds (bid : Nat) (acc : State × Bool) (p : Nat × Nat) : SameBounds acc.1 (stageOne bid acc p).1 := by
  unfold stageOne
  dsimp only
  (repeat' split) <;> simp

@[simp] theorem stagePump_bounds (s : State) : SameBounds s (stagePump s) :=
  foldl_bounds (fun s a => by (repeat' split) <;> simp) _ _

@[simp] theorem execBatchPartInputRead_bounds (bid idx : Nat) (r : ReadResult) (s : State) :
    ResKeeps (SameBounds s) (execBatchPartInputRead bid idx r s) := by
  unfold execBatchPartInputRead
  dsimp only
  (repeat' split) <;> simp

@[simp] theorem orphanTimeout_bounds (o : Orphan) (s : State) : SameBounds s (orphanTimeout o s) := by simp [orphanTimeout]

@[simp] theorem imageFails_bounds (st op prior : Nat) (s : State) : SameBounds s (imageFails st op prior s) := by simp [imageFails]

@[simp] theorem execDmaReadTimeout_bounds (r : ReadId) (s : State) : ResKeeps (SameBounds s) (execDmaReadTimeout r s) := by
  unfold execDmaReadTimeout
  dsimp only
  (repeat' split) <;> simp

@[simp] theorem execLateCompletion_bounds (s : State) : ResKeeps (SameBounds s) (execLateCompletion s) := by simp [execLateCompletion]

@[simp] theorem masters_bounds (i : Nat) (s : State) : SameBounds s (masters i s) := by simp [masters]

@[simp] theorem execSliceFlushDone_bounds (i : Nat) (s : State) : ResKeeps (SameBounds s) (execSliceFlushDone i s) := by
  simp [execSliceFlushDone]

@[simp] theorem doorbellNotice_bounds (event n link : Nat) (s : State) : SameBounds s (doorbellNotice event n link s) := by
  simp [doorbellNotice]

theorem doorbellOpen_bounds {n inst : Nat} {s t : State} (h : doorbellOpen n inst s = .error t) : SameBounds s t := by
  unfold doorbellOpen at h
  dsimp only at h
  split at h
  · obtain rfl := Except.error.inj h
    simp
  · split at h
    · obtain rfl := Except.error.inj h
      simp
    · split at h
      · obtain rfl := Except.error.inj h
        simp
      · simp at h

@[simp] theorem execQpSqTail_bounds (n inst value : Nat) (s : State) : ResKeeps (SameBounds s) (execQpSqTail n inst value s) := by
  unfold execQpSqTail
  split
  next ht => exact doorbellOpen_bounds ht
  · simp

@[simp] theorem execQpCqHead_bounds (n inst value : Nat) (s : State) : ResKeeps (SameBounds s) (execQpCqHead n inst value s) := by
  unfold execQpCqHead
  split
  next ht => exact doorbellOpen_bounds ht
  · simp

@[simp] theorem execQpCancel_bounds (n inst value : Nat) (s : State) : ResKeeps (SameBounds s) (execQpCancel n inst value s) := by
  unfold execQpCancel
  split
  next ht => exact doorbellOpen_bounds ht
  · simp

@[simp] theorem execQpPoll_bounds (n inst : Nat) (s : State) : ResKeeps (SameBounds s) (execQpPoll n inst s) := by simp [execQpPoll]

@[simp] theorem execCqWaitExpiry_bounds (n : Nat) (s : State) : ResKeeps (SameBounds s) (execCqWaitExpiry n s) := by simp [execCqWaitExpiry]

@[simp] theorem stopAway_bounds (mode bid idx : Nat) (s : State) : SameBounds s (stopAway mode bid idx s) := by
  unfold stopAway
  split <;> simp

@[simp] theorem cancelWork_bounds (id : Nat) (w : Work) (s : State) : SameBounds s (cancelWork id w s) := by
  unfold cancelWork
  split
  · split
    · simp
    · exact foldl_bounds (fun s p => by (repeat' split) <;> simp) _ _
  · simp

@[simp] theorem applyCancel_bounds (n : Nat) (s : State) (c : Cancel) : SameBounds s (applyCancel n s c) := by
  unfold applyCancel
  dsimp only
  (repeat' split) <;> simp

@[simp] theorem applyCancels_bounds (s : State) : SameBounds s (applyCancels s) := by simp [applyCancels]

@[simp] theorem resetWork_bounds (mode : Nat) (id : Nat) (w : Work) (s : State) : SameBounds s (resetWork mode id w s) := by
  unfold resetWork
  dsimp only
  (repeat' split) <;> simp

@[simp] theorem applyReset_bounds (i : Nat) (s : State) : SameBounds s (applyReset i s) := by
  simp only [SameBounds, applyReset, modSlice_frame, settle_bounds]
  refine foldl_bounds (fun s p => ?_) _ _
  split <;> simp

@[simp] theorem flushSlice_bounds (i : Nat) (s : State) : SameBounds s (flushSlice i s) := by simp [flushSlice]

@[simp] theorem slicesPoint_bounds (s : State) : SameBounds s (slicesPoint s) := by simp [slicesPoint]

@[simp] theorem linkDown_linkReads_bounds (l : Nat) (s : State) : SameBounds s (linkDown.linkReads l s) := by simp [linkDown.linkReads]

@[simp] theorem linkDown_transfersEnd_bounds (l : Nat) (s : State) : SameBounds s (linkDown.transfersEnd l s) :=
  SameBounds.trans (foldl_bounds (fun s p => by (repeat' split) <;> simp) _ _) (settle_bounds _)

@[simp] theorem linkDown_bounds (l : Nat) (s : State) : SameBounds s (linkDown l s) := by
  unfold linkDown
  dsimp only
  refine .trans (.trans ?_ (foldl_bounds (fun s p => ?_) _ _)) (.trans (settle_bounds _)
    (.trans (linkDown_transfersEnd_bounds l _) (linkDown_linkReads_bounds l _)))
  · simp
  · (repeat' split) <;> simp

@[simp] theorem execHostLinkUp_bounds (l width speed : Nat) (s : State) : ResKeeps (SameBounds s) (execHostLinkUp l width speed s) := by
  simp [execHostLinkUp]

@[simp] theorem pf0Down_bounds (s : State) : SameBounds s (pf0Down s) := by
  unfold pf0Down
  dsimp only
  (repeat' split) <;> simp

@[simp] theorem execHostLinkDown_bounds (l : Nat) (s : State) : ResKeeps (SameBounds s) (execHostLinkDown l s) := by
  unfold execHostLinkDown
  split <;> simp

@[simp] theorem execBusMasterClear_bounds (l : Nat) (s : State) : ResKeeps (SameBounds s) (execBusMasterClear l s) := by
  simp [execBusMasterClear]

@[simp] theorem execHostLinkError_bounds (l : Nat) (correctable : Bool) (s : State) :
    ResKeeps (SameBounds s) (execHostLinkError l correctable s) := by simp [execHostLinkError]

@[simp] theorem execHostLinkRecovery_bounds (l : Nat) (enters : Bool) (s : State) :
    ResKeeps (SameBounds s) (execHostLinkRecovery l enters s) := by simp [execHostLinkRecovery]

/-! ### Machine/HostCmds -/

@[simp] theorem sliceBindCmd_bounds (h : Held) (p : List Byte) (s : State) : SameBounds s (sliceBindCmd h p s) := by simp [sliceBindCmd]

@[simp] theorem execSliceBind_bounds (s : State) : ResKeeps (SameBounds s) (execSliceBind s) :=
  withCmd_bounds (fun h p => by simp)

@[simp] theorem sliceStartCmd_bounds (h : Held) (p : List Byte) (s : State) : SameBounds s (sliceStartCmd h p s) := by simp [sliceStartCmd]

@[simp] theorem execSliceStart_bounds (s : State) : ResKeeps (SameBounds s) (execSliceStart s) :=
  withCmd_bounds (fun h p => by simp)

@[simp] theorem sliceResetCmd_bounds (h : Held) (p : List Byte) (s : State) : SameBounds s (sliceResetCmd h p s) := by simp [sliceResetCmd]

@[simp] theorem execSliceReset_bounds (s : State) : ResKeeps (SameBounds s) (execSliceReset s) :=
  withCmd_bounds (fun h p => by simp)

@[simp] theorem sliceUnbindCmd_bounds (h : Held) (p : List Byte) (s : State) : SameBounds s (sliceUnbindCmd h p s) := by
  simp [sliceUnbindCmd]

@[simp] theorem execSliceUnbind_bounds (s : State) : ResKeeps (SameBounds s) (execSliceUnbind s) :=
  withCmd_bounds (fun h p => by simp)

@[simp] theorem qpSetCmd_bounds (h : Held) (p : List Byte) (s : State) : SameBounds s (qpSetCmd h p s) := by simp [qpSetCmd]

@[simp] theorem execQpSet_bounds (s : State) : ResKeeps (SameBounds s) (execQpSet s) :=
  withCmd_bounds (fun h p => by simp)

@[simp] theorem admitSetCmd_bounds (h : Held) (p : List Byte) (s : State) : SameBounds s (admitSetCmd h p s) := by simp [admitSetCmd]

@[simp] theorem execAdmitSet_bounds (s : State) : ResKeeps (SameBounds s) (execAdmitSet s) :=
  withCmd_bounds (fun h p => by simp)

@[simp] theorem acctSetCmd_bounds (h : Held) (p : List Byte) (s : State) : SameBounds s (acctSetCmd h p s) := by simp [acctSetCmd]

@[simp] theorem execAcctSet_bounds (s : State) : ResKeeps (SameBounds s) (execAcctSet s) :=
  withCmd_bounds (fun h p => by simp)

@[simp] theorem applyAdmission_bounds (s : State) : SameBounds s (applyAdmission s) := by simp [applyAdmission]

@[simp] theorem timeSetCmd_bounds (h : Held) (p : List Byte) (s : State) : SameBounds s (timeSetCmd h p s) := by simp [timeSetCmd]

@[simp] theorem execTimeSet_bounds (s : State) : ResKeeps (SameBounds s) (execTimeSet s) :=
  withCmd_bounds (fun h p => by simp)

@[simp] theorem utcUpdate_bounds (s : State) : SameBounds s (utcUpdate s) := by
  unfold utcUpdate
  dsimp only
  (repeat' split) <;> simp

@[simp] theorem execUtcUpdate_bounds (s : State) : ResKeeps (SameBounds s) (execUtcUpdate s) := by simp [execUtcUpdate]

@[simp] theorem execUtcValidExpiry_bounds (s : State) : ResKeeps (SameBounds s) (execUtcValidExpiry s) := by simp [execUtcValidExpiry]

@[simp] theorem execTkCountLowRead_bounds (s : State) : ResKeeps (SameBounds s) (execTkCountLowRead s) := by simp [execTkCountLowRead]

/-! ### Machine/Fences -/

@[simp] theorem violate_bounds (g : Nat) (a : Access) (master : Nat) (b : Blocked) (s : State) :
    SameBounds s (violate g a master b s) := by simp [violate]

@[simp] theorem fenceCheck_bounds (g : Nat) (a : Option Access) (master : Nat) (s : State) : SameBounds s (fenceCheck g a master s).2 := by
  unfold fenceCheck
  (repeat' split) <;> simp

@[simp] theorem fenceSetCmd_bounds (h : Held) (p : List Byte) (s : State) : SameBounds s (fenceSetCmd h p s) := by simp [fenceSetCmd]

@[simp] theorem execFenceSet_bounds (s : State) : ResKeeps (SameBounds s) (execFenceSet s) :=
  withCmd_bounds (fun h p => by simp)

@[simp] theorem fenceLockCmd_bounds (h : Held) (p : List Byte) (s : State) : SameBounds s (fenceLockCmd h p s) := by simp [fenceLockCmd]

@[simp] theorem execFenceLock_bounds (s : State) : ResKeeps (SameBounds s) (execFenceLock s) :=
  withCmd_bounds (fun h p => by simp)

@[simp] theorem applyFences_bounds (s : State) : SameBounds s (applyFences s) := by simp [applyFences]

/-! ### Machine/Trace -/

@[simp] theorem putPacket_bounds (p : Packet) (s : State) : SameBounds s (putPacket p s) := by simp [putPacket]

@[simp] theorem tracePacket_bounds (type source code data : Nat) (s : State) : SameBounds s (tracePacket type source code data s) := by
  simp [tracePacket]

@[simp] theorem traceGap_bounds (c : Nat) (s : State) : SameBounds s (traceGap c s) := by simp [traceGap]

@[simp] theorem traceResume_bounds (c : Nat) (s : State) : SameBounds s (traceResume c s) := by simp [traceResume]

@[simp] theorem traceSync_bounds (s : State) : SameBounds s (traceSync s) := by simp [traceSync]

@[simp] theorem traceOpenCmd_bounds (h : Held) (p : List Byte) (s : State) : SameBounds s (traceOpenCmd h p s) := by simp [traceOpenCmd]

@[simp] theorem execTraceOpen_bounds (s : State) : ResKeeps (SameBounds s) (execTraceOpen s) :=
  withCmd_bounds (fun h p => by simp)

@[simp] theorem traceCloseCmd_bounds (h : Held) (k : List Byte) (s : State) : SameBounds s (traceCloseCmd h k s) := by simp [traceCloseCmd]

@[simp] theorem execTraceClose_bounds (s : State) : ResKeeps (SameBounds s) (execTraceClose s) :=
  withCmd_bounds (fun h p => by simp)

@[simp] theorem traceEndPoint_bounds (s : State) : SameBounds s (traceEndPoint s) := by simp [traceEndPoint]

@[simp] theorem execTraceEndTick_bounds (s : State) : ResKeeps (SameBounds s) (execTraceEndTick s) := by simp [execTraceEndTick]

@[simp] theorem execTraceSync_bounds (s : State) : ResKeeps (SameBounds s) (execTraceSync s) := by simp [execTraceSync]

/-! ### Machine/Clusters -/

@[simp] theorem scoreEngine_bounds (e : Nat) (s : State) : SameBounds s (scoreEngine e s) := by simp [scoreEngine]

@[simp] theorem scoreIf_bounds (c : Bool) (e : Nat) (s : State) : SameBounds s (scoreIf c e s) := by simp [scoreIf]

@[simp] theorem retireOne_bounds (e : Nat) (s : State) : SameBounds s (retireOne e s) := by simp [retireOne]

@[simp] theorem retireEngine_bounds (e : Nat) (s : State) : SameBounds s (retireEngine e s) := by simp [retireEngine]

@[simp] theorem retireDue_bounds (s : State) : SameBounds s (retireDue s) := by simp [retireDue]

@[simp] theorem latentOn_bounds (e : Nat) (s : State) : SameBounds s (latentOn e s) := by simp [latentOn]

@[simp] theorem execRetestEnd_bounds (e : Nat) (passed : Bool) (s : State) : ResKeeps (SameBounds s) (execRetestEnd e passed s) := by
  unfold execRetestEnd
  dsimp only
  (repeat' split) <;> simp

@[simp] theorem keepCounts_bounds (s after : State) : (keepCounts s after).nq = after.nq ∧ (keepCounts s after).gp = s.gp := ⟨rfl, rfl⟩

@[simp] theorem takeResult_bounds (id : Nat) (w : Work) (s : State) : SameBounds s (takeResult id w s) := by
  unfold takeResult
  dsimp only
  (repeat' split) <;> simp

@[simp] theorem countMismatch_bounds (w : Work) (s : State) : SameBounds s (countMismatch w s) := by simp [countMismatch]

@[simp] theorem startRetry_bounds (id : Nat) (w : Work) (bad1 bad2 now : Bool) (s : State) :
    SameBounds s (startRetry id w bad1 bad2 now s) := by
  unfold startRetry
  dsimp only
  (repeat' split) <;> simp

@[simp] theorem twinFail_bounds (id : Nat) (w : Work) (s : State) : SameBounds s (twinFail id w s) := by simp [twinFail]

@[simp] theorem retryOk_bounds (id : Nat) (w : Work) (s : State) : SameBounds s (retryOk id w s) := by simp [retryOk]

@[simp] theorem latentSeen_bounds (w : Work) (fields : Nat) (s : State) : SameBounds s (latentSeen w fields s) := by simp [latentSeen]

@[simp] theorem calibrateStep_bounds (w : Work) (o : StepOut) (s : State) : SameBounds s (calibrateStep w o s) := by simp [calibrateStep]

@[simp] theorem stepGood_bounds (id : Nat) (w : Work) (o : StepOut) (latent : Option Nat) (s : State) :
    SameBounds s (stepGood id w o latent s) := by
  unfold stepGood
  dsimp only
  (repeat' split) <;> simp

@[simp] theorem stepFence_bounds (w : Work) (o : StepOut) (s : State) : SameBounds s (stepFence w o s).2 := by simp [stepFence]

@[simp] theorem execEngineStepEnd_bounds (id : Nat) (o : StepOut) (s : State) : ResKeeps (SameBounds s) (execEngineStepEnd id o s) := by
  unfold execEngineStepEnd
  dsimp only
  (repeat' split) <;> simp

@[simp] theorem machineCheck_bounds (id : Nat) (w : Work) (second now : Bool) (s : State) :
    SameBounds s (machineCheck id w second now s) := by simp [machineCheck]

@[simp] theorem execMachineCheck_bounds (id : Nat) (second : Bool) (s : State) :
    ResKeeps (SameBounds s) (execMachineCheck id second s) := by
  unfold execMachineCheck
  split <;> simp

@[simp] theorem programFault_bounds (id : Nat) (w : Work) (s : State) : SameBounds s (programFault id w s) := by simp [programFault]

@[simp] theorem execEngineCycleOverrun_bounds (id : Nat) (both second : Bool) (s : State) :
    ResKeeps (SameBounds s) (execEngineCycleOverrun id both second s) := by
  unfold execEngineCycleOverrun
  split <;> simp

@[simp] theorem clDrainCmd_bounds (h : Held) (p : List Byte) (s : State) : SameBounds s (clDrainCmd h p s) := by simp [clDrainCmd]

@[simp] theorem execClDrain_bounds (s : State) : ResKeeps (SameBounds s) (execClDrain s) :=
  withCmd_bounds (fun h p => by simp)

@[simp] theorem clLoadCmd_bounds (h : Held) (p : List Byte) (s : State) : SameBounds s (clLoadCmd h p s) := by simp [clLoadCmd]

@[simp] theorem execClLoad_bounds (s : State) : ResKeeps (SameBounds s) (execClLoad s) :=
  withCmd_bounds (fun h p => by simp)

@[simp] theorem endRollout_bounds (s : State) : SameBounds s (endRollout s) := by simp [endRollout]

@[simp] theorem execClLoadDone_bounds (c : Nat) (ok : Bool) (s : State) : ResKeeps (SameBounds s) (execClLoadDone c ok s) := by
  simp [execClLoadDone]

@[simp] theorem clReturnCmd_bounds (h : Held) (p : List Byte) (s : State) : SameBounds s (clReturnCmd h p s) := by simp [clReturnCmd]

@[simp] theorem execClReturn_bounds (s : State) : ResKeeps (SameBounds s) (execClReturn s) :=
  withCmd_bounds (fun h p => by simp)

@[simp] theorem clGatingCmd_bounds (h : Held) (p : List Byte) (s : State) : SameBounds s (clGatingCmd h p s) := by simp [clGatingCmd]

@[simp] theorem execClGating_bounds (s : State) : ResKeeps (SameBounds s) (execClGating s) :=
  withCmd_bounds (fun h p => by simp)

@[simp] theorem moveSlots_bounds (c : Nat) (s : State) : SameBounds s (moveSlots c s) := by simp [moveSlots]

@[simp] theorem clusterPoint_bounds (c : Nat) (s : State) : SameBounds s (clusterPoint c s) := by
  unfold clusterPoint
  split <;> simp

@[simp] theorem drainPoint_bounds (s : State) : SameBounds s (drainPoint s) := by simp [drainPoint]

@[simp] theorem clustersPoint_bounds (s : State) : SameBounds s (clustersPoint s) := by simp [clustersPoint]

@[simp] theorem gatingHistory_bounds (s : State) : SameBounds s (gatingHistory s) := by simp [gatingHistory]

@[simp] theorem execGatingDecision_bounds (c : Nat) (s : State) : ResKeeps (SameBounds s) (execGatingDecision c s) := by
  simp [execGatingDecision]

@[simp] theorem execClusterWakeEnd_bounds (c : Nat) (s : State) : ResKeeps (SameBounds s) (execClusterWakeEnd c s) := by
  simp [execClusterWakeEnd]

@[simp] theorem readmitEngine_bounds (e : Nat) (s : State) : SameBounds s (readmitEngine e s) := by simp [readmitEngine]

/-! ### Machine/PkUnits -/

@[simp] theorem handshakeSteps_bounds (x : Ep) (h : Hello) (s : State) : SameBounds s (handshakeSteps x h s).2 := by simp [handshakeSteps]

@[simp] theorem handshakeStart_bounds (e : Nat) (s : State) : SameBounds s (handshakeStart e s).2 := by
  unfold handshakeStart
  dsimp only
  (repeat' split) <;> simp

@[simp] theorem pkFirstStep_bounds (w : Work) (s : State) : SameBounds s (pkFirstStep w s).2 := by
  unfold pkFirstStep
  split <;> simp

@[simp] theorem pkUsage_bounds (id : Nat) (w : Work) (s : State) : SameBounds s (pkUsage id w s) := by simp [pkUsage]

@[simp] theorem pkPassed_bounds (id : Nat) (w : Work) (s : State) : SameBounds s (pkPassed id w s) := by
  unfold pkPassed
  split <;> simp

@[simp] theorem helloDone_bounds (e : Nat) (s : State) : SameBounds s (helloDone e s) := by simp [helloDone]

@[simp] theorem pkFinish_bounds (id : Nat) (w : Work) (s : State) : SameBounds s (pkFinish id w s) := by
  unfold pkFinish
  split <;> simp

@[simp] theorem countCheck_bounds (u : Nat) (s : State) : SameBounds s (countCheck u s) := by simp [countCheck]

@[simp] theorem pkFailed_bounds (id u : Nat) (w : Work) (s : State) : SameBounds s (pkFailed id u w s) := by
  unfold pkFailed
  split <;> simp

@[simp] theorem pkAdvance_bounds (id u : Nat) (w : Work) (s : State) : SameBounds s (pkAdvance id u w s) := by
  unfold pkAdvance
  dsimp only
  (repeat' split) <;> simp

@[simp] theorem ctlFailed_bounds (u : Nat) (c : PkCtl) (s : State) : SameBounds s (ctlFailed u c s) := by
  unfold ctlFailed
  dsimp only
  (repeat' split) <;> simp

@[simp] theorem ctlStep_bounds (u : Nat) (c : PkCtl) (rest : List PkCtl) (failed : Bool) (s : State) :
    SameBounds s (ctlStep u c rest failed s) := by
  unfold ctlStep
  dsimp only
  (repeat' split) <;> simp

@[simp] theorem dataStep_bounds (u c : Nat) (failed : Bool) (a : Option Access) (s : State) : SameBounds s (dataStep u c failed a s) := by
  unfold dataStep
  split <;> simp

@[simp] theorem execPkUnitStep_bounds (u : Nat) (failed : Bool) (a : Option Access) (s : State) :
    ResKeeps (SameBounds s) (execPkUnitStep u failed a s) := by
  unfold execPkUnitStep
  dsimp only
  (repeat' split) <;> simp

@[simp] theorem pkPoint_bounds (s : State) : SameBounds s (pkPoint s) :=
  SameBounds.trans (foldl_bounds (fun s p => by simp) _ _) (foldl_bounds (fun s p => by split <;> simp) _ _)

@[simp] theorem unitQueryCmd_bounds (h : Held) (p : List Byte) (s : State) : SameBounds s (unitQueryCmd h p s) := by simp [unitQueryCmd]

@[simp] theorem execUnitQuery_bounds (s : State) : ResKeeps (SameBounds s) (execUnitQuery s) :=
  withCmd_bounds (fun h p => by simp)

@[simp] theorem readmitUnit_bounds (u : Nat) (passed : Bool) (s : State) : SameBounds s (readmitUnit u passed s) := by simp [readmitUnit]

/-! ### Machine/PortBase -/

@[simp] theorem chooseSource_bounds (s : State) : SameBounds s (chooseSource s) := by simp [chooseSource]

@[simp] theorem dormantOn_bounds (c : Ep → Bool) (s : State) : SameBounds s (dormantOn c s) := by simp [dormantOn]

@[simp] theorem dropTx_bounds (p : Nat) (c : EgItem → Bool) (s : State) : SameBounds s (dropTx p c s) :=
  foldl_bounds (fun s a => by (repeat' split) <;> simp) _ _

@[simp] theorem stopTraffic_bounds (p : Nat) (s : State) : SameBounds s (stopTraffic p s) := by simp [stopTraffic]

@[simp] theorem startTraining_bounds (p : Nat) (s : State) : SameBounds s (startTraining p s) := by simp [startTraining]

/-! ### Machine/Lanes -/

@[simp] theorem writeBulk_bounds (w : Work) (addr : Nat) (d : List Byte) (s : State) : SameBounds s (writeBulk w addr d s) := by
  unfold writeBulk
  split <;> simp

@[simp] theorem execHostLaneChunkEnd_bounds (id : Nat) (r : ReadResult) (a : Option Access) (s : State) :
    ResKeeps (SameBounds s) (execHostLaneChunkEnd id r a s) := by
  unfold execHostLaneChunkEnd
  split
  · simp
  · split
    · simp
    · split
      · simp
      · extract_lets s1 s2 q s3 c
        obtain ⟨hlen, hwms, hrole⟩ : SameBounds s q.2 := by simp [q, s2, s1]
        clear_value q
        split
        · simp [hlen, hwms, hrole]
        · split
          · simp [s3, hlen, hwms, hrole]
          · split
            · simp [s3, hlen, hwms, hrole]
            · extract_lets d y t1 t2 t3 w t4 res t5
              obtain ⟨htick', hpend'⟩ : SameBounds s t4 := by simp [t4, t3, t2, t1, s3, hlen, hwms, hrole]
              clear_value t4
              split
              · simp [htick', hpend']
              · split
                · simp [t5, htick', hpend']
                · simp [htick', hpend']

@[simp] theorem faultLane_bounds (n : Nat) (s : State) : SameBounds s (faultLane n s) := by simp [faultLane]

@[simp] theorem moveOps_bounds (n : Nat) (s : State) : SameBounds s (moveOps n s) :=
  foldl_bounds (fun s a => by (repeat' split) <;> simp) _ _

@[simp] theorem execHostLaneMismatch_bounds (n id : Nat) (s : State) : ResKeeps (SameBounds s) (execHostLaneMismatch n id s) := by
  unfold execHostLaneMismatch
  split <;> simp

@[simp] theorem faultNote_bounds (n slot spare hold : Nat) (s : State) : SameBounds s (faultNote n slot spare hold s) := by
  simp [faultNote]

@[simp] theorem portFailed_bounds (p : Nat) (s : State) : SameBounds s (portFailed p s) := by simp [portFailed]

@[simp] theorem handoverDone_bounds (n : Nat) (s : State) : SameBounds s (handoverDone n s) := by simp [handoverDone]

@[simp] theorem runSets_bounds (m : Nat) (sets : List LaneReplay) (s : State) : SameBounds s (runSets m sets s) := by simp [runSets]

@[simp] theorem setsLost_bounds (k : Nat) (sets : List LaneReplay) (s : State) : SameBounds s (setsLost k sets s) := by simp [setsLost]

@[simp] theorem rerunSets_bounds (n k : Nat) (sets : List LaneReplay) (s : State) : SameBounds s (rerunSets n k sets s) := by
  unfold rerunSets
  dsimp only
  (repeat' split) <;> simp

@[simp] theorem refillSlot_bounds (n k : Nat) (sets : List LaneReplay) (s : State) : SameBounds s (refillSlot n k sets s) := by
  unfold refillSlot
  split <;> simp

@[simp] theorem execLaneBeatMismatch_bounds (n : Nat) (s : State) : ResKeeps (SameBounds s) (execLaneBeatMismatch n s) := by
  unfold execLaneBeatMismatch
  dsimp only
  (repeat' split) <;> simp

@[simp] theorem releaseHold_bounds (p : Nat) (s : State) : SameBounds s (releaseHold p s) := by simp [releaseHold]

@[simp] theorem execLaneReplayDone_bounds (n hold : Nat) (s : State) : ResKeeps (SameBounds s) (execLaneReplayDone n hold s) := by
  unfold execLaneReplayDone
  split <;> simp

@[simp] theorem execSpareKatFault_bounds (n : Nat) (s : State) : ResKeeps (SameBounds s) (execSpareKatFault n s) := by
  unfold execSpareKatFault
  dsimp only
  (repeat' split) <;> simp

@[simp] theorem execLaneRetestStart_bounds (n : Nat) (s : State) : ResKeeps (SameBounds s) (execLaneRetestStart n s) := by
  simp [execLaneRetestStart]

@[simp] theorem execLaneRetestEnd_bounds (n : Nat) (passed : Bool) (s : State) :
    ResKeeps (SameBounds s) (execLaneRetestEnd n passed s) := by
  unfold execLaneRetestEnd
  dsimp only
  (repeat' split) <;> simp

@[simp] theorem lanesPoint_bounds (s : State) : SameBounds s (lanesPoint s) := by simp [lanesPoint]

@[simp] theorem execLaneRotationStart_bounds (d : Nat) (s : State) : ResKeeps (SameBounds s) (execLaneRotationStart d s) := by
  unfold execLaneRotationStart
  dsimp only
  (repeat' split) <;> simp

@[simp] theorem execHandoverEnd_bounds (d : Nat) (s : State) : ResKeeps (SameBounds s) (execHandoverEnd d s) := by
  unfold execHandoverEnd
  split <;> simp

@[simp] theorem execHandoverRetestEnd_bounds (d : Nat) (s : State) : ResKeeps (SameBounds s) (execHandoverRetestEnd d s) := by
  unfold execHandoverRetestEnd
  split <;> simp

@[simp] theorem laneSetCmd_bounds (h : Held) (p : List Byte) (s : State) : SameBounds s (laneSetCmd h p s) := by simp [laneSetCmd]

@[simp] theorem execLaneSet_bounds (s : State) : ResKeeps (SameBounds s) (execLaneSet s) :=
  withCmd_bounds (fun h p => by simp)

@[simp] theorem readmitLane_bounds (n : Nat) (s : State) : SameBounds s (readmitLane n s) := by simp [readmitLane]

@[simp] theorem execReadmit_bounds (passed : Bool) (s : State) : ResKeeps (SameBounds s) (execReadmit passed s) :=
  withCmd_bounds (fun h p => by dsimp only; (repeat' split) <;> simp)

/-! ### Machine/Ports -/

@[simp] theorem portSetCmd_bounds (h : Held) (p : List Byte) (s : State) : SameBounds s (portSetCmd h p s) := by
  unfold portSetCmd
  split <;> simp

@[simp] theorem execPortSet_bounds (s : State) : ResKeeps (SameBounds s) (execPortSet s) :=
  withCmd_bounds (fun h p => by simp)

@[simp] theorem portFromLinks_bounds (p cause : Nat) (s : State) : SameBounds s (portFromLinks p cause s) := by simp [portFromLinks]

@[simp] theorem linkGoesDown_bounds (p k cause : Nat) (s : State) : SameBounds s (linkGoesDown p k cause s) := by
  unfold linkGoesDown
  split <;> simp

@[simp] theorem linkFault_bounds (p k cause : Nat) (s : State) : ResKeeps (SameBounds s) (linkFault p k cause s) := by
  unfold linkFault
  split <;> simp

@[simp] theorem execLossOfSignal_bounds (p k : Nat) (s : State) : ResKeeps (SameBounds s) (execLossOfSignal p k s) := by
  simp [execLossOfSignal]

@[simp] theorem execLossOfAlignment_bounds (p k : Nat) (s : State) : ResKeeps (SameBounds s) (execLossOfAlignment p k s) := by
  simp [execLossOfAlignment]

@[simp] theorem execRemoteFault_bounds (p k : Nat) (s : State) : ResKeeps (SameBounds s) (execRemoteFault p k s) := by
  simp [execRemoteFault]

@[simp] theorem execLinkUp_bounds (p k : Nat) (s : State) : ResKeeps (SameBounds s) (execLinkUp p k s) := by
  unfold execLinkUp
  split <;> simp

@[simp] theorem execTrainingEnd_bounds (p k : Nat) (ok : Bool) (s : State) : ResKeeps (SameBounds s) (execTrainingEnd p k ok s) := by
  unfold execTrainingEnd
  dsimp only
  (repeat' split) <;> simp

@[simp] theorem execFecUncorrectable_bounds (p k : Nat) (s : State) : ResKeeps (SameBounds s) (execFecUncorrectable p k s) := by
  simp [execFecUncorrectable]

@[simp] theorem bandPoint_bounds (s : State) : SameBounds s (bandPoint s) := by simp [bandPoint]

@[simp] theorem execSerdesBandApply_bounds (s : State) : ResKeeps (SameBounds s) (execSerdesBandApply s) := by
  unfold execSerdesBandApply
  split <;> simp

@[simp] theorem execAutoRetrainStart_bounds (p : Nat) (s : State) : ResKeeps (SameBounds s) (execAutoRetrainStart p s) := by
  simp [execAutoRetrainStart]

@[simp] theorem rxFrame_bounds (p n : Nat) (s : State) : SameBounds s (rxFrame p n s) := by simp [rxFrame]

@[simp] theorem dropFull_bounds (p : Nat) (s : State) : SameBounds s (dropFull p s) := by simp [dropFull]

@[simp] theorem dropOther_bounds (p : Nat) (s : State) : SameBounds s (dropOther p s) := by simp [dropOther]

@[simp] theorem execMacControlFrame_bounds (p k : Nat) (frame : List Byte) (s : State) :
    ResKeeps (SameBounds s) (execMacControlFrame p k frame s) := by simp [execMacControlFrame]

@[simp] theorem forwardFrame_bounds (p b k : Nat) (clear : List Byte) (s : State) : SameBounds s (forwardFrame p b k clear s) := by
  simp [forwardFrame]

@[simp] theorem groupFrame_bounds (p k : Nat) (clear : List Byte) (s : State) : SameBounds s (groupFrame p k clear s) := by
  simp [groupFrame]

@[simp] theorem receiveMacsec_bounds (p k n : Nat) (f : List Byte) (s : State) : SameBounds s (receiveMacsec p k n f s) := by
  unfold receiveMacsec
  dsimp only
  (repeat' split) <;> simp

@[simp] theorem stagingLook_bounds (die : Nat) (s : State) : SameBounds s (stagingLook die s) := by simp [stagingLook]

@[simp] theorem stagingTake_bounds (p : Nat) (top : Bool) (n : Nat) (s : State) : SameBounds s (stagingTake p top n s) := by
  simp [stagingTake]

@[simp] theorem dispatchIn_bounds (p : Nat) (f : InFrame) (s : State) : SameBounds s (dispatchIn p f s).2 := by simp [dispatchIn]

@[simp] theorem inPump_bounds {run : Nat → Nat → InFrame → State → State} (hrun : ∀ p n f s, SameBounds s (run p n f s))
    (p : Nat) (s : State) : SameBounds s (inPump run p s) := by
  simp only [SameBounds] at hrun
  unfold inPump
  dsimp only
  split
  · exact .of_eq rfl rfl
  · refine SameBounds.trans (t := modPort p (fun x => { x with inq := [] }) s) (by simp) ?_
    simp only [SameBounds, modPort_frame]
    exact foldl_snd_bounds (fun a f => by (repeat' split) <;> simp [hrun]) _ _

@[simp] theorem inMeets_bounds {g : State → State} (hg : ∀ s, SameBounds s (g s)) (p : Nat) (f : InFrame) (s : State) :
    SameBounds s (inMeets p f s g) := by
  simp only [SameBounds] at hg
  simp [inMeets, hg]

@[simp] theorem inEnter_bounds (p : Nat) (f : InFrame) (s : State) : SameBounds s (inEnter p f s) := by simp [inEnter]

@[simp] theorem saSetCmd_bounds (h : Held) (p : List Byte) (s : State) : SameBounds s (saSetCmd h p s) := by
  unfold saSetCmd
  dsimp only
  (repeat' split) <;> simp

@[simp] theorem execSaSet_bounds (s : State) : ResKeeps (SameBounds s) (execSaSet s) :=
  withCmd_bounds (fun h p => by simp)

@[simp] theorem saRemoveCmd_bounds (h : Held) (p : List Byte) (s : State) : SameBounds s (saRemoveCmd h p s) := by simp [saRemoveCmd]

@[simp] theorem execSaRemove_bounds (s : State) : ResKeeps (SameBounds s) (execSaRemove s) :=
  withCmd_bounds (fun h p => by simp)

@[simp] theorem saPoint_bounds (s : State) : SameBounds s (saPoint s) := by simp [saPoint]

@[simp] theorem plainFrame_bounds {g : State → State} (hg : ∀ s, SameBounds s (g s)) (p k : Nat) (f : List Byte) (s : State) :
    SameBounds s (plainFrame p k f s g) := by
  simp only [SameBounds] at hg
  simp [plainFrame, hg]

@[simp] theorem answerFrame_bounds (p k : Nat) (answer : List Byte) (s : State) : SameBounds s (answerFrame p k answer s) := by
  simp [answerFrame]

@[simp] theorem execArpRequest_bounds (p k : Nat) (f : List Byte) (s : State) : ResKeeps (SameBounds s) (execArpRequest p k f s) := by
  unfold execArpRequest
  split <;> simp

@[simp] theorem execNeighborSolicitation_bounds (p k : Nat) (f : List Byte) (s : State) :
    ResKeeps (SameBounds s) (execNeighborSolicitation p k f s) := by
  unfold execNeighborSolicitation
  split <;> simp

@[simp] theorem execOtherFrame_bounds (p k : Nat) (f : List Byte) (s : State) : ResKeeps (SameBounds s) (execOtherFrame p k f s) := by
  simp [execOtherFrame]

/-! ### Machine/Sessions -/

@[simp] theorem verified_bounds (e p : Nat) (f : InFrame) (new : Bool) (set : KeySet) (s : State) :
    SameBounds s (verified e p f new set s).2 := by
  unfold verified
  split <;> simp

@[simp] theorem refuseEarly_bounds (i : HdrInfo) (note status detail ticks : Nat) (s : State) :
    SameBounds s (refuseEarly i note status detail ticks s) := by simp [refuseEarly]

theorem checkMessage_bounds {s : State} {p : Nat} {x : Ep} {h body : List Byte} {q : Msg × State}
    (e : checkMessage s p x h body = .inr q) : SameBounds s q.2 := by
  unfold checkMessage at e
  dsimp only at e
  (repeat' split at e) <;> simp only [Sum.inr.injEq, reduceCtorEq] at e
  all_goals
    subst e
    exact .of_eq rfl rfl

@[simp] theorem submitMsg_bounds (x : Ep) (m : Msg) (s : State) : SameBounds s (submitMsg x m s) := by simp [submitMsg]

@[simp] theorem messagePass_bounds (e p : Nat) (h body : List Byte) (s : State) : SameBounds s (messagePass e p h body s) := by
  unfold messagePass
  dsimp only
  split
  · exact .of_eq rfl rfl
  · split
    · simp
    · split
      · simp
      · split
        · simp
        next m t hm =>
          obtain ⟨hlen, hwms, hrole⟩ : SameBounds s t := checkMessage_bounds hm
          split <;> simp [hlen, hwms, hrole]

theorem badNote_bounds {e p : Nat} {h : List Byte} {s t : State} (hb : badNote e p h s = some t) : SameBounds s t := by
  unfold badNote at hb
  split at hb
  · cases hb
  · obtain ⟨x, -, rfl⟩ := Option.map_eq_some_iff.mp hb
    simp

@[simp] theorem keepalive_bounds (e p : Nat) (h : List Byte) (s : State) : SameBounds s (keepalive e p h s) :=
  getD_bounds (fun _ => badNote_bounds) (by simp)

@[simp] theorem closed_bounds (e p : Nat) (h : List Byte) (s : State) : SameBounds s (closed e p h s) :=
  getD_bounds (fun _ => badNote_bounds) (by simp)

@[simp] theorem otherType_bounds (e p : Nat) (h : List Byte) (s : State) : SameBounds s (otherType e p h s) := by
  unfold otherType
  split <;> simp

@[simp] theorem opened_bounds (e p : Nat) (h body : List Byte) (s : State) : SameBounds s (opened e p h body s) := by
  unfold opened
  split <;> simp

@[simp] theorem tagPass_bounds (p n : Nat) (f : InFrame) (s : State) : SameBounds s (tagPass p n f s) := by
  unfold tagPass
  dsimp only
  (repeat' split) <;> simp

@[simp] theorem laneRun_bounds (p n : Nat) (f : InFrame) (s : State) : SameBounds s (laneRun p n f s) := by simp [laneRun]

@[simp] theorem ingress_bounds (p : Nat) (s : State) : SameBounds s (ingress p s) := by simp [ingress]

@[simp] theorem buffersPoint_bounds (s : State) : SameBounds s (buffersPoint s) := by simp [buffersPoint]

@[simp] theorem execMacsecFrame_bounds (p k : Nat) (f : List Byte) (s : State) : ResKeeps (SameBounds s) (execMacsecFrame p k f s) := by
  simp [execMacsecFrame]

theorem arrive_bounds (p k : Nat) (src d : List Byte) (s : State) : SameBounds s (arrive p k src d s).state := by
  unfold arrive
  dsimp only
  (repeat' split) <;> simp [Arrived.state]

theorem tpcRow_bounds {types : Nat → Bool} {p k : Nat} {f : List Byte} {s : State}
    {g : List Byte → List Byte → Nat → Ep → State → State}
    (hg : ∀ src d e x s, SameBounds s (g src d e x s)) : ResKeeps (SameBounds s) (tpcRow types p k f s g) := by
  unfold tpcRow
  split
  · simp
  next src d _ =>
    have ha := arrive_bounds p k src d s
    split
    · simp
    · split <;> simp_all [Arrived.state]

@[simp] theorem execTpcRequest_bounds (p k : Nat) (f : List Byte) (s : State) : ResKeeps (SameBounds s) (execTpcRequest p k f s) :=
  tpcRow_bounds (fun src d e x s => by simp)

@[simp] theorem execTpcReply_bounds (p k : Nat) (f : List Byte) (s : State) : ResKeeps (SameBounds s) (execTpcReply p k f s) :=
  tpcRow_bounds (fun src d e x s => by simp)

@[simp] theorem execTpcKeepalive_bounds (p k : Nat) (f : List Byte) (s : State) : ResKeeps (SameBounds s) (execTpcKeepalive p k f s) :=
  tpcRow_bounds (fun src d e x s => by simp)

@[simp] theorem execTpcClose_bounds (p k : Nat) (f : List Byte) (s : State) : ResKeeps (SameBounds s) (execTpcClose p k f s) :=
  tpcRow_bounds (fun src d e x s => by simp)

@[simp] theorem execTpcOtherType_bounds (p k : Nat) (f : List Byte) (s : State) : ResKeeps (SameBounds s) (execTpcOtherType p k f s) :=
  tpcRow_bounds (fun src d e x s => by simp)

@[simp] theorem helloTaken_bounds (p k : Nat) (src d : List Byte) (e : Nat) (x : Ep) (s : State) :
    SameBounds s (helloTaken p k src d e x s) := by simp [helloTaken]

@[simp] theorem execTpcHello_bounds (p k : Nat) (f : List Byte) (s : State) : ResKeeps (SameBounds s) (execTpcHello p k f s) :=
  tpcRow_bounds (fun src d e x s => by simp)

@[simp] theorem acceptHello_bounds (e : Nat) (x : Ep) (h : Hello) (s : State) : SameBounds s (acceptHello e x h s) := by simp [acceptHello]

@[simp] theorem execHandshakeDone_bounds (e : Nat) (s : State) : ResKeeps (SameBounds s) (execHandshakeDone e s) := by
  unfold execHandshakeDone
  dsimp only
  (repeat' split) <;> simp

@[simp] theorem execAcceptTimeout_bounds (e : Nat) (s : State) : ResKeeps (SameBounds s) (execAcceptTimeout e s) := by
  unfold execAcceptTimeout
  split <;> simp

@[simp] theorem execSessionIdleTimeout_bounds (e : Nat) (s : State) : ResKeeps (SameBounds s) (execSessionIdleTimeout e s) := by
  unfold execSessionIdleTimeout
  split <;> simp

@[simp] theorem execDormantTimeout_bounds (e : Nat) (s : State) : ResKeeps (SameBounds s) (execDormantTimeout e s) := by
  unfold execDormantTimeout
  split <;> simp

@[simp] theorem execCertExpiry_bounds (e : Nat) (s : State) : ResKeeps (SameBounds s) (execCertExpiry e s) := by
  unfold execCertExpiry
  split <;> simp

@[simp] theorem sessionsPoint_bounds (s : State) : SameBounds s (sessionsPoint s) := by simp [sessionsPoint]

@[simp] theorem epLoadCmd_bounds (h : Held) (p : List Byte) (s : State) : SameBounds s (epLoadCmd h p s) := by
  unfold epLoadCmd
  dsimp only
  (repeat' split) <;> simp

@[simp] theorem execEpLoad_bounds (s : State) : ResKeeps (SameBounds s) (execEpLoad s) :=
  withCmd_bounds (fun h p => by simp)

@[simp] theorem epRemoveCmd_bounds (h : Held) (p : List Byte) (s : State) : SameBounds s (epRemoveCmd h p s) := by simp [epRemoveCmd]

@[simp] theorem execEpRemove_bounds (s : State) : ResKeeps (SameBounds s) (execEpRemove s) :=
  withCmd_bounds (fun h p => by simp)

@[simp] theorem epQueryCmd_bounds (h : Held) (p : List Byte) (s : State) : SameBounds s (epQueryCmd h p s) := by simp [epQueryCmd]

@[simp] theorem execEpQuery_bounds (s : State) : ResKeeps (SameBounds s) (execEpQuery s) :=
  withCmd_bounds (fun h p => by simp)

/-! ### Machine/Ptp -/

@[simp] theorem ptpReject_bounds (p : Nat) (s : State) : SameBounds s (ptpReject p s) := by simp [ptpReject]

@[simp] theorem ptpUnlock_bounds (p : Nat) (s : State) : SameBounds s (ptpUnlock p s) := by simp [ptpUnlock]

theorem ptpRow_bounds {type p k : Nat} {f : List Byte} {s : State} {g : Nat → List Byte → State → State}
    (hg : ∀ v d s, SameBounds s (g v d s)) :
    ResKeeps (SameBounds s) (ptpRow type p k f s g) := by
  simp only [SameBounds] at hg
  unfold ptpRow
  split <;> simp [hg]

@[simp] theorem execPtpAnnounce_bounds (p k : Nat) (f : List Byte) (s : State) : ResKeeps (SameBounds s) (execPtpAnnounce p k f s) :=
  ptpRow_bounds (fun v d s => by dsimp only; (repeat' split) <;> simp)

@[simp] theorem sendDelayReq_bounds (p : Nat) (s : State) : SameBounds s (sendDelayReq p s) := by simp [sendDelayReq]

@[simp] theorem originSeen_bounds (p : Nat) (t1 : Int) (s : State) : SameBounds s (originSeen p t1 s).2 := by simp [originSeen]

@[simp] theorem masterTime_bounds (p : Nat) (origin correction : Int) (s : State) : SameBounds s (masterTime p origin correction s) := by
  simp [masterTime]

@[simp] theorem execPtpSync_bounds (p k : Nat) (f : List Byte) (t2 : Int) (s : State) :
    ResKeeps (SameBounds s) (execPtpSync p k f t2 s) :=
  ptpRow_bounds (fun v d s => by dsimp only; (repeat' split) <;> simp)

theorem inExchange_bounds {g : PtpIn → State} {s : State} (hg : ∀ x, SameBounds s (g x)) (p : Nat) (d : List Byte) :
    SameBounds s (inExchange p d s g) := by
  unfold inExchange
  dsimp only
  split
  · exact .of_eq rfl rfl
  · split
    · simp
    · exact hg _

@[simp] theorem execPtpFollowUp_bounds (p k : Nat) (f : List Byte) (s : State) : ResKeeps (SameBounds s) (execPtpFollowUp p k f s) :=
  ptpRow_bounds (fun _ d s => inExchange_bounds (fun x => by simp) p d)

@[simp] theorem applyOffset_bounds (p : Nat) (off : Int) (s : State) : SameBounds s (applyOffset p off s) := by simp [applyOffset]

@[simp] theorem filterOffset_bounds (p : Nat) (off : Int) (s : State) : SameBounds s (filterOffset p off s) := by simp [filterOffset]

@[simp] theorem execPtpDelayResp_bounds (p k : Nat) (f : List Byte) (t3 : Int) (s : State) :
    ResKeeps (SameBounds s) (execPtpDelayResp p k f t3 s) :=
  ptpRow_bounds (fun _ d s => inExchange_bounds (fun x => by (repeat' split) <;> simp) p d)

@[simp] theorem execPtpExchangeTimeout_bounds (p : Nat) (s : State) : ResKeeps (SameBounds s) (execPtpExchangeTimeout p s) := by
  simp [execPtpExchangeTimeout]

@[simp] theorem execPtpLockLoss_bounds (p : Nat) (s : State) : ResKeeps (SameBounds s) (execPtpLockLoss p s) := by simp [execPtpLockLoss]

@[simp] theorem ptpSetCmd_bounds (h : Held) (p : List Byte) (s : State) : SameBounds s (ptpSetCmd h p s) := by simp [ptpSetCmd]

@[simp] theorem execPtpSet_bounds (s : State) : ResKeeps (SameBounds s) (execPtpSet s) :=
  withCmd_bounds (fun h p => by simp)

/-! ### Machine/AccordCmds -/

@[simp] theorem accordLoadCmd_bounds (h : Held) (p : List Byte) (s : State) : SameBounds s (accordLoadCmd h p s) := by
  unfold accordLoadCmd
  dsimp only
  (repeat' split) <;> simp

@[simp] theorem execAccordLoad_bounds (s : State) : ResKeeps (SameBounds s) (execAccordLoad s) :=
  withCmd_bounds (fun h p => by simp)

@[simp] theorem accordRemoveCmd_bounds (h : Held) (p : List Byte) (s : State) : SameBounds s (accordRemoveCmd h p s) := by
  simp [accordRemoveCmd]

@[simp] theorem execAccordRemove_bounds (s : State) : ResKeeps (SameBounds s) (execAccordRemove s) :=
  withCmd_bounds (fun h p => by simp)

@[simp] theorem accordQueryCmd_bounds (h : Held) (p : List Byte) (s : State) : SameBounds s (accordQueryCmd h p s) := by
  simp [accordQueryCmd]

@[simp] theorem execAccordQuery_bounds (s : State) : ResKeeps (SameBounds s) (execAccordQuery s) :=
  withCmd_bounds (fun h p => by simp)

@[simp] theorem accordsPoint_bounds (s : State) : SameBounds s (accordsPoint s) :=
  foldl_bounds (fun s a => by (repeat' split) <;> simp) _ _

@[simp] theorem routeSetCmd_bounds (h : Held) (p : List Byte) (s : State) : SameBounds s (routeSetCmd h p s) := by simp [routeSetCmd]

@[simp] theorem execRouteSet_bounds (s : State) : ResKeeps (SameBounds s) (execRouteSet s) :=
  withCmd_bounds (fun h p => by simp)

@[simp] theorem routesPoint_bounds (s : State) : SameBounds s (routesPoint s) := by simp [routesPoint]

@[simp] theorem refuseLater_bounds (i : HdrInfo) (note status : Nat) (s : State) : SameBounds s (refuseLater i note status s) := by
  simp [refuseLater]

@[simp] theorem execForwardClose_bounds (id : Nat) (s : State) : ResKeeps (SameBounds s) (execForwardClose id s) := by
  unfold execForwardClose
  split <;> simp

@[simp] theorem execReferralVerdictExpiry_bounds (id : Nat) (s : State) : ResKeeps (SameBounds s) (execReferralVerdictExpiry id s) := by
  unfold execReferralVerdictExpiry
  split <;> simp

@[simp] theorem verdictCmd_bounds (h : Held) (p : List Byte) (s : State) : SameBounds s (verdictCmd h p s) := by simp [verdictCmd]

@[simp] theorem execVerdict_bounds (s : State) : ResKeeps (SameBounds s) (execVerdict s) :=
  withCmd_bounds (fun h p => by simp)

@[simp] theorem applyVerdict_bounds (s : State) (v : VerdictRec) : SameBounds s (applyVerdict s v) := by
  unfold applyVerdict
  split <;> simp

@[simp] theorem verdictsPoint_bounds (s : State) : SameBounds s (verdictsPoint s) := by simp [verdictsPoint]

/-! ### Machine/Bar0 -/

@[simp] theorem bar0Notice_bounds (off : Nat) (s : State) : SameBounds s (bar0Notice off s) := by simp [bar0Notice]

@[simp] theorem badWrite_bounds (off : Nat) (s : State) : SameBounds s (badWrite off s) := by simp [badWrite]

@[simp] theorem badRead_bounds (off size : Nat) (s : State) : SameBounds s (badRead off size s) := by simp [badRead]

/-! ### Machine/Digest -/

@[simp] theorem execDgClaim_bounds (u : Nat) (s : State) : ResKeeps (SameBounds s) (execDgClaim u s) := by simp [execDgClaim]

@[simp] theorem releaseUnit_bounds (u : Nat) (s : State) : SameBounds s (releaseUnit u s) := by simp [releaseUnit]

@[simp] theorem execDgRelease_bounds (u : Nat) (s : State) : ResKeeps (SameBounds s) (execDgRelease u s) := by simp [execDgRelease]

@[simp] theorem releaseAll_bounds (s : State) : SameBounds s (releaseAll s) := by simp [releaseAll]

@[simp] theorem execDgClaimComplete_bounds (u : Nat) (s : State) : ResKeeps (SameBounds s) (execDgClaimComplete u s) := by
  unfold execDgClaimComplete
  split
  · simp
  · exact SameBounds.trans (t := modDg u (fun _ => { claimed := true }) s) (by simp) (foldl_bounds (fun s p => by split <;> simp) _ _)

@[simp] theorem dgLost_bounds (u : Nat) (s : State) : SameBounds s (dgLost u s) := by simp [dgLost]

theorem dgPage_bounds {u off : Nat} {s : State} {f : DgUnit → State} (hf : ∀ x, SameBounds s (f x)) :
    ResKeeps (SameBounds s) (dgPage u off s f) := by
  simp only [SameBounds] at hf
  simp [dgPage, hf]

@[simp] theorem execDgStart_bounds (u alg : Nat) (isSealed : Bool) (s : State) :
    ResKeeps (SameBounds s) (execDgStart u alg isSealed s) := by simp [execDgStart, dgPage]

@[simp] theorem execDgSealedKeyReady_bounds (u : Nat) (s : State) : ResKeeps (SameBounds s) (execDgSealedKeyReady u s) := by
  unfold execDgSealedKeyReady
  dsimp only
  (repeat' split) <;> simp

@[simp] theorem dgRefused_bounds (u : Nat) (x : DgUnit) (s : State) : SameBounds s (dgRefused u x s) := by simp [dgRefused]

@[simp] theorem execDgData_bounds (u v : Nat) (s : State) : ResKeeps (SameBounds s) (execDgData u v s) := by simp [execDgData, dgPage]

@[simp] theorem execDgLastCtl_bounds (u vb : Nat) (s : State) : ResKeeps (SameBounds s) (execDgLastCtl u vb s) := by
  simp [execDgLastCtl, dgPage]

@[simp] theorem dgBytes_bounds (n : Nat) (s : State) : SameBounds s (dgBytes n s) := by simp [dgBytes]

@[simp] theorem execDgBlockDone_bounds (u : Nat) (s : State) : ResKeeps (SameBounds s) (execDgBlockDone u s) := by
  unfold execDgBlockDone
  split <;> simp

@[simp] theorem execDgMessageDone_bounds (u : Nat) (s : State) : ResKeeps (SameBounds s) (execDgMessageDone u s) := by
  unfold execDgMessageDone
  split <;> simp

@[simp] theorem execDgAbort_bounds (u : Nat) (s : State) : ResKeeps (SameBounds s) (execDgAbort u s) := by simp [execDgAbort, dgPage]

@[simp] theorem execDgSave_bounds (u : Nat) (s : State) : ResKeeps (SameBounds s) (execDgSave u s) := by simp [execDgSave, dgPage]

@[simp] theorem execDgRestore_bounds (u : Nat) (s : State) : ResKeeps (SameBounds s) (execDgRestore u s) := by
  unfold execDgRestore
  rw [resKeeps_viaPf0]
  split
  · exact dgPage_bounds (fun x => by dsimp only; (repeat' split) <;> simp)
  · simp

@[simp] theorem execDigestChunkEnd_bounds (id : Nat) (s : State) : ResKeeps (SameBounds s) (execDigestChunkEnd id s) := by
  unfold execDigestChunkEnd
  split <;> simp

@[simp] theorem digestDomwinCmd_bounds (h : Held) (p : List Byte) (s : State) : SameBounds s (digestDomwinCmd h p s) := by
  simp [digestDomwinCmd]

@[simp] theorem execDigestDomwin_bounds (s : State) : ResKeeps (SameBounds s) (execDigestDomwin s) :=
  withCmd_bounds (fun h p => by simp)

@[simp] theorem execRnData_bounds (s : State) : ResKeeps (SameBounds s) (execRnData s) := by
  unfold execRnData
  split <;> simp

@[simp] theorem execEntropyBlock_bounds (s : State) : ResKeeps (SameBounds s) (execEntropyBlock s) := by simp [execEntropyBlock]

@[simp] theorem sourcesChanged_bounds (s : State) : SameBounds s (sourcesChanged s) := by simp [sourcesChanged]

@[simp] theorem sourceFails_bounds (k cause : Nat) (s : State) : SameBounds s (sourceFails k cause s) := by simp [sourceFails]

@[simp] theorem execNoiseSourceFail_bounds (k cause : Nat) (s : State) : ResKeeps (SameBounds s) (execNoiseSourceFail k cause s) := by
  simp [execNoiseSourceFail]

@[simp] theorem execSourceRetest_bounds (k : Nat) (passed : Bool) (s : State) :
    ResKeeps (SameBounds s) (execSourceRetest k passed s) := by simp [execSourceRetest]

@[simp] theorem noisePoint_bounds (s : State) : SameBounds s (noisePoint s) := by simp [noisePoint]

@[simp] theorem execNoSourceTimeout_bounds (s : State) : ResKeeps (SameBounds s) (execNoSourceTimeout s) := by simp [execNoSourceTimeout]

@[simp] theorem execSourceWindowEnd_bounds (k ones equal : Nat) (s : State) :
    ResKeeps (SameBounds s) (execSourceWindowEnd k ones equal s) := by simp [execSourceWindowEnd]

/-! ### Machine/KeyCmds -/

@[simp] theorem domainSetCmd_bounds (h : Held) (p : List Byte) (s : State) : SameBounds s (domainSetCmd h p s) := by
  unfold domainSetCmd
  split <;> simp

@[simp] theorem execDomainSet_bounds (s : State) : ResKeeps (SameBounds s) (execDomainSet s) :=
  withCmd_bounds (fun h p => by simp)

@[simp] theorem epochCmd_bounds (h : Held) (p : List Byte) (s : State) : SameBounds s (epochCmd h p s) := by simp [epochCmd]

@[simp] theorem execEpoch_bounds (s : State) : ResKeeps (SameBounds s) (execEpoch s) :=
  withCmd_bounds (fun h p => by simp)

@[simp] theorem journalSetCmd_bounds (h : Held) (p : List Byte) (s : State) : SameBounds s (journalSetCmd h p s) := by simp [journalSetCmd]

@[simp] theorem execJournalSet_bounds (s : State) : ResKeeps (SameBounds s) (execJournalSet s) :=
  withCmd_bounds (fun h p => by simp)

@[simp] theorem ringWrite_bounds (r : JRing) (slots : Nat) (data : List Byte) (s : State) : SameBounds s (ringWrite r slots data s) := by
  simp [ringWrite]

theorem sendEntry_bounds {r : JRing} {e : JEntry} {s t : State} (h : sendEntry r e s = some t) : SameBounds s t := by
  simp only [sendEntry, Option.ite_none_left_eq_some, Option.some.injEq] at h
  obtain ⟨-, -, rfl⟩ := h
  simp

@[simp] theorem sendEntries_bounds (r : JRing) : ∀ (l : List JEntry) (s : State),
    SameBounds s (sendEntries r l s).2
  | [], _ => .of_eq rfl rfl
  | e :: l, s => by
    unfold sendEntries
    split
    · simp [sendEntries_bounds r l]
    · split
      · exact .of_eq rfl rfl
      next t ht =>
        obtain ⟨hlen, hwms, hrole⟩ := sendEntry_bounds ht
        simp [sendEntries_bounds r l, hlen, hwms, hrole]

@[simp] theorem updateFull_bounds (s : State) : SameBounds s (updateFull s) := by simp [updateFull]

@[simp] theorem execJournalStream_bounds (s : State) : ResKeeps (SameBounds s) (execJournalStream s) := by
  unfold execJournalStream
  split <;> simp

@[simp] theorem execRootSlotWrite_bounds (s : State) : ResKeeps (SameBounds s) (execRootSlotWrite s) := by
  unfold execRootSlotWrite
  split <;> simp

@[simp] theorem execKsJhead_bounds (value : Nat) (s : State) : ResKeeps (SameBounds s) (execKsJhead value s) := by
  unfold execKsJhead
  split <;> simp

@[simp] theorem execHoldDownExpiry_bounds (i : Nat) (s : State) : ResKeeps (SameBounds s) (execHoldDownExpiry i s) := by
  unfold execHoldDownExpiry
  split <;> simp

@[simp] theorem snapshotCmd_bounds (h : Held) (p : List Byte) (s : State) : SameBounds s (snapshotCmd h p s) := by simp [snapshotCmd]

@[simp] theorem execSnapshot_bounds (s : State) : ResKeeps (SameBounds s) (execSnapshot s) :=
  withCmd_bounds (fun h p => by simp)

@[simp] theorem takeSnap_bounds (s : State) : SameBounds s (takeSnap s) := by
  unfold takeSnap
  split <;> simp

@[simp] theorem spill_bounds : ∀ (l : List (Nat × Nat)) (bs : List Byte) (s : State),
    SameBounds s (spill l bs s)
  | [], _, _ => .of_eq rfl rfl
  | (a, n) :: l, bs, s => by simp [spill, spill_bounds l]

@[simp] theorem endSnapshot_bounds (n : Snap) (s : State) : SameBounds s (endSnapshot n s).2 := by simp [endSnapshot]

@[simp] theorem reloadCmd_bounds (h : Held) (p : List Byte) (s : State) : SameBounds s (reloadCmd h p s) := by simp [reloadCmd]

@[simp] theorem execReload_bounds (s : State) : ResKeeps (SameBounds s) (execReload s) :=
  withCmd_bounds (fun h p => by simp)

@[simp] theorem replay_bounds (s : State) (e : Replay) : SameBounds s (replay s e) := by
  unfold replay
  split <;> simp

@[simp] theorem loadImage_bounds (img : Image) (root : RootSlot) (s : State) : SameBounds s (loadImage img root s) := by simp [loadImage]

@[simp] theorem endReload_bounds (img : Image) (before : Nat) (s : State) : SameBounds s (endReload img before s).2.2 := by
  unfold endReload
  dsimp only
  (repeat' split) <;> simp

@[simp] theorem storeEmptyCmd_bounds (h : Held) (k : List Byte) (s : State) : SameBounds s (storeEmptyCmd h k s) := by simp [storeEmptyCmd]

@[simp] theorem execStoreEmpty_bounds (s : State) : ResKeeps (SameBounds s) (execStoreEmpty s) :=
  withCmd_bounds (fun h p => by simp)

@[simp] theorem cerOpenCmd_bounds (h : Held) (p : List Byte) (s : State) : SameBounds s (cerOpenCmd h p s) := by
  unfold cerOpenCmd
  split <;> simp

@[simp] theorem execCerOpen_bounds (s : State) : ResKeeps (SameBounds s) (execCerOpen s) :=
  withCmd_bounds (fun h p => by simp)

@[simp] theorem cerComponentCmd_bounds (h : Held) (p : List Byte) (s : State) : SameBounds s (cerComponentCmd h p s) := by
  unfold cerComponentCmd
  dsimp only
  (repeat' split) <;> simp

@[simp] theorem execCerComponent_bounds (s : State) : ResKeeps (SameBounds s) (execCerComponent s) :=
  withCmd_bounds (fun h p => by simp)

@[simp] theorem cerCommitCmd_bounds (h : Held) (p : List Byte) (s : State) : SameBounds s (cerCommitCmd h p s) := by
  unfold cerCommitCmd
  dsimp only
  (repeat' split) <;> simp

@[simp] theorem execCerCommit_bounds (s : State) : ResKeeps (SameBounds s) (execCerCommit s) :=
  withCmd_bounds (fun h p => by simp)

@[simp] theorem cerAbortCmd_bounds (h : Held) (p : List Byte) (s : State) : SameBounds s (cerAbortCmd h p s) := by
  unfold cerAbortCmd
  split <;> simp

@[simp] theorem execCerAbort_bounds (s : State) : ResKeeps (SameBounds s) (execCerAbort s) :=
  withCmd_bounds (fun h p => by simp)

@[simp] theorem execCeremonyExpiry_bounds (s : State) : ResKeeps (SameBounds s) (execCeremonyExpiry s) := by simp [execCeremonyExpiry]

@[simp] theorem startMigration_bounds (s : State) : SameBounds s (startMigration s) := by simp [startMigration]

@[simp] theorem execMigrationSegmentSwitch_bounds (seg : Nat) (s : State) :
    ResKeeps (SameBounds s) (execMigrationSegmentSwitch seg s) := by
  unfold execMigrationSegmentSwitch
  split <;> simp

@[simp] theorem switchSegment_bounds (s : State) (seg : Nat) : SameBounds s (switchSegment s seg) := by
  unfold switchSegment
  split <;> simp

@[simp] theorem migrationPoint_bounds (s : State) : SameBounds s (migrationPoint s) := by
  unfold migrationPoint
  split <;> simp

/-! ### Machine/Firebox -/

@[simp] theorem stepCond_bounds (r : SensorReading) (acc : State × List Hit) (c : Cond) :
    SameBounds acc.1 (stepCond r acc c).1 := .of_eq rfl rfl

@[simp] theorem takeReading_bounds (rs : List SensorReading) (acc : State × List Hit) (r : SensorReading) :
    SameBounds acc.1 (takeReading rs acc r).1 := by simp [takeReading]

@[simp] theorem takeSample_bounds (rs : List SensorReading) (s : State) : SameBounds s (takeSample rs s).1 := by
  unfold takeSample
  dsimp only
  (repeat' split) <;> simp

@[simp] theorem battEvent_bounds (e : BattEvt) (s : State) : SameBounds s (battEvent e s) := by
  unfold battEvent
  dsimp only
  (repeat' split) <;> simp

@[simp] theorem nEvent_bounds (h : Hit) (s : State) : SameBounds s (nEvent h s) := by simp [nEvent]

@[simp] theorem recordLater_bounds (h : Hit) (s : State) : SameBounds s (recordLater h s) := by simp [recordLater]

@[simp] theorem recordHit_bounds (h : Hit) (s : State) : SameBounds s (recordHit h s) := by simp [recordHit]

@[simp] theorem firstDecision_bounds (h : Hit) (s : State) : SameBounds s (firstDecision h s) := by simp [firstDecision]

@[simp] theorem takeHit_bounds (s : State) (h : Hit) : SameBounds s (takeHit s h) := by
  unfold takeHit
  dsimp only
  (repeat' split) <;> simp

@[simp] theorem clockFault_bounds (hs : List Hit) (s : State) : SameBounds s (clockFault hs s) := by simp [clockFault]

@[simp] theorem takeHits_bounds (hs : List Hit) (s : State) : SameBounds s (takeHits hs s) := by simp [takeHits]

@[simp] theorem collectBaselines_bounds (rs : List SensorReading) (s : State) : SameBounds s (collectBaselines rs s) := by
  simp [collectBaselines]

@[simp] theorem summaryPoint_bounds (s : State) : SameBounds s (summaryPoint s) := by
  unfold summaryPoint
  dsimp only
  (repeat' split) <;> simp

@[simp] theorem refreshHealth_bounds (s : State) : SameBounds s (refreshHealth s) := by simp [refreshHealth]

@[simp] theorem execTamperSample_bounds (rs : List SensorReading) (s : State) : ResKeeps (SameBounds s) (execTamperSample rs s) := by
  simp [execTamperSample]

@[simp] theorem execBatterySample_bounds (rs : List SensorReading) (s : State) : ResKeeps (SameBounds s) (execBatterySample rs s) := by
  simp [execBatterySample]

@[simp] theorem execVibrationWake_bounds (s : State) : ResKeeps (SameBounds s) (execVibrationWake s) := by simp [execVibrationWake]

@[simp] theorem tamperSplit_bounds (d : TamperDec) (s : State) : SameBounds s (tamperSplit d s) := by simp [tamperSplit]

@[simp] theorem tamperAgreed_bounds (d : TamperDec) (s : State) : SameBounds s (tamperAgreed d s) := by simp [tamperAgreed]

@[simp] theorem execTamperSecondDecision_bounds (fault : Bool) (s : State) :
    ResKeeps (SameBounds s) (execTamperSecondDecision fault s) := by
  unfold execTamperSecondDecision
  split <;> simp

@[simp] theorem execCrystalStop_bounds (s : State) : ResKeeps (SameBounds s) (execCrystalStop s) := by simp [execCrystalStop]

@[simp] theorem execCrystalRestored_bounds (s : State) : ResKeeps (SameBounds s) (execCrystalRestored s) := by simp [execCrystalRestored]

@[simp] theorem execCellSelectChange_bounds (cellA cellB detail : Nat) (s : State) :
    ResKeeps (SameBounds s) (execCellSelectChange cellA cellB detail s) := by simp [execCellSelectChange]

@[simp] theorem execBaselineComplete_bounds (sensor inst : Nat) (s : State) :
    ResKeeps (SameBounds s) (execBaselineComplete sensor inst s) := by simp [execBaselineComplete]

@[simp] theorem execTmEvidSel_bounds (value : Nat) (s : State) : ResKeeps (SameBounds s) (execTmEvidSel value s) := by simp [execTmEvidSel]

@[simp] theorem execThermalRailRemoval_bounds (s : State) : ResKeeps (SameBounds s) (execThermalRailRemoval s) := by
  unfold execThermalRailRemoval
  split <;> simp

/-! ### Machine/Pairs -/

@[simp] theorem abandonLongs_bounds (s : State) : SameBounds s (abandonLongs s) := by simp [abandonLongs]

@[simp] theorem loseActive_bounds (i cause : Nat) (s : State) : SameBounds s (loseActive i cause s) := by simp [loseActive]

@[simp] theorem loseStandby_bounds (s : State) : SameBounds s (loseStandby s) := by simp [loseStandby]

@[simp] theorem stopPair_bounds (i cause : Nat) (s : State) : SameBounds s (stopPair i cause s) := by simp [stopPair]

@[simp] theorem endInHand_bounds (pair : Nat) (s : State) : SameBounds s (endInHand pair s) := by
  unfold endInHand
  (repeat' split) <;> simp

@[simp] theorem hcViolation_bounds (pair : Nat) (a : Access) (b : Blocked) (s : State) : SameBounds s (hcViolation pair a b s) := by
  simp [hcViolation]

@[simp] theorem execHcPairStop_bounds (pair cause : Nat) (a : Option Access) (s : State) :
    ResKeeps (SameBounds s) (execHcPairStop pair cause a s) := by
  unfold execHcPairStop
  (repeat' split) <;> simp

@[simp] theorem fencePoint_bounds (s : State) : SameBounds s (fencePoint s) := by simp [fencePoint]

@[simp] theorem execHcHeartbeatTimeout_bounds (pair : Nat) (s : State) : ResKeeps (SameBounds s) (execHcHeartbeatTimeout pair s) := by
  simp [execHcHeartbeatTimeout]

@[simp] theorem answerByLedger_bounds (s : State) : SameBounds s (answerByLedger s) := by
  unfold answerByLedger
  dsimp only
  (repeat' split) <;> simp

@[simp] theorem resolveTransition_bounds (s : State) : SameBounds s (resolveTransition s) := by simp [resolveTransition]

@[simp] theorem afterTakeover_bounds (s : State) : SameBounds s (afterTakeover s) := by
  unfold afterTakeover
  split <;> simp

@[simp] theorem rollBack_bounds (s : State) : SameBounds s (rollBack s) := by simp [rollBack]

@[simp] theorem execTakeoverFirstCommand_bounds (gap : Nat) (s : State) : ResKeeps (SameBounds s) (execTakeoverFirstCommand gap s) := by
  simp [execTakeoverFirstCommand]

@[simp] theorem switchFirmware_bounds (out : Nat) (s : State) : SameBounds s (switchFirmware out s) := by
  unfold switchFirmware
  split <;> simp

@[simp] theorem handControl_bounds (cause since : Nat) (s : State) : SameBounds s (handControl cause since s) := by simp [handControl]

@[simp] theorem endHandOver_bounds (cause since : Nat) (s : State) : SameBounds s (endHandOver cause since s) := by
  unfold endHandOver
  split <;> simp

@[simp] theorem tryPlanned_bounds (cause since : Nat) (s : State) : SameBounds s (tryPlanned cause since s) := by simp [tryPlanned]

@[simp] theorem retryPlanned_bounds (s : State) : SameBounds s (retryPlanned s) := by
  unfold retryPlanned
  split <;> simp

@[simp] theorem revertNow_bounds (s : State) : SameBounds s (revertNow s) := by simp [revertNow]

@[simp] theorem rotate_bounds (s : State) : SameBounds s (rotate s) := by simp [rotate]

@[simp] theorem execRevertBoundary_bounds (s : State) : ResKeeps (SameBounds s) (execRevertBoundary s) := by simp [execRevertBoundary]

@[simp] theorem execRotationBoundary_bounds (s : State) : ResKeeps (SameBounds s) (execRotationBoundary s) := by simp [execRotationBoundary]

@[simp] theorem restartPair_bounds (s : State) (i : Nat) : SameBounds s (restartPair s i) := by
  unfold restartPair
  split <;> simp

@[simp] theorem restartPairs_bounds (s : State) : SameBounds s (restartPairs s) := by simp [restartPairs]

@[simp] theorem execPairRestartDone_bounds (pair failStep : Nat) (s : State) :
    ResKeeps (SameBounds s) (execPairRestartDone pair failStep s) := by simp [execPairRestartDone]

/-! ### Machine/LifeCmds -/

@[simp] theorem nonceCmd_bounds (h : Held) (k : List Byte) (s : State) : SameBounds s (nonceCmd h k s) := by simp [nonceCmd]

@[simp] theorem execNonce_bounds (s : State) : ResKeeps (SameBounds s) (execNonce s) :=
  withCmd_bounds (fun h p => by simp)

@[simp] theorem statusCmd_bounds (h : Held) (k : List Byte) (s : State) : SameBounds s (statusCmd h k s) := by simp [statusCmd]

@[simp] theorem execStatus_bounds (s : State) : ResKeeps (SameBounds s) (execStatus s) :=
  withCmd_bounds (fun h p => by simp)

@[simp] theorem packageRefused_bounds (pkg : List Byte) (check : Nat) (s : State) : SameBounds s (packageRefused pkg check s) := by
  simp [packageRefused]

@[simp] theorem gateRefusal_bounds (h : Held) (e : Nat × Nat) (s : State) : SameBounds s (gateRefusal h e s) := by simp [gateRefusal]

@[simp] theorem relaySend_bounds (i : Held) (s : State) : SameBounds s (relaySend i s) := by
  unfold relaySend
  split <;> simp

@[simp] theorem execQuorumCheckDone_bounds (faults : List (Bool × Bool)) (s : State) :
    ResKeeps (SameBounds s) (execQuorumCheckDone faults s) := by
  unfold execQuorumCheckDone
  dsimp only
  (repeat' split) <;> simp

@[simp] theorem quorumSetCmd_bounds (h : Held) (p : List Byte) (s : State) : SameBounds s (quorumSetCmd h p s) := by
  unfold quorumSetCmd
  dsimp only
  (repeat' split) <;> simp

@[simp] theorem execQuorumSet_bounds (s : State) : ResKeeps (SameBounds s) (execQuorumSet s) :=
  withCmd_bounds (fun h p => by simp)

@[simp] theorem beginDecision_bounds (k : DecKind) (first : Bool) (s : State) : SameBounds s (beginDecision k first s) := by
  simp [beginDecision]

@[simp] theorem decideTwice_bounds (k : DecKind) (first : Bool) (s : State) : SameBounds s (decideTwice k first s) := by simp [decideTwice]

@[simp] theorem stateChangeCmd_bounds (h : Held) (p : List Byte) (s : State) : SameBounds s (stateChangeCmd h p s) := by
  unfold stateChangeCmd
  (repeat' split) <;> simp

@[simp] theorem execStateChange_bounds (s : State) : ResKeeps (SameBounds s) (execStateChange s) :=
  withCmd_bounds (fun h p => by simp)

@[simp] theorem unlockCmd_bounds (h : Held) (k : List Byte) (s : State) : SameBounds s (unlockCmd h k s) := by
  unfold unlockCmd
  split <;> simp

@[simp] theorem execUnlock_bounds (s : State) : ResKeeps (SameBounds s) (execUnlock s) :=
  withCmd_bounds (fun h p => by simp)

@[simp] theorem writeSlotVer_bounds (slot v : Nat) (s : State) : SameBounds s (writeSlotVer slot v s) := by simp [writeSlotVer]

@[simp] theorem fwLoadCmd_bounds (h : Held) (p : List Byte) (s : State) : SameBounds s (fwLoadCmd h p s) := by simp [fwLoadCmd]

@[simp] theorem execFwLoad_bounds (s : State) : ResKeeps (SameBounds s) (execFwLoad s) :=
  withCmd_bounds (fun h p => by simp)

@[simp] theorem commitTrial_bounds (s : State) : SameBounds s (commitTrial s) := by simp [commitTrial]

@[simp] theorem fwActivateCmd_bounds (h : Held) (p : List Byte) (s : State) : SameBounds s (fwActivateCmd h p s) := by simp [fwActivateCmd]

@[simp] theorem execFwActivate_bounds (s : State) : ResKeeps (SameBounds s) (execFwActivate s) :=
  withCmd_bounds (fun h p => by simp)

@[simp] theorem execFwStandbyLoaded_bounds (s : State) : ResKeeps (SameBounds s) (execFwStandbyLoaded s) := by
  unfold execFwStandbyLoaded
  split <;> simp

@[simp] theorem execFwTrialCommit_bounds (s : State) : ResKeeps (SameBounds s) (execFwTrialCommit s) := by simp [execFwTrialCommit]

@[simp] theorem progKeySetCmd_bounds (h : Held) (p : List Byte) (s : State) : SameBounds s (progKeySetCmd h p s) := by simp [progKeySetCmd]

@[simp] theorem execProgKeySet_bounds (s : State) : ResKeeps (SameBounds s) (execProgKeySet s) :=
  withCmd_bounds (fun h p => by simp)

@[simp] theorem installProg_bounds (p : Prog) (s : State) : SameBounds s (installProg p s) := by simp [installProg]

@[simp] theorem progLoadCmd_bounds (h : Held) (p : List Byte) (s : State) : SameBounds s (progLoadCmd h p s) := by simp [progLoadCmd]

@[simp] theorem execProgLoad_bounds (s : State) : ResKeeps (SameBounds s) (execProgLoad s) :=
  withCmd_bounds (fun h p => by simp)

@[simp] theorem progWithdrawCmd_bounds (h : Held) (p : List Byte) (s : State) : SameBounds s (progWithdrawCmd h p s) := by
  simp [progWithdrawCmd]

@[simp] theorem execProgWithdraw_bounds (s : State) : ResKeeps (SameBounds s) (execProgWithdraw s) :=
  withCmd_bounds (fun h p => by simp)

@[simp] theorem decideLong_bounds (op status detail : Nat) (s : State) : SameBounds s (decideLong op status detail s) := by
  simp [decideLong]

@[simp] theorem startChange_bounds (t : Lc) (s : State) : SameBounds s (startChange t s) := by simp [startChange]

@[simp] theorem armDecision_bounds (k : DecKind) (s : State) : SameBounds s (armDecision k s) := by
  unfold armDecision
  dsimp only
  (repeat' split) <;> simp

@[simp] theorem turnDown_bounds (k : DecKind) (s : State) : SameBounds s (turnDown k s) := by
  unfold turnDown
  dsimp only
  (repeat' split) <;> simp

@[simp] theorem splitDecision_bounds (k : DecKind) (s : State) : SameBounds s (splitDecision k s) := by
  unfold splitDecision
  split <;> simp

@[simp] theorem execDecisionSecond_bounds (fault : Bool) (s : State) : ResKeeps (SameBounds s) (execDecisionSecond fault s) := by
  unfold execDecisionSecond
  split <;> simp

theorem bounds_of_some {a b : Nat} {s t : State} {r : Nat × Nat × State} (h : some (a, b, t) = some r) (ht : SameBounds s t) :
    SameBounds s r.2.2 :=
  Option.some.inj h ▸ ht

theorem longWork_bounds {l : LongCmd} {img : Option Image} {s : State} {r : Nat × Nat × State} (h : longWork l img s = some r) :
    SameBounds s r.2.2 := by
  unfold longWork at h
  split at h
  · split at h
    · split at h
      · exact bounds_of_some h (endSnapshot_bounds _ _)
      · simp at h
    · exact bounds_of_some h (.of_eq rfl rfl)
  · split at h
    · split at h
      · exact Option.some.inj h ▸ endReload_bounds _ _ s
      · exact bounds_of_some h (.of_eq rfl rfl)
      · split at h <;> exact bounds_of_some h (.of_eq rfl rfl)
    · dsimp only at h
      split at h
      · simp at h
      · split at h <;> exact bounds_of_some h (.of_eq rfl rfl)

@[simp] theorem execLongCommandEnd_bounds (op : Nat) (img : Option Image) (s : State) :
    ResKeeps (SameBounds s) (execLongCommandEnd op img s) := by
  unfold execLongCommandEnd
  split
  · simp
  · split
    · simp
    next st d t ht =>
      obtain ⟨hlen, hwms, hrole⟩ : SameBounds s t := longWork_bounds ht
      simp [hlen, hwms, hrole]

/-! ### Machine/Accounting -/

@[simp] theorem beginClose_bounds (c : Close) (s : State) : SameBounds s (beginClose c s) := by simp [beginClose]

@[simp] theorem closeInterval_bounds (cause : Nat) (deferred : Bool) (s : State) : SameBounds s (closeInterval cause deferred s) := by
  simp [closeInterval]

@[simp] theorem closeOrDefer_bounds (cause : Nat) (s : State) : SameBounds s (closeOrDefer cause s) := by simp [closeOrDefer]

@[simp] theorem intervalClose_bounds (s : State) : SameBounds s (intervalClose s) := by
  unfold intervalClose
  split <;> simp

@[simp] theorem execIntervalClose_bounds (s : State) : ResKeeps (SameBounds s) (execIntervalClose s) := by simp [execIntervalClose]

@[simp] theorem tariffSwitch_bounds (s : State) : SameBounds s (tariffSwitch s) := by
  unfold tariffSwitch
  split <;> simp

@[simp] theorem execTariffSwitch_bounds (s : State) : ResKeeps (SameBounds s) (execTariffSwitch s) := by simp [execTariffSwitch]

@[simp] theorem startCkpt_bounds (s : State) : SameBounds s (startCkpt s) := by simp [startCkpt]

@[simp] theorem execCheckpointStart_bounds (s : State) : ResKeeps (SameBounds s) (execCheckpointStart s) := by simp [execCheckpointStart]

@[simp] theorem execCheckpointEnd_bounds (s : State) : ResKeeps (SameBounds s) (execCheckpointEnd s) := by
  unfold execCheckpointEnd
  split <;> simp

@[simp] theorem putRecord_bounds (r : URing) (c : Close) (s : State) : SameBounds s (putRecord r c s) := by simp [putRecord]

@[simp] theorem ringStalls_bounds (s : State) : SameBounds s (ringStalls s) := by simp [ringStalls]

@[simp] theorem streamEnds_bounds (s : State) : SameBounds s (streamEnds s) := by
  unfold streamEnds
  dsimp only
  (repeat' split) <;> simp

@[simp] theorem streamPoint_bounds (s : State) : SameBounds s (streamPoint s) := by simp [streamPoint]

@[simp] theorem execUsageStream_bounds (n : Nat) (s : State) : ResKeeps (SameBounds s) (execUsageStream n s) := by
  unfold execUsageStream
  split <;> simp

@[simp] theorem execAcRhead_bounds (value : Nat) (s : State) : ResKeeps (SameBounds s) (execAcRhead value s) := by
  unfold execAcRhead
  split <;> simp

@[simp] theorem acConfigCmd_bounds (h : Held) (p : List Byte) (s : State) : SameBounds s (acConfigCmd h p s) := by simp [acConfigCmd]

@[simp] theorem execAcConfig_bounds (s : State) : ResKeeps (SameBounds s) (execAcConfig s) :=
  withCmd_bounds (fun h p => by simp)

@[simp] theorem acRateLoadCmd_bounds (h : Held) (p : List Byte) (s : State) : SameBounds s (acRateLoadCmd h p s) := by simp [acRateLoadCmd]

@[simp] theorem execAcRateLoad_bounds (s : State) : ResKeeps (SameBounds s) (execAcRateLoad s) :=
  withCmd_bounds (fun h p => by simp)

@[simp] theorem acTariffArmCmd_bounds (h : Held) (p : List Byte) (s : State) : SameBounds s (acTariffArmCmd h p s) := by
  simp [acTariffArmCmd]

@[simp] theorem execAcTariffArm_bounds (s : State) : ResKeeps (SameBounds s) (execAcTariffArm s) :=
  withCmd_bounds (fun h p => by simp)

@[simp] theorem acTariffCancelCmd_bounds (h : Held) (k : List Byte) (s : State) : SameBounds s (acTariffCancelCmd h k s) := by
  simp [acTariffCancelCmd]

@[simp] theorem execAcTariffCancel_bounds (s : State) : ResKeeps (SameBounds s) (execAcTariffCancel s) :=
  withCmd_bounds (fun h p => by simp)

@[simp] theorem acRingSetCmd_bounds (h : Held) (p : List Byte) (s : State) : SameBounds s (acRingSetCmd h p s) := by simp [acRingSetCmd]

@[simp] theorem execAcRingSet_bounds (s : State) : ResKeeps (SameBounds s) (execAcRingSet s) :=
  withCmd_bounds (fun h p => by simp)

@[simp] theorem acCloseNowCmd_bounds (h : Held) (k : List Byte) (s : State) : SameBounds s (acCloseNowCmd h k s) := by simp [acCloseNowCmd]

@[simp] theorem execAcCloseNow_bounds (s : State) : ResKeeps (SameBounds s) (execAcCloseNow s) :=
  withCmd_bounds (fun h p => by simp)

@[simp] theorem closesPoint_bounds (s : State) : SameBounds s (closesPoint s) := by
  unfold closesPoint
  dsimp only
  (repeat' split) <;> simp

@[simp] theorem forcedPoint_bounds (s : State) : SameBounds s (forcedPoint s) := by simp [forcedPoint]

@[simp] theorem heldPoint_bounds (s : State) : SameBounds s (heldPoint s) := by
  unfold heldPoint
  dsimp only
  (repeat' split) <;> simp

@[simp] theorem execInputLossDetected_bounds (s : State) : ResKeeps (SameBounds s) (execInputLossDetected s) := by
  simp [execInputLossDetected]

@[simp] theorem execPowerFailSave_bounds (s : State) : ResKeeps (SameBounds s) (execPowerFailSave s) := by
  unfold execPowerFailSave
  split <;> simp

@[simp] theorem restoreCounters_bounds (s : State) : SameBounds s (restoreCounters s) := by
  unfold restoreCounters
  dsimp only
  (repeat' split) <;> simp

@[simp] theorem restoreRecords_bounds (s : State) : SameBounds s (restoreRecords s) := by
  unfold restoreRecords
  split <;> simp

/-! ### Machine/Power -/

@[simp] theorem powerOn_bounds (s : State) : SameBounds s (powerOn s) := by simp [powerOn]

@[simp] theorem execPowerGood_bounds (addr0 addr1 : Bool) (s : State) : ResKeeps (SameBounds s) (execPowerGood addr0 addr1 s) := by
  simp [execPowerGood]

@[simp] theorem startFails_bounds (stage cause : Nat) (s : State) : SameBounds s (startFails stage cause s) := by simp [startFails]

@[simp] theorem execStage2SelftestEnd_bounds (aOk bOk : Bool) (s : State) :
    ResKeeps (SameBounds s) (execStage2SelftestEnd aOk bOk s) := by simp [execStage2SelftestEnd]

@[simp] theorem tornEvid_bounds (s : State) : SameBounds s (tornEvid s) := by simp [tornEvid]

@[simp] theorem battAppend_bounds (s : State) : SameBounds s (battAppend s) := by simp [battAppend]

@[simp] theorem resolved_bounds (origin target : Lc) (outcome : Nat) (s : State) : SameBounds s (resolved origin target outcome s) := by
  simp [resolved]

@[simp] theorem execStage5RandomReady_bounds (srcOk : List Bool) (katOk : Bool) (s : State) :
    ResKeeps (SameBounds s) (execStage5RandomReady srcOk katOk s) := by simp [execStage5RandomReady]

@[simp] theorem execStage6SlotDecided_bounds (fault : Bool) (s : State) : ResKeeps (SameBounds s) (execStage6SlotDecided fault s) := by
  unfold execStage6SlotDecided
  dsimp only
  (repeat' split) <;> simp

@[simp] theorem execStage7HbmReady_bounds (s : State) : ResKeeps (SameBounds s) (execStage7HbmReady s) := by simp [execStage7HbmReady]

@[simp] theorem lanesAtStart_bounds (bad : List Nat) (s : State) : SameBounds s (lanesAtStart bad s) := by
  unfold lanesAtStart
  generalize List.range 128 = slots
  refine .trans (foldl_bounds (fun s n => ?_) _ _) (foldl_bounds (fun s k => ?_) _ _)
  · simp
  · (repeat' split) <;> simp

@[simp] theorem unitsAtStart_bounds (bad : List Nat) (s : State) : SameBounds s (unitsAtStart bad s) := by simp [unitsAtStart]

@[simp] theorem clusterAtStart_bounds (bad : List Nat) (c : Nat) (s : State) : SameBounds s (clusterAtStart bad c s) := by
  simp [clusterAtStart]

@[simp] theorem execStage8UnitsTested_bounds (engs lanes pks clusters : List Nat) (s : State) :
    ResKeeps (SameBounds s) (execStage8UnitsTested engs lanes pks clusters s) := by simp [execStage8UnitsTested]

@[simp] theorem storeAtStart_bounds (s : State) : SameBounds s (storeAtStart s) := by
  unfold storeAtStart
  dsimp only
  (repeat' split) <;> simp

@[simp] theorem tornRecords_bounds (s : State) : SameBounds s (tornRecords s) := by simp [tornRecords]

@[simp] theorem rejoin_bounds (s : State) : SameBounds s (rejoin s) := by simp [rejoin]

@[simp] theorem execStage9Ready_bounds (s : State) : ResKeeps (SameBounds s) (execStage9Ready s) := by simp [execStage9Ready]

/-! ### Machine/Groups -/

@[simp] theorem heard_bounds (h : GpHead) (s : State) : SameBounds s (heard h s) := by simp [heard]

@[simp] theorem doubtPart_bounds (m bid idx id : Nat) (w : Work) (res : Nat) (s : State) :
    SameBounds s (doubtPart m bid idx id w res s) := by simp [doubtPart]

@[simp] theorem losePart_bounds (keep : Bool) (s : State) (a : Away) : SameBounds s (losePart keep s a) := by
  unfold losePart
  split <;> simp

@[simp] theorem loseParts_bounds (m : Nat) (s : State) : SameBounds s (loseParts m s) := by simp [loseParts]

@[simp] theorem loseDoubts_bounds (c : Doubt → Bool) (s : State) : SameBounds s (loseDoubts c s) := by simp [loseDoubts]

@[simp] theorem memberRestarted_bounds (m : Nat) (s : State) : SameBounds s (memberRestarted m s) := by simp [memberRestarted]

@[simp] theorem relayLost_bounds (m : Nat) (s : State) : SameBounds s (relayLost m s) := by simp [relayLost]

theorem takeFrame_bounds {p k type : Nat} {h : GpHead} {s t : State} (e : takeFrame p k type h s = some t) : SameBounds s t := by
  obtain ⟨f, -, rfl⟩ := Option.map_eq_some_iff.mp e
  exact .of_eq rfl rfl

@[simp] theorem sendChange_bounds (m seq : Nat) (bytes : List Byte) (s : State) : SameBounds s (sendChange m seq bytes s) := by
  simp [sendChange]

@[simp] theorem addChange_bounds (ks : Nat) (bytes : List Byte) (s : State) : SameBounds s (addChange ks bytes s) := by simp [addChange]

@[simp] theorem replicate_bounds (s : State) : SameBounds s (replicate s) := by simp [replicate]

@[simp] theorem applyItem_bounds (s : State) (i : ReplItem) : SameBounds s (applyItem s i) := by
  unfold applyItem
  split <;> simp

@[simp] theorem applyInbox_bounds (s : State) : SameBounds s (applyInbox s) := by simp [applyInbox]

@[simp] theorem applyStop_bounds (s : State) (c : PartStop) : SameBounds s (applyStop s c) := by
  unfold applyStop
  split <;> simp

@[simp] theorem refreshMajority_bounds (s : State) : SameBounds s (refreshMajority s) := by simp [refreshMajority]

@[simp] theorem placeRelayed_bounds (s : State) : SameBounds s (placeRelayed s) := by
  unfold placeRelayed
  split <;> simp

@[simp] theorem markGranted_bounds (s : State) : SameBounds s (markGranted s) := by simp [markGranted]

@[simp] theorem staleAway_bounds (s : State) : SameBounds s (staleAway s) := by simp [staleAway]

@[simp] theorem flueSync_bounds (s : State) : SameBounds s (flueSync s) := by
  unfold flueSync
  split <;> simp

@[simp] theorem askRecords_bounds (s : State) : SameBounds s (askRecords s) := by simp [askRecords]

@[simp] theorem sendRecord_bounds (m : Nat) (s : State) (i : Nat) : SameBounds s (sendRecord m s i) := by simp [sendRecord]

@[simp] theorem emptyForResync_bounds (s : State) : SameBounds s (emptyForResync s) := by simp [emptyForResync]

@[simp] theorem ownFlue_bounds (d : Nat) (s : State) : SameBounds s (ownFlue d s) := by simp [ownFlue]

theorem asManager_bounds {s : State} {f : State → State} (hf : SameBounds s (f s)) : SameBounds s (asManager s f) := by
  obtain ⟨hlen, hwms, hrole⟩ := hf
  simp [asManager, hlen, hwms, hrole]

@[simp] theorem gpAdmitCmd_bounds (h : Held) (p : List Byte) (s : State) : SameBounds s (gpAdmitCmd h p s) :=
  asManager_bounds (by dsimp only; (repeat' split) <;> simp)

@[simp] theorem execGpAdmit_bounds (s : State) : ResKeeps (SameBounds s) (execGpAdmit s) :=
  withCmd_bounds (fun h p => by simp)

@[simp] theorem gpJoinCmd_bounds (h : Held) (p : List Byte) (s : State) : SameBounds s (gpJoinCmd h p s) := by simp [gpJoinCmd]

@[simp] theorem execGpJoin_bounds (s : State) : ResKeeps (SameBounds s) (execGpJoin s) :=
  withCmd_bounds (fun h p => by simp)

@[simp] theorem gpRemoveCmd_bounds (h : Held) (p : List Byte) (s : State) : SameBounds s (gpRemoveCmd h p s) :=
  asManager_bounds (by dsimp only; (repeat' split) <;> simp)

@[simp] theorem execGpRemove_bounds (s : State) : ResKeeps (SameBounds s) (execGpRemove s) :=
  withCmd_bounds (fun h p => by simp)

@[simp] theorem gpSpreadCmd_bounds (h : Held) (p : List Byte) (s : State) : SameBounds s (gpSpreadCmd h p s) :=
  asManager_bounds (by dsimp only; (repeat' split) <;> simp)

@[simp] theorem execGpSpread_bounds (s : State) : ResKeeps (SameBounds s) (execGpSpread s) :=
  withCmd_bounds (fun h p => by simp)

@[simp] theorem gpStatusCmd_bounds (h : Held) (k : List Byte) (s : State) : SameBounds s (gpStatusCmd h k s) := by simp [gpStatusCmd]

@[simp] theorem execGpStatus_bounds (s : State) : ResKeeps (SameBounds s) (execGpStatus s) :=
  withCmd_bounds (fun h p => by simp)

@[simp] theorem gpDoubtsCmd_bounds (h : Held) (p : List Byte) (s : State) : SameBounds s (gpDoubtsCmd h p s) :=
  asManager_bounds (by simp)

@[simp] theorem execGpDoubts_bounds (s : State) : ResKeeps (SameBounds s) (execGpDoubts s) :=
  withCmd_bounds (fun h p => by simp)

@[simp] theorem gpRelayCmd_bounds (h : Held) (p : List Byte) (s : State) : SameBounds s (gpRelayCmd h p s) := by
  refine asManager_bounds ?_
  dsimp only
  iterate 7
    split
    · simp
  split
  all_goals
    next hq =>
      obtain ⟨hlen, hwms, hrole⟩ := bounds_of_gateEntry hq
      simp [hlen, hwms, hrole]

@[simp] theorem execGpRelay_bounds (s : State) : ResKeeps (SameBounds s) (execGpRelay s) :=
  withCmd_bounds (fun h p => by simp)

@[simp] theorem streamResync_bounds (m : Nat) (full : Bool) (s : State) : SameBounds s (streamResync m full s) := by simp [streamResync]

@[simp] theorem execJoinHello_bounds (p k : Nat) (group : Nat) (digest : List Byte) (sigOk restarted : Bool) (s : State) :
    ResKeeps (SameBounds s) (execJoinHello p k group digest sigOk restarted s) := by
  unfold execJoinHello
  dsimp only
  (repeat' split) <;> simp

@[simp] theorem joined_bounds (h : GpHead) (full : Bool) (s : State) : SameBounds s (joined h full s) := by simp [joined]

@[simp] theorem heartTo_bounds (m : Nat) (s : State) : SameBounds s (heartTo m s) := by simp [heartTo]

@[simp] theorem execHeartbeatSend_bounds (s : State) : ResKeeps (SameBounds s) (execHeartbeatSend s) := by simp [execHeartbeatSend]

@[simp] theorem takePartIn_bounds (port m : Nat) (s : State) (x : PartIn) : SameBounds s (takePartIn port m s x) := by simp [takePartIn]

@[simp] theorem takePartOut_bounds (m : Nat) (s : State) (x : PartOut) : SameBounds s (takePartOut m s x) := by
  unfold takePartOut
  dsimp only
  (repeat' split) <;> simp

@[simp] theorem execPartResult_slicesFlush_bounds (s : State) : SameBounds s (execPartResult.slicesFlush s) := by
  simp [execPartResult.slicesFlush]

@[simp] theorem expireDoubts_bounds (m : Nat) (s : State) : SameBounds s (expireDoubts m s) := by simp [expireDoubts]

@[simp] theorem execDoubtExpiry_bounds (s : State) : ResKeeps (SameBounds s) (execDoubtExpiry s) := by
  unfold execDoubtExpiry
  split <;> simp

@[simp] theorem loseMember_bounds (m : Nat) (s : State) : SameBounds s (loseMember m s) := by simp [loseMember]

@[simp] theorem execMemberLost_bounds (m : Nat) (s : State) : ResKeeps (SameBounds s) (execMemberLost m s) := by simp [execMemberLost]

@[simp] theorem withdrawParts_bounds (s : State) : SameBounds s (withdrawParts s) := by simp [withdrawParts]

@[simp] theorem execPartWithdrawTimeout_bounds (s : State) : ResKeeps (SameBounds s) (execPartWithdrawTimeout s) := by
  simp [execPartWithdrawTimeout]

@[simp] theorem acceptPromotion_bounds (p k : Nat) (h : GpHead) (expel : Nat) (s : State) :
    SameBounds s (acceptPromotion p k h expel s) := by simp [acceptPromotion]

/-! ### Machine/Watch -/

@[simp] theorem modWm_bounds (k : Nat) (f : Wm → Wm) (s : State) : SameBounds s (modWm k f s) := by simp [modWm, listMod]

@[simp] theorem crossing_bounds (k level : Nat) (s : State) : SameBounds s (crossing k level s) := by simp [crossing]

@[simp] theorem lookAt_bounds (s : State) (k : Nat) : SameBounds s (lookAt s k) := by simp [lookAt]

@[simp] theorem watermarks_bounds (s : State) : SameBounds s (watermarks s) := by simp [watermarks]

@[simp] theorem execNqWmCfg_bounds (k value : Nat) (s : State) : ResKeeps (SameBounds s) (execNqWmCfg k value s) := by simp [execNqWmCfg]

@[simp] theorem execNqWmRearm_bounds (k : Nat) (s : State) : ResKeeps (SameBounds s) (execNqWmRearm k s) := by simp [execNqWmRearm]

@[simp] theorem evClearCmd_bounds (h : Held) (p : List Byte) (s : State) : SameBounds s (evClearCmd h p s) := by simp [evClearCmd]

@[simp] theorem execEvClear_bounds (s : State) : ResKeeps (SameBounds s) (execEvClear s) :=
  withCmd_bounds (fun h p => by simp)

@[simp] theorem clearPoint_bounds (s : State) : SameBounds s (clearPoint s) := by
  unfold clearPoint
  split <;> simp

@[simp] theorem execEvClearDone_bounds (s : State) : ResKeeps (SameBounds s) (execEvClearDone s) := by
  unfold execEvClearDone
  split <;> simp

/-! ### Machine/Registers -/

@[simp] theorem afterRead_bounds (o : Nat) (s : State) : SameBounds s (afterRead o s) := by
  unfold afterRead
  dsimp only
  refine ite_keeps (by split <;> simp) ?_
  repeat' apply ite_keeps (P := SameBounds s)
  all_goals simp

@[simp] theorem usedFree_bounds (s : State) : SameBounds s (usedFree s) := by simp [usedFree]

@[simp] theorem plainRead_bounds (o size : Nat) (s : State) : SameBounds s (plainRead o size s) := by
  unfold plainRead
  (repeat' split) <;> simp

@[simp] theorem readBar2_bounds (l o size : Nat) (s : State) : ResKeeps (SameBounds s) (readBar2 l o size s) := by
  unfold readBar2
  dsimp only
  (repeat' split) <;> simp

@[simp] theorem writeDgCtrl_bounds (u value : Nat) (s : State) : ResKeeps (SameBounds s) (writeDgCtrl u value s) := by
  unfold writeDgCtrl
  split <;> simp

@[simp] theorem writeDgPage_bounds (u o value : Nat) (s : State) : ResKeeps (SameBounds s) (writeDgPage u o value s) := by
  unfold writeDgPage
  split <;> simp

@[simp] theorem writeDgClaim_bounds (value : Nat) (s : State) : ResKeeps (SameBounds s) (writeDgClaim value s) := by simp [writeDgClaim]

@[simp] theorem writeEvSnap_bounds (value : Nat) (s : State) : ResKeeps (SameBounds s) (writeEvSnap value s) := by
  unfold writeEvSnap
  dsimp only
  split
  · exact execEvSnapTake_bounds { s with rc.snapRefused := w1c s.rc.snapRefused value 29 }
  · simp

@[simp] theorem writeSrc_bounds (k value : Nat) (s : State) : SameBounds s (writeSrc k value s) := by simp [writeSrc]

@[simp] theorem writeReg_bounds (o value : Nat) (s : State) : ResKeeps (SameBounds s) (writeReg o value s) := by simp [writeReg]

@[simp] theorem writeCmdBuf_bounds (o size value : Nat) (s : State) : SameBounds s (writeCmdBuf o size value s) := by simp [writeCmdBuf]

@[simp] theorem writeBar0_bounds (o size value : Nat) (s : State) : ResKeeps (SameBounds s) (writeBar0 o size value s) := by
  unfold writeBar0
  dsimp only
  (repeat' split) <;> simp

@[simp] theorem writeBar2_bounds (l o size value : Nat) (s : State) : ResKeeps (SameBounds s) (writeBar2 l o size value s) := by
  unfold writeBar2
  dsimp only
  split
  · simp
  · split
    · simp
    · simp
    · simp
    all_goals
      split
      next ht => exact doorbellOpen_bounds ht
      · simp

@[simp] theorem execRegisterWrite_bounds (bar2 : Option Nat) (off size value : Nat) (s : State) :
    ResKeeps (SameBounds s) (execRegisterWrite bar2 off size value s) := by
  unfold execRegisterWrite
  split <;> simp

@[simp] theorem markStale_bounds (s : State) : SameBounds s (markStale s) := by simp [markStale]

@[simp] theorem execPerstAssert_bounds (l : Nat) (s : State) : ResKeeps (SameBounds s) (execPerstAssert l s) := by simp [execPerstAssert]

@[simp] theorem execPerstDeassert_bounds (l : Nat) (s : State) : ResKeeps (SameBounds s) (execPerstDeassert l s) := by
  simp [execPerstDeassert]

@[simp] theorem execFunctionLevelReset_bounds (fn : Nat) (s : State) : ResKeeps (SameBounds s) (execFunctionLevelReset fn s) := by
  unfold execFunctionLevelReset
  split <;> simp

/-! ### Machine/Smbus -/

@[simp] theorem smbAnswer_bounds (addr cmd : Nat) (pec : Bool) (data : List Byte) (s : State) :
    SameBounds s (smbAnswer addr cmd pec data s) := by simp [smbAnswer]

@[simp] theorem smbSilent_bounds (s : State) : SameBounds s (smbSilent s) := by simp [smbSilent]

@[simp] theorem smbFree_bounds (s : State) : SameBounds s (smbFree s).2 := by simp [smbFree]

@[simp] theorem execSmbusReadByte_bounds (addr cmd : Nat) (pec : Bool) (s : State) :
    ResKeeps (SameBounds s) (execSmbusReadByte addr cmd pec s) := by simp [execSmbusReadByte]

@[simp] theorem execSmbusReadWord_bounds (addr cmd : Nat) (pec : Bool) (s : State) :
    ResKeeps (SameBounds s) (execSmbusReadWord addr cmd pec s) := by simp [execSmbusReadWord]

@[simp] theorem execSmbusBlockRead_bounds (addr cmd : Nat) (pec : Bool) (s : State) :
    ResKeeps (SameBounds s) (execSmbusBlockRead addr cmd pec s) := by simp [execSmbusBlockRead]

@[simp] theorem execSmbusDataWrite_bounds (_addr _cmd : Nat) (s : State) : ResKeeps (SameBounds s) (execSmbusDataWrite _addr _cmd s) := by
  simp [execSmbusDataWrite]

@[simp] theorem execSmbusClockStuck_bounds (s : State) : ResKeeps (SameBounds s) (execSmbusClockStuck s) := by simp [execSmbusClockStuck]

/-! ### Machine/Sample -/

@[simp] theorem tableSwitches_bounds (s : State) : SameBounds s (tableSwitches s) := by simp [tableSwitches]

@[simp] theorem tickBoundaries_bounds (s : State) : SameBounds s (tickBoundaries s) := by simp [tickBoundaries]

@[simp] theorem supervisors_bounds (s : State) : SameBounds s (supervisors s) := by simp [supervisors]

@[simp] theorem withdrawals_bounds (s : State) : SameBounds s (withdrawals s) := by simp [withdrawals]

@[simp] theorem blankPoint_bounds (s : State) : SameBounds s (blankPoint s) := by simp [blankPoint]

@[simp] theorem grants_bounds (s : State) : SameBounds s (grants s) := by simp [grants]

@[simp] theorem afterGrants_bounds (s : State) : SameBounds s (afterGrants s) := by simp [afterGrants]

@[simp] theorem heartbeat_bounds (s : State) : SameBounds s (heartbeat s) := by simp [heartbeat]

@[simp] theorem tracePoint_bounds (source code data : Nat) (pin : Bool) (s : State) :
    SameBounds s (tracePoint source code data pin s) := by simp [tracePoint]

@[simp] theorem firmwarePoint_bounds (s : State) : SameBounds s (firmwarePoint s) := by
  unfold firmwarePoint
  dsimp only
  (repeat' split) <;> simp

@[simp] theorem firmwareTrace_bounds (s : State) : SameBounds s (firmwareTrace s) := by simp [firmwareTrace]

/-! ### What every command keeps

A command may also set the group role (R518), as R524 and R535 to R540 have it, or restore the shipped one (R435), or take a notice (R488). It
then keeps the bounds, where the others leave what they speak of as it is. -/

section
variable {s t : State}

/-- The bounds of the notice queue, the watermarks and the group role. -/
def Within (s : State) : Prop := s.nq.queue.length ≤ noticeMax ∧ s.nq.wms.length = watermarkCount ∧ s.gp.role ≤ 5

theorem inBounds_iff : InBounds s ↔ Within s ∧ ∀ c ∈ s.pending, c.wf = true := by simp [InBounds, Within, and_assoc]

theorem Within.of_same (w : Within s) (h : SameBounds s t) : Within t := by
  obtain ⟨hlen, hwms, hrole⟩ := h
  simpa [Within, hlen, hwms, hrole] using w

/-- `t` meets the bounds of its queue exactly when `s` does, has as many watermarks, and the group role `r`. -/
@[simp] abbrev TakesRole (r : Nat) (s t : State) : Prop :=
  (t.nq.queue.length ≤ noticeMax ↔ s.nq.queue.length ≤ noticeMax) ∧ t.nq.wms.length = s.nq.wms.length ∧ t.gp.role = r

/-- A change that gives one of the roles of R518 keeps the bounds. -/
theorem Within.of_role {r : Nat} (w : Within s) (h : TakesRole r s t) (hr : r ≤ 5) : Within t := by
  obtain ⟨hlen, hwms, hrole⟩ := h
  exact ⟨hlen.2 w.1, hwms.trans w.2.1, hrole ▸ hr⟩

theorem ResKeeps.within {r : Res} (h : ResKeeps (SameBounds s) r) (w : Within s) : ResKeeps Within r := by
  cases r with
  | next t => exact w.of_same h
  | fault e => trivial
  | refused e => trivial

/-! ### The life cycle: the shipped provisioning block is restored -/

theorem restoreProv_within (w : Within s) : Within (restoreProv s) :=
  w.of_role (r := 0) (by simp [restoreProv]) (by decide)

theorem doAction_within (a : LcAction) (w : Within s) : Within (doAction a s) := by
  cases a
  case restoreProv => exact restoreProv_within w
  all_goals exact w.of_same (by simp [doAction])

theorem runAction_within (w : Within s) : Within (runAction s) := by
  unfold runAction
  split
  · exact w
  next i a _ => exact (doAction_within a w).of_same (by simp)

theorem runActions_within : ∀ (n : Nat) {s : State}, Within s → Within (runActions n s)
  | 0, _, w => w
  | n + 1, s, w => by
    unfold runActions
    split
    · exact runActions_within n (runAction_within w)
    · exact w

theorem stepTransition_within (w : Within s) : Within (stepTransition s) := by
  unfold stepTransition
  split
  · exact w
  · split
    · exact w.of_same (by simp)
    · exact ite_keeps (runAction_within w) (w.of_same (by simp))

theorem finishAtStart_within (w : Within s) : Within (finishAtStart s) := by
  have hrun : Within (runActions 16 { s with mb.held := none }) := runActions_within 16 (w.of_same (.of_eq rfl rfl))
  exact hrun.of_same (by simp [finishAtStart])

theorem zeroAtStart_within (w : Within s) : Within (zeroAtStart s) := by
  unfold zeroAtStart
  refine (finishAtStart_within (w.of_same ?_)).of_same (resolved_bounds _ _ _ _)
  simp

theorem resolveIntent_within (w : Within s) : Within (resolveIntent s) := by
  unfold resolveIntent
  dsimp only
  split
  · exact zeroAtStart_within w
  · refine ite_keeps w (ite_keeps ?_ ?_)
    · exact (finishAtStart_within w).of_same (by simp)
    · exact w.of_same (by simp)

theorem lockAtStart_within (w : Within s) : Within (lockAtStart s) := by
  unfold lockAtStart
  dsimp only
  split
  · refine (finishAtStart_within (w.of_same ?_)).of_same (resolved_bounds _ _ _ _)
    simp
  · exact w.of_same (.of_eq rfl rfl)

theorem execStage3LcRecordRead_within (aOk bOk : Bool) (w : Within s) : ResKeeps Within (execStage3LcRecordRead aOk bOk s) := by
  unfold execStage3LcRecordRead
  split
  · exact w
  · refine ite_keeps (w.of_same (by simp)) ?_
    dsimp only
    generalize hu : lockAtStart _ = u
    have hwithin : Within u := hu ▸ lockAtStart_within (resolveIntent_within (w.of_same (by simp)))
    exact hwithin.of_same (by simp)

theorem execStage4RootDerived_within (pufOk : Bool) (w : Within s) : ResKeeps Within (execStage4RootDerived pufOk s) := by
  unfold execStage4RootDerived
  split
  · exact w
  · dsimp only
    generalize hu : (if s.tm.emberLost then _ else _ : State) = u
    have hwithin : Within u := by
      subst hu
      refine ite_keeps (ite_keeps (zeroAtStart_within (w.of_same ?_)) (w.of_same ?_)) (ite_keeps (zeroAtStart_within w) w)
      all_goals simp
    refine ite_resKeeps (hwithin.of_same (by simp)) (ite_resKeeps ?_ ?_)
    all_goals exact hwithin.of_same (by simp)

/-! ### Power -/

theorem powerOff_within (w : Within s) : Within (powerOff s) := by
  obtain ⟨-, -, hrole⟩ := w
  refine ⟨by simp [powerOff], rfl, ?_⟩
  simp only [powerOff, GpSt.kept]
  split
  · decide
  · exact hrole

theorem execPowerFailSaveEnd_within (back : Bool) (w : Within s) : ResKeeps Within (execPowerFailSaveEnd back s) :=
  whenOk_keeps w (fun _ => ite_keeps ((powerOff_within w).of_same (by simp)) (powerOff_within w))

/-! ### Groups: a member is formed, joined, promoted, orphaned or deposed -/

theorem depose_role (g : Nat) (s : State) : TakesRole 5 s (depose g s) := by
  unfold depose
  dsimp only
  split <;> simp

theorem formGroup_role (p : List Byte) (s : State) : TakesRole 1 s (formGroup p s) := by simp [formGroup]

theorem promoteSelf_role (h : Held) (p : List Byte) (s : State) : TakesRole 1 s (promoteSelf h p s) := by simp [promoteSelf]

theorem orphaned_role (s : State) : TakesRole 4 s (orphaned s) := by simp [orphaned]

theorem withFrame_within {from_ type p k : Nat} {h : GpHead} {f : State → State} (hf : ∀ s, SameBounds s (f s)) (w : Within s) :
    ResKeeps Within (withFrame from_ type p k h s f) := by
  unfold withFrame
  split
  · exact w
  next t ht =>
    have wt : Within t := w.of_same (takeFrame_bounds ht)
    refine ite_resKeeps (wt.of_same (by simp)) (ite_resKeeps wt (ite_resKeeps wt (ite_resKeeps ?_ (ite_resKeeps wt ?_))))
    · exact ite_keeps (wt.of_role (depose_role _ _) (by decide)) wt
    · refine ite_resKeeps (wt.of_same (by simp)) (ite_resKeeps (wt.of_same (by simp)) ?_)
      exact (wt.of_same (by simp)).of_same (hf _)

theorem execPromote_within (p k : Nat) (h : GpHead) (f : Frame) (serial : Nat) (nonce : List Byte) (w : Within s) :
    ResKeeps Within (execPromote p k h f serial nonce s) := by
  unfold execPromote
  split
  · exact w
  next t ht =>
    have wt : Within t := w.of_same (takeFrame_bounds ht)
    refine ite_resKeeps (wt.of_same (by simp)) (ite_resKeeps wt (ite_resKeeps wt
      (ite_resKeeps (wt.of_role (depose_role _ _) (by decide)) (ite_resKeeps wt ?_))))
    exact wt.of_same (by simp)

theorem gpFormCmd_within (h : Held) (p : List Byte) (w : Within s) : Within (gpFormCmd h p s) := by
  have hform : Within (formGroup p s) := w.of_role (formGroup_role p s) (by decide)
  have hpromote : Within (promoteSelf h p s) := w.of_role (promoteSelf_role h p s) (by decide)
  have hrefuse (st d : Nat) : Within (refuse st d s) := w.of_same (by simp)
  unfold gpFormCmd
  refine ite_keeps (ite_keeps (hrefuse _ _) (ite_keeps (hrefuse _ _) hform)) (ite_keeps ?_ (hrefuse _ _))
  exact ite_keeps (hrefuse _ _) (ite_keeps (hrefuse _ _) (ite_keeps (hrefuse _ _) hpromote))

theorem withCmd_within {code : Nat} {f : Held → List Byte → State → State} (hf : ∀ k p, Within s → Within (f k p s)) (w : Within s) :
    ResKeeps Within (withCmd code s f) := by
  unfold withCmd
  split
  · exact w
  next h _ =>
    refine ite_resKeeps w ?_
    split
    · exact w.of_same (by simp)
    · split
      · exact w.of_same (by simp)
      · exact hf _ _ w

theorem execJoinAccept_within (p k : Nat) (h : GpHead) (digest : List Byte) (sigOk : Bool) (lc rtt : Nat) (full : Bool)
    (sak : List Byte) (w : Within s) : ResKeeps Within (execJoinAccept p k h digest sigOk lc rtt full sak s) := by
  unfold execJoinAccept
  refine ite_resKeeps w (ite_resKeeps (w.of_same (by simp)) ?_)
  dsimp only
  split
  · exact ite_keeps (w.of_same (by simp)) w
  · refine ite_resKeeps (w.of_role (r := 3) (by simp) (by decide)) (w.of_same ?_)
    split <;> simp

theorem execResyncDone_within (m : Nat) (w : Within s) : ResKeeps Within (execResyncDone m s) := by
  unfold execResyncDone
  refine ite_resKeeps (whenOk_keeps w fun _ => w.of_same (by simp)) (whenOk_keeps w fun _ => ?_)
  exact w.of_role (r := 2) (by simp) (by decide)

theorem silences_within (w : Within s) : Within (silences s) := by
  unfold silences
  dsimp only
  generalize hu : (if partsLapsed _ then _ else _ : State) = u
  have hwithin : Within u := w.of_same (by simp [← hu])
  exact ite_keeps (hwithin.of_role (orphaned_role u) (by decide)) hwithin

theorem groupPoint_within (w : Within s) : Within (groupPoint s) := by
  have hsilences := silences_within w
  unfold groupPoint
  generalize silences s = u at hsilences ⊢
  exact hsilences.of_same (by simp)

/-! ### Sample points, and the reads of the notice queue -/

theorem commits_within (w : Within s) : Within (commits s) := by
  have hgroup : Within (groupPoint (commitChanges (migrationPoint s))) := groupPoint_within (w.of_same (by simp))
  unfold commits
  generalize groupPoint _ = u at hgroup ⊢
  exact hgroup.of_same (by simp)

theorem controls_within (w : Within s) : Within (controls s) := by
  have hstep : Within (stepTransition (restartPairs (blankPoint (traceEndPoint s)))) := stepTransition_within (w.of_same (by simp))
  unfold controls
  generalize stepTransition _ = u at hstep ⊢
  exact hstep.of_same (by simp)

theorem samplePoint_within (w : Within s) : Within (samplePoint s) := by
  have hcontrols : Within (controls (commits (withdrawals (supervisors (tickBoundaries (tableSwitches (lanesStopPoint (fencePoint s)))))))) :=
    controls_within (commits_within (w.of_same (by simp)))
  unfold samplePoint
  generalize controls _ = u at hcontrols ⊢
  exact hcontrols.of_same (by simp)

theorem execNqPop_within (w : Within s) : ResKeeps Within (execNqPop s) := by
  unfold execNqPop
  rw [resKeeps_viaPf0]
  split
  · split
    · exact w.of_same (by simp)
    next n q hq =>
      obtain ⟨hlen, hwms, hrole⟩ := w
      have hlen' : q.length ≤ noticeMax := by
        rw [hq, List.length_cons] at hlen
        omega
      exact ⟨by simpa using hlen', by simpa using hwms, by simpa using hrole⟩
  · exact w

theorem readBar0_within (o size : Nat) (w : Within s) : ResKeeps Within (readBar0 o size s) := by
  unfold readBar0
  refine ite_resKeeps (execNqPop_within w) (ite_resKeeps ?_ (ite_resKeeps ?_ (ite_resKeeps ?_ ?_)))
  · exact ResKeeps.within (by simp) w
  · exact ResKeeps.within (by simp) w
  · have hdata := execRnData_bounds s
    split
    next t ht =>
      rw [ht] at hdata
      exact w.of_same hdata
    · exact hdata.within w
  · exact w.of_same (by simp)

theorem viaPf0_keeps {P : State → Prop} {r : Res} (p : P s) (h : ResKeeps P r) : ResKeeps P (viaPf0 s r) := by
  rw [resKeeps_viaPf0]
  split <;> assumption

theorem execCounterReadClear_within (bar2 : Option Nat) (off size : Nat) (w : Within s) :
    ResKeeps Within (execCounterReadClear bar2 off size s) := by
  cases bar2 with
  | none => exact viaPf0_keeps w (readBar0_within off size w)
  | some l => exact (readBar2_bounds l off size s).within w

theorem execBar0AccessInvalid_within (write : Bool) (off size value : Nat) (w : Within s) :
    ResKeeps Within (execBar0AccessInvalid write off size value s) :=
  viaPf0_keeps w (ite_resKeeps ((writeBar0_bounds off size value s).within w) (readBar0_within off size w))

end

/-! ### The obligations -/

section
variable {s : State}

@[simp] theorem execSupplyExhausted_bounds (s : State) : ResKeeps (SameBounds s) (execSupplyExhausted s) := by
  unfold execSupplyExhausted
  split <;> simp

@[simp] theorem execMonitorCrystalPeriod_bounds (s : State) : ResKeeps (SameBounds s) (execMonitorCrystalPeriod s) := by
  unfold execMonitorCrystalPeriod
  split <;> simp

@[simp] theorem execStage1BellowsLocked_bounds (s : State) : ResKeeps (SameBounds s) (execStage1BellowsLocked s) := by
  simp [execStage1BellowsLocked]

/-- Every command keeps the bounds: most leave what they speak of as it is, and the rest have their own lemma. -/
theorem exec_within (c : Instr) (w : Within s) : ResKeeps Within (exec c s) := by
  cases c
  case samplePoint => exact whenOk_keeps w fun _ => samplePoint_within (w.of_same (.of_eq rfl rfl))
  case nqPop => exact execNqPop_within w
  case counterReadClear bar2 off size => exact execCounterReadClear_within bar2 off size w
  case bar0AccessInvalid write off size value => exact execBar0AccessInvalid_within write off size value w
  case powerFailSaveEnd back => exact execPowerFailSaveEnd_within back w
  case stage3LcRecordRead aOk bOk => exact execStage3LcRecordRead_within aOk bOk w
  case stage4RootDerived pufOk => exact execStage4RootDerived_within pufOk w
  case gpForm => exact withCmd_within (fun h p => gpFormCmd_within h p) w
  case joinAccept => exact execJoinAccept_within _ _ _ _ _ _ _ _ _ w
  case resyncDone m => exact execResyncDone_within m w
  case managerLost => exact whenOk_keeps w fun _ => w.of_role (orphaned_role s) (by decide)
  case promote => exact execPromote_within _ _ _ _ _ _ w
  case heartbeat | control | controlResp | repl | replAck | lockout | partReq | partResult | partCancel | partJournal | promoteAck =>
    simp only [exec, execHeartbeat, execControl, execControlResp, execRepl, execReplAck, execLockout, execPartReq, execPartResult,
      execPartCancel, execPartJournal, execPromoteAck]
    exact withFrame_within (fun s => by simp) w
  all_goals exact ResKeeps.within (by simp [exec]) w

/-- A weaker property of the outcome. -/
theorem ResKeeps.mono {P Q : State → Prop} {r : Res} (h : ResKeeps P r) (hPQ : ∀ t, P t → Q t) : ResKeeps Q r := by
  cases r with
  | next t => exact hPQ t h
  | fault e => trivial
  | refused e => trivial

/-- A command does not touch the commands that wait behind it (log entry 36). -/
theorem exec_pending (c : Instr) (s : State) : ResKeeps (fun t => t.pending = s.pending) (exec c s) := by
  by_cases hp : c = .samplePoint
  · subst hp
    exact (execSamplePoint_time s).mono fun t h => h.2
  by_cases hm : c = .monitorCrystalPeriod
  · subst hm
    exact (execMonitorCrystalPeriod_time s).mono fun t h => h.2
  by_cases hb : c = .stage1BellowsLocked
  · subst hb
    exact (execStage1BellowsLocked_time s).mono fun t h => h.2.2
  by_cases hx : c = .supplyExhausted
  · subst hx
    exact ite_resKeeps rfl rfl
  exact (exec_clock s hp hm hb hx).mono fun t h => h.2

end

/-- Settles O6: a step takes the front of the queue, whose rest stays well formed, and its command keeps the bounds of the notice queue,
the watermarks and the group role. -/
theorem queuesAndCodesStayInBounds : Obligations.QueuesAndCodesStayInBounds := by
  intro s t h e
  refine step_keeps ?_ ?_ h e
  · intro s c l hs h
    obtain ⟨w, hwf⟩ := inBounds_iff.1 h
    rw [hs] at hwf
    exact inBounds_iff.2 ⟨w, fun d hd => hwf d (List.mem_cons_of_mem c hd)⟩
  · intro c s h
    obtain ⟨w, hwf⟩ := inBounds_iff.1 h
    have hwithin := exec_within c w
    have hpend := exec_pending c s
    cases hr : exec c s with
    | next t =>
      rw [hr] at hwithin hpend
      exact inBounds_iff.2 ⟨hwithin, fun d hd => hwf d (hpend ▸ hd)⟩
    | fault e => trivial
    | refused e => trivial

/-- Settles O7: no notice waits, the 16 watermarks stand, and the module is in no group (R489, R490, R518). -/
theorem resetIsInBounds : Obligations.ResetIsInBounds :=
  inBounds_iff.2 ⟨⟨Nat.zero_le _, rfl, Nat.zero_le _⟩, fun _ hc => nomatch hc⟩

end Sys2Proof.Machine
end

section
/-!
PROOFS. The notice queue (R488, R489): where a new notice stands, and what a full queue gives up for it.
-/
namespace Sys2Proof.Machine
open Sys2Proof

/-! ### The order of notices (R488) -/

theorem Notice.before_iff {a b : Notice} : a.before b = true ↔ b.sev < a.sev ∨ (a.sev = b.sev ∧ a.seq ≤ b.seq) := by
  simp [Notice.before]

theorem Notice.before_trans {a b c : Notice} (hab : a.before b = true) (hbc : b.before c = true) : a.before c = true := by
  rw [before_iff] at *
  omega

theorem Notice.before_of_not {a b : Notice} (h : ¬a.before b = true) : b.before a = true := by
  rw [before_iff] at *
  omega

/-! ### Entering a notice (R489) -/

@[simp] theorem mem_insertNotice {x n : Notice} : ∀ {q : List Notice}, x ∈ insertNotice n q ↔ x = n ∨ x ∈ q
  | [] => by simp [insertNotice]
  | m :: q => by
    unfold insertNotice
    split
    · simp [mem_insertNotice, or_left_comm]
    · simp

theorem insertNotice_sorted (n : Notice) : ∀ {q : List Notice}, q.Pairwise (fun a b => a.before b = true) →
    (insertNotice n q).Pairwise (fun a b => a.before b = true)
  | [], _ => by simp [insertNotice]
  | m :: q, sorted => by
    obtain ⟨first, rest⟩ := List.pairwise_cons.mp sorted
    unfold insertNotice
    split
    next hm =>
      refine List.pairwise_cons.mpr ⟨fun x hx => ?_, insertNotice_sorted n rest⟩
      rcases mem_insertNotice.mp hx with rfl | hx
      · exact hm
      · exact first x hx
    next hm =>
      have hn := Notice.before_of_not hm
      refine List.pairwise_cons.mpr ⟨fun x hx => ?_, sorted⟩
      rcases List.mem_cons.mp hx with rfl | hx
      · exact hn
      · exact Notice.before_trans hn (first x hx)

section
variable {n : Notice} {s : State}

theorem enterNotice_room (room : s.nq.queue.length < noticeMax) :
    enterNotice n s = (false, if s.nq.queue.isEmpty
      then vector 1 { s with nq.posted := wrapAdd 64 s.nq.posted 1, nq.queue := insertNotice n s.nq.queue }
      else { s with nq.posted := wrapAdd 64 s.nq.posted 1, nq.queue := insertNotice n s.nq.queue }) := by
  simp only [enterNotice, room, if_true]

theorem enterNotice_displaces (full : ¬s.nq.queue.length < noticeMax) (below : lowestBelow n.sev s.nq.queue = true) :
    enterNotice n s = (true, { s with
      nq.posted := wrapAdd 64 s.nq.posted 1, nq.queue := insertNotice n s.nq.queue.dropLast, nq.lost := true
      nq.nLost := satAdd 32 s.nq.nLost 1 }) := by
  simp only [enterNotice, full, below, if_true, if_false]

theorem enterNotice_drops (full : ¬s.nq.queue.length < noticeMax) (above : lowestBelow n.sev s.nq.queue = false) :
    enterNotice n s = (true, { s with
      nq.posted := wrapAdd 64 s.nq.posted 1, nq.lost := true, nq.nLost := satAdd 32 s.nq.nLost 1 }) := by
  simp only [enterNotice, full, above, Bool.false_eq_true, if_false]

/-- The queue after a notice: entered, in place of the last one, or as it was. -/
theorem enterNotice_queue : (enterNotice n s).2.nq.queue =
    if s.nq.queue.length < noticeMax then insertNotice n s.nq.queue
    else if lowestBelow n.sev s.nq.queue = true then insertNotice n s.nq.queue.dropLast else s.nq.queue := by
  unfold enterNotice
  dsimp only
  (repeat' split) <;> simp

theorem lowestBelow_of_last {m : Notice} (last : s.nq.queue.getLast? = some m) : lowestBelow n.sev s.nq.queue = decide (m.sev < n.sev) := by
  simp [lowestBelow, last]

theorem enterNotice_sorted (sorted : s.nq.queue.Pairwise (fun a b => a.before b = true)) :
    (enterNotice n s).2.nq.queue.Pairwise (fun a b => a.before b = true) := by
  rw [enterNotice_queue]
  split
  · exact insertNotice_sorted n sorted
  · split
    · exact insertNotice_sorted n (sorted.sublist (List.dropLast_sublist _))
    · exact sorted

end

/-- The vector of a queue that was empty goes out at once where its entry is not masked (R489). -/
theorem vector_out {s : State} {v : Nat} (open_ : (tget {} s.hl.msix (msixKey 0 v)).masked = false) :
    (vector v s).out = .msix 0 none v :: s.out := by
  simp [vector, raiseMsix, open_, emit]

/-- Settles O14: a queue with room takes the notice; a full one gives up its last for a higher notice, and else drops the new one. -/
theorem noticeQueueFullKeepsHigher : Obligations.NoticeQueueFullKeepsHigher := by
  intro n s sorted _ distinct newest
  refine ⟨enterNotice_sorted sorted, fun room => ?_, fun m full last below => ?_, fun m full last above => ?_⟩
  · rw [enterNotice_room room]
    refine ⟨?_, ?_, ?_, ?_, ?_, fun empty open_ => ?_⟩
    · split <;> simp
    · split <;> simp
    · intro m hm
      split <;> simp [hm]
    · split <;> simp
    · split <;> simp
    · simp [empty, vector_out, open_]
  · have noRoom : ¬s.nq.queue.length < noticeMax := by simp [full, noticeMax]
    rw [enterNotice_displaces noRoom (by simp [lowestBelow_of_last last, below])]
    have split_last : s.nq.queue.dropLast ++ [m] = s.nq.queue := by
      obtain ⟨ys, queue⟩ := List.getLast?_eq_some_iff.mp last
      rw [queue, List.dropLast_concat]
    have gone : m ∉ s.nq.queue.dropLast := by
      rw [← split_last] at distinct
      exact fun hm => (List.nodup_append.mp distinct).2.2 m hm m (by simp) rfl
    have older : m.seq < n.seq := newest m (List.mem_of_getLast? last)
    have other : m ≠ n := fun hmn => by simp [hmn] at older
    refine ⟨by simp, by simp [full], by simp [gone, other], fun x hx hxm => ?_, rfl, rfl⟩
    rw [← split_last] at hx
    simpa [hxm] using Or.inr hx
  · have noRoom : ¬s.nq.queue.length < noticeMax := by simp [full, noticeMax]
    rw [enterNotice_drops noRoom (by simp [lowestBelow_of_last last, above])]
    exact ⟨rfl, rfl, rfl⟩

end Sys2Proof.Machine
end

section
/-!
PROOFS. How the mailbox answers the command it holds (R396, R402, R429, R461).
-/
namespace Sys2Proof.Machine
open Sys2Proof

/-! ### What a notice leaves of host link 0: the link, and the entry of every vector but its own -/

section
variable {s : State}

/-- `t` has link 0 of `s`, and its entry of vector 0. -/
@[simp] abbrev SamePf0 (s t : State) : Prop :=
  t.hl.link0 = s.hl.link0 ∧ tget {} t.hl.msix (msixKey 0 0) = tget {} s.hl.msix (msixKey 0 0)

/-- Raising vector 1 leaves the entry of vector 0 alone (R76). -/
@[simp] theorem vector_one_pf0 (s : State) : SamePf0 s (vector 1 s) := by
  unfold vector raiseMsix
  dsimp only
  split
  next masked =>
    refine ⟨rfl, tget_set_other_of_ne (fun blank => ?_) (by decide) _⟩
    simp [MsixEntry.mk.injEq, masked] at blank
  · exact ⟨rfl, rfl⟩

@[simp] theorem enterNotice_pf0 (n : Notice) (s : State) : SamePf0 s (enterNotice n s).2 := by
  unfold enterNotice
  dsimp only
  (repeat' split) <;> simp

@[simp] theorem openLost_pf0 (cont : Bool) (s : State) : SamePf0 s (openLost cont s) := by
  unfold openLost
  dsimp only
  split <;> simp

@[simp] theorem lostNotice_pf0 (s : State) : SamePf0 s (lostNotice s) := by
  unfold lostNotice
  dsimp only
  (repeat' split) <;> simp

@[simp] theorem openRec_pf0 (p : Report) (cont : Bool) (s : State) : SamePf0 s (openRec p cont s) := by
  rw [openRec_eq]
  split
  · simp
  · split
    · rw [postNotice_eq]
      split <;> simp
    · simp

@[simp] theorem report_pf0 (p : Report) (s : State) : SamePf0 s (report p s) := by
  unfold report
  dsimp only
  (repeat' split) <;> simp

@[simp] theorem hcFence_pf0 (kind addr len : Nat) (s : State) : SamePf0 s (hcFence kind addr len s).2 := by
  unfold hcFence
  dsimp only
  (repeat' split) <;> simp [fenceReport, note]

end

/-! ### The controller's fence -/

/-- What the fence lets through is unchanged. -/
theorem hcFence_open {kind addr len : Nat} {s : State} (pass : (hcFence kind addr len s).1 = false) : (hcFence kind addr len s).2 = s := by
  unfold hcFence at pass ⊢
  dsimp only at pass ⊢
  (repeat' split) <;> simp_all

/-- An access of no octets passes. -/
@[simp] theorem hcFence_empty (kind addr : Nat) (s : State) : hcFence kind addr 0 s = (false, s) := by simp [hcFence]

/-! ### The vector and the output of a response -/

@[simp] theorem mbVector_mb (s : State) :
    (mbVector s).mb = { s.mb with vecOwed := s.mb.vecOwed || !s.hl.link0.up } := by
  unfold mbVector
  split
  next up => simp [up]
  next down => simp [down]

theorem mbVector_out {s : State} (up : s.hl.link0.up = true) (open_ : (tget {} s.hl.msix (msixKey 0 0)).masked = false) :
    (mbVector s).out.head? = some (.msix 0 none 0) := by
  simp [mbVector, up, vector_out open_]

/-- Neither link nor vector takes anything out of what was sent. -/
theorem mbVector_keeps_out {s : State} {o : Output} (h : o ∈ s.out) : o ∈ (mbVector s).out := by
  unfold mbVector vector raiseMsix
  dsimp only
  (repeat' split) <;> simp [emit, h]

theorem sendAll_out (os : List Output) : ∀ {s : State}, s.tm.exitStop = false → (sendAll os s).out = os.reverse ++ s.out := by
  induction os with
  | nil => simp [sendAll]
  | cons o os ih =>
    intro s open_
    have first : send o s = emit o s := by simp [send, open_]
    change (sendAll os (send o s)).out = _
    rw [ih (by simp [open_]), first]
    simp [emit]

theorem outWrite_pf0 (addr : Nat) (d : List Byte) (s : State) : SamePf0 s (outWrite addr d s) := by
  unfold outWrite
  dsimp only
  split <;> simp

/-! ### The response of the mailbox's own command -/

/-- The response frame stands in its buffer, and the command is held no more (R396, R402). -/
def written (h : Held) (bytes : List Byte) (s : State) : State :=
  { s with
    mb.rspBuf := bytes, mb.rspValid := true, mb.rspStale := false, mb.rspTag := h.frame.tag
    mb.rspCount := wrapAdd 64 s.mb.rspCount 1, mb.held := none, mb.inner := none, mb.ledger := .done }

section
variable {s : State} {h : Held} {status detail tick : Nat} {payload : List Byte}

theorem respond_waits (held : s.mb.held = some h) (stopped : s.tm.exitStop = true) (carries : payload ≠ []) :
    respond status detail tick payload s = { s with mb.held := some { h with stage := .answered status detail tick payload } } := by
  have waits : (s.tm.exitStop && !payload.isEmpty) = true := by simp [stopped, carries]
  simp only [respond, held, waits, if_true]

theorem not_waiting (passes : s.tm.exitStop = false ∨ payload = []) : (s.tm.exitStop && !payload.isEmpty) = false := by
  rcases passes with open_ | empty
  · simp [open_]
  · simp [empty]

section
variable (held : s.mb.held = some h) (own : h.relay = false) (passes : s.tm.exitStop = false ∨ payload = [])
include held own passes

theorem respond_inline (short : payload.length ≤ 3968) : respond status detail tick payload s =
    mbVector (written h (responseBytes h.frame status detail tick 0 payload) s) := by
  have inline : ¬3968 < payload.length := by omega
  simp [respond, held, not_waiting passes, own, inline, written]

section
variable (long : 3968 < payload.length)
include long

theorem respond_outside (pass : (hcFence 1 h.frame.outAddr payload.length s).1 = false) : respond status detail tick payload s =
    mbVector (written h (responseBytes h.frame status detail tick payload.length []) (outWrite h.frame.outAddr payload s)) := by
  simp [respond, held, not_waiting passes, own, long, written, pass, hcFence_open pass]

theorem respond_fenced (blocked : (hcFence 1 h.frame.outAddr payload.length s).1 = true) : respond status detail tick payload s =
    mbVector (written h (responseBytes h.frame St.fenceViolation 0 0 0 []) (hcFence 1 h.frame.outAddr payload.length s).2) := by
  simp [respond, held, not_waiting passes, own, long, written, blocked]

end

/-- However long the payload, a response is written and vector 0 raised. -/
theorem respond_written : ∃ bytes u, respond status detail tick payload s = mbVector (written h bytes u) ∧ SamePf0 s u := by
  by_cases long : 3968 < payload.length
  · cases fence : (hcFence 1 h.frame.outAddr payload.length s).1 with
    | false => exact ⟨_, _, respond_outside held own passes long fence, outWrite_pf0 _ _ s⟩
    | true => exact ⟨_, _, respond_fenced held own passes long fence, hcFence_pf0 _ _ _ s⟩
  · exact ⟨_, _, respond_inline held own passes (by omega), rfl, rfl⟩

end
end

/-- The header of a response is 64 octets: KIND 2, the CODE and TAG of the command, NONCE_ID and NSIG 0, STATUS and DETAIL (R402). -/
theorem responseBytes_fields (f : Frame) (status detail tick : Nat) (payload : List Byte) :
    octets (responseBytes f status detail tick 0 payload) 3 1 = [2] ∧
    octets (responseBytes f status detail tick 0 payload) 4 2 = beBytes 2 f.code ∧
    octets (responseBytes f status detail tick 0 payload) 6 2 = [0, 0] ∧
    octets (responseBytes f status detail tick 0 payload) 8 4 = beBytes 4 f.tag ∧
    octets (responseBytes f status detail tick 0 payload) 12 4 = [0, 0, 0, 0] ∧
    octets (responseBytes f status detail tick 0 payload) 52 2 = beBytes 2 status ∧
    octets (responseBytes f status detail tick 0 payload) 54 2 = beBytes 2 detail ∧
    (responseBytes f status detail tick 0 payload).drop 64 = payload := by
  simp [responseBytes, octets, beBytes, leBytes]

/-- Settles O11: a response waits for the exits, or is written with its payload inline, at OUT_ADDR or fenced. -/
theorem responseAnswersHeldCommand : Obligations.ResponseAnswersHeldCommand := by
  intro s h status detail tick payload held own
  refine ⟨respond_waits held, fun passes => ⟨fun short => ?_, fun long => ⟨fun pass => ?_, fun blocked => ?_⟩, ?_⟩⟩
  · rw [respond_inline held own passes short]
    exact ⟨by simp [written], responseBytes_fields _ _ _ _ _⟩
  · have open_ : s.tm.exitStop = false := passes.resolve_right (by rintro rfl; simp at long)
    rw [respond_outside held own passes long pass]
    refine ⟨by simp [written], fun up o ho => mbVector_keeps_out ?_, fun down => ?_⟩
    · simp [written, outWrite, up, sendAll_out _ open_, ho]
    · simp [written, outWrite, down]
  · rw [respond_fenced held own passes long blocked]
    simp [written]
  · obtain ⟨bytes, u, eq, link, entry⟩ := respond_written (status := status) (detail := detail) (tick := tick) held own passes
    rw [eq]
    refine ⟨by simp [written], by simp [written], by simp [written], by simp [written], fun up open_ => ?_⟩
    exact mbVector_out (by simpa [written, link] using up) (by simpa [written, entry] using open_)

end Sys2Proof.Machine
end

section
/-!
PROOFS. What refuses a mailbox command before its own chapter looks at it (R415, R431, R444, R518).
-/
namespace Sys2Proof.Machine
open Sys2Proof

section
variable {code : Nat} {h : Held} {s : State} {f : Held → List Byte → State → State}
variable (held : s.mb.held = some h) (ready : h.stage = .ready) (named : h.frame.code = code)
  (served : noController s = false ∨ s.lc.startFail ≠ none)
include held ready named served

/-- A command that is ready, while a pair is in control or the recovery mailbox serves, meets the refusals in their order. -/
theorem withCmd_of_ready : withCmd code s f =
    .next (match refusedFirst code h.frame.payload s, groupRefuses s h.relay code with
      | some (st, d), _ => respond st d 0 [] s
      | none, some st => respond st 0 0 [] s
      | none, none => f h h.frame.payload s) := by
  have taken : ¬(h.stage ≠ .ready ∨ h.frame.code ≠ code ∨ (noController s = true ∧ s.lc.startFail = none)) := by
    rintro (other | other | ⟨none, started⟩)
    · exact other ready
    · exact other named
    · exact served.elim (by simp [none]) (absurd started)
  simp only [withCmd, held, if_neg taken]
  cases refusedFirst code h.frame.payload s with
  | some r => rfl
  | none => cases groupRefuses s h.relay code <;> rfl

/-- The start or the life-cycle state refuses it with its status and detail. -/
theorem withCmd_refusedFirst {st d : Nat} (refused : refusedFirst code h.frame.payload s = some (st, d)) :
    withCmd code s f = .next (respond st d 0 [] s) := by
  rw [withCmd_of_ready held ready named served, refused]

/-- What only the group refuses is refused with the group's status. -/
theorem withCmd_groupRefuses {st : Nat} (passes : refusedFirst code h.frame.payload s = none)
    (refused : groupRefuses s h.relay code = some st) : withCmd code s f = .next (respond st 0 0 [] s) := by
  rw [withCmd_of_ready held ready named served, passes, refused]

end

/-- Settles O12: each of the five is carried out by `withCmd`, which looks at the refusals first. -/
theorem commandsTheStateForbids : Obligations.CommandsTheStateForbids := by
  intro s h held ready own served p listed named
  have row : ∃ f, exec p.1 s = withCmd p.2 s f := by
    simp only [List.mem_cons, List.not_mem_nil, or_false] at listed
    rcases listed with rfl | rfl | rfl | rfl | rfl
    all_goals exact ⟨_, rfl⟩
  obtain ⟨f, row⟩ := row
  rw [row]
  refine ⟨fun st d refused => withCmd_refusedFirst held ready named served refused, fun st passes refused => ?_⟩
  exact withCmd_groupRefuses held ready named served passes (by rwa [own])

end Sys2Proof.Machine
end

section
/-!
PROOFS. The mailbox: submission, the body, the quorum check, acknowledgement, and the commands of group 0x00 (R396 to R413, R418).
-/
namespace Sys2Proof.Machine
open Sys2Proof

section
variable {h : Held} {s : State}

/-! ### Submission, the body and acknowledgement (R396, R401, R403) -/

section
variable (up : s.hl.link0.up = true)
include up

theorem exec_mbCmdSubmit_busy {v : Nat} (busy : s.mb.busy = true) :
    exec (.mbCmdSubmit v) s = .next { s with mb.overrun := true } := by
  simp only [exec, execMbCmdSubmit, viaPf0_up up, busy, if_true]

theorem exec_mbCmdSubmit_free {v : Nat} (free : s.mb.busy = false) : exec (.mbCmdSubmit v) s = .next
    (let t : State := { s with mb.busy := true, mb.cmdCount := wrapAdd 64 s.mb.cmdCount 1, mb.ledger := .received }
     let h : Held := { frame := parseHeader (cmdBufBytes t 64), stage := .waiting, cls := 0, since := s.tick, nonce := none, signers := 0,
                       len := bits v 12 0 }
     if mailboxServed t then runFrame h t else { t with mb.held := some h }) := by
  simp only [exec, execMbCmdSubmit, viaPf0_up up, free, Bool.false_eq_true, if_false]

theorem exec_mbRspAck_shown {tag : Nat} (valid : s.mb.rspValid = true) (shown : s.mb.rspTag = tag) : exec (.mbRspAck tag) s =
    .next { s with mb.rspValid := false, mb.busy := false, mb.rspStale := false, mb.ledger := .empty } := by
  simp [exec, execMbRspAck, viaPf0_up up, valid, shown]

theorem exec_mbRspAck_other {tag : Nat} (other : s.mb.rspValid = false ∨ s.mb.rspTag ≠ tag) :
    exec (.mbRspAck tag) s = .next (note 0x0101 0 0xFFFF tag 0 s) := by
  have not_shown : (s.mb.rspValid && decide (s.mb.rspTag = tag)) = false := by rcases other with o | o <;> simp [o]
  simp only [exec, execMbRspAck, viaPf0_up up, not_shown, Bool.false_eq_true, if_false]

end

section
variable (held : s.mb.held = some h) (reading : h.stage = .body)
include held reading

theorem exec_mbBodyReadDone_data {bs : List Byte} :
    exec (.mbBodyReadDone (.data bs)) s = .next (takeBody h (octets bs 0 h.frame.bodyLen) s) := by
  simp [exec, execMbBodyReadDone, held, reading]

theorem exec_mbBodyReadDone_error : exec (.mbBodyReadDone .error) s = .next (respond St.hostDmaError 32 0 [] s) := by
  simp [exec, execMbBodyReadDone, held, reading]

end

/-! ### The quorum check (R410, R418, R464, R526) -/

section
variable {f : List (Bool × Bool)}
variable (held : s.mb.held = some h) (checking : h.stage = .quorum) (ended : gateBusy s = false)
include held checking ended

/-- The verdict is that of the frame inside, where there is one. -/
theorem exec_quorumCheckDone_of_stage : exec (.quorumCheckDone f) s = .next
    (let i := s.mb.inner.getD h
     let t := match (gateVerdict s i f).1 with
       | some e => gateRefusal i e s
       | none => if s.mb.inner.isSome then relaySend i s else setStage .ready s
     if (gateVerdict s i f).2 then lockClass 0x23 St.credentialInvalid t else t) := by
  have acts : ¬(h.stage ≠ .quorum ∨ gateBusy s = true) := by simp [checking, ended]
  simp only [exec, execQuorumCheckDone, held, if_neg acts] <;> rfl

end
end

theorem gateVerdict_bad {s : State} {i : Held} {f : List (Bool × Bool)} {c : Nat} {split : Bool} (bad : badBlock s i f = some (c, split)) :
    gateVerdict s i f = (some (St.credentialInvalid, c), split) := by simp [gateVerdict, bad]

theorem gateVerdict_good {s : State} {i : Held} {f : List (Bool × Bool)} (good : badBlock s i f = none) :
    gateVerdict s i f = (if i.cls ≠ 0 ∧ ruleFilled s i = false then some (St.quorumMissing, i.cls) else none, false) := by
  simp [gateVerdict, good]

/-- A block that fails its verification is answered with its credential. -/
theorem gateRefusal_credential (i : Held) (c : Nat) (s : State) :
    gateRefusal i (St.credentialInvalid, c) s = respond St.credentialInvalid c 0 [] s := by
  simp [gateRefusal, St.credentialInvalid, St.quorumMissing]

/-- A quorum that is missing is answered with the class, or for a program package NOT_AUTHORISED, recorded (R126). -/
theorem gateRefusal_quorum (i : Held) (c : Nat) (s : State) : gateRefusal i (St.quorumMissing, c) s =
    if i.frame.code = 0x0206 then respond St.notAuthorised 0 0 [] (packageRefused i.frame.payload 1 s)
    else respond St.quorumMissing c 0 [] s := by
  simp [gateRefusal]

theorem exec_quorumCheckDone_own {h : Held} {s : State} {f : List (Bool × Bool)} (held : s.mb.held = some h) (checking : h.stage = .quorum)
    (ended : gateBusy s = false) (own : s.mb.inner = none) : exec (.quorumCheckDone f) s = .next (match badBlock s h f with
      | some (c, true) => lockClass 0x23 St.credentialInvalid (respond St.credentialInvalid c 0 [] s)
      | some (c, false) => respond St.credentialInvalid c 0 [] s
      | none =>
        if h.cls ≠ 0 ∧ ruleFilled s h = false then
          (if h.frame.code = 0x0206 then respond St.notAuthorised 0 0 [] (packageRefused h.frame.payload 1 s)
           else respond St.quorumMissing h.cls 0 [] s)
        else setStage .ready s) := by
  rw [exec_quorumCheckDone_of_stage held checking ended, own]
  dsimp only [Option.getD_none]
  rcases verdict : badBlock s h f with _ | ⟨c, _ | _⟩
  · rw [gateVerdict_good verdict]
    by_cases missing : h.cls ≠ 0 ∧ ruleFilled s h = false
    · simp only [if_pos missing, gateRefusal_quorum, Bool.false_eq_true, if_false]
    · simp [if_neg missing]
  · simp [gateVerdict_bad verdict, gateRefusal_credential]
  · simp [gateVerdict_bad verdict, gateRefusal_credential]

section
variable {h i : Held} {s : State} {f : List (Bool × Bool)}
variable (held : s.mb.held = some h) (checking : h.stage = .quorum) (ended : gateBusy s = false) (inside : s.mb.inner = some i)
  (good : badBlock s i f = none)
include held checking ended inside good

theorem exec_quorumCheckDone_sends (filled : i.cls = 0 ∨ ruleFilled s i = true) : exec (.quorumCheckDone f) s = .next (setStage .running
    (gpSend (be h.frame.payload 0 1) 0x11 (counted (h.frame.payload.drop 8) ++ beBytes 1 i.cls ++ beBytes 4 i.signers)
      { s with gp.relay := some (be h.frame.payload 0 1), mb.inner := none })) := by
  have passes : ¬(i.cls ≠ 0 ∧ ruleFilled s i = false) := by
    rintro ⟨classed, missing⟩
    rcases filled with zero | filled
    · exact classed zero
    · simp [missing] at filled
  rw [exec_quorumCheckDone_of_stage held checking ended, inside]
  simp [gateVerdict_good good, if_neg passes, relaySend, held]

theorem exec_quorumCheckDone_missing (classed : i.cls ≠ 0) (missing : ruleFilled s i = false) (plain : i.frame.code ≠ 0x0206) :
    exec (.quorumCheckDone f) s = .next (respond St.quorumMissing i.cls 0 [] s) := by
  rw [exec_quorumCheckDone_of_stage held checking ended, inside]
  simp [gateVerdict_good good, classed, missing, gateRefusal_quorum, plain]

end

/-! ### Group 0x00 (R398, R402, R408, R413) -/

section
variable {h : Held} {s : State}

theorem exec_nonce_taken (taken : CmdTaken 0x0001 h s) : exec .nonce s = .next (nonceCmd h h.frame.payload s) := withCmd_of_taken taken

theorem exec_echo_taken (taken : CmdTaken 0x0002 h s) : exec .echo s = .next (echoCmd h h.frame.payload s) := withCmd_of_taken taken

theorem exec_status_taken (taken : CmdTaken 0x0003 h s) : exec .status s = .next (statusCmd h h.frame.payload s) := withCmd_of_taken taken

theorem exec_cmdStatus_taken (taken : CmdTaken 0x0004 h s) : exec .cmdStatus s = .next (cmdStatusCmd h h.frame.payload s) :=
  withCmd_of_taken taken

theorem nonceCmd_busy {p : List Byte} (limit : (drbg s 64).limit = true) : nonceCmd h p s = respond St.busy 0 0 [] s := if_pos limit

theorem nonceCmd_drawn {p : List Byte} (room : (drbg s 64).limit = false) : nonceCmd h p s =
    (let q := draw (drbgCall 64 1 s)
     let n : Nonce := ⟨q.2.mb.nextNonce, octets (Config.randomBytes q.1 32) 0 32, q.2.tick + 2 ^ 29⟩
     let kept := if 64 ≤ q.2.mb.nonces.length then q.2.mb.nonces.drop 1 else q.2.mb.nonces
     respond St.ok 0 q.2.tick (beBytes 4 n.id ++ beBytes 4 0 ++ n.value ++ beBytes 8 n.expires ++ beBytes 8 Config.serial)
       { q.2 with mb.nonces := kept ++ [n], mb.nextNonce := q.2.mb.nextNonce + 1 }) :=
  if_neg (by simp [room])

theorem echoCmd_inline {p : List Byte} (short : p.length ≤ 3968) : echoCmd h p s = respond St.ok 0 s.tick p s := if_neg (by omega)

theorem echoCmd_refused {p : List Byte} (long : 3968 < p.length) (inside : h.frame.out = false) :
    echoCmd h p s = respond St.lengthInvalid 48 0 [] s := if_pos ⟨long, .inl inside⟩

theorem cmdStatusCmd_known {p : List Byte} {l : LongCmd} (known : s.mb.longs.find? (fun l => decide (l.opId = be p 0 8)) = some l) :
    cmdStatusCmd h p s = respond St.ok 0 s.tick (beBytes 8 l.opId ++ beBytes 2 l.code ++ beBytes 1 l.state ++ beBytes 1 0 ++
      beBytes 2 l.status ++ beBytes 2 l.detail ++ beBytes 8 l.doneTick) s := by
  simp only [cmdStatusCmd, known]

theorem cmdStatusCmd_unknown {p : List Byte} (unknown : s.mb.longs.find? (fun l => decide (l.opId = be p 0 8)) = none) :
    cmdStatusCmd h p s = respond St.grateRange 64 0 [] s := by
  simp only [cmdStatusCmd, unknown, refuse_eq]

end

/-! ### Long commands (R398, R399) -/

theorem exec_longCommandEnd_worked {op st d : Nat} {img : Option Image} {l : LongCmd} {s t : State}
    (running : s.mb.longs.find? (fun l => decide (l.opId = op ∧ l.state = 0)) = some l) (worked : longWork l img s = some (st, d, t)) :
    exec (.longCommandEnd op img) s = .next (vector 4 (note 0x0102 1 0xFFFF op st (refreshRegime
      (let u := setLong op st d t
       { u with mb.longs := u.mb.longs.map (fun l => if l.opId = op then { l with state := 1, data := [], doneTick := u.tick } else l) })))) := by
  simp only [exec, execLongCommandEnd, running, worked]

/-- Settles O44: each write and each event acts by what the mailbox holds, and each command taken up is its meaning on the frame's payload. -/
theorem mailboxTakesACommandAndAnswersIt : Obligations.MailboxTakesACommandAndAnswersIt := by
  refine ⟨fun v s up => ⟨exec_mbCmdSubmit_busy up, exec_mbCmdSubmit_free up⟩,
    fun h bs s held reading => ⟨exec_mbBodyReadDone_data held reading, exec_mbBodyReadDone_error held reading⟩,
    fun h f s held checking ended => ⟨exec_quorumCheckDone_own held checking ended, fun i inside good =>
      ⟨exec_quorumCheckDone_sends held checking ended inside good, exec_quorumCheckDone_missing held checking ended inside good⟩⟩,
    fun tag s up => ⟨exec_mbRspAck_shown up, exec_mbRspAck_other up⟩, fun h s taken limit => ?_, fun h s taken room => ?_,
    fun h s taken => ⟨fun short => ?_, fun long inside => ?_⟩, fun h s taken => ?_, fun h s taken => ⟨fun l known => ?_, fun unknown => ?_⟩,
    fun op st d img l s t running worked => exec_longCommandEnd_worked running worked⟩
  · rw [exec_nonce_taken taken, nonceCmd_busy limit]
  · rw [exec_nonce_taken taken, nonceCmd_drawn room]
  · rw [exec_echo_taken taken, echoCmd_inline short]
  · rw [exec_echo_taken taken, echoCmd_refused long inside]
  · rw [exec_status_taken taken, statusCmd]
  · rw [exec_cmdStatus_taken taken, cmdStatusCmd_known known]
  · rw [exec_cmdStatus_taken taken, cmdStatusCmd_unknown unknown]

end Sys2Proof.Machine
end

section
/-!
PROOFS. Credentials, quorum rules and fence regions (R405 to R407, R412, R413, R427).
-/
namespace Sys2Proof.Machine
open Sys2Proof

/-! ### A command taken up is its meaning on the frame's payload (R414) -/

section
variable {h : Held} {s : State}

theorem exec_credEnrol_taken (taken : CmdTaken 0x0101 h s) : exec .credEnrol s = .next (credEnrolCmd h h.frame.payload s) :=
  withCmd_of_taken taken

theorem exec_credRevoke_taken (taken : CmdTaken 0x0102 h s) : exec .credRevoke s = .next (credRevokeCmd h h.frame.payload s) :=
  withCmd_of_taken taken

theorem exec_credList_taken (taken : CmdTaken 0x0103 h s) : exec .credList s = .next (credListCmd h h.frame.payload s) :=
  withCmd_of_taken taken

theorem exec_quorumSet_taken (taken : CmdTaken 0x0104 h s) : exec .quorumSet s = .next (quorumSetCmd h h.frame.payload s) :=
  withCmd_of_taken taken

theorem exec_quorumGet_taken (taken : CmdTaken 0x0105 h s) : exec .quorumGet s = .next (quorumGetCmd h h.frame.payload s) :=
  withCmd_of_taken taken

theorem exec_credSeal_taken (taken : CmdTaken 0x0106 h s) : exec .credSeal s = .next (credSealCmd h h.frame.payload s) :=
  withCmd_of_taken taken

theorem exec_fenceSet_taken (taken : CmdTaken 0x0B01 h s) : exec .fenceSet s = .next (fenceSetCmd h h.frame.payload s) :=
  withCmd_of_taken taken

theorem exec_fenceLock_taken (taken : CmdTaken 0x0B02 h s) : exec .fenceLock s = .next (fenceLockCmd h h.frame.payload s) :=
  withCmd_of_taken taken

end

section
variable {h : Held} {p : List Byte} {s : State}

/-! ### Credentials (R405 to R407) -/

theorem credEnrolCmd_held (used : (s.prov.creds.getD (be p 0 1) {}).state ≠ 0) : credEnrolCmd h p s = respond St.grateRange 64 0 [] s :=
  if_pos used

theorem credEnrolCmd_free (free : (s.prov.creds.getD (be p 0 1) {}).state = 0) : credEnrolCmd h p s =
    (let key := octets p 40 (be p 4 2)
     let c : Cred := { role := be p 1 1, alg := be p 2 1, state := 1, label := octets p 8 32, key, enrolled := s.tick }
     if pubKeyValid (if be p 2 1 = 1 then 17 else 24) key = false then respond St.publicKeyInvalid 0 0 [] s
     else respond St.ok 0 s.tick [] { s with prov.creds := s.prov.creds.set (be p 0 1) c }) := by
  simp only [credEnrolCmd, free, ne_eq, not_true_eq_false, if_false, Bool.not_eq_true', refuse_eq]

/-- The credentials with one revoked. -/
def revoked (s : State) (id : Nat) : List Cred := listMod s.prov.creds id (fun c => { c with state := 2 })

/-- Who signed the command does not matter: only that the credential is active, and that every class can still be met (R407). -/
theorem credRevokeCmd_revoked (active : (s.prov.creds.getD (be p 0 1) {}).state = 1)
    (met : canSatisfy s.prov.rules (revoked s (be p 0 1)) = true) :
    credRevokeCmd h p s = respond St.ok 0 s.tick [] { s with prov.creds := revoked s (be p 0 1) } := by
  simp only [revoked] at met ⊢
  simp only [credRevokeCmd, active, met, ne_eq, not_true_eq_false, if_false, Bool.not_true, Bool.false_eq_true]

theorem credRevokeCmd_refused (bad : (s.prov.creds.getD (be p 0 1) {}).state ≠ 1 ∨
    canSatisfy s.prov.rules (revoked s (be p 0 1)) = false) : credRevokeCmd h p s = respond St.grateRange 64 0 [] s := by
  unfold credRevokeCmd
  dsimp only
  split
  · rfl
  next active =>
    have unmet := bad.resolve_left active
    simp only [revoked] at unmet
    simp [unmet]

/-! ### Quorum rules (R407, R412) -/

theorem quorumSetCmd_busy (opened : s.ks.cer ≠ none) : quorumSetCmd h p s = respond St.busy 0 0 [] s :=
  if_pos (Option.isSome_iff_ne_none.mpr opened)

section
variable (none_open : s.ks.cer = none) (shaped : ((parseRules p).zipIdx).find? (fun q => !ruleShapeOk q.2 q.1) = none)
include none_open shaped

theorem quorumSetCmd_set (met : canSatisfy (parseRules p) s.prov.creds = true) :
    quorumSetCmd h p s = respond St.ok 0 s.tick [] { s with prov.rules := parseRules p } := by
  simp only [quorumSetCmd, none_open, Option.isSome_none, shaped, met, Bool.not_true, Bool.false_eq_true, if_false]

theorem quorumSetCmd_unmet (unmet : canSatisfy (parseRules p) s.prov.creds = false) :
    quorumSetCmd h p s = respond St.grateRange 64 0 [] s := by
  simp only [quorumSetCmd, none_open, Option.isSome_none, shaped, unmet, Bool.not_false, Bool.false_eq_true, if_false, if_true, refuse_eq]

end

/-! ### Fence regions (R427) -/

theorem fenceSetCmd_eq : fenceSetCmd h p s =
    (let old : Region := tget {} s.fn.regions (32 * be p 0 1 + be p 1 1)
     let r := parseRegion old p
     if old.lock || old.vlock || lockAfter s (32 * be p 0 1 + be p 1 1) then respond St.notAuthorised 0 0 [] s
     else respondAt (switchAt (be p 8 8) s) [] { s with fn.armed := s.fn.armed ++ [⟨32 * be p 0 1 + be p 1 1, r, switchAt (be p 8 8) s⟩] }) := rfl

theorem fenceLockCmd_vendor (vendor : (tget {} s.fn.regions (32 * be p 0 1 + be p 1 1)).vlock = true) :
    fenceLockCmd h p s = respond St.notAuthorised 0 0 [] s := if_pos vendor

theorem fenceLockCmd_armed (own : (tget {} s.fn.regions (32 * be p 0 1 + be p 1 1)).vlock = false) : fenceLockCmd h p s =
    (let k := 32 * be p 0 1 + be p 1 1
     respondAt (switchAt 0 s) [] { s with
       fn.locks := s.fn.locks ++ [(k, decide (be p 2 1 = 1), switchAt 0 s)] }) := if_neg (by simp [own])

end

/-- Settles O45: each command taken up is its meaning on the frame's payload, decided by the credential, the rules or the region it names. -/
theorem credentialsAndRulesAreKept : Obligations.CredentialsAndRulesAreKept := by
  refine ⟨fun h s taken => ⟨fun used => ?_, fun free => ?_⟩, fun h s taken => ⟨fun active met => ?_, fun bad => ?_⟩,
    fun h s taken => exec_credList_taken taken, fun h s taken => exec_quorumGet_taken taken, fun h s taken => exec_credSeal_taken taken,
    fun h s taken => ⟨fun opened => ?_, fun none_open shaped => ⟨fun met => ?_, fun unmet => ?_⟩⟩, fun h s taken => ?_,
    fun h s taken => ⟨fun vendor => ?_, fun own => ?_⟩⟩
  · rw [exec_credEnrol_taken taken, credEnrolCmd_held used]
  · rw [exec_credEnrol_taken taken, credEnrolCmd_free free]
  · rw [exec_credRevoke_taken taken, credRevokeCmd_revoked active met, revoked]
  · rw [exec_credRevoke_taken taken, credRevokeCmd_refused bad]
  · rw [exec_quorumSet_taken taken, quorumSetCmd_busy opened]
  · rw [exec_quorumSet_taken taken, quorumSetCmd_set none_open shaped met]
  · rw [exec_quorumSet_taken taken, quorumSetCmd_unmet none_open shaped unmet]
  · rw [exec_fenceSet_taken taken, fenceSetCmd_eq]
  · rw [exec_fenceLock_taken taken, fenceLockCmd_vendor vendor]
  · rw [exec_fenceLock_taken taken, fenceLockCmd_armed own]

/-- Settles O57: a refusal leaves the provisioning block as it is, and nothing in the meaning of CRED_REVOKE asks who signed. -/
theorem rulesThatCouldNotBeMetAreRefused : Obligations.RulesThatCouldNotBeMetAreRefused := by
  refine ⟨fun h s taken active => ⟨fun unmet => ⟨?_, by simp⟩, fun met _ => ?_⟩,
    fun h s taken none_open shaped unmet => ⟨?_, by simp⟩⟩
  · rw [exec_credRevoke_taken taken, credRevokeCmd_refused (.inr unmet)]
  · exact ⟨_, by rw [exec_credRevoke_taken taken, credRevokeCmd_revoked active met], by simp [revoked], by simp⟩
  · rw [exec_quorumSet_taken taken, quorumSetCmd_unmet none_open shaped unmet]

end Sys2Proof.Machine
end

section
/-!
PROOFS. The watermarks, the record unit with its reader and its clear, and the trace unit (R478 to R496).
-/
namespace Sys2Proof.Machine
open Sys2Proof

/-! ### Watermarks (R491, R492) -/

section
variable {k : Nat} {s : State}

section
variable (unit : k < 16) (up : s.hl.link0.up = true)
include unit up

theorem exec_nqWmCfg_up {value : Nat} : exec (.nqWmCfg k value) s = .next
    (let t := modWm k (fun w => { w with en := bitOf value 31, mark := bits value 23 0, last := wmLevel s k }) s
     if bitOf value 31 = true ∧ (wm s k).en = false ∧ bits value 23 0 ≤ wmLevel s k then crossing k (wmLevel s k) t else t) := by
  have listed : ¬16 ≤ k := by omega
  simp [exec, execNqWmCfg, viaPf0_up up, listed, and_assoc]

theorem exec_nqWmRearm_up : exec (.nqWmRearm k) s = .next
    (let t := modWm k (fun w => { w with latched := false, crossings := 0, peak := wmLevel s k, last := wmLevel s k }) s
     if (wm t k).en = true ∧ (wm t k).mark ≤ wmLevel s k then crossing k (wmLevel s k) t else t) := by
  have listed : ¬16 ≤ k := by omega
  simp [exec, execNqWmRearm, viaPf0_up up, listed]

end

theorem wm_modWm {f : Wm → Wm} (listed : k < s.nq.wms.length) : wm (modWm k f s) k = f (wm s k) := by
  simp [wm, modWm, listMod, List.getD_eq_getElem?_getD, listed]

/-- The first crossing latches the watermark and is reported; a queue that held notices raises vector 1 for it. -/
theorem crossing_armed {v : Nat} (listed : k < s.nq.wms.length) (armed : (wm s k).latched = false) (waiting : s.nq.queue ≠ []) :
    crossing k v s =
      vector 1 (note 0x0201 1 k v (wm s k).mark (modWm k (fun w => { w with latched := true, crossings := 1, peak := v }) s)) := by
  have loud : s.nq.queue.isEmpty = false := by simpa using waiting
  simp only [crossing, armed, Bool.false_eq_true, if_false, wm_modWm listed]
  exact if_neg (by simp [modWm, loud])

theorem crossing_latched {v : Nat} (latched : (wm s k).latched = true) :
    crossing k v s = modWm k (fun w => { w with crossings := satAdd 16 w.crossings 1, peak := max w.peak v }) s := if_pos latched

end

/-- Settles O15: a write sets its watermark and looks at the level; a crossing latches, or counts where it is latched. -/
theorem watermarkWrites : Obligations.WatermarkWrites :=
  ⟨fun _ _ _ unit up => exec_nqWmCfg_up unit up, fun _ _ unit up => exec_nqWmRearm_up unit up,
   fun _ _ _ unit whole armed waiting => crossing_armed (by rwa [whole]) armed waiting,
   fun _ _ _ _ _ latched => crossing_latched latched⟩

/-! ### The record unit (R478 to R486) -/

section
variable {seq : Nat} {r : Rec} {s : State}
variable (staged : s.rc.staging.find? (fun x => decide (x.seq = seq)) = some r)
include staged

section
variable (quiet : s.rc.clearing = none)
include quiet

/-- The first programming takes its CU of house work. -/
theorem exec_recordFlush_first (new : r.progTick = none) :
    exec (.recordFlush seq) s = .next (programRec r { s with tk := { s.tk with flushCu := s.tk.flushCu + 1 } }) := by
  simp [exec, execRecordFlush, staged, quiet, new, whenOk]

theorem exec_recordFlush_again {t : Nat} (programmed : r.progTick = some t) (due : t + 2 ^ 16 ≤ s.tick) :
    exec (.recordFlush seq) s = .next (programRec r s) := by
  simp only [exec, execRecordFlush, staged, programmed]
  exact whenOk_true (by simpa [quiet] using due)

end

theorem exec_recordCloseTimeout_overdue (opened : r.isOpen = true) (due : r.lastTick + 2 ^ 20 ≤ s.tick)
    (closes : s.nq.lost = false ∨ r.event ≠ 0x0202) :
    exec (.recordCloseTimeout seq) s = .next (closeWhere (fun x => decide (x.seq = seq)) s) := by
  have overdue : r.overdue s = true := by
    have kept : (s.nq.lost && decide (r.event = 0x0202)) = false := by rcases closes with c | c <;> simp [c]
    simp only [Rec.overdue, opened, due, kept, decide_true, Bool.not_false, Bool.and_self]
  simp only [exec, execRecordCloseTimeout, staged]
  exact whenOk_true overdue

end

theorem exec_recordStagingRoom_reports {s : State} (dropped : 0 < s.rc.dropRun) (room : s.rc.staging.length < 1024) :
    exec .recordStagingRoom s = .next (report { event := 0x0702, argA := s.rc.dropRun } { s with rc := { s.rc with dropRun := 0 } }) :=
  whenOk_true (by simp [dropped, room, stagingMax])

section
variable {s : State} (up : s.hl.link0.up = true)
include up

theorem exec_evSnapTake_live (live : s.rc.live = true) :
    exec .evSnapTake s = .next { s with rc := { s.rc with snapRefused := true } } := by
  simp [exec, execEvSnapTake, viaPf0_up up, live]

theorem exec_evSnapTake_settled (settled : s.rc.live = false) : exec .evSnapTake s = .next { s with rc := { s.rc with
    snapValid := true, snapHigh := s.rc.nextSeq - 1, snapTick := s.tick, snapCopy := openRecs s } } := by
  simp [exec, execEvSnapTake, viaPf0_up up, settled]

theorem exec_evGo_reads {value : Nat} (go : bitOf value 31 = true) (some_ : 1 ≤ bits value 6 0) (few : bits value 6 0 ≤ 64) :
    exec (.evGo value) s = .next { s with rc := { s.rc with
      rstat := (List.range (bits value 6 0)).map (fun j => (readRec s (s.rc.sel + j)).1) ++ s.rc.rstat.drop (bits value 6 0)
      buf := (List.range (bits value 6 0)).map (fun j => (readRec s (s.rc.sel + j)).2) ++ s.rc.buf.drop (bits value 6 0)
      rdReady := true, rdLive := s.rc.live, rdSnap := s.rc.snapValid, returned := bits value 6 0 } } := by
  have taken : ¬(bitOf value 31 = false ∨ bits value 6 0 = 0 ∨ 64 < bits value 6 0) := by
    rintro (off | zero | many)
    · simp [off] at go
    · omega
    · omega
  simp only [exec, execEvGo, viaPf0_up up, if_neg taken, List.map_map, Function.comp_def]

theorem exec_evGo_discarded {value : Nat} (bad : bitOf value 31 = false ∨ bits value 6 0 = 0 ∨ 64 < bits value 6 0) :
    exec (.evGo value) s = .next s := by
  simp only [exec, execEvGo, viaPf0_up up, if_pos bad]

end

/-- Settles O16: a staged record is programmed or closed when it is due; the reader acts while link 0 is up. -/
theorem recordUnitWork : Obligations.RecordUnitWork :=
  ⟨fun _ _ _ staged quiet => ⟨exec_recordFlush_first staged quiet, fun _ => exec_recordFlush_again staged quiet⟩,
   fun _ _ _ staged opened due closes => exec_recordCloseTimeout_overdue staged opened due closes,
   fun _ dropped room => exec_recordStagingRoom_reports dropped room, fun _ up live => exec_evSnapTake_live up live,
   fun _ up settled => exec_evSnapTake_settled up settled, fun _ _ up go some_ few => exec_evGo_reads up go some_ few,
   fun _ _ up bad => exec_evGo_discarded up bad⟩

/-! ### The clear of the record areas (R485, R487) -/

theorem exec_evClear_taken {h : Held} {s : State} (taken : CmdTaken 0x0A01 h s) : exec .evClear s = .next (evClearCmd h h.frame.payload s) :=
  withCmd_of_taken taken

theorem evClearCmd_armed {h : Held} {p : List Byte} {s : State} (none_ : s.rc.clearing = none) : evClearCmd h p s =
    setStage .running (arm (s.tick + 1) { s with rc := { s.rc with clearing := some ⟨be p 0 1, h.signers, s.tick + 1, false⟩ } }) :=
  if_neg (by simp [none_])

section
variable {c : ClearOp} {h : Held} {s : State}

/-- The end of the erasure answers the command that waits for it, in the read regime that is left. -/
theorem exec_evClearDone_answers (clearing : s.rc.clearing = some c) (began : c.began = true) (held : s.mb.held = some h)
    (named : h.frame.code = 0x0A01) (running : h.stage = .running) :
    exec .evClearDone s = .next (respond St.ok 0 c.tick [] (refreshRegime { s with rc := { s.rc with clearing := none } })) := by
  have waits : (refreshRegime { s with rc := { s.rc with clearing := none } }).mb = s.mb := by
    unfold refreshRegime setSettled setLive
    split <;> rfl
  simp [exec, execEvClearDone, clearing, began, waits, held, named, running]

section
variable (ready : s.lc.ready = true) (steady : s.hc.gap = false)
include ready steady

theorem refreshRegime_settled (quiet : s.ks.loadOp = none) :
    refreshRegime { s with rc := { s.rc with clearing := none } } = setSettled { s with rc := { s.rc with clearing := none } } :=
  if_pos (by simp [regime, ready, steady, quiet])

theorem refreshRegime_reload (loading : s.ks.loadOp ≠ none) :
    refreshRegime { s with rc := { s.rc with clearing := none } } = setLive 2 { s with rc := { s.rc with clearing := none } } := by
  have loads : s.ks.loadOp.isSome = true := Option.isSome_iff_ne_none.mpr loading
  have two : regime { s with rc := { s.rc with clearing := none } } = 2 := by simp [regime, ready, steady, loads]
  rw [refreshRegime, two]
  rfl

end
end

/-- Settles O17: EV_CLEAR arms the clear; its end answers, and the regime is live while a RELOAD runs. -/
theorem recordAreasAreCleared : Obligations.RecordAreasAreCleared := by
  refine ⟨fun h s taken none_ => ?_, fun c h s clearing began held named running =>
    ⟨fun ready steady quiet => ?_, fun ready steady loading => ?_⟩⟩
  · rw [exec_evClear_taken taken, evClearCmd_armed none_]
  · rw [exec_evClearDone_answers clearing began held named running, refreshRegime_settled ready steady quiet]
  · rw [exec_evClearDone_answers clearing began held named running, refreshRegime_reload ready steady loading]

/-! ### The trace unit (R493, R494) -/

theorem exec_traceOpen_taken {h : Held} {s : State} (taken : CmdTaken 0x0A02 h s) :
    exec .traceOpen s = .next (traceOpenCmd h h.frame.payload s) := withCmd_of_taken taken

theorem exec_traceClose_taken {h : Held} {s : State} (taken : CmdTaken 0x0A03 h s) :
    exec .traceClose s = .next (traceCloseCmd h h.frame.payload s) := withCmd_of_taken taken

theorem traceOpenCmd_opens {h : Held} {p : List Byte} {s : State} (serves : lcState s = .operational ∨ lcState s = .maintenance)
    (groups : be p 0 1 < 32) (least : 16 ≤ be p 1 1) (most : be p 1 1 ≤ 30) (closed : s.tr.isOpen = false) : traceOpenCmd h p s =
    respond St.ok 0 s.tick (beBytes 8 s.tick ++ beBytes 8 (s.tick + 2 ^ be p 1 1))
      (traceSync { s with tr := { isOpen := true, dev := false, groups := be p 0 1, openTick := s.tick
                                  endTick := s.tick + 2 ^ be p 1 1, write := 0, read := 0, lost := 0, buf := [] } }) := by
  have undeveloped : decide (lcState s = .development) = false := by rcases serves with e | e <;> simp [e]
  have long : be p 1 1 ≠ 0 := by omega
  have inRange : ¬32 ≤ be p 0 1 := by omega
  simp only [traceOpenCmd, undeveloped, serves, inRange, least, most, closed, long, Bool.not_false, decide_true, Bool.not_true,
    Bool.and_false, Bool.false_eq_true, and_self, true_or, if_true, if_false]

/-- Settles O18: TRACE_OPEN where it may open a trace, its two closes, and the sync packet of a tick due. -/
theorem traceRuns : Obligations.TraceRuns := by
  refine ⟨fun h s taken serves groups least most closed => ?_, fun h s taken => ?_, fun s opened timed due => ?_, fun s opened due => ?_⟩
  · rw [exec_traceOpen_taken taken, traceOpenCmd_opens serves groups least most closed]
  · rw [exec_traceClose_taken taken, traceCloseCmd, closeTrace]
  · exact whenOk_true (by simp [traceEnds, opened, timed, due])
  · exact whenOk_true (by simpa [opened] using due)

end Sys2Proof.Machine
end

section
/-!
PROOFS. Usage accounting: its commands, the closes, the tariff switch, checkpoints and the usage ring (R549 to R556, R561).
-/
namespace Sys2Proof.Machine
open Sys2Proof

/-! ### A command taken up is its meaning on the frame's payload (R414) -/

section
variable {h : Held} {s : State}

theorem exec_acConfig_taken (taken : CmdTaken 0x0C01 h s) : exec .acConfig s = .next (acConfigCmd h h.frame.payload s) :=
  withCmd_of_taken taken

theorem exec_acRateLoad_taken (taken : CmdTaken 0x0C02 h s) : exec .acRateLoad s = .next (acRateLoadCmd h h.frame.payload s) :=
  withCmd_of_taken taken

theorem exec_acTariffArm_taken (taken : CmdTaken 0x0C03 h s) : exec .acTariffArm s = .next (acTariffArmCmd h h.frame.payload s) :=
  withCmd_of_taken taken

theorem exec_acTariffCancel_taken (taken : CmdTaken 0x0C04 h s) : exec .acTariffCancel s = .next (acTariffCancelCmd h h.frame.payload s) :=
  withCmd_of_taken taken

theorem exec_acRingSet_taken (taken : CmdTaken 0x0C05 h s) : exec .acRingSet s = .next (acRingSetCmd h h.frame.payload s) :=
  withCmd_of_taken taken

theorem exec_acCloseNow_taken (taken : CmdTaken 0x0C06 h s) : exec .acCloseNow s = .next (acCloseNowCmd h h.frame.payload s) :=
  withCmd_of_taken taken

end

/-! ### Rates, tariffs and the ring (R549, R553) -/

section
variable {h : Held} {p : List Byte} {s : State}

theorem acRateLoadCmd_written (first : be p 0 4 < 983040) (some_ : 1 ≤ be p 4 4) (last : be p 0 4 + be p 4 4 ≤ 983040) :
    acRateLoadCmd h p s =
      (let sh := ((p.drop 8).zipIdx).foldl (fun t q => tset 0xFF t (be p 0 4 + q.2) q.1.toNat) s.ac.shadow
       respond St.ok 0 s.tick [] { s with ac.shadow := sh }) := by
  have inTable : ¬983040 ≤ be p 0 4 := by omega
  have fits : ¬(be p 4 4 = 0 ∨ 983040 < be p 0 4 + be p 4 4) := by omega
  simp only [acRateLoadCmd, if_neg inTable, if_neg fits]

theorem acRateLoadCmd_first (beyond : 983040 ≤ be p 0 4) : acRateLoadCmd h p s = respond St.grateRange 64 0 [] s := if_pos beyond

theorem acRateLoadCmd_count (first : be p 0 4 < 983040) (bad : be p 4 4 = 0 ∨ 983040 < be p 0 4 + be p 4 4) :
    acRateLoadCmd h p s = respond St.grateRange 68 0 [] s := by
  have inTable : ¬983040 ≤ be p 0 4 := by omega
  simp only [acRateLoadCmd, if_neg inTable, if_pos bad, refuse_eq]

theorem acTariffArmCmd_early (early : be p 0 8 < s.tick + 2 ^ 20) : acTariffArmCmd h p s = respond St.grateRange 64 0 [] s := if_pos early

theorem acTariffArmCmd_busy (ahead : s.tick + 2 ^ 20 ≤ be p 0 8) (pending : s.ac.pending ≠ none ∨ s.ac.held ≠ none) :
    acTariffArmCmd h p s = respond St.busy 0 0 [] s := by
  have late : ¬be p 0 8 < s.tick + 2 ^ 20 := by omega
  have busy : s.ac.pending.isSome = true ∨ s.ac.held.isSome = true := by simpa [Option.isSome_iff_ne_none] using pending
  simp only [acTariffArmCmd, if_neg late, if_pos busy, refuse_eq]

theorem acTariffArmCmd_armed (ahead : s.tick + 2 ^ 20 ≤ be p 0 8) (free : s.ac.pending = none) (none_held : s.ac.held = none) :
    acTariffArmCmd h p s = respondAt (be p 0 8) [] { s with ac.pending := some (be p 0 8, s.ac.shadow) } := by
  have late : ¬be p 0 8 < s.tick + 2 ^ 20 := by omega
  have idle : ¬(s.ac.pending.isSome = true ∨ s.ac.held.isSome = true) := by simp [free, none_held]
  simp only [acTariffArmCmd, if_neg late, if_neg idle]

theorem acRingSetCmd_set (clear : bits (be p 12 4) 30 20 = 0) : acRingSetCmd h p s = respond St.ok 0 s.tick [] { s with
    ac.ring := some ⟨be p 0 8, be p 8 1, be p 9 1, if bitOf (be p 12 4) 31 then some (be p 12 4 % 2 ^ 20) else none⟩
    ac.wpos := 0, ac.rhead := 0, ac.ringFull := false } := if_neg (by simp [clear])

end

/-! ### The head of the ring (R561) -/

section
variable {r : URing} {v : Nat} {s : State}
variable (up : s.hl.link0.up = true) (ring : s.ac.ring = some r) (inside : v < 2 ^ r.log) (small : r.log ≤ 24)
include up ring inside small

/-- A head inside the ring is taken or discarded by the written span. -/
theorem exec_acRhead_ring : exec (.acRhead v) s = .next
    (if (s.ac.wpos + 2 ^ r.log - s.ac.rhead) % 2 ^ r.log < (v + 2 ^ r.log - s.ac.rhead) % 2 ^ r.log
      then note 0x1503 0 0xFFFF 0xA030 0 s
      else { s with ac.rhead := v, ac.ringFull := s.ac.ringFull && decide (v = s.ac.rhead) }) := by
  have whole : bits v 23 0 = v := by
    have wide : 2 ^ r.log ≤ 2 ^ 24 := Nat.pow_le_pow_right (by decide) small
    rw [bits, Nat.pow_zero, Nat.div_one]
    exact Nat.mod_eq_of_lt (by omega)
  have within : ¬2 ^ r.log ≤ v := by omega
  simp only [exec, execAcRhead, viaPf0_up up, ring, whole, within, false_or]
  split <;> rfl

theorem exec_acRhead_moves
    (written : (v + 2 ^ r.log - s.ac.rhead) % 2 ^ r.log ≤ (s.ac.wpos + 2 ^ r.log - s.ac.rhead) % 2 ^ r.log) :
    exec (.acRhead v) s = .next { s with ac.rhead := v, ac.ringFull := s.ac.ringFull && decide (v = s.ac.rhead) } := by
  rw [exec_acRhead_ring up ring inside small, if_neg (by omega)]

theorem exec_acRhead_discarded
    (beyond : (s.ac.wpos + 2 ^ r.log - s.ac.rhead) % 2 ^ r.log < (v + 2 ^ r.log - s.ac.rhead) % 2 ^ r.log) :
    exec (.acRhead v) s = .next (note 0x1503 0 0xFFFF 0xA030 0 s) := by
  rw [exec_acRhead_ring up ring inside small, if_pos beyond]

end

/-! ### Closes, the tariff switch and checkpoints (R550 to R552, R555) -/

section
variable {s : State}

theorem exec_intervalClose_due {c : Nat} (due : boundaryDue s = some c) : exec .intervalClose s = .next
    (let t : State := if c = 2 then { s with ac.closedUtc := utcBoundary s } else s
     if t.ac.intStart = t.tick then t else closeOrDefer c t) := by
  have closes : exec .intervalClose s = .next (intervalClose s) := whenOk_true (by simp [due])
  rw [closes]
  simp only [intervalClose, due]

theorem exec_tariffSwitch_due {k : Nat} {t : Tbl Nat} (pending : s.ac.pending = some (k, t)) (due : k ≤ s.tick) :
    exec .tariffSwitch s = .next (tariffSwitch s) := whenOk_true (by simp [pending, due])

section
variable (ready : s.lc.ready = true) (due : s.tick % 2 ^ 16 = 0)
include ready due

theorem exec_checkpointStart_due : exec .checkpointStart s = .next (if ckptAllowed s then startCkpt s else { s with ac.waits := true }) :=
  whenOk_true (by simpa [ready] using due)

theorem exec_checkpointStart_starts (allowed : ckptAllowed s = true) : exec .checkpointStart s = .next (startCkpt s) := by
  rw [exec_checkpointStart_due ready due, if_pos allowed]

theorem exec_checkpointStart_waits (barred : ckptAllowed s = false) :
    exec .checkpointStart s = .next { s with ac.waits := true } := by
  rw [exec_checkpointStart_due ready due, barred]
  rfl

end

/-- A checkpoint of the interval in progress, once its cells are written, is the last copy. -/
theorem exec_checkpointEnd_written {r : CkptRun} (running : s.ac.run = some r) (due : r.since + ckptTicks s r ≤ s.tick)
    (open_ : r.ckpt.close = none) : exec .checkpointEnd s = .next (let t := setCopy r.copy (some r.ckpt) s
      { t with ac.run := none, ac.lastCopy := r.copy, ac.ckptTick := r.ckpt.tick
               ac.dirty := t.ac.dirty.filter (fun i => decide (cell t i ≠ tget {} r.ckpt.cells i)) }) := by
  have done : ¬s.tick < r.since + ckptTicks s r := by omega
  simp only [exec, execCheckpointEnd, running, if_neg done, open_, Option.isSome_none, Bool.false_eq_true, if_false]

end

/-! ### The stream of a pinned close (R553, R554) -/

section
variable {n : Nat} {r : URing} {c : Close} {s : State}
variable (ring : s.ac.ring = some r) (pinned : pinnedClose s = some c) (some_ : 1 ≤ n)
include ring pinned some_

theorem exec_usageStream_stalls (blocked : linkOpen s r.link = false ∨ uringFree s = 0) :
    exec (.usageStream n) s = .next (ringStalls s) := by
  have more : n ≠ 0 := by omega
  have stops : (!linkOpen s r.link) = true ∨ uringFree s = 0 := by simpa using blocked
  simp only [exec, execUsageStream, ring, pinned, if_neg more, if_pos stops]

/-- The stream that reaches the last record ends. -/
theorem exec_usageStream_ends (linked : linkOpen s r.link = true) (room : uringFree s ≠ 0)
    (last : min n (uringFree s) = (closeCells c).length + 1 - s.ac.streamed) : exec (.usageStream n) s = .next
      (streamEnds ((List.range ((closeCells c).length + 1 - s.ac.streamed)).foldl (fun s _ => putRecord r c s)
        { s with ac.ringFull := false })) := by
  have more : n ≠ 0 := by omega
  have flows : ¬((!linkOpen s r.link) = true ∨ uringFree s = 0) := by simp [linked, room]
  have whole : min n (min (uringFree s) ((closeCells c).length + 1 - s.ac.streamed)) = (closeCells c).length + 1 - s.ac.streamed := by
    omega
  simp only [exec, execUsageStream, ring, pinned, if_neg more, if_neg flows, whole, if_true]

end

/-- Settles O48: each command taken up is its meaning on the frame's payload; the head, the closes, the checkpoints and the stream act by
what the accounting holds. -/
theorem usageIsKeptClosedAndStreamed : Obligations.UsageIsKeptClosedAndStreamed := by
  refine ⟨fun h s taken => ?_, fun h s taken => ⟨fun first some_ last => ?_, fun beyond => ?_, fun first bad => ?_⟩,
    fun h s taken => ⟨fun ahead free none_held => ?_, fun early => ?_, fun ahead pending => ?_⟩, fun h s taken => ?_,
    fun h s taken clear => ?_, fun h s taken => ?_,
    fun r v s up ring inside small => ⟨exec_acRhead_moves up ring inside small, exec_acRhead_discarded up ring inside small⟩,
    fun c s due => exec_intervalClose_due due, fun k t s pending due => exec_tariffSwitch_due pending due,
    fun s ready due => ⟨exec_checkpointStart_starts ready due, exec_checkpointStart_waits ready due⟩,
    fun r s running due open_ => exec_checkpointEnd_written running due open_,
    fun n r c s ring pinned some_ => ⟨exec_usageStream_stalls ring pinned some_, exec_usageStream_ends ring pinned some_⟩⟩
  · rw [exec_acConfig_taken taken, acConfigCmd]
  · rw [exec_acRateLoad_taken taken, acRateLoadCmd_written first some_ last]
  · rw [exec_acRateLoad_taken taken, acRateLoadCmd_first beyond]
  · rw [exec_acRateLoad_taken taken, acRateLoadCmd_count first bad]
  · rw [exec_acTariffArm_taken taken, acTariffArmCmd_armed ahead free none_held]
  · rw [exec_acTariffArm_taken taken, acTariffArmCmd_early early]
  · rw [exec_acTariffArm_taken taken, acTariffArmCmd_busy ahead pending]
  · rw [exec_acTariffCancel_taken taken, acTariffCancelCmd]
  · rw [exec_acRingSet_taken taken, acRingSetCmd_set clear]
  · rw [exec_acCloseNow_taken taken, acCloseNowCmd]

end Sys2Proof.Machine
end

section
/-!
PROOFS. O50: each stage of the start sequence as its environment ends it (R442 to R444, R447, R560).
-/
namespace Sys2Proof.Machine
open Sys2Proof

/-- Power is there and nothing stopped the start: the sequence stands before the stage after the last that ended. -/
theorem atStage_of_stage {s : State} {n : Nat} (power : s.pin.mainPower = true) (kept : s.pin.shedding = false)
    (goes : s.lc.startFail = none) (stage : s.lc.stage = n) : atStage (n + 1) s = true := by
  simp [atStage, power, kept, goes, stage]

/-- No source failed its start-up test. -/
theorem allSources_start (s : State) :
    (List.range 4).foldl (fun s k => if [true, true, true, true].getD k true then s else sourceFails k 3 s) s = s := rfl

/-- The chain instantiates with a source and its known answers (R371, R372). -/
theorem stage5_ready {s : State} (on : atStage 5 s = true) (src : sourcesOn s ≠ 0) :
    exec (.stage5RandomReady [true, true, true, true] true) s = .next
      (let q := draw (drbgCall 64 1 (instantiateAll s))
       { q.2 with rn.ready := true, lc.bootNonce := q.1, dg.wrap := !s.lc.frk.isEmpty, dg.nonce := 0, lc.stage := 5 }) := by
  simp only [exec, execStage5RandomReady, on, allSources_start, if_neg src, Bool.not_true, Bool.false_eq_true, if_false, stageDone]

theorem stage5_kat_fails {s : State} (on : atStage 5 s = true) (src : sourcesOn s ≠ 0) :
    exec (.stage5RandomReady [true, true, true, true] false) s = .next (startFails 5 2 s) := by
  simp only [exec, execStage5RandomReady, on, allSources_start, if_neg src, Bool.not_true, Bool.not_false, Bool.false_eq_true, if_false, if_true]

/-- With the ember there and not lost at the last start, stage 4 only derives the root, where it is due (R202, R458). -/
theorem stage4_derives {s : State} (on : atStage 4 s = true) (seen : s.tm.emberLost = false) (ember : s.tm.ember = true) (ok : Bool) :
    exec (.stage4RootDerived ok) s =
      if !emberDue s then .next (stageDone 4 s)
      else if !ok then .next (startFails 4 1 { s with ks.state := 3 })
      else .next (stageDone 4 { s with lc.frk := rootKey s }) := by
  simp only [exec, execStage4RootDerived, on, seen, ember, Bool.not_true, Bool.false_and, Bool.false_eq_true, if_false]

/-- Settles O50: each stage's row under the guard that the sequence stands before it. -/
theorem theModuleStartsInNineStages : Obligations.TheModuleStartsInNineStages := by
  unfold Obligations.TheModuleStartsInNineStages
  intro s power kept goes
  have before {n : Nat} (stage : s.lc.stage = n) : atStage (n + 1) s = true := atStage_of_stage power kept goes stage
  refine ⟨fun st => ?_, fun st => ?_, fun st => ⟨fun a => ?_, ?_⟩, fun st seen ember => ⟨fun due => ⟨?_, ?_⟩, fun due ok => ?_⟩,
    fun st src => ⟨stage5_kat_fails (before st) src, stage5_ready (before st) src⟩, fun st => ⟨?_, fun none => ?_, fun some => ?_⟩,
    fun st => ?_, fun st lanes pks cls => ?_, fun st => ?_⟩
  · exact whenOk_true (before st)
  · simp [exec, execStage2SelftestEnd, before st, stageDone]
  · simp [exec, execStage3LcRecordRead, before st, a]
  · simp [exec, execStage3LcRecordRead, before st]
  · simp [stage4_derives (before st) seen ember, due, stageDone]
  · simp [stage4_derives (before st) seen ember, due]
  · simp [stage4_derives (before st) seen ember, due, stageDone]
  · simp [exec, execStage6SlotDecided, before st]
  · simp [exec, execStage6SlotDecided, before st, none]
  · simp [exec, execStage6SlotDecided, before st, some, stageDone]
  · exact whenOk_true (before st)
  · exact if_neg (by simp [before st])
  · simp [exec, execStage9Ready, before st, stageDone]

end Sys2Proof.Machine
end

section
/-!
PROOFS. O51: the controller pairs' stops, take-overs, restarts, reversions and rotations (R500 to R512).
-/
namespace Sys2Proof.Machine
open Sys2Proof

/-! ### Stops -/

/-- A pair that runs stops of its compare or its memory. -/
theorem hcPairStop_compare {s : State} {p : Nat} (runs : pairRuns s p = true) (a : Option Access) {c : Nat} (hc : c = 1 ∨ c = 3) :
    exec (.hcPairStop p c a) s = .next (stopPair p c s) := by
  simp [exec, execHcPairStop, runs, hc]

/-- An access that its fence blocks is a violation of the pair that made it. -/
theorem hcPairStop_blocked {s : State} {p : Nat} (runs : pairRuns s p = true) {b : Access} {x : Blocked}
    (blocked : fenceBlocks s s.tick b (0x600 + p) = some x) :
    exec (.hcPairStop p 4 (some b)) s = .next (hcViolation p b x s) := by
  simp [exec, execHcPairStop, runs, blocked]

/-- The watchdog knows the beat of the pair in control alone. -/
theorem beatOverdue_of_silent {s : State} {p : Nat} (silent : s.hc.active = some p → ∃ t, s.hc.beat = some t ∧ t + 2 ^ 12 ≤ s.tick) :
    beatOverdue s p = true := by
  by_cases control : s.hc.active = some p
  · obtain ⟨t, beat, late⟩ := silent control
    simpa [beatOverdue, control, beat] using late
  · simp [beatOverdue, control]

/-! ### Take-over and restart -/

/-- A take-over that no rollback rides on (R503). -/
theorem takeover_takes {s : State} {i gap : Nat} (hi : i = (if s.hc.a = .standby then 0 else 1)) (open_ : s.hc.gap = true)
    (stands : pairState s i = .standby)
    (how : (s.hc.headless = true ∧ s.lc.rollback = false) ∨ (s.hc.headless = false ∧ gap ≤ 4096)) :
    exec (.takeoverFirstCommand gap) s = .next
      (let t := setPair i .active { s with
         hc.active := some i, hc.beat := some s.tick, hc.gap := false, hc.headless := false, hc.switches := satAdd 32 s.hc.switches 1
         hc.lastTick := s.tick, hc.lastCause := s.hc.gapCause, hc.lastFrom := s.hc.gapFrom, hc.lastTo := i + 1, hc.lastGap := min gap 8191
         hc.gapPeak := max s.hc.gapPeak (min gap 8191) }
       afterTakeover (answerByLedger (resolveTransition (note 0x0E02 1 i (min gap 8191) s.hc.gapStart (refreshRegime t))))) := by
  have may : (s.hc.headless || decide (gap ≤ 4096)) = true := by
    rcases how with ⟨headless, -⟩ | ⟨-, short⟩
    · simp [headless]
    · simp [short]
  have stays : (s.hc.headless && s.lc.rollback) = false := by
    rcases how with ⟨-, keeps⟩ | ⟨led, -⟩
    · simp [keeps]
    · simp [led]
  simp only [exec, execTakeoverFirstCommand, ← hi, open_, stands, may, stays, decide_true, Bool.and_self, if_true, Bool.false_eq_true, if_false]

/-- A restart that failed its step holds the pair out. -/
theorem pairRestart_fails {s : State} {p f : Nat} (hp : p ≤ 1) (on : restarting (pairState s p) = true) (stage : 6 ≤ s.lc.stage)
    (low : 2 ≤ f) (high : f ≤ 3) : exec (.pairRestartDone p f) s = .next (note 0x0E07 1 p f 0 (setPair p .heldOut s)) := by
  simp only [exec, execPairRestartDone, if_pos (show p ≤ 1 ∧ restarting (pairState s p) = true ∧ 6 ≤ s.lc.stage ∧ f ≤ 3 ∧ f ≠ 1 from
    ⟨hp, on, stage, high, by omega⟩), if_pos (show f ≠ 0 by omega)]

/-- A restart that passed reaches STANDBY; with a firmware to go back to, a switch-over of cause 7 is planned (R512). -/
theorem pairRestart_passes {s : State} {p : Nat} (hp : p ≤ 1) (on : restarting (pairState s p) = true) (stage : 6 ≤ s.lc.stage) :
    exec (.pairRestartDone p 0) s = .next
      (if (setPair p .standby s).lc.rollback = true ∧ (setPair p .standby s).hc.active.isSome = true ∧ (setPair p .standby s).hc.active ≠ some p
       then { setPair p .standby s with hc.planned := some (7, (setPair p .standby s).tick) } else setPair p .standby s) := by
  simp only [exec, execPairRestartDone, if_pos (show p ≤ 1 ∧ restarting (pairState s p) = true ∧ 6 ≤ s.lc.stage ∧ 0 ≤ 3 ∧ 0 ≠ 1 from
    ⟨hp, on, stage, by omega, by omega⟩), ne_eq, not_true_eq_false, if_false]

theorem setPair_active (p : Nat) (x : PairState) (s : State) : (setPair p x s).hc.active = s.hc.active := by
  unfold setPair
  split <;> rfl

/-! ### Reversion and rotation -/

/-- A revert boundary acts where a pair is in control and no switch-over is in hand (R509). -/
theorem revertBoundary_open {s : State} (tick : s.tick % 2 ^ 19 = 0) (control : s.hc.active ≠ none) (idle : noPlanned s = true) :
    exec .revertBoundary s =
      if s.lc.activation.any (·.loaded) || s.lc.rollback then .next (tryPlanned 7 s.tick s)
      else if (lcRec s).trial = true ∨ s.tick % 2 ^ 35 = 0 then noEvent s
      else .next (if s.hc.rotDue then rotate s else revertNow s) :=
  if_pos ⟨tick, Option.isSome_iff_ne_none.mpr control, idle⟩

/-- A preference that moves to the pair in control only moves (R510). -/
theorem rotate_to_active {s : State} (control : s.hc.active = some (1 - s.hc.preferred)) :
    rotate s = note 0x0E04 0 (1 - s.hc.preferred) 0 0 { s with hc.preferred := 1 - s.hc.preferred, hc.rotDue := false } := by
  simp [rotate, preferredWaits, control, b2n]

/-! ### Planned switch-overs -/

/-- No frame waits in a mailbox that holds none. -/
theorem resumeWaiting_free {s : State} (free : s.mb.held = none) : resumeWaiting s = s := by
  simp only [resumeWaiting, free]

/-- Nothing puts it off and the other pair stands by: the outgoing pair hands over (R511). -/
theorem tryPlanned_hands {s : State} {c i : Nat} (t : Nat) (control : s.hc.active = some i) (free : putsOff c s = false)
    (stands : pairState s (1 - i) = .standby) : tryPlanned c t s = { s with hc.planned := none, hc.handing := some (c, t) } := by
  simp [tryPlanned, handControl, free, control, stands]

/-- A hand-over of a rotation is complete at the next sample point, at the tick of the hand-over (R511 step 4). -/
theorem retryPlanned_ends {s : State} {t i : Nat} (control : s.hc.active = some i) (handing : s.hc.handing = some (6, t))
    (free : s.mb.held = none) : retryPlanned s =
      (let q := draw s
       setPair i .standby (setPair (1 - i) .active { q.2 with
         hc.active := some (1 - i), hc.beat := some (s.tick - 1), hc.switches := satAdd 32 s.hc.switches 1, hc.lastTick := s.tick - 1
         hc.lastCause := 6, hc.lastFrom := i + 1, hc.lastTo := 1 - i + 1, hc.lastGap := q.1 % 2049, hc.handing := none, hc.putOff := none })) := by
  simp only [retryPlanned, handing, endHandOver, control]
  exact resumeWaiting_free (by simp [free])

/-- Settles O51: each row of the pairs. -/
theorem pairsStopTakeOverAndReturn : Obligations.PairsStopTakeOverAndReturn := by
  unfold Obligations.PairsStopTakeOverAndReturn
  refine ⟨fun p a s runs => ⟨fun c hc => hcPairStop_compare runs a hc, fun b x blocked =>
      ⟨fun locked => ?_, fun open_ => ?_⟩, fun silent => ?_⟩,
    fun i gap s hi open_ stands how => takeover_takes hi open_ stands how,
    fun p f s hp on stage => ⟨fun low high => pairRestart_fails hp on stage low high, fun keeps => ?_, fun q back control other => ?_⟩,
    fun s tick control idle => ⟨fun firmware => ?_, fun keeps none ran noRotation => ⟨fun due => ?_, fun due => ?_⟩⟩,
    fun s tick => ⟨fun trial => ?_, fun ran => ?_, rotate_to_active⟩,
    fun c t i s control => ⟨fun free stands => tryPlanned_hands t control free stands, fun busy early => ?_,
      fun handing free => retryPlanned_ends control handing free⟩⟩
  · simp only [hcPairStop_blocked runs blocked, hcViolation, locked, if_true]
  · simp only [hcPairStop_blocked runs blocked, hcViolation, open_, Bool.false_eq_true, if_false]
  · exact whenOk_true (by rw [runs, beatOverdue_of_silent silent, Bool.and_self])
  · rw [pairRestart_passes hp on stage, if_neg (by simp [keeps])]
  · rw [pairRestart_passes hp on stage, if_pos (by simp [back, setPair_active, control, other]), (setPair_frame p .standby s).1]
  · rw [revertBoundary_open tick control idle, if_pos]
    rcases firmware with back | ⟨a, act, loaded⟩
    · simp [back]
    · simp [act, loaded]
  · rw [revertBoundary_open tick control idle, if_neg (by simp [keeps, none]), if_neg (not_or.mpr ⟨by simp [ran], noRotation⟩), if_pos due]
  · rw [revertBoundary_open tick control idle, if_neg (by simp [keeps, none]), if_neg (not_or.mpr ⟨by simp [ran], noRotation⟩),
      if_neg (by simp [due]), revertNow]
  · exact (if_neg (fun no => no tick)).trans (by rw [if_pos trial])
  · exact (if_neg (fun no => no tick)).trans (by rw [if_neg (by simp [ran])])
  · simp only [tryPlanned, busy, if_true, if_neg (Nat.not_le.mpr early)]

end Sys2Proof.Machine
end

section
/-!
PROOFS. O52: the firebox's samples, its second decision, the baselines, the evidence window and the rails (R451, R452, R454,
R461, R471).
-/
namespace Sys2Proof.Machine
open Sys2Proof

/-- Readings of the battery sensors other than the vibration sensor are taken at any time on battery (R451). -/
theorem batterySample_taken {s : State} {rs : List SensorReading} (off : s.pin.mainPower = false)
    (ok : ∀ r ∈ rs, r.sensor ∈ batterySensors ∧ r.sensor ≠ 5) :
    exec (.batterySample rs) s = .next (takeHits (takeSample rs s).2 (takeSample rs s).1) := by
  have heard : rs.all (fun r => decide (r.sensor ∈ batterySensors) && (decide (r.sensor ≠ 5) || decide (0 < s.tm.wakeLeft))) = true :=
    List.all_eq_true.mpr fun r hr => by simp [ok r hr]
  have still : rs.any (fun r => decide (r.sensor = 5)) = false :=
    List.any_eq_false.mpr fun r hr => by simp [(ok r hr).2]
  simp only [exec, execBatterySample, off, heard, still, Bool.not_false, Bool.and_self, if_true, Bool.false_eq_true, if_false]

/-- A second decision that is due looks again, with nothing pending any more (R461). -/
theorem secondDecision_due {s : State} {d : TamperDec} (pending : s.tm.pending = some d) (due : d.due ≤ s.tick) (f : Bool) :
    exec (.tamperSecondDecision f) s = .next (if stillMet d { s with tm.pending := none } = f
      then tamperSplit d { s with tm.pending := none } else tamperAgreed d { s with tm.pending := none }) := by
  simp only [exec, execTamperSecondDecision, pending, if_neg (Nat.not_lt.mpr due)]

theorem secondDecision_early {s : State} {d : TamperDec} (pending : s.tm.pending = some d) (early : s.tick < d.due) (f : Bool) :
    exec (.tamperSecondDecision f) s = noEvent s := by
  simp only [exec, execTamperSecondDecision, pending, if_pos early]

/-- Two decisions that agree on class 3 erase. -/
theorem tamperAgreed_zero {d : TamperDec} (z : d.hit.cls = 3) (s : State) :
    tamperAgreed d s = summaryPoint (zeroResponse s.tm.evidNext (recordHit d.hit s)) := by
  simp only [tamperAgreed, if_pos z]

/-- Two decisions that agree on class 2, no die temperature, lock. -/
theorem tamperAgreed_lock {d : TamperDec} {s : State} (l : d.hit.cls = 2) (cool : d.hit.sensor ≠ 6)
    (power : (recordHit d.hit s).pin.mainPower = true) :
    tamperAgreed d s = summaryPoint (lockResponse s.tm.evidNext (recordHit d.hit s)) := by
  simp [tamperAgreed, l, power, cool]

theorem tamperSplit_battery {d : TamperDec} {s : State} (off : s.pin.mainPower = false) :
    tamperSplit d s = battEvent ⟨s.tick, 2, 2, 0x28, 1, 0, d.hit.sensor⟩ { s with tm.grantStop := false } := by
  simp only [tamperSplit, off, Bool.not_false, if_true]

/-- Releasing the exits leaves what an evidence entry reads of the state. -/
theorem evidNow_releaseExits (kind cls source a b detail : Nat) (keep : Bool) (s : State) :
    evidNow kind cls source a b detail (releaseExits keep s) = evidNow kind cls source a b detail s := by
  unfold releaseExits
  dsimp only
  split
  · simp [evidNow, lcState, lcRec, lacksBaseline]
  · rfl

theorem tamperSplit_power {d : TamperDec} {s : State} (power : s.pin.mainPower = true) :
    tamperSplit d s =
      let u := evidAppend { evidNow 2 2 0x28 1 0 d.hit.sensor (releaseExits true s) with split := true } (releaseExits true s)
      summaryPoint (lockResponse s.tm.evidNext (tamperReport 2 true s.tm.evidNext (tmLast 2 0x28 0 true u))) := by
  simp only [tamperSplit, power, Bool.not_true, Bool.false_eq_true, if_false, evidNow_releaseExits]

/-- What EVID_RESULT and EVID_DATA show of a slot: its entry, whether its write was whole, or that it is empty or torn (R471). -/
def evidShown : Option EvidSlot → Nat × List Byte
  | none => (1, zero64)
  | some (.whole e true) => (0, e.bytes)
  | some (.whole e false) => (2, e.bytes)
  | some .torn => (3, zero64)

/-- The slot of the main log or of the ring that an index selects. -/
def evidSlotAt (s : State) (i : Nat) : Option EvidSlot :=
  if i < mainSlots then tblGet s.tm.evid i else if i < mainSlots + ringSlots then tblGet s.tm.ring (i - mainSlots) else none

theorem evidSel_shows {s : State} (up : s.hl.link0.up = true) (v : Nat) : exec (.tmEvidSel v) s = .next { s with
    tm.evidSel := v % 2 ^ 18, tm.evidReady := true, tm.evidResult := (evidShown (evidSlotAt s (v % 2 ^ 18))).1
    tm.evidData := (evidShown (evidSlotAt s (v % 2 ^ 18))).2 } :=
  viaPf0_up up

/-- Settles O52: each row of the firebox, the second decision by what it finds. -/
theorem theFireboxSensesAndDecides : Obligations.TheFireboxSensesAndDecides := by
  unfold Obligations.TheFireboxSensesAndDecides
  refine ⟨fun rs s power tick armed => ?_, fun rs s off ok => batterySample_taken off ok, fun s off => whenOk_true (by simp [off]),
    fun d f s t pending due ht => ?_, fun d s pending early f => secondDecision_early pending early f,
    fun sensor inst s whole => if_neg (Nat.not_lt.mpr whole), fun v s up => ?_, fun t s rails due => ?_⟩
  · simp [exec, execTamperSample, power, tick, armed]
  · have row := secondDecision_due pending due f
    rw [← ht] at row
    have pin : t.pin = s.pin := by rw [ht]
    have tick : t.tick = s.tick := by rw [ht]
    refine ⟨fun met z => ?_, fun met l cool power => ?_, fun split off => ?_, fun split power => ?_⟩
    · rw [row, if_neg met, tamperAgreed_zero z]
    · rw [row, if_neg met, tamperAgreed_lock l cool power]
    · rw [row, if_pos split, tamperSplit_battery (by rw [pin, off]), tick]
    · rw [row, if_pos split, tamperSplit_power (by rw [pin, power])]
  · refine ⟨_, evidSel_shows up v, fun main => ?_⟩
    rw [evidSlotAt, if_pos main]
    exact ⟨fun e => by rw [e]; rfl, fun x e => by rw [e]; rfl, fun x e => by rw [e]; rfl⟩
  · simp only [exec, execThermalRailRemoval, rails]
    exact whenOk_true (decide_eq_true due)

end Sys2Proof.Machine
end

section
/-!
PROOFS. O53: what the frames of a group do when they are taken, and what happens to the others (R520, R521, R526 to R528, R531
to R533, R536, R537, R539, R540).
-/
namespace Sys2Proof.Machine
open Sys2Proof

/-! ### A frame before its own rule -/

variable {from_ type p k : Nat} {h : GpHead} {s u : State} {f : State → State}

theorem withFrame_none (no : takeFrame p k type h s = none) : withFrame from_ type p k h s f = .next s := by
  simp only [withFrame, no, noEvent]

theorem withFrame_bad (took : takeFrame p k type h s = some u) (bad : headBad u h = true) :
    withFrame from_ type p k h s f = .next (dropOther p u) := by
  simp only [withFrame, took, if_pos bad]

theorem withFrame_older (took : takeFrame p k type h s = some u) (good : headBad u h = false) (older : h.mgen < u.gp.mgen) :
    withFrame from_ type p k h s f = .next u := by
  simp only [withFrame, took, good, Bool.false_eq_true, if_false, if_pos older]

/-- What is for this member or for all is not for another. -/
theorem not_elsewhere (dst : h.dst = u.gp.member ∨ h.dst = 255) : ¬(h.dst ≠ u.gp.member ∧ h.dst ≠ 255) :=
  fun ⟨notMember, notAll⟩ => dst.elim notMember notAll

theorem withFrame_newer (took : takeFrame p k type h s = some u) (good : headBad u h = false) (newer : u.gp.mgen < h.mgen)
    (dst : h.dst = u.gp.member ∨ h.dst = 255) :
    withFrame from_ type p k h s f = .next (if u.gp.role = 1 then depose h.mgen u else u) := by
  simp only [withFrame, took, good, Bool.false_eq_true, if_false, if_neg (Nat.not_lt_of_gt newer), if_neg (not_elsewhere dst), if_pos newer]

/-- The head is one of this group, new, of its generation and for this member, and a manager has not lost its sender. -/
structure HeadTaken (h : GpHead) (u : State) : Prop where
  good : headBad u h = false
  now : h.mgen = u.gp.mgen
  dst : h.dst = u.gp.member ∨ h.dst = 255
  known : u.gp.role = 1 → (member u h.src).state ≠ 4

/-- A frame whose head is taken is judged by the side it comes from. -/
theorem withFrame_head (took : takeFrame p k type h s = some u) (head : HeadTaken h u) :
    withFrame from_ type p k h s f =
      if from_ = 1 ∧ (h.src ≠ u.gp.manager ∨ u.gp.role = 1) then .next (dropOther p u)
      else if from_ = 2 ∧ u.gp.role ≠ 1 then .next (dropOther p u)
      else .next (f (heard h u)) := by
  simp only [withFrame, took, head.good, Bool.false_eq_true, if_false, head.now, Nat.lt_irrefl, if_neg (not_elsewhere head.dst),
    if_neg (fun c : u.gp.role = 1 ∧ (member u h.src).state = 4 => head.known c.1 c.2)]

/-- Any member may send it. -/
theorem withFrame_any (took : takeFrame p k type h s = some u) (head : HeadTaken h u) :
    withFrame 0 type p k h s f = .next (f (heard h u)) := by
  simp [withFrame_head took head]

/-- The manager sends it to a worker. -/
theorem withFrame_manager (took : takeFrame p k type h s = some u) (head : HeadTaken h u) (src : h.src = u.gp.manager)
    (worker : u.gp.role ≠ 1) : withFrame 1 type p k h s f = .next (f (heard h u)) := by
  simp [withFrame_head took head, src, worker]

/-- A worker sends it to the manager. -/
theorem withFrame_worker (took : takeFrame p k type h s = some u) (head : HeadTaken h u) (mgr : u.gp.role = 1) :
    withFrame 2 type p k h s f = .next (f (heard h u)) := by
  simp [withFrame_head took head, mgr]

/-! ### The frames -/

/-- The manager's own record of a member that beats (R521). -/
theorem heartbeat_manager (took : takeFrame p k 0x10 h s = some u) (head : HeadTaken h u) (mgr : (heard h u).gp.role = 1)
    (e r pool b last : Nat) : exec (.heartbeat p k h e r pool b last) s =
      .next (settle (modMember h.src (fun x => { x with pool, ack := max x.ack last }) (heard h u))) := by
  simp only [exec, execHeartbeat, withFrame_any took head]
  have mgr' : (modMember h.src (fun x => { x with pool, ack := max x.ack last }) (heard h u)).gp.role = 1 := mgr
  simp only [mgr, if_true, mgr']

/-- A worker that hears its manager takes the group tick, and lets go of results the manager has (R527, R533). -/
theorem heartbeat_worker (took : takeFrame p k 0x10 h s = some u) (head : HeadTaken h u) (worker : (heard h u).gp.role ≠ 1)
    (src : h.src = (heard h u).gp.manager) (e r pool b last : Nat) : exec (.heartbeat p k h e r pool b last) s =
      .next (let t := modMember h.src (fun x => { x with pool }) (heard h u)
             { t with gp.offset := (h.tick : Int) + (r / 2 : Nat) - (t.tick : Int)
                      gp.journal := t.gp.journal.filter (fun j => !(decide (2 ≤ j.state) && j.sent.any (fun t => decide (t ≤ e)))) }) := by
  simp only [exec, execHeartbeat, withFrame_any took head]
  have worker' : (modMember h.src (fun x => { x with pool }) (heard h u)).gp.role ≠ 1 := worker
  have src' : h.src = (modMember h.src (fun x => { x with pool }) (heard h u)).gp.manager := src
  simp only [if_neg worker, if_neg worker', if_pos src']

/-- A response to a relay that nothing waits for any more only ends it (R526). -/
theorem controlResp_free (took : takeFrame p k 0x12 h s = some u) (head : HeadTaken h u) (mgr : u.gp.role = 1)
    (relay : (heard h u).gp.relay = some h.src) (free : (heard h u).mb.held = none) (bs : List Byte) :
    exec (.controlResp p k h bs) s = .next { heard h u with gp.relay := none } := by
  simp only [exec, execControlResp, withFrame_worker took head mgr]
  simp only [if_pos relay, free, Option.any_none, Bool.false_eq_true, if_false]

/-- The response to a relay is the payload of the GP_RELAY response (R526). -/
theorem controlResp_answers (took : takeFrame p k 0x12 h s = some u) (head : HeadTaken h u) (mgr : u.gp.role = 1)
    (relay : (heard h u).gp.relay = some h.src) {x : Held} (held : (heard h u).mb.held = some x) (runs : x.stage = .running)
    (code : x.frame.code = 0x0D08) (bs : List Byte) :
    exec (.controlResp p k h bs) s = .next (respond St.ok 0 (heard h u).tick bs { heard h u with gp.relay := none }) := by
  simp only [exec, execControlResp, withFrame_worker took head mgr]
  simp only [if_pos relay, held, Option.any_some, runs, code, and_self, decide_true, if_true]

/-- A journal resolves the entries of its sender; where none was held, nothing is noticed (R537). -/
theorem partJournal_reconciles (took : takeFrame p k 0x33 h s = some u) (head : HeadTaken h u) (mgr : u.gp.role = 1)
    (free : heldDoubts (heard h u) h.src = []) (es : List JPart) : exec (.partJournal p k h es) s =
      .next { heard h u with gp.doubts := (heard h u).gp.doubts.map (reconcile h.src es) } := by
  simp only [exec, execPartJournal, withFrame_worker took head mgr]
  simp only [free, List.length_nil, if_true]

/-- A row of a group frame by the frame's head: not held, not one of this group, of an older generation, of a newer. -/
theorem frame_by_head {r : Res} (row : r = withFrame from_ type p k h s f) :
    (takeFrame p k type h s = none → r = .next s) ∧ ∀ u, takeFrame p k type h s = some u →
      (headBad u h = true → r = .next (dropOther p u)) ∧ (headBad u h = false → h.mgen < u.gp.mgen → r = .next u) ∧
      (headBad u h = false → u.gp.mgen < h.mgen → (h.dst = u.gp.member ∨ h.dst = 255) →
        r = .next (if u.gp.role = 1 then depose h.mgen u else u)) := by
  subst row
  exact ⟨withFrame_none, fun u took => ⟨withFrame_bad took, withFrame_older took, withFrame_newer took⟩⟩

/-- Settles O53: each frame by its side, and each by its head. -/
theorem groupFramesAreTakenOrDropped : Obligations.GroupFramesAreTakenOrDropped := by
  unfold Obligations.GroupFramesAreTakenOrDropped
  refine ⟨fun p k h s u good now dst known => ?_, fun p k h s c hc => ?_⟩
  · have head : HeadTaken h u := ⟨good, now, dst, known⟩
    refine ⟨fun took => ⟨fun e r pool b last _ mgr => heartbeat_manager took head mgr e r pool b last,
        fun e r pool b last worker src => heartbeat_worker took head worker src e r pool b last⟩, fun took ix until_ => ?_,
      fun src worker => ⟨fun took inner c sg => ?_, fun took items => ?_, fun took parts => ?_, fun took stops => ?_⟩,
      fun mgr => ⟨fun took bs relay => ⟨fun free => controlResp_free took head mgr relay free bs,
          fun x held runs code => controlResp_answers took head mgr relay held runs code bs⟩, fun took last wants => ?_, fun took rs => ?_,
        fun took es free => partJournal_reconciles took head mgr free es, fun took => ?_⟩⟩
    · simp only [exec, execLockout, withFrame_any took head]
    · simp only [exec, execControl, withFrame_manager took head src worker]
    · simp only [exec, execRepl, withFrame_manager took head src worker]
    · simp only [exec, execPartReq, withFrame_manager took head src worker]
    · simp only [exec, execPartCancel, withFrame_manager took head src worker]
    · simp only [exec, execReplAck, withFrame_worker took head mgr]
    · simp only [exec, execPartResult, withFrame_worker took head mgr, execPartResult.slicesFlush]
    · simp only [exec, execPromoteAck, withFrame_worker took head mgr]
  · simp only [List.mem_cons, List.not_mem_nil, or_false] at hc
    rcases hc with rfl | rfl | rfl | rfl | rfl | rfl | rfl | rfl | rfl | rfl | rfl
    · exact frame_by_head (show execReplAck p k h 0 [] s = _ from rfl)
    · exact frame_by_head (show execPromoteAck p k h s = _ from rfl)
    · exact frame_by_head (show execRepl p k h [] s = _ from rfl)
    · exact frame_by_head (show execPartCancel p k h [] s = _ from rfl)
    · exact frame_by_head (show execLockout p k h 0 0 s = _ from rfl)
    · exact frame_by_head (show execHeartbeat p k h 0 0 0 0 0 s = _ from rfl)
    · exact frame_by_head (show execPartReq p k h [] s = _ from rfl)
    · exact frame_by_head (show execPartResult p k h [] s = _ from rfl)
    · exact frame_by_head (show execPartJournal p k h [] s = _ from rfl)
    · exact frame_by_head (show execControl p k h [] 0 0 s = _ from rfl)
    · exact frame_by_head (show execControlResp p k h [] s = _ from rfl)

end Sys2Proof.Machine
end

section
/-!
PROOFS. O54: the group commands and the joining of a member (R520, R522, R524, R526, R532, R537, R541, R545).
-/
namespace Sys2Proof.Machine
open Sys2Proof

/-! ### Each command taken up -/

variable {h : Held} {s : State}

theorem exec_gpForm_taken (taken : CmdTaken 0x0D01 h s) : exec .gpForm s = .next (gpFormCmd h h.frame.payload s) := withCmd_of_taken taken
theorem exec_gpAdmit_taken (taken : CmdTaken 0x0D02 h s) : exec .gpAdmit s = .next (gpAdmitCmd h h.frame.payload s) := withCmd_of_taken taken
theorem exec_gpJoin_taken (taken : CmdTaken 0x0D03 h s) : exec .gpJoin s = .next (gpJoinCmd h h.frame.payload s) := withCmd_of_taken taken
theorem exec_gpRemove_taken (taken : CmdTaken 0x0D04 h s) : exec .gpRemove s = .next (gpRemoveCmd h h.frame.payload s) := withCmd_of_taken taken
theorem exec_gpSpread_taken (taken : CmdTaken 0x0D05 h s) : exec .gpSpread s = .next (gpSpreadCmd h h.frame.payload s) := withCmd_of_taken taken
theorem exec_gpStatus_taken (taken : CmdTaken 0x0D06 h s) : exec .gpStatus s = .next (gpStatusCmd h h.frame.payload s) := withCmd_of_taken taken
theorem exec_gpDoubts_taken (taken : CmdTaken 0x0D07 h s) : exec .gpDoubts s = .next (gpDoubtsCmd h h.frame.payload s) := withCmd_of_taken taken
theorem exec_gpRelay_taken (taken : CmdTaken 0x0D08 h s) : exec .gpRelay s = .next (gpRelayCmd h h.frame.payload s) := withCmd_of_taken taken

/-- A command of the manager's alone goes on there. -/
theorem asManager_manager (mgr : s.gp.role = 1) (f : State → State) : asManager s f = f s := if_pos mgr

/-- Elsewhere it is refused GROUP_ROLE. -/
theorem asManager_other (other : s.gp.role ≠ 1) (f : State → State) : asManager s f = respond St.groupRole 0 0 [] s := if_neg other

/-! ### GP_FORM, GP_ADMIT and GP_JOIN -/

theorem gpForm_forms {p : List Byte} (free : s.gp.role = 0) (mgen : be p 8 4 = 1) (expel : be p 16 8 = 0) :
    gpFormCmd h p s = formGroup p s := by
  simp only [gpFormCmd, if_pos free, mgen, expel, ne_eq, not_true_eq_false, if_false]

theorem gpForm_promotes {p : List Byte} (orphan : s.gp.role = 4) (deputy : (member s s.gp.member).deputy = true)
    (group : be p 0 4 = s.gp.groupId) (own : be p 4 1 = s.gp.member) (mgen : be p 8 4 = s.gp.mgen + 1) :
    gpFormCmd h p s = promoteSelf h p s := by
  have some_ : s.gp.role ≠ 0 := by omega
  have led : s.gp.role = 4 ∧ (member s s.gp.member).deputy = true := ⟨orphan, deputy⟩
  simp only [gpFormCmd, if_neg some_, if_pos led, group, own, mgen, ne_eq, not_true_eq_false, if_false]

theorem gpForm_refused {p : List Byte} (some_ : s.gp.role ≠ 0) (led : s.gp.role ≠ 4) :
    gpFormCmd h p s = respond St.groupRole 0 0 [] s := by
  simp only [gpFormCmd, if_neg some_, if_neg (fun c : s.gp.role = 4 ∧ (member s s.gp.member).deputy = true => led c.1), refuse_eq]

/-- A number not in use, with a port, a deputy and peers in range, is configured (R518, R519). -/
theorem gpAdmit_admits {p : List Byte} (mgr : s.gp.role = 1) (flag : be p 1 1 ≤ 1) (port : be p 2 1 ≤ 31) (sub : be p 3 1 ≤ 7)
    (free : (member s (be p 0 1)).state = 0)
    (deputies : bitOf (be p 1 1) 0 = true → (s.gp.members.filter (fun q => q.2.deputy)).length < 3)
    (peers : (s.gp.members.filter (fun q => decide (q.1 ≠ s.gp.member ∧ q.2.port = be p 2 1))).length < 32) :
    gpAdmitCmd h p s =
      (let x : Member := { state := 1, deputy := bitOf (be p 1 1) 0, port := be p 2 1, subport := be p 3 1, identity := octets p 8 48 }
       respond St.ok 0 s.tick [] (modMember (be p 0 1) (fun _ => x) s)) := by
  have room : ¬(bitOf (be p 1 1) 0 = true ∧ 3 ≤ (s.gp.members.filter (fun q => q.2.deputy)).length) :=
    fun ⟨deputy, full⟩ => Nat.not_lt.mpr full (deputies deputy)
  simp only [gpAdmitCmd, asManager_manager mgr, if_neg (Nat.not_lt.mpr flag), if_neg (Nat.not_lt.mpr port), if_neg (Nat.not_lt.mpr sub),
    free, ne_eq, not_true_eq_false, if_false, if_neg room, if_neg (Nat.not_le.mpr peers)]

/-- A module outside a group, in none with an empty store, sends its HELLO (R524). -/
theorem gpJoin_sends {p : List Byte} (outside : s.gp.role = 0 ∨ s.gp.role = 5) (port : be p 4 1 ≤ 31) (sub : be p 5 1 ≤ 7)
    (empty : s.gp.role = 0 → ∀ q ∈ s.ks.recs, q.2.type = 0) : gpJoinCmd h p s =
      (let t : State := { drawIdentity s with
         gp.groupId := be p 0 4, gp.joinPort := be p 4 1, gp.joinSub := be p 5 1, gp.mgrDigest := octets p 8 48, gp.rejoining := true }
       let q := draw t
       setStage .running (joinFrame 255 0x01 (Config.flueJoin 1 q.2.gp.groupId (q.2.gp.identity.getD 0) q.1 []) q.2)) := by
  have store : ¬(s.gp.role = 0 ∧ s.ks.recs.any (fun q => decide (q.2.type ≠ 0)) = true) := by
    rintro ⟨none, holds⟩
    obtain ⟨q, mem, type⟩ := List.any_eq_true.mp holds
    exact of_decide_eq_true type (empty none q mem)
  have role : ¬(s.gp.role ≠ 0 ∧ s.gp.role ≠ 5) := fun ⟨not0, not5⟩ => outside.elim not0 not5
  simp only [gpJoinCmd, if_neg role, if_neg (Nat.not_lt.mpr port), if_neg (Nat.not_lt.mpr sub), if_neg store]

/-! ### GP_RELAY -/

/-- The gate judges a frame without touching the command in hand (R410). -/
theorem gateEntry_held (i : Held) (s : State) : (gateEntry i s).2.2.mb.held = s.mb.held := by
  simp only [gateEntry]
  split
  · rfl
  · split
    · rfl
    · split <;> rfl

/-- The inner frame passes the grate, may be relayed, and its member is LIVE (R526). -/
structure RelayGoes (p : List Byte) (s : State) : Prop where
  long : 64 ≤ (p.drop 8).length
  header : headerCheck (octets (p.drop 8) 0 64) (p.drop 8).length = none
  plain : (parseHeader (octets (p.drop 8) 0 64)).ext = false
  body : bodyCheck (parseHeader (octets (p.drop 8) 0 64)) ((p.drop 8).drop 64) = none
  open_ : relayBarred (parseHeader (octets (p.drop 8) 0 64)).code = false
  other : be p 0 1 ≠ s.gp.member
  live : (member s (be p 0 1)).state = 3

/-- The inner command, as the manager's gate takes it up. -/
def innerHeld (p : List Byte) (s : State) : Held :=
  { frame := (parseHeader (octets (p.drop 8) 0 64)).withBody ((p.drop 8).drop 64), stage := .waiting, cls := 0, since := s.tick
    nonce := none, signers := 0 }

/-- A relay that goes is judged by the room for its response, then by the gate. -/
theorem gpRelay_of_goes {p : List Byte} (mgr : s.gp.role = 1) (goes : RelayGoes p s) : gpRelayCmd h p s =
    if 3968 < relayResult (parseHeader (octets (p.drop 8) 0 64)) ∧
        (h.frame.out = false ∨ h.frame.outLen < relayResult (parseHeader (octets (p.drop 8) 0 64))) then respond St.lengthInvalid 48 0 [] s
    else match gateEntry (innerHeld p s) s with
      | (some e, _, t) => respond e.1 e.2 0 [] t
      | (none, i, t) =>
        if i.stage = .quorum then giveBlocks i.frame (setStage .quorum { t with mb.inner := some i }) else relaySend i t := by
  have serves : ¬(be p 0 1 = s.gp.member ∨ (member s (be p 0 1)).state ≠ 3) := by simp [goes.other, goes.live]
  simp only [gpRelayCmd, asManager_manager mgr, if_neg (Nat.not_lt.mpr goes.long), goes.header, goes.plain, goes.body, goes.open_,
    Bool.false_eq_true, if_false, if_neg serves, refuse_eq]
  rfl

/-- What leaves for the member is the held relay's inner frame with its class and signers. -/
theorem relaySend_held {i : Held} (held : s.mb.held = some h) : relaySend i s =
    setStage .running (gpSend (be h.frame.payload 0 1) 0x11 (counted (h.frame.payload.drop 8) ++ beBytes 1 i.cls ++ beBytes 4 i.signers)
      { s with gp.relay := some (be h.frame.payload 0 1), mb.inner := none }) := by
  simp only [relaySend, held]

/-- With room for its response, a relay's inner frame is refused by the gate, gives it its blocks, or is sent on. -/
theorem gpRelay_gated (held : s.mb.held = some h) (mgr : s.gp.role = 1) (goes : RelayGoes h.frame.payload s)
    (room : ¬(3968 < relayResult (parseHeader (octets (h.frame.payload.drop 8) 0 64)) ∧
      (h.frame.out = false ∨ h.frame.outLen < relayResult (parseHeader (octets (h.frame.payload.drop 8) 0 64))))) :
    gpRelayCmd h h.frame.payload s =
      match gateEntry (innerHeld h.frame.payload s) s with
      | (some e, _, t) => respond e.1 e.2 0 [] t
      | (none, i, t) =>
        if i.stage = .quorum then giveBlocks i.frame (setStage .quorum { t with mb.inner := some i })
        else setStage .running (gpSend (be h.frame.payload 0 1) 0x11
          (counted (h.frame.payload.drop 8) ++ beBytes 1 i.cls ++ beBytes 4 i.signers)
          { t with gp.relay := some (be h.frame.payload 0 1), mb.inner := none }) := by
  rw [gpRelay_of_goes mgr goes, if_neg room]
  have still := gateEntry_held (innerHeld h.frame.payload s) s
  rw [held] at still
  generalize gateEntry (innerHeld h.frame.payload s) s = gate at still
  obtain ⟨_ | e, i, t⟩ := gate
  · simp only [relaySend_held still]
  · rfl

/-! ### Joining -/

/-- A HELLO that the manager does not answer: it is none, the group is another, or the signature fails. -/
theorem joinHello_worker {p k g : Nat} {d : List Byte} {re : Bool} (ok : flueOk s p k = true) (worker : s.gp.role ≠ 1) :
    exec (.joinHello p k g d true re) s = .next s := by
  simp [exec, execJoinHello, ok, worker]

/-- A configured member that has not restarted is answered, and its resync streamed (R524, R525). -/
theorem joinHello_answered {p k m g : Nat} {d : List Byte} {x : Member} (ok : flueOk s p k = true) (mgr : s.gp.role = 1)
    (group : g = s.gp.groupId)
    (found : s.gp.members.find? (fun q => decide (q.1 ≠ s.gp.member ∧ q.2.identity = d ∧ q.2.port = p ∧ q.2.subport = k)) = some (m, x)) :
    exec (.joinHello p k g d true false) s = .next
      (let full := decide (x.state = 1) || !historyHas s x.ack
       let t := modMember m (fun x => { x with state := 2, rxSeq := 0, txSeq := 0, seen := s.tick, synced := s.tick, full }) s
       let q := draw t
       settle (refreshMajority (streamResync m full
         (joinFrame m 0x02 (Config.flueJoin 2 q.2.gp.groupId (q.2.gp.identity.getD 0) q.1 q.2.gp.sak) q.2)))) := by
  have answers : ¬(s.gp.role ≠ 1 ∨ g ≠ s.gp.groupId ∨ true = false) := by simp [mgr, group]
  simp only [exec, execJoinHello, ok, Bool.not_true, Bool.false_eq_true, if_false, if_neg answers, found, Bool.false_or]

/-- The GP_JOIN in hand waits for an acceptance. -/
theorem joinAsked {x : Held} (held : s.mb.held = some x) (runs : x.stage = .running) (code : x.frame.code = 0x0D03) :
    s.mb.held.any (fun (x : Held) => decide (x.stage = .running ∧ x.frame.code = 0x0D03)) = true := by
  simp [held, runs, code]

/-- An acceptance that fails a check refuses the join with it (R545). -/
theorem joinAccept_refused {p k lc rtt e : Nat} {g : GpHead} {x : Held} {d sak : List Byte} {ok full : Bool} (flue : flueOk s p k = true)
    (joins : s.gp.rejoining = true) (group : g.group = s.gp.groupId) (held : s.mb.held = some x) (runs : x.stage = .running)
    (code : x.frame.code = 0x0D03) (fails : joinFault s d ok lc rtt = some e) : exec (.joinAccept p k g d ok lc rtt full sak) s =
      .next (respond St.groupJoinRefused e 0 [] { s with gp.rejoining := false }) := by
  simp only [exec, execJoinAccept]
  rw [if_neg (by simp [flue, joins]), if_neg (fun no => no group)]
  simp only [fails, joinAsked held runs code, if_true, refuse_eq]

/-- An acceptance that passes its checks joins. -/
theorem joinAccept_joins {p k lc rtt : Nat} {g : GpHead} {x : Held} {d sak : List Byte} {ok full : Bool} (flue : flueOk s p k = true)
    (joins : s.gp.rejoining = true) (group : g.group = s.gp.groupId) (held : s.mb.held = some x) (runs : x.stage = .running)
    (code : x.frame.code = 0x0D03) (passes : joinFault s d ok lc rtt = none) : exec (.joinAccept p k g d ok lc rtt full sak) s = .next
      (let t := joined g true { s with gp.sak := sak, gp.role := 3, gp.members := [], gp.replSeq := 0, gp.journal := [], gp.history := [] }
       respond St.ok 0 t.tick [] t) := by
  simp only [exec, execJoinAccept]
  rw [if_neg (by simp [flue, joins]), if_neg (fun no => no group)]
  simp only [passes, joinAsked held runs code, if_true]

/-- Settles O54: each group command by its conditions, the relay by its gate, and the two frames of a join. -/
theorem groupsAreFormedJoinedAndKept : Obligations.GroupsAreFormedJoinedAndKept := by
  unfold Obligations.GroupsAreFormedJoinedAndKept
  refine ⟨fun h s taken => ⟨fun free mgen expel => ?_, fun orphan deputy group own mgen => ?_, fun some_ led => ?_⟩,
    fun h s c hc taken other => ?_, fun h s taken mgr flag port sub free deputies peers => ?_, fun h s taken mgr other known => ?_,
    fun h s taken mgr => ?_, fun h s taken => exec_gpStatus_taken taken, fun h s taken mgr => ?_, fun h s taken mgr => ?_,
    fun h s taken outside port sub empty => ?_,
    fun p k m g d re x s ok => ⟨joinHello_worker ok, fun mgr group fresh found => fresh ▸ joinHello_answered ok mgr group found⟩,
    fun p k lc rtt g x d sak ok full s flue joins group held runs code =>
      ⟨fun e fails => joinAccept_refused flue joins group held runs code fails, joinAccept_joins flue joins group held runs code⟩⟩
  · rw [exec_gpForm_taken taken, gpForm_forms free mgen expel]
  · rw [exec_gpForm_taken taken, gpForm_promotes orphan deputy group own mgen]
  · rw [exec_gpForm_taken taken, gpForm_refused some_ led]
  · simp only [List.mem_cons, List.not_mem_nil, or_false] at hc
    rcases hc with rfl | rfl | rfl | rfl | rfl
    · rw [exec_gpAdmit_taken taken, gpAdmitCmd, asManager_other other]
    · rw [exec_gpRemove_taken taken, gpRemoveCmd, asManager_other other]
    · rw [exec_gpSpread_taken taken, gpSpreadCmd, asManager_other other]
    · rw [exec_gpDoubts_taken taken, gpDoubtsCmd, asManager_other other]
    · rw [exec_gpRelay_taken taken, gpRelayCmd, asManager_other other]
  · rw [exec_gpAdmit_taken taken, gpAdmit_admits mgr flag port sub free deputies peers]
  · rw [exec_gpRemove_taken taken, gpRemoveCmd, asManager_manager mgr, if_neg (by simp [other, known])]
  · rw [exec_gpSpread_taken taken, gpSpreadCmd, asManager_manager mgr]
    split <;> simp [*]
  · rw [exec_gpDoubts_taken taken, gpDoubtsCmd, asManager_manager mgr]
  · intro inner f long header plain body open_ other live
    have goes : RelayGoes h.frame.payload s := ⟨long, header, plain, body, open_, other, live⟩
    refine ⟨fun large noRoom => ?_, fun room => ?_⟩
    · rw [exec_gpRelay_taken taken, gpRelay_of_goes mgr goes, if_pos ⟨large, noRoom⟩]
    · rw [exec_gpRelay_taken taken, gpRelay_gated taken.1 mgr goes]
      · rfl
      · rintro ⟨large, noOut | short⟩
        · exact Bool.false_ne_true (noOut.symm.trans (room large).1)
        · exact Nat.not_lt.mpr (room large).2 short
  · rw [exec_gpJoin_taken taken, gpJoin_sends outside port sub empty]

end Sys2Proof.Machine
end

section
/-!
PROOFS. O55: heartbeats and resyncs, members and managers lost, parts withdrawn, doubts that expire, and promotion (R521, R524,
R533, R535, R537 to R540).
-/
namespace Sys2Proof.Machine
open Sys2Proof

/-! ### Resyncs and losses -/

/-- A member whose acknowledgements have reached the end of its resync is LIVE (R524). -/
theorem resyncDone_manager {s : State} {m : Nat} (mgr : s.gp.role = 1) (on : (member s m).state = 2)
    (reached : (member s m).goal ≤ (member s m).ack) : exec (.resyncDone m) s = .next (refreshMajority
      (note 0x1102 1 m (if (member s m).full then 0 else 1) (member s m).sent (modMember m (fun x => { x with state := 3 }) s))) := by
  simp only [exec, execResyncDone, if_pos mgr]
  exact whenOk_true (decide_eq_true ⟨on, reached⟩)

/-- A worker whose inbox is empty has applied its resync. -/
theorem resyncDone_worker {s : State} (worker : s.gp.role ≠ 1) (on : s.gp.resync = true) (kept : s.gp.emptyDue = false)
    (empty : s.gp.inbox = []) : exec (.resyncDone s.gp.member) s = .next { s with gp.role := 2, gp.resync := false } := by
  simp only [exec, execResyncDone, if_neg worker]
  exact whenOk_true (by simp [on, kept, empty])

/-- The one part a worker holds, not granted, is all it withdraws (R533). -/
theorem ungrantedParts_single {s : State} {id b i : Nat} {w : Work} (works : s.wk.works = [(id, w)]) (src : w.src = .spread b i)
    (waits : w.granted = false) (open_ : w.phase ≠ .ended) : ungrantedParts s = [(id, w)] := by
  simp [ungrantedParts, works, src, waits, open_]

/-- After 2^12 ticks without its manager a worker withdraws the part it has not granted. -/
theorem partWithdraw_single {s : State} {id b i : Nat} {w : Work} (worker : 2 ≤ s.gp.role) (silent : s.gp.lastMgr + 2 ^ 12 ≤ s.tick)
    (works : s.wk.works = [(id, w)]) (src : w.src = .spread b i) (waits : w.granted = false) (open_ : w.phase ≠ .ended) :
    exec .partWithdrawTimeout s = .next
      (let t := dropWork id (refund w s)
       { t with gp.journal := t.gp.journal.map (fun j => if w.src = .spread j.batch j.idx then { j with state := 3 } else j) }) := by
  have held := ungrantedParts_single works src waits open_
  have lapsed : partsLapsed s = true := by
    rw [partsLapsed, held, decide_eq_true ⟨worker, silent⟩]; rfl
  calc exec .partWithdrawTimeout s = .next (withdrawParts s) := whenOk_true lapsed
    _ = _ := by rw [withdrawParts, held]; rfl

/-- The oldest entry in doubt for 2^32 ticks is lost, and every such entry of its member with it (R537). -/
theorem doubtExpiry_expires {s : State} {d : Doubt} (old : s.gp.doubts.find? (oldDoubt s) = some d) :
    exec .doubtExpiry s = .next (expireDoubts d.member s) := by
  simp only [exec, execDoubtExpiry, old]

/-! ### Promotion -/

/-- A promotion frame of this group is judged by its generation, its address, its signatures, and this member's role (R539, R540). -/
theorem promote_of_group {p k sr : Nat} {h : GpHead} {f : Frame} {nc : List Byte} {s u : State} (took : takeFrame p k 0x40 h s = some u)
    (ver : h.ver = 1) (member' : u.gp.role ≠ 0) (group : h.group = u.gp.groupId) (len : h.len ≤ 8192) :
    exec (.promote p k h f sr nc) s =
      if h.mgen ≤ u.gp.mgen ∨ (h.dst ≠ u.gp.member ∧ h.dst ≠ 255) then .next u
      else if !promoteOk u f sr nc ∨ be f.payload 8 4 ≠ h.mgen ∨ be f.payload 0 4 ≠ u.gp.groupId then .next u
      else if u.gp.role = 1 then .next (depose h.mgen u)
      else if u.gp.role = 5 ∨ bitOf (be f.payload 16 8) u.gp.member = true ∨ (member u h.src).deputy = false then .next u
      else .next (acceptPromotion p k h (be f.payload 16 8) u) := by
  simp only [exec, execPromote, took]
  exact if_neg (by simp [ver, member', group, len])

/-- A newer generation to this member: a lawful promotion deposes a manager, and a deputy's is accepted. -/
theorem promote_newer {p k sr : Nat} {h : GpHead} {f : Frame} {nc : List Byte} {s u : State} (took : takeFrame p k 0x40 h s = some u)
    (ver : h.ver = 1) (member' : u.gp.role ≠ 0) (group : h.group = u.gp.groupId) (len : h.len ≤ 8192)
    (newer : u.gp.mgen < h.mgen) (dst : h.dst = u.gp.member ∨ h.dst = 255) :
    exec (.promote p k h f sr nc) s = .next
      (if promoteOk u f sr nc = false ∨ be f.payload 8 4 ≠ h.mgen ∨ be f.payload 0 4 ≠ u.gp.groupId then u
       else if u.gp.role = 1 then depose h.mgen u
       else if u.gp.role = 5 ∨ bitOf (be f.payload 16 8) u.gp.member = true ∨ (member u h.src).deputy = false then u
       else acceptPromotion p k h (be f.payload 16 8) u) := by
  have here : ¬(h.mgen ≤ u.gp.mgen ∨ (h.dst ≠ u.gp.member ∧ h.dst ≠ 255)) := by
    rintro (older | ⟨notMember, notAll⟩)
    · omega
    · exact dst.elim notMember notAll
  rw [promote_of_group took ver member' group len, if_neg here]
  simp only [Bool.not_eq_true', apply_ite Host.Outcome.next]

/-- Settles O55: each row of the group's losses and promotions. -/
theorem groupsLoseAndPromoteMembers : Obligations.GroupsLoseAndPromoteMembers := by
  unfold Obligations.GroupsLoseAndPromoteMembers
  refine ⟨fun s low high tick first => whenOk_true (by simp [low, high, tick, first]),
    fun m s => ⟨resyncDone_manager, fun worker on kept empty own => own ▸ resyncDone_worker worker on kept empty⟩,
    fun m s mgr other silent => whenOk_true (by simp [memberLost, mgr, other, silent]),
    fun s worker silent => whenOk_true (decide_eq_true ⟨worker, silent⟩),
    fun id b i w s => partWithdraw_single, fun d s old => doubtExpiry_expires old,
    fun p k sr h f nc s u took ver member' group len => ⟨fun older => ?_, promote_newer took ver member' group len⟩⟩
  rw [promote_of_group took ver member' group len, if_pos (.inl older)]

end Sys2Proof.Machine
end

section
/-!
PROOFS. A step and its queue, the stores after reset, and the read of the notice queue.
-/
namespace Sys2Proof.Machine
open Sys2Proof

/-! ### A step and the commands that wait (R25, log entry 36) -/

theorem step_of_pending {s : State} {c : Instr} {rest : List Instr} (h : s.pending = c :: rest) :
    step s = exec c { s with pending := rest } := by
  rw [step, h]

theorem step_of_idle {s : State} (h : s.pending = []) : step s = .next s := by
  rw [step, h]

/-- Settles O1: the command in front is what `step` takes. -/
theorem stepRunsFrontCommand : Obligations.StepRunsFrontCommand :=
  fun _ _ _ => step_of_pending rfl

/-- Settles O2: the empty queue is the first arm of `step`. -/
theorem emptyQueueIdles : Obligations.EmptyQueueIdles :=
  fun _ => step_of_idle

/-- Settles O3, by the frame of every command. -/
theorem commandsLeaveQueue : Obligations.CommandsLeaveQueue :=
  fun c s _ e => (exec_pending c s).of_next e

/-! ### The stores after reset (R22, R404, R411) -/

/-- Settles O9: the key records, the mailbox buffer and the fence regions of a shipped module stand in order, and the provisioning block holds
its 32 credentials and 16 rules. -/
theorem resetStoresAreCanonical : Obligations.ResetStoresAreCanonical :=
  ⟨by decide, by decide, by decide, by decide, by decide⟩

/-! ### NQ_POP (R37, R476, R488, R499) -/

theorem execNqPop_empty {s : State} (up : s.hl.link0.up = true) (none_waits : s.nq.queue = []) :
    execNqPop s = .next (send (.readData 0x3000 0) { s with nq := { s.nq with seq := 0, tick := 0, arg := 0 } }) := by
  rw [execNqPop, viaPf0_up up, none_waits]

theorem execNqPop_first {s : State} {n : Notice} {q : List Notice} (up : s.hl.link0.up = true) (first : s.nq.queue = n :: q) :
    execNqPop s = .next (send (.readData 0x3000 n.word) { s with
      nq := { s.nq with queue := q, seq := n.seq, tick := (noticeTickArg s n).1, arg := (noticeTickArg s n).2 } }) := by
  rw [execNqPop, viaPf0_up up, first]

theorem send_open {s : State} (o : Output) (h : s.tm.exitStop = false) : send o s = { s with out := o :: s.out } := by
  simp [send, emit, h]

theorem send_stopped {s : State} (o : Output) (h : s.tm.exitStop = true) : send o s = { s with exitHeld := o :: s.exitHeld } := by
  simp [send, h]

/-- Settles O13: NQ_POP with no notice, with a first one, through open and stopped exits, and with host link 0 down. -/
theorem noticeReadTakesFirstInOrder : Obligations.NoticeReadTakesFirstInOrder :=
  ⟨fun _ => execNqPop_empty, fun _ _ _ => execNqPop_first, fun o _ => send_open o, fun o _ => send_stopped o, fun _ => viaPf0_down⟩

end Sys2Proof.Machine
end

section
/-!
PROOFS. The commands and functions that complete and leave the stores as they are: the key records, the mailbox buffer, the fence regions,
and the numbers of credentials and quorum rules.
-/
namespace Sys2Proof.Machine
open Sys2Proof

/-! ### The shapes the meanings are written in -/

section
variable {α β σ : Type} {s t u : State} {P : State → Prop}

/-- The command answers a next state, and that has the property. -/
def Completes (P : State → Prop) (r : Res) : Prop := ∃ t, r = .next t ∧ P t

@[simp] theorem completes_next : Completes P (.next t) ↔ P t :=
  ⟨fun ⟨_, e, h⟩ => Host.Outcome.next.inj e ▸ h, fun h => ⟨t, rfl, h⟩⟩

@[simp] theorem completes_noEvent : Completes P (noEvent s) ↔ P s := completes_next

@[simp] theorem completes_ite {c : Prop} [Decidable c] {a b : Res} :
    Completes P (if c then a else b) ↔ if c then Completes P a else Completes P b := by
  split <;> rfl

@[simp] theorem completes_whenOk {c : Bool} : Completes P (whenOk c s t) ↔ if c then P t else P s := by
  unfold whenOk
  split <;> simp

@[simp] theorem completes_viaPf0 {r : Res} : Completes P (viaPf0 s r) ↔ if s.hl.link0.up then Completes P r else P s := by
  unfold viaPf0
  split <;> simp

/-- `t` has the key records, the mailbox's command buffer and the fence regions of `s`, and as many credentials and quorum rules. -/
@[simp] abbrev SameStores (s t : State) : Prop :=
  t.ks.recs = s.ks.recs ∧ t.mb.cmdBuf = s.mb.cmdBuf ∧ t.fn.regions = s.fn.regions ∧ t.prov.creds.length = s.prov.creds.length ∧
    t.prov.rules.length = s.prov.rules.length

theorem SameStores.rfl : SameStores s s := ⟨Eq.refl _, Eq.refl _, Eq.refl _, Eq.refl _, Eq.refl _⟩

theorem SameStores.trans (h : SameStores s t) (k : SameStores t u) : SameStores s u :=
  ⟨k.1.trans h.1, k.2.1.trans h.2.1, k.2.2.1.trans h.2.2.1, k.2.2.2.1.trans h.2.2.2.1, k.2.2.2.2.trans h.2.2.2.2⟩

@[simp] theorem ite_stores {c : Prop} [Decidable c] {a b : State} :
    (if c then a else b).ks.recs = (if c then a.ks.recs else b.ks.recs) ∧
    (if c then a else b).mb.cmdBuf = (if c then a.mb.cmdBuf else b.mb.cmdBuf) ∧
    (if c then a else b).fn.regions = (if c then a.fn.regions else b.fn.regions) ∧
    (if c then a else b).prov.creds.length = (if c then a.prov.creds.length else b.prov.creds.length) ∧
    (if c then a else b).prov.rules.length = (if c then a.prov.rules.length else b.prov.rules.length) := by
  split <;> exact SameStores.rfl

@[simp] theorem ite_fst_stores {c : Prop} [Decidable c] {a b : State × β} :
    (if c then a else b).1.ks.recs = (if c then a.1.ks.recs else b.1.ks.recs) ∧
    (if c then a else b).1.mb.cmdBuf = (if c then a.1.mb.cmdBuf else b.1.mb.cmdBuf) ∧
    (if c then a else b).1.fn.regions = (if c then a.1.fn.regions else b.1.fn.regions) ∧
    (if c then a else b).1.prov.creds.length = (if c then a.1.prov.creds.length else b.1.prov.creds.length) ∧
    (if c then a else b).1.prov.rules.length = (if c then a.1.prov.rules.length else b.1.prov.rules.length) := by
  split <;> exact SameStores.rfl

@[simp] theorem ite_snd_stores {c : Prop} [Decidable c] {a b : β × State} :
    (if c then a else b).2.ks.recs = (if c then a.2.ks.recs else b.2.ks.recs) ∧
    (if c then a else b).2.mb.cmdBuf = (if c then a.2.mb.cmdBuf else b.2.mb.cmdBuf) ∧
    (if c then a else b).2.fn.regions = (if c then a.2.fn.regions else b.2.fn.regions) ∧
    (if c then a else b).2.prov.creds.length = (if c then a.2.prov.creds.length else b.2.prov.creds.length) ∧
    (if c then a else b).2.prov.rules.length = (if c then a.2.prov.rules.length else b.2.prov.rules.length) := by
  split <;> exact SameStores.rfl

@[simp] theorem elim_stores {o : Option α} {f : α → State} (h : ∀ a, SameStores s (f a)) : SameStores s (o.elim s f) := by
  cases o with
  | none => exact .rfl
  | some a => exact h a

theorem getD_stores {o : Option State} (h : ∀ u, o = some u → SameStores s u) (hd : SameStores s t) : SameStores s (o.getD t) := by
  cases o with
  | none => exact hd
  | some u => exact h u rfl

/-- What a fold carries besides the state does not matter to the stores. -/
theorem foldl_part_stores (g : σ → State) {f : σ → α → σ} (h : ∀ x a, SameStores (g x) (g (f x a))) :
    ∀ (l : List α) (x : σ), SameStores (g x) (g (l.foldl f x))
  | [], _ => .rfl
  | a :: l, x => (h x a).trans (foldl_part_stores g h l (f x a))

@[simp] theorem foldl_stores {f : State → α → State} (h : ∀ s a, SameStores s (f s a)) (l : List α) (s : State) :
    SameStores s (l.foldl f s) :=
  foldl_part_stores id h l s

@[simp] theorem foldl_fst_stores {f : State × β → α → State × β} (h : ∀ q a, SameStores q.1 (f q a).1) (l : List α) (q : State × β) :
    SameStores q.1 (l.foldl f q).1 :=
  foldl_part_stores (·.1) h l q

@[simp] theorem foldl_snd_stores {f : β × State → α → β × State} (h : ∀ q a, SameStores q.2 (f q a).2) (l : List α) (q : β × State) :
    SameStores q.2 (l.foldl f q).2 :=
  foldl_part_stores (·.2) h l q

end

/-! ### Stages of the mailbox, domains, answers and fences -/

@[simp] theorem arm_stores (k : Nat) (s : State) : SameStores s (arm k s) := .rfl

@[simp] theorem setStage_stores (g : CmdStage) (s : State) : SameStores s (setStage g s) := .rfl

@[simp] theorem setLong_stores (id status detail : Nat) (s : State) : SameStores s (setLong id status detail s) := .rfl

@[simp] theorem setDom_stores (d : Nat) (e : Dom) (s : State) : SameStores s (setDom d e s) := .rfl

@[simp] theorem mbVector_stores (s : State) : SameStores s (mbVector s) := by
  unfold mbVector
  split <;> simp

@[simp] theorem outWrite_stores (addr : Nat) (d : List Byte) (s : State) : SameStores s (outWrite addr d s) := by
  unfold outWrite
  simp

@[simp] theorem fenceReport_stores (a : Access) (master : Nat) (b : Blocked) (locked : Bool) (s : State) :
    SameStores s (fenceReport a master b locked s) := by
  simp [fenceReport]

@[simp] theorem hcFence_stores (kind addr len : Nat) (s : State) : SameStores s (hcFence kind addr len s).2 := by
  unfold hcFence
  dsimp only
  (repeat' split) <;> simp

@[simp] theorem respondRelayed_stores (f : Frame) (status detail tick : Nat) (payload : List Byte) (s : State) :
    SameStores s (respondRelayed f status detail tick payload s) := by
  simp [respondRelayed]

@[simp] theorem respond_stores (status detail tick : Nat) (payload : List Byte) (s : State) :
    SameStores s (respond status detail tick payload s) := by
  unfold respond
  dsimp only
  (repeat' split) <;> simp

/-! ### Machine/Ops -/

@[simp] theorem raiseMsix_stores {put : Output → State → State} (hput : ∀ o s, SameStores s (put o s)) (fn : Nat)
    (pasid : Option Nat) (vec : Nat) (s : State) : SameStores s (raiseMsix put fn pasid vec s) := by
  unfold raiseMsix
  dsimp only
  split
  · exact .rfl
  · exact hput _ _

@[simp] theorem readHost_stores (link : Nat) (pasid : Option Nat) (addr len : Nat) (s : State) :
    SameStores s (readHost link pasid addr len s) := by simp [readHost]

@[simp] theorem writeHost_stores (link : Nat) (pasid : Option Nat) (relaxed : Bool) (addr : Nat) (d : List Byte) (s : State) :
    SameStores s (writeHost link pasid relaxed addr d s) := by simp [writeHost]

/-! ### Machine/Records -/

@[simp] theorem programRec_stores (r : Rec) (s : State) : SameStores s (programRec r s) := by
  unfold programRec
  dsimp only
  (repeat' split) <;> simp

@[simp] theorem execRecordFlush_stores (seq : Nat) (s : State) : Completes (SameStores s) (execRecordFlush seq s) := by
  unfold execRecordFlush
  split <;> simp

@[simp] theorem execRecordCloseTimeout_stores (seq : Nat) (s : State) : Completes (SameStores s) (execRecordCloseTimeout seq s) := by
  unfold execRecordCloseTimeout
  split <;> simp

@[simp] theorem execRecordStagingRoom_stores (s : State) : Completes (SameStores s) (execRecordStagingRoom s) := by
  simp [execRecordStagingRoom]

@[simp] theorem refreshRegime_stores (s : State) : SameStores s (refreshRegime s) := by simp [refreshRegime]

@[simp] theorem execEvSnapTake_stores (s : State) : Completes (SameStores s) (execEvSnapTake s) := by simp [execEvSnapTake]

@[simp] theorem execEvGo_stores (value : Nat) (s : State) : Completes (SameStores s) (execEvGo value s) := by simp [execEvGo]

@[simp] theorem execNqPop_stores (s : State) : Completes (SameStores s) (execNqPop s) := by
  unfold execNqPop
  split <;> simp

/-! ### Machine/Evidence -/

@[simp] theorem evidProgram_stores (e : Evid) (s : State) : SameStores s (evidProgram e s) := by simp [evidProgram]

@[simp] theorem evidAppend_stores (e : Evid) (s : State) : SameStores s (evidAppend e s) := by simp [evidAppend]

@[simp] theorem tmLast_stores (cls source inst : Nat) (split : Bool) (s : State) : SameStores s (tmLast cls source inst split s) := by
  simp [tmLast]

@[simp] theorem tamperReport_stores (cls : Nat) (split : Bool) (seq : Nat) (s : State) : SameStores s (tamperReport cls split seq s) := by
  simp [tamperReport]

/-! ### Machine/KeyStore -/

@[simp] theorem bump_stores (level child : Nat) (s : State) : SameStores s (bump level child s).2 := by simp [bump]

@[simp] theorem bumpTree_stores (i : Nat) (s : State) : SameStores s (bumpTree i s).2 := by simp [bumpTree]

@[simp] theorem journal_stores (tick kind nrec fmt index : Nat) (payload : List Byte) (s : State) :
    SameStores s (journal tick kind nrec fmt index payload s) := by simp [journal]

@[simp] theorem writeSlot_stores (changeSeq : Nat) (chain : List Byte) (s : State) : SameStores s (writeSlot changeSeq chain s) := by
  simp [writeSlot]

/-! ### Machine/Exits -/

@[simp] theorem lanesStopPoint_stores (s : State) : SameStores s (lanesStopPoint s) := by simp [lanesStopPoint]

@[simp] theorem laneTakes_stores (c : Nat) : ∀ (l : List Nat) (s : State),
    SameStores s (laneTakes c l s).2
  | [], _ => .rfl
  | n :: l, s => by simp [laneTakes, laneTakes_stores c l]

@[simp] theorem laneOut_stores (p sub inB bytes : Nat) (o : Output) (m : Option OutMsg) (s : State) :
    SameStores s (laneOut p sub inB bytes o m s) := by
  unfold laneOut
  dsimp only
  (repeat' split) <;> simp

/-! ### Machine/GroupBase -/

@[simp] theorem joinFrame_stores (m type : Nat) (payload : List Byte) (s : State) : SameStores s (joinFrame m type payload s) := by
  simp [joinFrame]

@[simp] theorem drawIdentity_stores (s : State) : SameStores s (drawIdentity s) := by
  unfold drawIdentity
  split <;> simp

@[simp] theorem sendHello_stores (restarted : Bool) (s : State) : SameStores s (sendHello restarted s) := by simp [sendHello]

@[simp] theorem sendLockout_stores (i until_ : Nat) (s : State) : SameStores s (sendLockout i until_ s) := by simp [sendLockout]

@[simp] theorem sendStop_stores (m b idx mode : Nat) (s : State) : SameStores s (sendStop m b idx mode s) := by simp [sendStop]

@[simp] theorem dropAway_stores (b idx : Nat) (s : State) : SameStores s (dropAway b idx s) := by simp [dropAway]

/-! ### Machine/UnitBase -/

@[simp] theorem scorePk_stores (u : Nat) (s : State) : SameStores s (scorePk u s) := by simp [scorePk]

@[simp] theorem giveCtl_stores (u : Nat) (c : PkCtl) (s : State) : SameStores s (giveCtl u c s) := by simp [giveCtl]

@[simp] theorem giveBlock_stores (b : SigBlock) (s : State) : SameStores s (giveBlock b s) := by
  unfold giveBlock
  split <;> simp

/-! ### Machine/Mailbox -/

@[simp] theorem respondAt_stores (k : Nat) (payload : List Byte) (s : State) : SameStores s (respondAt k payload s) := by simp [respondAt]

@[simp] theorem answerPoint_stores (s : State) : SameStores s (answerPoint s) := by
  unfold answerPoint
  split <;> simp

@[simp] theorem gateEntry_stores (h : Held) (s : State) : SameStores s (gateEntry h s).2.2 := by
  unfold gateEntry
  dsimp only
  (repeat' split) <;> simp

@[simp] theorem giveBlocks_stores (f : Frame) (s : State) : SameStores s (giveBlocks f s) := by simp [giveBlocks]

theorem stores_of_gateEntry {h k : Held} {s t : State} {o : Option (Nat × Nat)} (hq : gateEntry h s = (o, k, t)) : SameStores s t := by
  have hgate := gateEntry_stores h s
  rwa [hq] at hgate

@[simp] theorem enterGate_stores (h : Held) (s : State) : SameStores s (enterGate h s) := by
  unfold enterGate
  split
  all_goals
    next hq =>
      have hgate := stores_of_gateEntry hq
      simp only [SameStores] at hgate
      simp [hgate]

@[simp] theorem takeBody_stores (h : Held) (body : List Byte) (s : State) : SameStores s (takeBody h body s) := by
  unfold takeBody
  split <;> simp

@[simp] theorem runFrame_stores (h : Held) (s : State) : SameStores s (runFrame h s) := by
  unfold runFrame
  dsimp only
  (repeat' split) <;> simp

@[simp] theorem execMbCmdSubmit_stores (value : Nat) (s : State) : Completes (SameStores s) (execMbCmdSubmit value s) := by
  simp [execMbCmdSubmit]

@[simp] theorem resumeWaiting_stores (s : State) : SameStores s (resumeWaiting s) := by
  unfold resumeWaiting
  split <;> simp

@[simp] theorem execMbBodyReadDone_stores (r : ReadResult) (s : State) : Completes (SameStores s) (execMbBodyReadDone r s) := by
  unfold execMbBodyReadDone
  (repeat' split) <;> simp

@[simp] theorem execMbRspAck_stores (tag : Nat) (s : State) : Completes (SameStores s) (execMbRspAck tag s) := by simp [execMbRspAck]

theorem withCmd_stores {code : Nat} {s : State} {f : Held → List Byte → State → State} (h : ∀ k p, SameStores s (f k p s)) :
    Completes (SameStores s) (withCmd code s f) := by
  simp only [SameStores] at h
  unfold withCmd
  (repeat' split) <;> simp [h]

@[simp] theorem echoCmd_stores (h : Held) (p : List Byte) (s : State) : SameStores s (echoCmd h p s) := by simp [echoCmd]

@[simp] theorem execEcho_stores (s : State) : Completes (SameStores s) (execEcho s) :=
  withCmd_stores (fun h p => by simp)

@[simp] theorem cmdStatusCmd_stores (h : Held) (p : List Byte) (s : State) : SameStores s (cmdStatusCmd h p s) := by
  unfold cmdStatusCmd
  split <;> simp

@[simp] theorem execCmdStatus_stores (s : State) : Completes (SameStores s) (execCmdStatus s) :=
  withCmd_stores (fun h p => by simp)

@[simp] theorem beginLong_stores (code : Nat) (data : List Byte) (s : State) : SameStores s (beginLong code data s).2 := by
  simp [beginLong]

@[simp] theorem credEnrolCmd_stores (h : Held) (p : List Byte) (s : State) : SameStores s (credEnrolCmd h p s) := by simp [credEnrolCmd]

@[simp] theorem execCredEnrol_stores (s : State) : Completes (SameStores s) (execCredEnrol s) :=
  withCmd_stores (fun h p => by simp)

@[simp] theorem credRevokeCmd_stores (h : Held) (p : List Byte) (s : State) : SameStores s (credRevokeCmd h p s) := by
  simp [credRevokeCmd, listMod]

@[simp] theorem execCredRevoke_stores (s : State) : Completes (SameStores s) (execCredRevoke s) :=
  withCmd_stores (fun h p => by simp)

@[simp] theorem credListCmd_stores (h : Held) (k : List Byte) (s : State) : SameStores s (credListCmd h k s) := by simp [credListCmd]

@[simp] theorem execCredList_stores (s : State) : Completes (SameStores s) (execCredList s) :=
  withCmd_stores (fun h p => by simp)

@[simp] theorem quorumGetCmd_stores (h : Held) (k : List Byte) (s : State) : SameStores s (quorumGetCmd h k s) := by simp [quorumGetCmd]

@[simp] theorem execQuorumGet_stores (s : State) : Completes (SameStores s) (execQuorumGet s) :=
  withCmd_stores (fun h p => by simp)

@[simp] theorem credSealCmd_stores (h : Held) (k : List Byte) (s : State) : SameStores s (credSealCmd h k s) := by simp [credSealCmd]

@[simp] theorem execCredSeal_stores (s : State) : Completes (SameStores s) (execCredSeal s) :=
  withCmd_stores (fun h p => by simp)

/-! ### Machine/Erase -/

@[simp] theorem refreshCons_stores (s : State) : SameStores s (refreshCons s) := by simp [refreshCons]

@[simp] theorem closeTrace_stores (s : State) : SameStores s (closeTrace s) := by simp [closeTrace]

@[simp] theorem eraseTrace_stores (s : State) : SameStores s (eraseTrace s) := by simp [eraseTrace]

@[simp] theorem eraseRoot_stores (s : State) : SameStores s (eraseRoot s) := by simp [eraseRoot]

@[simp] theorem eraseLimits_stores (s : State) : SameStores s (eraseLimits s) := by simp [eraseLimits]

@[simp] theorem eraseEdges_stores (s : State) : SameStores s (eraseEdges s) := by simp [eraseEdges]

@[simp] theorem disarm_stores (s : State) : SameStores s (disarm s) := by simp [disarm]

/-! ### Machine/Transition -/

@[simp] theorem undoAction_stores (a : LcAction) (s : State) : SameStores s (undoAction a s) := by
  unfold undoAction
  split <;> simp

@[simp] theorem writeIntent_stores (target : Lc) (causeKind cause : Nat) (s : State) :
    SameStores s (writeIntent target causeKind cause s) := by simp [writeIntent]

@[simp] theorem afterCommit_stores (t : Lc) (s : State) : SameStores s (afterCommit t s) := by
  unfold afterCommit
  split <;> simp

@[simp] theorem commitTransition_stores (s : State) : SameStores s (commitTransition s) := by
  unfold commitTransition
  dsimp only
  (repeat' split) <;> simp

@[simp] theorem beginTransition_stores (target : Lc) (causeKind cause : Nat) (s : State) :
    SameStores s (beginTransition target causeKind cause s) := by simp [beginTransition]

@[simp] theorem undoOpening_stores (s : State) : SameStores s (undoOpening s) := by
  unfold undoOpening
  dsimp only
  split <;> simp [-List.foldl_reverse]

@[simp] theorem lockDue_stores (s : State) : SameStores s (lockDue s) := by
  unfold lockDue
  split <;> simp

/-! ### Machine/Responses -/

@[simp] theorem releaseExits_stores (keep : Bool) (s : State) : SameStores s (releaseExits keep s) := by
  unfold releaseExits
  dsimp only
  (repeat' split) <;> simp

@[simp] theorem lockHeld_stores (s : State) : SameStores s (lockHeld s) := by
  unfold lockHeld
  split <;> simp

@[simp] theorem lockResponse_stores (cause : Nat) (s : State) : SameStores s (lockResponse cause s) := by simp [lockResponse]

@[simp] theorem restartQps_stores (which : Nat → Bool) (s : State) : SameStores s (restartQps which s) := by simp [restartQps]

@[simp] theorem resetAnswer_stores (s : State) : SameStores s (resetAnswer s) := by simp [resetAnswer]

@[simp] theorem endResets_stores (s : State) : SameStores s (endResets s) := by simp [endResets]

@[simp] theorem flushStaging_stores (s : State) : SameStores s (flushStaging s) := by simp [flushStaging]

@[simp] theorem lockClass_stores (source detail : Nat) (s : State) : SameStores s (lockClass source detail s) := by simp [lockClass]

@[simp] theorem egressStop_stores (func version exit_ : Nat) (s : State) : SameStores s (egressStop func version exit_ s) := by
  simp [egressStop]

/-! ### Machine/Egress -/

@[simp] theorem dropWork_stores (id : Nat) (s : State) : SameStores s (dropWork id s) := by
  unfold dropWork
  split <;> simp

@[simp] theorem addWork_stores (w : Work) (s : State) : SameStores s (addWork w s) := by simp [addWork]

@[simp] theorem countStatus_stores (st : Nat) (s : State) : SameStores s (countStatus st s) := by simp [countStatus]

@[simp] theorem qpVector_stores (n : Nat) (s : State) : SameStores s (qpVector n s) := by simp [qpVector]

@[simp] theorem writeEntry_stores (n : Nat) (c : Cpl) (ngran : Nat) (s : State) : SameStores s (writeEntry n c ngran s) := by
  simp [writeEntry]

@[simp] theorem writeCpl_stores (n : Nat) (c : Cpl) (s : State) : SameStores s (writeCpl n c s) := by simp [writeCpl]

@[simp] theorem discardCpl_stores (n seq : Nat) (s : State) : SameStores s (discardCpl n seq s) := by simp [discardCpl]

@[simp] theorem deliver_stores (n : Nat) (c : Cpl) (s : State) : SameStores s (deliver n c s) := by simp [deliver]

@[simp] theorem completeQueue_stores (w : Work) (n seq : Nat) (raised ticks : Nat) (r : FnRes) (wrote : Option Nat) (s : State) :
    SameStores s (completeQueue w n seq raised ticks r wrote s) := by simp [completeQueue]

@[simp] theorem completeBatch_stores (id : Nat) (n seq : Nat) (w : Work) (b : Batch) (s : State) :
    SameStores s (completeBatch id n seq w b s) := by simp [completeBatch]

/-! ### Machine/KeyBase -/

@[simp] theorem evict_stores (s : State) : SameStores s (evict s) := by
  unfold evict
  dsimp only
  (repeat' split) <;> simp

@[simp] theorem touch_stores (i : Nat) (s : State) : SameStores s (touch i s) := by simp [touch]

@[simp] theorem touchNode_stores (i : Nat) (s : State) : SameStores s (touchNode i s) := by simp [touchNode]

@[simp] theorem failWhere_stores (p : Nat → Bool) (s : State) : SameStores s (failWhere p s) := by simp [failWhere]

@[simp] theorem failReads_stores (is : List Nat) (s : State) : SameStores s (failReads is s) := by simp [failReads]

@[simp] theorem storeFailed_stores (s : State) : SameStores s (storeFailed s) := by simp [storeFailed]

@[simp] theorem quarantine_stores (i : Nat) (node : Bool) (s : State) : SameStores s (quarantine i node s) := by simp [quarantine]

@[simp] theorem rewriteRecord_stores (i : Nat) (s : State) : SameStores s (rewriteRecord i s) := by simp [rewriteRecord]

@[simp] theorem recordRead_stores (i : Nat) (e : FetchEnd) (s : State) : SameStores s (recordRead i e s) := by
  unfold recordRead
  split <;> simp

@[simp] theorem execKeyFetchDone_stores (i : Nat) (e : FetchEnd) (s : State) : Completes (SameStores s) (execKeyFetchDone i e s) := by
  unfold execKeyFetchDone
  dsimp only
  (repeat' split) <;> simp

@[simp] theorem execKeystoreScrub_stores (a b c d : FetchEnd) (s : State) : Completes (SameStores s) (execKeystoreScrub a b c d s) := by
  simp [execKeystoreScrub]

@[simp] theorem handOver_stores (id : Nat) (k : ChangeKind) (s : State) : SameStores s (handOver id k s) := by
  unfold handOver
  split <;> simp

@[simp] theorem placeKey_stores (id d : Nat) (p : List Byte) (k : NewKey) (s : State) : SameStores s (placeKey id d p k s).2 := by
  unfold placeKey
  split <;> simp

@[simp] theorem copyAgain_stores (i : Nat) (s : State) : SameStores s (copyAgain i s) := by simp [copyAgain]

@[simp] theorem stampWork_stores (c : Change) (s : State) : SameStores s (stampWork c s) := by
  unfold stampWork
  dsimp only
  (repeat' split) <;> simp

@[simp] theorem applyDomains_stores (s : State) : SameStores s (applyDomains s) := by simp [applyDomains]

/-! ### Machine/FnTable -/

@[simp] theorem withKeys_stores {d : Nat} {ks : List (Nat × KeyRead × Bool × Bool)} {s : State} {k : Unit → StepRes × State}
    (hk : SameStores s (k ()).2) : SameStores s (withKeys d ks s k).2 := by
  unfold withKeys
  split
  · exact .rfl
  · exact hk

@[simp] theorem drawBytes_stores (n : Nat) (s : State) : SameStores s (drawBytes n s).2 := by simp [drawBytes]

/-! ### Machine/KeyFns -/

@[simp] theorem importBlock_stores (id d : Nat) (p : List Byte) (kbpk : KRec) (block : List Byte) (s : State) :
    SameStores s (importBlock id d p kbpk block s).2 := by
  unfold importBlock
  dsimp only
  (repeat' split) <;> simp

@[simp] theorem runImport_stores (id : Nat) (w : Work) (s : State) : SameStores s (runImport id w s).2 := by simp [runImport]

@[simp] theorem runExport_stores (w : Work) (s : State) : SameStores s (runExport w s).2 := by simp [runExport]

@[simp] theorem drawKey_stores (t n : Nat) (s : State) : SameStores s (drawKey t n s).2 := by simp [drawKey]

@[simp] theorem runGenerate_stores (id : Nat) (w : Work) (s : State) : SameStores s (runGenerate id w s).2 := by simp [runGenerate]

@[simp] theorem genSteps_stores (t : Nat) (s : State) : SameStores s (genSteps t s).2 := by
  unfold genSteps
  split <;> simp

@[simp] theorem runGenPair_stores (id : Nat) (w : Work) (s : State) : SameStores s (runGenPair id w s).2 := by simp [runGenPair]

@[simp] theorem runAgree_stores (id : Nat) (w : Work) (s : State) : SameStores s (runAgree id w s).2 := by
  unfold runAgree
  dsimp only
  (repeat' split) <;> simp

@[simp] theorem runDelete_stores (id : Nat) (w : Work) (s : State) : SameStores s (runDelete id w s).2 := by
  unfold runDelete
  split <;> simp

@[simp] theorem runQuery_stores (w : Work) (s : State) : SameStores s (runQuery w s).2 := by
  unfold runQuery
  split <;> simp

@[simp] theorem runRestrict_stores (id : Nat) (w : Work) (s : State) : SameStores s (runRestrict id w s).2 := by
  unfold runRestrict
  split <;> simp

@[simp] theorem runPin_stores (id : Nat) (w : Work) (s : State) : SameStores s (runPin id w s).2 := by simp [runPin]

@[simp] theorem runClearLoad_stores (id : Nat) (w : Work) (s : State) : SameStores s (runClearLoad id w s).2 := by simp [runClearLoad]

@[simp] theorem runPublic_stores (w : Work) (s : State) : SameStores s (runPublic w s).2 := by simp [runPublic]

@[simp] theorem runKeyFn_stores (id : Nat) (w : Work) (s : State) : SameStores s (runKeyFn id w s).2 := by
  unfold runKeyFn
  (repeat' split) <;> simp

/-! ### Machine/Limiter -/

@[simp] theorem limUse_stores (w : Work) (s : State) : SameStores s (limUse w s) := by
  unfold limUse
  split <;> simp

@[simp] theorem limFullNotice_stores (w : Work) (s : State) : SameStores s (limFullNotice w s) := by
  unfold limFullNotice
  split <;> simp

@[simp] theorem suspend_stores (i windows : Nat) (s : State) : SameStores s (suspend i windows s) := by simp [suspend]

@[simp] theorem limFail_stores (i : Nat) (s : State) : SameStores s (limFail i s) := by simp [limFail]

@[simp] theorem guardCount_stores (g : Nat) (failed : Bool) (s : State) : SameStores s (guardCount g failed s) := by simp [guardCount]

@[simp] theorem limResult_stores (w : Work) (st : Nat) (s : State) : SameStores s (limResult w st s) := by
  unfold limResult
  dsimp only
  (repeat' split) <;> simp

@[simp] theorem execLimiterSecondDecision_stores (i : Nat) (fault : Bool) (s : State) :
    Completes (SameStores s) (execLimiterSecondDecision i fault s) := by
  unfold execLimiterSecondDecision
  dsimp only
  (repeat' split) <;> simp

@[simp] theorem windowBoundary_stores (s : State) : SameStores s (windowBoundary s) := by simp [windowBoundary]

@[simp] theorem execLimiterWindowBoundary_stores (s : State) : Completes (SameStores s) (execLimiterWindowBoundary s) := by
  simp [execLimiterWindowBoundary]

@[simp] theorem endLock_stores (i : Nat) (s : State) : SameStores s (endLock i s) := by simp [endLock]

@[simp] theorem execLimiterLockoutEnd_stores (i : Nat) (s : State) : Completes (SameStores s) (execLimiterLockoutEnd i s) := by
  unfold execLimiterLockoutEnd
  split <;> simp

@[simp] theorem limitQueryCmd_stores (h : Held) (p : List Byte) (s : State) : SameStores s (limitQueryCmd h p s) := by simp [limitQueryCmd]

@[simp] theorem execLimitQuery_stores (s : State) : Completes (SameStores s) (execLimitQuery s) :=
  withCmd_stores (fun h p => by simp)

@[simp] theorem limitClearCmd_stores (h : Held) (p : List Byte) (s : State) : SameStores s (limitClearCmd h p s) := by
  unfold limitClearCmd
  dsimp only
  (repeat' split) <;> simp

@[simp] theorem execLimitClear_stores (s : State) : Completes (SameStores s) (execLimitClear s) :=
  withCmd_stores (fun h p => by simp)

@[simp] theorem pinPolicySetCmd_stores (h : Held) (p : List Byte) (s : State) : SameStores s (pinPolicySetCmd h p s) := by
  simp [pinPolicySetCmd]

@[simp] theorem execPinPolicySet_stores (s : State) : Completes (SameStores s) (execPinPolicySet s) :=
  withCmd_stores (fun h p => by simp)

@[simp] theorem limiterPoint_stores (s : State) : SameStores s (limiterPoint s) := by
  unfold limiterPoint
  split <;> simp

/-! ### Machine/PinFns -/

@[simp] theorem drawPin_stores (len : Nat) (s : State) : SameStores s (drawPin len s).2 := by simp [drawPin]

@[simp] theorem translate_stores (i : PinIn) (key key1 : List Byte) (s : State) : SameStores s (translate i key key1 s).2 := by
  unfold translate
  split <;> simp

@[simp] theorem generatePin_stores (i : PinIn) (key pvk : List Byte) (d : DecTab) (s : State) :
    SameStores s (generatePin i key pvk d s).2 := by simp [generatePin]

@[simp] theorem runPinFn_stores (w : Work) (s : State) : SameStores s (runPinFn w s).2 := by
  unfold runPinFn
  refine withKeys_stores ?_
  dsimp only
  split <;> simp

@[simp] theorem runCardFn_stores (w : Work) (s : State) : SameStores s (runCardFn w s).2 := by simp [runCardFn]

/-! ### Machine/CryptoFns -/

@[simp] theorem runEmvFn_stores (w : Work) (s : State) : SameStores s (runEmvFn w s).2 := by
  unfold runEmvFn
  dsimp only
  (repeat' split) <;> simp

@[simp] theorem runMacFn_stores (w : Work) (s : State) : SameStores s (runMacFn w s).2 := by simp [runMacFn]

@[simp] theorem runTokenFn_stores (w : Work) (s : State) : SameStores s (runTokenFn w s).2 := by
  unfold runTokenFn
  dsimp only
  (repeat' split) <;> simp

@[simp] theorem p2peSeal_stores (p : List Byte) (zone : List Byte) (d : List Byte) (s : State) : SameStores s (p2peSeal p zone d s).2 := by
  simp [p2peSeal]

@[simp] theorem runP2peFn_stores (w : Work) (s : State) : SameStores s (runP2peFn w s).2 := by
  unfold runP2peFn
  dsimp only
  (repeat' split) <;> simp

/-! ### Machine/PkBase -/

@[simp] theorem pkAssign_stores (id u : Nat) (s : State) : SameStores s (pkAssign id u s) := by
  unfold pkAssign
  split <;> simp

@[simp] theorem pkGrant_stores (id : Nat) (s : State) : SameStores s (pkGrant id s) := by
  unfold pkGrant
  (repeat' split) <;> simp

@[simp] theorem pkSteps_stores (f t : Nat) (s : State) : SameStores s (pkSteps f t s).2 := by
  unfold pkSteps
  split <;> simp

@[simp] theorem pkStart_stores (w : Work) (s : State) : SameStores s (pkStart w s).2 := by
  unfold pkStart
  dsimp only
  (repeat' split) <;> simp

/-! ### Machine/Functions -/

@[simp] theorem runProg_stores (w : Work) (s : State) : SameStores s (runProg w s).2 := by
  unfold runProg
  split <;> simp

@[simp] theorem runBody_stores (id : Nat) (w : Work) (s : State) : SameStores s (runBody id w s).2 := by
  unfold runBody
  (repeat' split) <;> simp

@[simp] theorem runFn_stores (id : Nat) (w : Work) (s : State) : SameStores s (runFn id w s).2 := by
  unfold runFn
  dsimp only
  (repeat' split) <;> simp

@[simp] theorem runChainFn_stores (id mid : Nat) (w : Work) (plan : ChainPlan) (k : Nat) (s : State) :
    SameStores s (runChainFn id mid w plan k s) := by
  unfold runChainFn
  dsimp only
  (repeat' split) <;> simp

@[simp] theorem runChainStep_stores (id mid : Nat) (w : Work) (plan : ChainPlan) (s : State) :
    SameStores s (runChainStep id mid w plan s).2 := by
  unfold runChainStep
  dsimp only
  (repeat' split) <;> simp

@[simp] theorem runStep_stores (id : Nat) (s : State) : SameStores s (runStep id s).2 := by
  unfold runStep
  (repeat' split) <;> simp

/-! ### Machine/Costs -/

@[simp] theorem askWake_stores (s : State) : SameStores s (askWake s) := by simp [askWake]

@[simp] theorem refreshPool_stores (s : State) : SameStores s (refreshPool s) := by simp [refreshPool]

@[simp] theorem commitCal_stores (key : Nat) (s : State) : SameStores s (commitCal key s) := by simp [commitCal]

@[simp] theorem calPoint_stores (s : State) : SameStores s (calPoint s) := by simp [calPoint]

@[simp] theorem uncalibrate_stores (hit : Nat → Bool) (s : State) : SameStores s (uncalibrate hit s) := by simp [uncalibrate]

@[simp] theorem vendorPoint_stores (s : State) : SameStores s (vendorPoint s) := by simp [vendorPoint]

@[simp] theorem calibrate_stores (func cycles misses wait : Nat) (s : State) : SameStores s (calibrate func cycles misses wait s) := by
  simp [calibrate]

@[simp] theorem loadBandPoint_stores (s : State) : SameStores s (loadBandPoint s) := by simp [loadBandPoint]

@[simp] theorem powerFault_stores (s : State) : SameStores s (powerFault s) := by simp [powerFault]

@[simp] theorem execPowerSample_stores (mv ma : Int) (s : State) : Completes (SameStores s) (execPowerSample mv ma s) := by
  simp [execPowerSample]

@[simp] theorem powerAbsent_stores (s : State) : SameStores s (powerAbsent s) := by simp [powerAbsent]

/-! ### Machine/RandomBase -/

@[simp] theorem drbgCall_stores (i k : Nat) (s : State) : SameStores s (drbgCall i k s) := by simp [drbgCall]

@[simp] theorem instantiate_stores (i : Nat) (s : State) : SameStores s (instantiate i s) := by simp [instantiate]

@[simp] theorem instantiateAll_stores (s : State) : SameStores s (instantiateAll s) := by simp [instantiateAll]

@[simp] theorem reseed_stores (i : Nat) (s : State) : SameStores s (reseed i s) := by simp [reseed]

/-! ### Machine/House -/

@[simp] theorem raiseRetest_stores (e : Nat) (s : State) : SameStores s (raiseRetest e s) := by simp [raiseRetest]

@[simp] theorem startRetest_stores (e : Nat) (s : State) : SameStores s (startRetest e s) := by simp [startRetest]

@[simp] theorem runTask_stores (t : HkTask) (s : State) : SameStores s (runTask t s) := by
  unfold runTask
  dsimp only
  (repeat' split) <;> simp

@[simp] theorem grantTasks_stores (ts : List HkTask) (budget : Nat) (s : State) : SameStores s (grantTasks ts budget s).1 := by
  simp [grantTasks]

@[simp] theorem hkPass_stores (s : State) : SameStores s (hkPass s).1 := by simp [hkPass]

@[simp] theorem grantOverdue_stores (od : Bool) (pool : Nat) (s : State) : SameStores s (grantOverdue od pool s).1 := by
  simp [grantOverdue]

/-! ### Machine/Usage -/

@[simp] theorem countUsage_stores (id : Nat) (s : State) : SameStores s (countUsage id s) := by
  unfold countUsage
  dsimp only
  (repeat' split) <;> simp

/-! ### Machine/Grants -/

@[simp] theorem toBack_stores (id : Nat) (s : State) : SameStores s (toBack id s) := by simp [toBack]

@[simp] theorem hostPeak_stores (n : Nat) (s : State) : SameStores s (hostPeak n s) := by simp [hostPeak]

@[simp] theorem readChunk_stores (id : Nat) (s : State) : SameStores s (readChunk id s) := by
  unfold readChunk
  dsimp only
  (repeat' split) <;> simp

@[simp] theorem laneReads_stores (n : Nat) (s : State) : SameStores s (laneReads n s) := by
  unfold laneReads
  dsimp only
  (repeat' split) <;> simp

@[simp] theorem grantRandom_finish'_stores (id : Nat) (r : FnRes) (s : State) : SameStores s (grantRandom.finish' id r s) := by
  simp [grantRandom.finish']

@[simp] theorem grantRandom_stores (id : Nat) (w : Work) (s : State) : SameStores s (grantRandom id w s) := by simp [grantRandom]

@[simp] theorem grantPlace_stores (id : Nat) (w : Work) (place : Option Nat) (role : KRec → Bool) (s : State) :
    SameStores s (grantPlace id w place role s) := by
  unfold grantPlace
  dsimp only
  (repeat' split) <;> simp

@[simp] theorem grantUses_stores (id : Nat) (w : Work) (s : State) : SameStores s (grantUses id w s) := by simp [grantUses]

@[simp] theorem takeSignKey_stores (e : Nat) (s : State) : SameStores s (takeSignKey e s) := by
  unfold takeSignKey
  split <;> simp

/-! ### Machine/Requests -/

@[simp] theorem refund_stores (w : Work) (s : State) : SameStores s (refund w s) := by simp [refund]

@[simp] theorem finish_stores (id : Nat) (r : FnRes) (s : State) : SameStores s (finish id r s) := by
  unfold finish
  split <;> simp

@[simp] theorem laneEnd_stores (id : Nat) (r : FnRes) (s : State) : SameStores s (laneEnd id r s) := by
  unfold laneEnd
  split <;> simp

@[simp] theorem withdraw_stores (id status detail ticks : Nat) (s : State) : SameStores s (withdraw id status detail ticks s) := by
  unfold withdraw
  split <;> simp

@[simp] theorem failAtomic_stores (b : Batch) (s : State) : SameStores s (failAtomic b s).2 :=
  foldl_snd_stores (fun s a => by (repeat' split) <;> simp) _ _

@[simp] theorem writePart_stores (head : Option Work) (addr : Nat) (out : List Byte) (s : State) :
    SameStores s (writePart head addr out s) := by
  unfold writePart
  dsimp only
  (repeat' split) <;> simp

@[simp] theorem endPart_stores (id bid idx : Nat) (w : Work) (r : FnRes) (s : State) : SameStores s (endPart id bid idx w r s) := by
  unfold endPart
  split <;> simp

/-! ### Machine/Spread -/

@[simp] theorem readPart_stores (bid id c : Nat) (s : State) : SameStores s (readPart bid id c s) := by
  unfold readPart
  split <;> simp

@[simp] theorem readSent_stores (bid : Nat) (ps : List (Nat × Nat)) (s : State) : SameStores s (readSent bid ps s) := by simp [readSent]

@[simp] theorem sendRange_stores (bid m : Nat) (ps : List (Nat × Nat)) (s : State) : SameStores s (sendRange bid m ps s) := by
  simp [sendRange]

@[simp] theorem sendRanges_stores (bid : Nat) : ∀ (l ps : List (Nat × Nat)) (s : State),
    SameStores s (sendRanges bid l ps s)
  | [], _, _ => .rfl
  | (m, k) :: l, ps, s => by simp [sendRanges, sendRanges_stores bid l]

@[simp] theorem splitBatch_stores (bid : Nat) (b : Batch) (s : State) : SameStores s (splitBatch bid b s) := by simp [splitBatch]

@[simp] theorem splitBatches_stores (s : State) : SameStores s (splitBatches s) := by simp [splitBatches]

/-! ### Machine/Dispatcher -/

@[simp] theorem loadEngine_stores (e cycles : Nat) (s : State) : SameStores s (loadEngine e cycles s) := by simp [loadEngine]

@[simp] theorem placeOn_stores (id : Nat) (p : Nat × Nat) (cycles : Nat) (s : State) : SameStores s (placeOn id p cycles s) := by
  simp [placeOn]

@[simp] theorem placeStep_stores (id : Nat) (c : Nat) (s : State) : SameStores s (placeStep id c s) := by
  unfold placeStep
  (repeat' split) <;> simp

@[simp] theorem startSpilled_stores (s : State) : SameStores s (startSpilled s) :=
  foldl_stores (fun s a => by (repeat' split) <;> simp) _ _

@[simp] theorem touchBatch_stores (w : Work) (s : State) : SameStores s (touchBatch w s) := by
  unfold touchBatch
  (repeat' split) <;> simp

@[simp] theorem refill_stores (s : State) : SameStores s (refill s) := by simp [refill]

@[simp] theorem ageBase_stores (s : State) : SameStores s (ageBase s) := by simp [ageBase]

@[simp] theorem endAtomicWhole_stores (bid : Nat) (r : FnRes) (only : Option Nat) (s : State) :
    SameStores s (endAtomicWhole bid r only s) := by
  unfold endAtomicWhole
  split
  · simp only [SameStores, modWork_frame, refund_stores]
    refine foldl_stores (fun s p => ?_) _ _
    split <;> simp
  · simp

@[simp] theorem endUngranted_stores (id status detail ticks : Nat) (s : State) : SameStores s (endUngranted id status detail ticks s) := by
  simp [endUngranted]

@[simp] theorem chargeOne_stores (acc : State × List (Nat × Nat)) (id : Nat) : SameStores acc.1 (chargeOne acc id).1 := by
  unfold chargeOne
  dsimp only
  split <;> simp

@[simp] theorem refuseBase_stores (refused : List (Nat × Nat)) (s : State) : SameStores s (refuseBase refused s) :=
  foldl_fst_stores (fun s a => by (repeat' split) <;> simp) _ _

@[simp] theorem chargeBase_stores (s : State) : SameStores s (chargeBase s) := by simp [chargeBase]

@[simp] theorem checkEligible_stores (s : State) : SameStores s (checkEligible s) :=
  foldl_stores (fun s a => by (repeat' split) <;> simp) _ _

@[simp] theorem endAtGrant_stores (id : Nat) (r : FnRes) (s : State) : SameStores s (endAtGrant id r s) := by
  unfold endAtGrant
  dsimp only
  (repeat' split) <;> simp

@[simp] theorem grantRetries_stores (budget : Nat) (s : State) : SameStores s (grantRetries budget s).1 :=
  foldl_fst_stores (fun s a => by (repeat' split) <;> simp) _ _

@[simp] theorem refuseHeart_stores (granted : Nat) (s : State) : SameStores s (refuseHeart granted s) := by simp [refuseHeart]

@[simp] theorem demote_stores (id a : Nat) (p : Pass) : SameStores p.s (demote id a p).s := by simp [demote]

theorem foldl_pass_stores {f : Pass → Nat → Pass} (h : ∀ p id, SameStores p.s (f p id).s) (l : List Nat) (p : Pass) :
    SameStores p.s (l.foldl f p).s :=
  foldl_part_stores (·.s) h l p

/-! ### Machine/TpcBase -/

@[simp] theorem modEp_stores (e : Nat) (f : Ep → Ep) (s : State) : SameStores s (modEp e f s) := by
  unfold modEp
  split <;> simp

@[simp] theorem sendOpen_stores (p sub : Nat) (dst : List Byte) (e type phase ref : Nat) (payload : List Byte) (s : State) :
    SameStores s (sendOpen p sub dst e type phase ref payload s) := by simp [sendOpen]

@[simp] theorem sendReject_stores (e : Nat) (h : Hello) (status detail disp : Nat) (s : State) :
    SameStores s (sendReject e h status detail disp s) := by simp [sendReject]

@[simp] theorem sendSeq_stores (e type note accord ref echo : Nat) (payload : List Byte) (m : Option OutMsg) (s : State) :
    SameStores s (sendSeq e type note accord ref echo payload m s).2 := by
  unfold sendSeq
  dsimp only
  (repeat' split) <;> simp

@[simp] theorem closeSession_stores (e : Nat) (s : State) : SameStores s (closeSession e s) := by
  unfold closeSession
  split <;> simp

@[simp] theorem closeIfSpent_stores (e : Nat) (s : State) : SameStores s (closeIfSpent e s) := by
  unfold closeIfSpent
  split <;> simp

@[simp] theorem sendMsg_stores (m : OutMsg) (s : State) : SameStores s (sendMsg m s) := by
  unfold sendMsg
  dsimp only
  (repeat' split) <;> simp

@[simp] theorem discardOut_stores (m : OutMsg) (s : State) : SameStores s (discardOut m s) := by simp [discardOut]

@[simp] theorem holdOut_stores (m : OutMsg) (s : State) : SameStores s (holdOut m s) := by simp [holdOut]

@[simp] theorem deliverOrHold_stores (m : OutMsg) (s : State) : SameStores s (deliverOrHold m s) := by simp [deliverOrHold]

@[simp] theorem sendHeld_stores (e : Nat) (s : State) : SameStores s (sendHeld e s) := by simp [sendHeld]

@[simp] theorem queueOut_stores (m : OutMsg) (s : State) : SameStores s (queueOut m s) := by simp [queueOut]

@[simp] theorem execResponseReady_stores (id : Nat) (s : State) : Completes (SameStores s) (execResponseReady id s) := by
  unfold execResponseReady
  split <;> simp

@[simp] theorem execResumeWindowEnd_stores (e : Nat) (s : State) : Completes (SameStores s) (execResumeWindowEnd e s) := by
  unfold execResumeWindowEnd
  split <;> simp

/-! ### Machine/AccordEnd -/

@[simp] theorem dropHdr_stores (n : Nat) (s : State) : SameStores s (dropHdr n s) := by simp [dropHdr]

@[simp] theorem writeHeader_stores (h : Header) (gran : Nat) (s : State) : SameStores s (writeHeader h gran s) := by simp [writeHeader]

@[simp] theorem openForward_stores (m : Msg) (dest : Nat) (body : List Byte) (pin : Option (Nat × Nat)) (effects : Bool) (s : State) :
    SameStores s (openForward m dest body pin effects s).1 := by simp [openForward]

@[simp] theorem openReferral_stores (m : Msg) (status detail : Nat) (step : Option Nat) (effects : Bool) (s : State) :
    SameStores s (openReferral m status detail step effects s).1 := by simp [openReferral]

@[simp] theorem writeTagged_stores (w : Work) (m : Msg) (outs : List MField) (h : Header) (gran : Nat) (s : State) :
    SameStores s (writeTagged w m outs h gran s) := by
  unfold writeTagged
  dsimp only
  (repeat' split) <;> simp

@[simp] theorem countChain_stores (w : Work) (m : Msg) (status : Nat) (s : State) : SameStores s (countChain w m status s) := by
  simp [countChain]

@[simp] theorem endRefused_stores (w : Work) (m : Msg) (status detail step : Nat) (s : State) :
    SameStores s (endRefused w m status detail step s) := by simp [endRefused]

@[simp] theorem endReferred_stores (w : Work) (m : Msg) (status detail : Nat) (step : Option Nat) (outs : List MField) (s : State) :
    SameStores s (endReferred w m status detail step outs s) := by simp [endReferred]

@[simp] theorem endGood_stores (w : Work) (m : Msg) (raised detail : Nat) (step : Option Nat) (s : State) :
    SameStores s (endGood w m raised detail step s) := by
  unfold endGood
  split <;> simp

@[simp] theorem endVerdict_stores (w : Work) (m : Msg) (s : State) : SameStores s (endVerdict w m s) := by simp [endVerdict]

@[simp] theorem chainStepEnd_stores (id mid : Nat) (w : Work) (r : FnRes) (s : State) : SameStores s (chainStepEnd id mid w r s) := by
  unfold chainStepEnd
  dsimp only
  (repeat' split) <;> simp

@[simp] theorem spreadPartEnd_stores (id bid idx : Nat) (w : Work) (r : FnRes) (s : State) :
    SameStores s (spreadPartEnd id bid idx w r s) := by simp [spreadPartEnd]

@[simp] theorem handshakeEnd_stores (id e : Nat) (w : Work) (r : FnRes) (s : State) : SameStores s (handshakeEnd id e w r s) := by
  unfold handshakeEnd
  dsimp only
  (repeat' split) <;> simp

/-! ### Machine/Settle -/

@[simp] theorem landed_stores (n : Nat) (s : State) : SameStores s (landed n s) := by simp [landed]

@[simp] theorem settleBatch_stores (bid : Nat) (s : State) : SameStores s (settleBatch bid s) := by
  unfold settleBatch
  dsimp only
  (repeat' split) <;> simp

@[simp] theorem settleOne_stores (id : Nat) (s : State) : SameStores s (settleOne id s) := by
  unfold settleOne
  (repeat' split) <;> simp

@[simp] theorem settle_stores (s : State) : SameStores s (settle s) := by simp [settle]

/-! ### Machine/HostPath -/

@[simp] theorem issueFetch_stores (n : Nat) (s : State) : SameStores s (issueFetch n s) := by simp [issueFetch]

@[simp] theorem pump_stores (s : State) : SameStores s (pump s) := by simp [pump]

@[simp] theorem spoofed_stores (home n seq : Nat) (x : Sub) (s : State) : SameStores s (spoofed home n seq x s) := by
  unfold spoofed
  split <;> simp

@[simp] theorem refuseSub_stores (n seq : Nat) (x : Sub) (st d : Nat) (s : State) : SameStores s (refuseSub n seq x st d s) := by
  simp [refuseSub]

@[simp] theorem makeEligible_stores (id : Nat) (s : State) : SameStores s (makeEligible id s) := by
  unfold makeEligible
  (repeat' split) <;> simp

@[simp] theorem takeEntry_stores (n seq : Nat) (raw : List Byte) (s : State) : SameStores s (takeEntry n seq raw s) := by
  unfold takeEntry
  dsimp only
  (repeat' split) <;> simp

@[simp] theorem qpError_stores (n cause : Nat) (s : State) : SameStores s (qpError n cause s) := by simp [qpError]

@[simp] theorem fetchFailed_stores (n : Nat) (f : FetchRead) (status : Nat) (s : State) : SameStores s (fetchFailed n f status s) := by
  simp [fetchFailed]

@[simp] theorem execSubmissionFetchDone_stores (n : Nat) (r : ReadResult) (s : State) :
    Completes (SameStores s) (execSubmissionFetchDone n r s) := by
  unfold execSubmissionFetchDone
  dsimp only
  (repeat' split) <;> simp

@[simp] theorem takePart_stores (bid : Nat) (head : Work) (n seq : Nat) (acc : State × Batch) (p : Sub × Nat) :
    SameStores acc.1 (takePart bid head n seq acc p).1 := by
  unfold takePart
  dsimp only
  (repeat' split) <;> simp

@[simp] theorem failAtomicChecks_stores (bid : Nat) (s : State) : SameStores s (failAtomicChecks bid s) := by
  unfold failAtomicChecks
  split <;> simp

@[simp] theorem buildBatch_stores (bid : Nat) (head : Work) (arr : List Byte) (s : State) : SameStores s (buildBatch bid head arr s) := by
  unfold buildBatch
  split <;> simp

@[simp] theorem sliceReady_stores (i : Nat) (s : State) : SameStores s (sliceReady i s) := by simp [sliceReady]

@[simp] theorem orphansReady_stores (s : State) : SameStores s (orphansReady s) := by simp [orphansReady]

@[simp] theorem noRead_stores (id : Nat) (s : State) : SameStores s (noRead id s) := by simp [noRead]

@[simp] theorem execInputReadDone_stores (id : Nat) (r : ReadResult) (s : State) :
    Completes (SameStores s) (execInputReadDone id r s) := by
  unfold execInputReadDone
  dsimp only
  (repeat' split) <;> simp

@[simp] theorem stageFailed_stores (bid idx id st d : Nat) (s : State) : SameStores s (stageFailed bid idx id st d s) := by
  unfold stageFailed
  dsimp only
  (repeat' split) <;> simp

@[simp] theorem stagePart_stores (bid idx id : Nat) (bs : List Byte) (s : State) : SameStores s (stagePart bid idx id bs s) := by
  unfold stagePart
  dsimp only
  (repeat' split) <;> simp

@[simp] theorem stageOne_stores (bid : Nat) (acc : State × Bool) (p : Nat × Nat) : SameStores acc.1 (stageOne bid acc p).1 := by
  unfold stageOne
  dsimp only
  (repeat' split) <;> simp

@[simp] theorem stagePump_stores (s : State) : SameStores s (stagePump s) :=
  foldl_stores (fun s a => by (repeat' split) <;> simp) _ _

@[simp] theorem execBatchPartInputRead_stores (bid idx : Nat) (r : ReadResult) (s : State) :
    Completes (SameStores s) (execBatchPartInputRead bid idx r s) := by
  unfold execBatchPartInputRead
  dsimp only
  (repeat' split) <;> simp

@[simp] theorem orphanTimeout_stores (o : Orphan) (s : State) : SameStores s (orphanTimeout o s) := by simp [orphanTimeout]

@[simp] theorem imageFails_stores (st op prior : Nat) (s : State) : SameStores s (imageFails st op prior s) := by simp [imageFails]

@[simp] theorem execDmaReadTimeout_stores (r : ReadId) (s : State) : Completes (SameStores s) (execDmaReadTimeout r s) := by
  unfold execDmaReadTimeout
  dsimp only
  (repeat' split) <;> simp

@[simp] theorem execLateCompletion_stores (s : State) : Completes (SameStores s) (execLateCompletion s) := by simp [execLateCompletion]

@[simp] theorem masters_stores (i : Nat) (s : State) : SameStores s (masters i s) := by simp [masters]

@[simp] theorem execSliceFlushDone_stores (i : Nat) (s : State) : Completes (SameStores s) (execSliceFlushDone i s) := by
  simp [execSliceFlushDone]

@[simp] theorem doorbellNotice_stores (event n link : Nat) (s : State) : SameStores s (doorbellNotice event n link s) := by
  simp [doorbellNotice]

theorem doorbellOpen_stores {n inst : Nat} {s t : State} (h : doorbellOpen n inst s = .error t) : SameStores s t := by
  unfold doorbellOpen at h
  dsimp only at h
  split at h
  · obtain rfl := Except.error.inj h
    simp
  · split at h
    · obtain rfl := Except.error.inj h
      simp
    · split at h
      · obtain rfl := Except.error.inj h
        simp
      · simp at h

@[simp] theorem execQpSqTail_stores (n inst value : Nat) (s : State) : Completes (SameStores s) (execQpSqTail n inst value s) := by
  unfold execQpSqTail
  split
  next ht => exact completes_next.2 (doorbellOpen_stores ht)
  · simp

@[simp] theorem execQpCqHead_stores (n inst value : Nat) (s : State) : Completes (SameStores s) (execQpCqHead n inst value s) := by
  unfold execQpCqHead
  split
  next ht => exact completes_next.2 (doorbellOpen_stores ht)
  · simp

@[simp] theorem execQpCancel_stores (n inst value : Nat) (s : State) : Completes (SameStores s) (execQpCancel n inst value s) := by
  unfold execQpCancel
  split
  next ht => exact completes_next.2 (doorbellOpen_stores ht)
  · simp

@[simp] theorem execQpPoll_stores (n inst : Nat) (s : State) : Completes (SameStores s) (execQpPoll n inst s) := by simp [execQpPoll]

@[simp] theorem execCqWaitExpiry_stores (n : Nat) (s : State) : Completes (SameStores s) (execCqWaitExpiry n s) := by simp [execCqWaitExpiry]

@[simp] theorem stopAway_stores (mode bid idx : Nat) (s : State) : SameStores s (stopAway mode bid idx s) := by
  unfold stopAway
  split <;> simp

@[simp] theorem cancelWork_stores (id : Nat) (w : Work) (s : State) : SameStores s (cancelWork id w s) := by
  unfold cancelWork
  split
  · split
    · simp
    · exact foldl_stores (fun s p => by (repeat' split) <;> simp) _ _
  · simp

@[simp] theorem applyCancel_stores (n : Nat) (s : State) (c : Cancel) : SameStores s (applyCancel n s c) := by
  unfold applyCancel
  dsimp only
  (repeat' split) <;> simp

@[simp] theorem applyCancels_stores (s : State) : SameStores s (applyCancels s) := by simp [applyCancels]

@[simp] theorem resetWork_stores (mode : Nat) (id : Nat) (w : Work) (s : State) : SameStores s (resetWork mode id w s) := by
  unfold resetWork
  dsimp only
  (repeat' split) <;> simp

@[simp] theorem applyReset_stores (i : Nat) (s : State) : SameStores s (applyReset i s) := by
  simp only [SameStores, applyReset, modSlice_frame, settle_stores]
  refine foldl_stores (fun s p => ?_) _ _
  split <;> simp

@[simp] theorem flushSlice_stores (i : Nat) (s : State) : SameStores s (flushSlice i s) := by simp [flushSlice]

@[simp] theorem slicesPoint_stores (s : State) : SameStores s (slicesPoint s) := by simp [slicesPoint]

@[simp] theorem linkDown_linkReads_stores (l : Nat) (s : State) : SameStores s (linkDown.linkReads l s) := by simp [linkDown.linkReads]

@[simp] theorem linkDown_transfersEnd_stores (l : Nat) (s : State) : SameStores s (linkDown.transfersEnd l s) :=
  SameStores.trans (foldl_stores (fun s p => by (repeat' split) <;> simp) _ _) (settle_stores _)

@[simp] theorem linkDown_stores (l : Nat) (s : State) : SameStores s (linkDown l s) := by
  unfold linkDown
  dsimp only
  refine .trans (.trans ?_ (foldl_stores (fun s p => ?_) _ _)) (.trans (settle_stores _)
    (.trans (linkDown_transfersEnd_stores l _) (linkDown_linkReads_stores l _)))
  · simp
  · (repeat' split) <;> simp

@[simp] theorem execHostLinkUp_stores (l width speed : Nat) (s : State) : Completes (SameStores s) (execHostLinkUp l width speed s) := by
  simp [execHostLinkUp]

@[simp] theorem pf0Down_stores (s : State) : SameStores s (pf0Down s) := by
  unfold pf0Down
  dsimp only
  (repeat' split) <;> simp

@[simp] theorem execHostLinkDown_stores (l : Nat) (s : State) : Completes (SameStores s) (execHostLinkDown l s) := by
  unfold execHostLinkDown
  split <;> simp

@[simp] theorem execBusMasterClear_stores (l : Nat) (s : State) : Completes (SameStores s) (execBusMasterClear l s) := by
  simp [execBusMasterClear]

@[simp] theorem execHostLinkError_stores (l : Nat) (correctable : Bool) (s : State) :
    Completes (SameStores s) (execHostLinkError l correctable s) := by simp [execHostLinkError]

@[simp] theorem execHostLinkRecovery_stores (l : Nat) (enters : Bool) (s : State) :
    Completes (SameStores s) (execHostLinkRecovery l enters s) := by simp [execHostLinkRecovery]

/-! ### Machine/HostCmds -/

@[simp] theorem sliceBindCmd_stores (h : Held) (p : List Byte) (s : State) : SameStores s (sliceBindCmd h p s) := by simp [sliceBindCmd]

@[simp] theorem execSliceBind_stores (s : State) : Completes (SameStores s) (execSliceBind s) :=
  withCmd_stores (fun h p => by simp)

@[simp] theorem sliceStartCmd_stores (h : Held) (p : List Byte) (s : State) : SameStores s (sliceStartCmd h p s) := by simp [sliceStartCmd]

@[simp] theorem execSliceStart_stores (s : State) : Completes (SameStores s) (execSliceStart s) :=
  withCmd_stores (fun h p => by simp)

@[simp] theorem sliceResetCmd_stores (h : Held) (p : List Byte) (s : State) : SameStores s (sliceResetCmd h p s) := by simp [sliceResetCmd]

@[simp] theorem execSliceReset_stores (s : State) : Completes (SameStores s) (execSliceReset s) :=
  withCmd_stores (fun h p => by simp)

@[simp] theorem sliceUnbindCmd_stores (h : Held) (p : List Byte) (s : State) : SameStores s (sliceUnbindCmd h p s) := by
  simp [sliceUnbindCmd]

@[simp] theorem execSliceUnbind_stores (s : State) : Completes (SameStores s) (execSliceUnbind s) :=
  withCmd_stores (fun h p => by simp)

@[simp] theorem qpSetCmd_stores (h : Held) (p : List Byte) (s : State) : SameStores s (qpSetCmd h p s) := by simp [qpSetCmd]

@[simp] theorem execQpSet_stores (s : State) : Completes (SameStores s) (execQpSet s) :=
  withCmd_stores (fun h p => by simp)

@[simp] theorem admitSetCmd_stores (h : Held) (p : List Byte) (s : State) : SameStores s (admitSetCmd h p s) := by simp [admitSetCmd]

@[simp] theorem execAdmitSet_stores (s : State) : Completes (SameStores s) (execAdmitSet s) :=
  withCmd_stores (fun h p => by simp)

@[simp] theorem acctSetCmd_stores (h : Held) (p : List Byte) (s : State) : SameStores s (acctSetCmd h p s) := by simp [acctSetCmd]

@[simp] theorem execAcctSet_stores (s : State) : Completes (SameStores s) (execAcctSet s) :=
  withCmd_stores (fun h p => by simp)

@[simp] theorem applyAdmission_stores (s : State) : SameStores s (applyAdmission s) := by simp [applyAdmission]

@[simp] theorem timeSetCmd_stores (h : Held) (p : List Byte) (s : State) : SameStores s (timeSetCmd h p s) := by simp [timeSetCmd]

@[simp] theorem execTimeSet_stores (s : State) : Completes (SameStores s) (execTimeSet s) :=
  withCmd_stores (fun h p => by simp)

@[simp] theorem utcUpdate_stores (s : State) : SameStores s (utcUpdate s) := by
  unfold utcUpdate
  dsimp only
  (repeat' split) <;> simp

@[simp] theorem execUtcUpdate_stores (s : State) : Completes (SameStores s) (execUtcUpdate s) := by simp [execUtcUpdate]

@[simp] theorem execUtcValidExpiry_stores (s : State) : Completes (SameStores s) (execUtcValidExpiry s) := by simp [execUtcValidExpiry]

@[simp] theorem execTkCountLowRead_stores (s : State) : Completes (SameStores s) (execTkCountLowRead s) := by simp [execTkCountLowRead]

/-! ### Machine/Fences -/

@[simp] theorem violate_stores (g : Nat) (a : Access) (master : Nat) (b : Blocked) (s : State) :
    SameStores s (violate g a master b s) := by simp [violate]

@[simp] theorem fenceCheck_stores (g : Nat) (a : Option Access) (master : Nat) (s : State) : SameStores s (fenceCheck g a master s).2 := by
  unfold fenceCheck
  (repeat' split) <;> simp

@[simp] theorem fenceSetCmd_stores (h : Held) (p : List Byte) (s : State) : SameStores s (fenceSetCmd h p s) := by simp [fenceSetCmd]

@[simp] theorem execFenceSet_stores (s : State) : Completes (SameStores s) (execFenceSet s) :=
  withCmd_stores (fun h p => by simp)

@[simp] theorem fenceLockCmd_stores (h : Held) (p : List Byte) (s : State) : SameStores s (fenceLockCmd h p s) := by simp [fenceLockCmd]

@[simp] theorem execFenceLock_stores (s : State) : Completes (SameStores s) (execFenceLock s) :=
  withCmd_stores (fun h p => by simp)

/-! ### Machine/Trace -/

@[simp] theorem putPacket_stores (p : Packet) (s : State) : SameStores s (putPacket p s) := by simp [putPacket]

@[simp] theorem tracePacket_stores (type source code data : Nat) (s : State) : SameStores s (tracePacket type source code data s) := by
  simp [tracePacket]

@[simp] theorem traceGap_stores (c : Nat) (s : State) : SameStores s (traceGap c s) := by simp [traceGap]

@[simp] theorem traceResume_stores (c : Nat) (s : State) : SameStores s (traceResume c s) := by simp [traceResume]

@[simp] theorem traceSync_stores (s : State) : SameStores s (traceSync s) := by simp [traceSync]

@[simp] theorem traceOpenCmd_stores (h : Held) (p : List Byte) (s : State) : SameStores s (traceOpenCmd h p s) := by simp [traceOpenCmd]

@[simp] theorem execTraceOpen_stores (s : State) : Completes (SameStores s) (execTraceOpen s) :=
  withCmd_stores (fun h p => by simp)

@[simp] theorem traceCloseCmd_stores (h : Held) (k : List Byte) (s : State) : SameStores s (traceCloseCmd h k s) := by simp [traceCloseCmd]

@[simp] theorem execTraceClose_stores (s : State) : Completes (SameStores s) (execTraceClose s) :=
  withCmd_stores (fun h p => by simp)

@[simp] theorem traceEndPoint_stores (s : State) : SameStores s (traceEndPoint s) := by simp [traceEndPoint]

@[simp] theorem execTraceEndTick_stores (s : State) : Completes (SameStores s) (execTraceEndTick s) := by simp [execTraceEndTick]

@[simp] theorem execTraceSync_stores (s : State) : Completes (SameStores s) (execTraceSync s) := by simp [execTraceSync]

/-! ### Machine/Clusters -/

@[simp] theorem scoreEngine_stores (e : Nat) (s : State) : SameStores s (scoreEngine e s) := by simp [scoreEngine]

@[simp] theorem scoreIf_stores (c : Bool) (e : Nat) (s : State) : SameStores s (scoreIf c e s) := by simp [scoreIf]

@[simp] theorem retireOne_stores (e : Nat) (s : State) : SameStores s (retireOne e s) := by simp [retireOne]

@[simp] theorem retireEngine_stores (e : Nat) (s : State) : SameStores s (retireEngine e s) := by simp [retireEngine]

@[simp] theorem retireDue_stores (s : State) : SameStores s (retireDue s) := by simp [retireDue]

@[simp] theorem latentOn_stores (e : Nat) (s : State) : SameStores s (latentOn e s) := by simp [latentOn]

@[simp] theorem execRetestEnd_stores (e : Nat) (passed : Bool) (s : State) : Completes (SameStores s) (execRetestEnd e passed s) := by
  unfold execRetestEnd
  dsimp only
  (repeat' split) <;> simp

@[simp] theorem keepCounts_stores (s after : State) : SameStores s (keepCounts s after) := .rfl

@[simp] theorem takeResult_stores (id : Nat) (w : Work) (s : State) : SameStores s (takeResult id w s) := by
  unfold takeResult
  dsimp only
  (repeat' split) <;> simp

@[simp] theorem countMismatch_stores (w : Work) (s : State) : SameStores s (countMismatch w s) := by simp [countMismatch]

@[simp] theorem startRetry_stores (id : Nat) (w : Work) (bad1 bad2 now : Bool) (s : State) :
    SameStores s (startRetry id w bad1 bad2 now s) := by
  unfold startRetry
  dsimp only
  (repeat' split) <;> simp

@[simp] theorem twinFail_stores (id : Nat) (w : Work) (s : State) : SameStores s (twinFail id w s) := by simp [twinFail]

@[simp] theorem retryOk_stores (id : Nat) (w : Work) (s : State) : SameStores s (retryOk id w s) := by simp [retryOk]

@[simp] theorem latentSeen_stores (w : Work) (fields : Nat) (s : State) : SameStores s (latentSeen w fields s) := by simp [latentSeen]

@[simp] theorem calibrateStep_stores (w : Work) (o : StepOut) (s : State) : SameStores s (calibrateStep w o s) := by simp [calibrateStep]

@[simp] theorem stepGood_stores (id : Nat) (w : Work) (o : StepOut) (latent : Option Nat) (s : State) :
    SameStores s (stepGood id w o latent s) := by
  unfold stepGood
  dsimp only
  (repeat' split) <;> simp

@[simp] theorem stepFence_stores (w : Work) (o : StepOut) (s : State) : SameStores s (stepFence w o s).2 := by simp [stepFence]

@[simp] theorem execEngineStepEnd_stores (id : Nat) (o : StepOut) (s : State) : Completes (SameStores s) (execEngineStepEnd id o s) := by
  unfold execEngineStepEnd
  dsimp only
  (repeat' split) <;> simp

@[simp] theorem machineCheck_stores (id : Nat) (w : Work) (second now : Bool) (s : State) :
    SameStores s (machineCheck id w second now s) := by simp [machineCheck]

@[simp] theorem execMachineCheck_stores (id : Nat) (second : Bool) (s : State) :
    Completes (SameStores s) (execMachineCheck id second s) := by
  unfold execMachineCheck
  split <;> simp

@[simp] theorem programFault_stores (id : Nat) (w : Work) (s : State) : SameStores s (programFault id w s) := by simp [programFault]

@[simp] theorem execEngineCycleOverrun_stores (id : Nat) (both second : Bool) (s : State) :
    Completes (SameStores s) (execEngineCycleOverrun id both second s) := by
  unfold execEngineCycleOverrun
  split <;> simp

@[simp] theorem clDrainCmd_stores (h : Held) (p : List Byte) (s : State) : SameStores s (clDrainCmd h p s) := by simp [clDrainCmd]

@[simp] theorem execClDrain_stores (s : State) : Completes (SameStores s) (execClDrain s) :=
  withCmd_stores (fun h p => by simp)

@[simp] theorem clLoadCmd_stores (h : Held) (p : List Byte) (s : State) : SameStores s (clLoadCmd h p s) := by simp [clLoadCmd]

@[simp] theorem execClLoad_stores (s : State) : Completes (SameStores s) (execClLoad s) :=
  withCmd_stores (fun h p => by simp)

@[simp] theorem endRollout_stores (s : State) : SameStores s (endRollout s) := by simp [endRollout]

@[simp] theorem execClLoadDone_stores (c : Nat) (ok : Bool) (s : State) : Completes (SameStores s) (execClLoadDone c ok s) := by
  simp [execClLoadDone]

@[simp] theorem clReturnCmd_stores (h : Held) (p : List Byte) (s : State) : SameStores s (clReturnCmd h p s) := by simp [clReturnCmd]

@[simp] theorem execClReturn_stores (s : State) : Completes (SameStores s) (execClReturn s) :=
  withCmd_stores (fun h p => by simp)

@[simp] theorem clGatingCmd_stores (h : Held) (p : List Byte) (s : State) : SameStores s (clGatingCmd h p s) := by simp [clGatingCmd]

@[simp] theorem execClGating_stores (s : State) : Completes (SameStores s) (execClGating s) :=
  withCmd_stores (fun h p => by simp)

@[simp] theorem moveSlots_stores (c : Nat) (s : State) : SameStores s (moveSlots c s) := by simp [moveSlots]

@[simp] theorem clusterPoint_stores (c : Nat) (s : State) : SameStores s (clusterPoint c s) := by
  unfold clusterPoint
  split <;> simp

@[simp] theorem drainPoint_stores (s : State) : SameStores s (drainPoint s) := by simp [drainPoint]

@[simp] theorem clustersPoint_stores (s : State) : SameStores s (clustersPoint s) := by simp [clustersPoint]

@[simp] theorem gatingHistory_stores (s : State) : SameStores s (gatingHistory s) := by simp [gatingHistory]

@[simp] theorem execGatingDecision_stores (c : Nat) (s : State) : Completes (SameStores s) (execGatingDecision c s) := by
  simp [execGatingDecision]

@[simp] theorem execClusterWakeEnd_stores (c : Nat) (s : State) : Completes (SameStores s) (execClusterWakeEnd c s) := by
  simp [execClusterWakeEnd]

@[simp] theorem readmitEngine_stores (e : Nat) (s : State) : SameStores s (readmitEngine e s) := by simp [readmitEngine]

/-! ### Machine/PkUnits -/

@[simp] theorem handshakeSteps_stores (x : Ep) (h : Hello) (s : State) : SameStores s (handshakeSteps x h s).2 := by simp [handshakeSteps]

@[simp] theorem handshakeStart_stores (e : Nat) (s : State) : SameStores s (handshakeStart e s).2 := by
  unfold handshakeStart
  dsimp only
  (repeat' split) <;> simp

@[simp] theorem pkFirstStep_stores (w : Work) (s : State) : SameStores s (pkFirstStep w s).2 := by
  unfold pkFirstStep
  split <;> simp

@[simp] theorem pkUsage_stores (id : Nat) (w : Work) (s : State) : SameStores s (pkUsage id w s) := by simp [pkUsage]

@[simp] theorem pkPassed_stores (id : Nat) (w : Work) (s : State) : SameStores s (pkPassed id w s) := by
  unfold pkPassed
  split <;> simp

@[simp] theorem helloDone_stores (e : Nat) (s : State) : SameStores s (helloDone e s) := by simp [helloDone]

@[simp] theorem pkFinish_stores (id : Nat) (w : Work) (s : State) : SameStores s (pkFinish id w s) := by
  unfold pkFinish
  split <;> simp

@[simp] theorem countCheck_stores (u : Nat) (s : State) : SameStores s (countCheck u s) := by simp [countCheck]

@[simp] theorem pkFailed_stores (id u : Nat) (w : Work) (s : State) : SameStores s (pkFailed id u w s) := by
  unfold pkFailed
  split <;> simp

@[simp] theorem pkAdvance_stores (id u : Nat) (w : Work) (s : State) : SameStores s (pkAdvance id u w s) := by
  unfold pkAdvance
  dsimp only
  (repeat' split) <;> simp

@[simp] theorem ctlFailed_stores (u : Nat) (c : PkCtl) (s : State) : SameStores s (ctlFailed u c s) := by
  unfold ctlFailed
  dsimp only
  (repeat' split) <;> simp

@[simp] theorem ctlStep_stores (u : Nat) (c : PkCtl) (rest : List PkCtl) (failed : Bool) (s : State) :
    SameStores s (ctlStep u c rest failed s) := by
  unfold ctlStep
  dsimp only
  (repeat' split) <;> simp

@[simp] theorem dataStep_stores (u c : Nat) (failed : Bool) (a : Option Access) (s : State) : SameStores s (dataStep u c failed a s) := by
  unfold dataStep
  split <;> simp

@[simp] theorem execPkUnitStep_stores (u : Nat) (failed : Bool) (a : Option Access) (s : State) :
    Completes (SameStores s) (execPkUnitStep u failed a s) := by
  unfold execPkUnitStep
  dsimp only
  (repeat' split) <;> simp

@[simp] theorem pkPoint_stores (s : State) : SameStores s (pkPoint s) :=
  SameStores.trans (foldl_stores (fun s p => by simp) _ _) (foldl_stores (fun s p => by split <;> simp) _ _)

@[simp] theorem unitQueryCmd_stores (h : Held) (p : List Byte) (s : State) : SameStores s (unitQueryCmd h p s) := by simp [unitQueryCmd]

@[simp] theorem execUnitQuery_stores (s : State) : Completes (SameStores s) (execUnitQuery s) :=
  withCmd_stores (fun h p => by simp)

@[simp] theorem readmitUnit_stores (u : Nat) (passed : Bool) (s : State) : SameStores s (readmitUnit u passed s) := by simp [readmitUnit]

/-! ### Machine/PortBase -/

@[simp] theorem chooseSource_stores (s : State) : SameStores s (chooseSource s) := by simp [chooseSource]

@[simp] theorem dormantOn_stores (c : Ep → Bool) (s : State) : SameStores s (dormantOn c s) := by simp [dormantOn]

@[simp] theorem dropTx_stores (p : Nat) (c : EgItem → Bool) (s : State) : SameStores s (dropTx p c s) :=
  foldl_stores (fun s a => by (repeat' split) <;> simp) _ _

@[simp] theorem stopTraffic_stores (p : Nat) (s : State) : SameStores s (stopTraffic p s) := by simp [stopTraffic]

@[simp] theorem startTraining_stores (p : Nat) (s : State) : SameStores s (startTraining p s) := by simp [startTraining]

/-! ### Machine/Lanes -/

@[simp] theorem writeBulk_stores (w : Work) (addr : Nat) (d : List Byte) (s : State) : SameStores s (writeBulk w addr d s) := by
  unfold writeBulk
  split <;> simp

@[simp] theorem execHostLaneChunkEnd_stores (id : Nat) (r : ReadResult) (a : Option Access) (s : State) :
    Completes (SameStores s) (execHostLaneChunkEnd id r a s) := by
  unfold execHostLaneChunkEnd
  split
  · simp
  · split
    · simp
    · split
      · simp
      · extract_lets s1 s2 q s3 c
        obtain ⟨hrecs, hbuf, hrest⟩ : SameStores s q.2 := by simp [q, s2, s1]
        clear_value q
        split
        · simp [hrecs, hbuf, hrest]
        · split
          · simp [s3, hrecs, hbuf, hrest]
          · split
            · simp [s3, hrecs, hbuf, hrest]
            · extract_lets d y t1 t2 t3 w t4 res t5
              obtain ⟨hrecs', hrest'⟩ : SameStores s t4 := by simp [t4, t3, t2, t1, s3, hrecs, hbuf, hrest]
              clear_value t4
              split
              · simp [hrecs', hrest']
              · split
                · simp [t5, hrecs', hrest']
                · simp [hrecs', hrest']

@[simp] theorem faultLane_stores (n : Nat) (s : State) : SameStores s (faultLane n s) := by simp [faultLane]

@[simp] theorem moveOps_stores (n : Nat) (s : State) : SameStores s (moveOps n s) :=
  foldl_stores (fun s a => by (repeat' split) <;> simp) _ _

@[simp] theorem execHostLaneMismatch_stores (n id : Nat) (s : State) : Completes (SameStores s) (execHostLaneMismatch n id s) := by
  unfold execHostLaneMismatch
  split <;> simp

@[simp] theorem faultNote_stores (n slot spare hold : Nat) (s : State) : SameStores s (faultNote n slot spare hold s) := by
  simp [faultNote]

@[simp] theorem portFailed_stores (p : Nat) (s : State) : SameStores s (portFailed p s) := by simp [portFailed]

@[simp] theorem handoverDone_stores (n : Nat) (s : State) : SameStores s (handoverDone n s) := by simp [handoverDone]

@[simp] theorem runSets_stores (m : Nat) (sets : List LaneReplay) (s : State) : SameStores s (runSets m sets s) := by simp [runSets]

@[simp] theorem setsLost_stores (k : Nat) (sets : List LaneReplay) (s : State) : SameStores s (setsLost k sets s) := by simp [setsLost]

@[simp] theorem rerunSets_stores (n k : Nat) (sets : List LaneReplay) (s : State) : SameStores s (rerunSets n k sets s) := by
  unfold rerunSets
  dsimp only
  (repeat' split) <;> simp

@[simp] theorem refillSlot_stores (n k : Nat) (sets : List LaneReplay) (s : State) : SameStores s (refillSlot n k sets s) := by
  unfold refillSlot
  split <;> simp

@[simp] theorem execLaneBeatMismatch_stores (n : Nat) (s : State) : Completes (SameStores s) (execLaneBeatMismatch n s) := by
  unfold execLaneBeatMismatch
  dsimp only
  (repeat' split) <;> simp

@[simp] theorem releaseHold_stores (p : Nat) (s : State) : SameStores s (releaseHold p s) := by simp [releaseHold]

@[simp] theorem execLaneReplayDone_stores (n hold : Nat) (s : State) : Completes (SameStores s) (execLaneReplayDone n hold s) := by
  unfold execLaneReplayDone
  split <;> simp

@[simp] theorem execSpareKatFault_stores (n : Nat) (s : State) : Completes (SameStores s) (execSpareKatFault n s) := by
  unfold execSpareKatFault
  dsimp only
  (repeat' split) <;> simp

@[simp] theorem execLaneRetestStart_stores (n : Nat) (s : State) : Completes (SameStores s) (execLaneRetestStart n s) := by
  simp [execLaneRetestStart]

@[simp] theorem execLaneRetestEnd_stores (n : Nat) (passed : Bool) (s : State) :
    Completes (SameStores s) (execLaneRetestEnd n passed s) := by
  unfold execLaneRetestEnd
  dsimp only
  (repeat' split) <;> simp

@[simp] theorem lanesPoint_stores (s : State) : SameStores s (lanesPoint s) := by simp [lanesPoint]

@[simp] theorem execLaneRotationStart_stores (d : Nat) (s : State) : Completes (SameStores s) (execLaneRotationStart d s) := by
  unfold execLaneRotationStart
  dsimp only
  (repeat' split) <;> simp

@[simp] theorem execHandoverEnd_stores (d : Nat) (s : State) : Completes (SameStores s) (execHandoverEnd d s) := by
  unfold execHandoverEnd
  split <;> simp

@[simp] theorem execHandoverRetestEnd_stores (d : Nat) (s : State) : Completes (SameStores s) (execHandoverRetestEnd d s) := by
  unfold execHandoverRetestEnd
  split <;> simp

@[simp] theorem laneSetCmd_stores (h : Held) (p : List Byte) (s : State) : SameStores s (laneSetCmd h p s) := by simp [laneSetCmd]

@[simp] theorem execLaneSet_stores (s : State) : Completes (SameStores s) (execLaneSet s) :=
  withCmd_stores (fun h p => by simp)

@[simp] theorem readmitLane_stores (n : Nat) (s : State) : SameStores s (readmitLane n s) := by simp [readmitLane]

@[simp] theorem execReadmit_stores (passed : Bool) (s : State) : Completes (SameStores s) (execReadmit passed s) :=
  withCmd_stores (fun h p => by dsimp only; (repeat' split) <;> simp)

/-! ### Machine/Ports -/

@[simp] theorem portSetCmd_stores (h : Held) (p : List Byte) (s : State) : SameStores s (portSetCmd h p s) := by
  unfold portSetCmd
  split <;> simp

@[simp] theorem execPortSet_stores (s : State) : Completes (SameStores s) (execPortSet s) :=
  withCmd_stores (fun h p => by simp)

@[simp] theorem portFromLinks_stores (p cause : Nat) (s : State) : SameStores s (portFromLinks p cause s) := by simp [portFromLinks]

@[simp] theorem linkGoesDown_stores (p k cause : Nat) (s : State) : SameStores s (linkGoesDown p k cause s) := by
  unfold linkGoesDown
  split <;> simp

@[simp] theorem linkFault_stores (p k cause : Nat) (s : State) : Completes (SameStores s) (linkFault p k cause s) := by
  unfold linkFault
  split <;> simp

@[simp] theorem execLossOfSignal_stores (p k : Nat) (s : State) : Completes (SameStores s) (execLossOfSignal p k s) := by
  simp [execLossOfSignal]

@[simp] theorem execLossOfAlignment_stores (p k : Nat) (s : State) : Completes (SameStores s) (execLossOfAlignment p k s) := by
  simp [execLossOfAlignment]

@[simp] theorem execRemoteFault_stores (p k : Nat) (s : State) : Completes (SameStores s) (execRemoteFault p k s) := by
  simp [execRemoteFault]

@[simp] theorem execLinkUp_stores (p k : Nat) (s : State) : Completes (SameStores s) (execLinkUp p k s) := by
  unfold execLinkUp
  split <;> simp

@[simp] theorem execTrainingEnd_stores (p k : Nat) (ok : Bool) (s : State) : Completes (SameStores s) (execTrainingEnd p k ok s) := by
  unfold execTrainingEnd
  dsimp only
  (repeat' split) <;> simp

@[simp] theorem execFecUncorrectable_stores (p k : Nat) (s : State) : Completes (SameStores s) (execFecUncorrectable p k s) := by
  simp [execFecUncorrectable]

@[simp] theorem bandPoint_stores (s : State) : SameStores s (bandPoint s) := by simp [bandPoint]

@[simp] theorem execSerdesBandApply_stores (s : State) : Completes (SameStores s) (execSerdesBandApply s) := by
  unfold execSerdesBandApply
  split <;> simp

@[simp] theorem execAutoRetrainStart_stores (p : Nat) (s : State) : Completes (SameStores s) (execAutoRetrainStart p s) := by
  simp [execAutoRetrainStart]

@[simp] theorem rxFrame_stores (p n : Nat) (s : State) : SameStores s (rxFrame p n s) := by simp [rxFrame]

@[simp] theorem dropFull_stores (p : Nat) (s : State) : SameStores s (dropFull p s) := by simp [dropFull]

@[simp] theorem dropOther_stores (p : Nat) (s : State) : SameStores s (dropOther p s) := by simp [dropOther]

@[simp] theorem execMacControlFrame_stores (p k : Nat) (frame : List Byte) (s : State) :
    Completes (SameStores s) (execMacControlFrame p k frame s) := by simp [execMacControlFrame]

@[simp] theorem forwardFrame_stores (p b k : Nat) (clear : List Byte) (s : State) : SameStores s (forwardFrame p b k clear s) := by
  simp [forwardFrame]

@[simp] theorem groupFrame_stores (p k : Nat) (clear : List Byte) (s : State) : SameStores s (groupFrame p k clear s) := by
  simp [groupFrame]

@[simp] theorem receiveMacsec_stores (p k n : Nat) (f : List Byte) (s : State) : SameStores s (receiveMacsec p k n f s) := by
  unfold receiveMacsec
  dsimp only
  (repeat' split) <;> simp

@[simp] theorem stagingLook_stores (die : Nat) (s : State) : SameStores s (stagingLook die s) := by simp [stagingLook]

@[simp] theorem stagingTake_stores (p : Nat) (top : Bool) (n : Nat) (s : State) : SameStores s (stagingTake p top n s) := by
  simp [stagingTake]

@[simp] theorem dispatchIn_stores (p : Nat) (f : InFrame) (s : State) : SameStores s (dispatchIn p f s).2 := by simp [dispatchIn]

@[simp] theorem inPump_stores {run : Nat → Nat → InFrame → State → State} (hrun : ∀ p n f s, SameStores s (run p n f s))
    (p : Nat) (s : State) : SameStores s (inPump run p s) := by
  simp only [SameStores] at hrun
  unfold inPump
  dsimp only
  split
  · exact .rfl
  · refine SameStores.trans (t := modPort p (fun x => { x with inq := [] }) s) (by simp) ?_
    simp only [SameStores, modPort_frame]
    exact foldl_snd_stores (fun a f => by (repeat' split) <;> simp [hrun]) _ _

@[simp] theorem inMeets_stores {g : State → State} (hg : ∀ s, SameStores s (g s)) (p : Nat) (f : InFrame) (s : State) :
    SameStores s (inMeets p f s g) := by
  simp only [SameStores] at hg
  simp [inMeets, hg]

@[simp] theorem inEnter_stores (p : Nat) (f : InFrame) (s : State) : SameStores s (inEnter p f s) := by simp [inEnter]

@[simp] theorem saSetCmd_stores (h : Held) (p : List Byte) (s : State) : SameStores s (saSetCmd h p s) := by
  unfold saSetCmd
  dsimp only
  (repeat' split) <;> simp

@[simp] theorem execSaSet_stores (s : State) : Completes (SameStores s) (execSaSet s) :=
  withCmd_stores (fun h p => by simp)

@[simp] theorem saRemoveCmd_stores (h : Held) (p : List Byte) (s : State) : SameStores s (saRemoveCmd h p s) := by simp [saRemoveCmd]

@[simp] theorem execSaRemove_stores (s : State) : Completes (SameStores s) (execSaRemove s) :=
  withCmd_stores (fun h p => by simp)

@[simp] theorem saPoint_stores (s : State) : SameStores s (saPoint s) := by simp [saPoint]

@[simp] theorem plainFrame_stores {g : State → State} (hg : ∀ s, SameStores s (g s)) (p k : Nat) (f : List Byte) (s : State) :
    SameStores s (plainFrame p k f s g) := by
  simp only [SameStores] at hg
  simp [plainFrame, hg]

@[simp] theorem answerFrame_stores (p k : Nat) (answer : List Byte) (s : State) : SameStores s (answerFrame p k answer s) := by
  simp [answerFrame]

@[simp] theorem execArpRequest_stores (p k : Nat) (f : List Byte) (s : State) : Completes (SameStores s) (execArpRequest p k f s) := by
  unfold execArpRequest
  split <;> simp

@[simp] theorem execNeighborSolicitation_stores (p k : Nat) (f : List Byte) (s : State) :
    Completes (SameStores s) (execNeighborSolicitation p k f s) := by
  unfold execNeighborSolicitation
  split <;> simp

@[simp] theorem execOtherFrame_stores (p k : Nat) (f : List Byte) (s : State) : Completes (SameStores s) (execOtherFrame p k f s) := by
  simp [execOtherFrame]

/-! ### Machine/Sessions -/

@[simp] theorem verified_stores (e p : Nat) (f : InFrame) (new : Bool) (set : KeySet) (s : State) :
    SameStores s (verified e p f new set s).2 := by
  unfold verified
  split <;> simp

@[simp] theorem refuseEarly_stores (i : HdrInfo) (note status detail ticks : Nat) (s : State) :
    SameStores s (refuseEarly i note status detail ticks s) := by simp [refuseEarly]

theorem checkMessage_stores {s : State} {p : Nat} {x : Ep} {h body : List Byte} {q : Msg × State}
    (e : checkMessage s p x h body = .inr q) : SameStores s q.2 := by
  unfold checkMessage at e
  dsimp only at e
  (repeat' split at e) <;> simp only [Sum.inr.injEq, reduceCtorEq] at e
  all_goals
    subst e
    exact .rfl

@[simp] theorem submitMsg_stores (x : Ep) (m : Msg) (s : State) : SameStores s (submitMsg x m s) := by simp [submitMsg]

@[simp] theorem messagePass_stores (e p : Nat) (h body : List Byte) (s : State) : SameStores s (messagePass e p h body s) := by
  unfold messagePass
  dsimp only
  split
  · exact .rfl
  · split
    · simp
    · split
      · simp
      · split
        · simp
        next m t hm =>
          obtain ⟨hrecs, hbuf, hrest⟩ : SameStores s t := checkMessage_stores hm
          split <;> simp [hrecs, hbuf, hrest]

theorem badNote_stores {e p : Nat} {h : List Byte} {s t : State} (hb : badNote e p h s = some t) : SameStores s t := by
  unfold badNote at hb
  split at hb
  · cases hb
  · obtain ⟨x, -, rfl⟩ := Option.map_eq_some_iff.mp hb
    simp

@[simp] theorem keepalive_stores (e p : Nat) (h : List Byte) (s : State) : SameStores s (keepalive e p h s) :=
  getD_stores (fun _ => badNote_stores) (by simp)

@[simp] theorem closed_stores (e p : Nat) (h : List Byte) (s : State) : SameStores s (closed e p h s) :=
  getD_stores (fun _ => badNote_stores) (by simp)

@[simp] theorem otherType_stores (e p : Nat) (h : List Byte) (s : State) : SameStores s (otherType e p h s) := by
  unfold otherType
  split <;> simp

@[simp] theorem opened_stores (e p : Nat) (h body : List Byte) (s : State) : SameStores s (opened e p h body s) := by
  unfold opened
  split <;> simp

@[simp] theorem tagPass_stores (p n : Nat) (f : InFrame) (s : State) : SameStores s (tagPass p n f s) := by
  unfold tagPass
  dsimp only
  (repeat' split) <;> simp

@[simp] theorem laneRun_stores (p n : Nat) (f : InFrame) (s : State) : SameStores s (laneRun p n f s) := by simp [laneRun]

@[simp] theorem ingress_stores (p : Nat) (s : State) : SameStores s (ingress p s) := by simp [ingress]

@[simp] theorem buffersPoint_stores (s : State) : SameStores s (buffersPoint s) := by simp [buffersPoint]

@[simp] theorem execMacsecFrame_stores (p k : Nat) (f : List Byte) (s : State) : Completes (SameStores s) (execMacsecFrame p k f s) := by
  simp [execMacsecFrame]

theorem arrive_stores (p k : Nat) (src d : List Byte) (s : State) : SameStores s (arrive p k src d s).state := by
  unfold arrive
  dsimp only
  (repeat' split) <;> simp [Arrived.state]

theorem tpcRow_stores {types : Nat → Bool} {p k : Nat} {f : List Byte} {s : State}
    {g : List Byte → List Byte → Nat → Ep → State → State}
    (hg : ∀ src d e x s, SameStores s (g src d e x s)) : Completes (SameStores s) (tpcRow types p k f s g) := by
  unfold tpcRow
  split
  · simp
  next src d _ =>
    have ha := arrive_stores p k src d s
    split
    · simp
    · split <;> simp_all [Arrived.state]

@[simp] theorem execTpcRequest_stores (p k : Nat) (f : List Byte) (s : State) : Completes (SameStores s) (execTpcRequest p k f s) :=
  tpcRow_stores (fun src d e x s => by simp)

@[simp] theorem execTpcReply_stores (p k : Nat) (f : List Byte) (s : State) : Completes (SameStores s) (execTpcReply p k f s) :=
  tpcRow_stores (fun src d e x s => by simp)

@[simp] theorem execTpcKeepalive_stores (p k : Nat) (f : List Byte) (s : State) : Completes (SameStores s) (execTpcKeepalive p k f s) :=
  tpcRow_stores (fun src d e x s => by simp)

@[simp] theorem execTpcClose_stores (p k : Nat) (f : List Byte) (s : State) : Completes (SameStores s) (execTpcClose p k f s) :=
  tpcRow_stores (fun src d e x s => by simp)

@[simp] theorem execTpcOtherType_stores (p k : Nat) (f : List Byte) (s : State) : Completes (SameStores s) (execTpcOtherType p k f s) :=
  tpcRow_stores (fun src d e x s => by simp)

@[simp] theorem helloTaken_stores (p k : Nat) (src d : List Byte) (e : Nat) (x : Ep) (s : State) :
    SameStores s (helloTaken p k src d e x s) := by simp [helloTaken]

@[simp] theorem execTpcHello_stores (p k : Nat) (f : List Byte) (s : State) : Completes (SameStores s) (execTpcHello p k f s) :=
  tpcRow_stores (fun src d e x s => by simp)

@[simp] theorem acceptHello_stores (e : Nat) (x : Ep) (h : Hello) (s : State) : SameStores s (acceptHello e x h s) := by simp [acceptHello]

@[simp] theorem execHandshakeDone_stores (e : Nat) (s : State) : Completes (SameStores s) (execHandshakeDone e s) := by
  unfold execHandshakeDone
  dsimp only
  (repeat' split) <;> simp

@[simp] theorem execAcceptTimeout_stores (e : Nat) (s : State) : Completes (SameStores s) (execAcceptTimeout e s) := by
  unfold execAcceptTimeout
  split <;> simp

@[simp] theorem execSessionIdleTimeout_stores (e : Nat) (s : State) : Completes (SameStores s) (execSessionIdleTimeout e s) := by
  unfold execSessionIdleTimeout
  split <;> simp

@[simp] theorem execDormantTimeout_stores (e : Nat) (s : State) : Completes (SameStores s) (execDormantTimeout e s) := by
  unfold execDormantTimeout
  split <;> simp

@[simp] theorem execCertExpiry_stores (e : Nat) (s : State) : Completes (SameStores s) (execCertExpiry e s) := by
  unfold execCertExpiry
  split <;> simp

@[simp] theorem sessionsPoint_stores (s : State) : SameStores s (sessionsPoint s) := by simp [sessionsPoint]

@[simp] theorem epLoadCmd_stores (h : Held) (p : List Byte) (s : State) : SameStores s (epLoadCmd h p s) := by
  unfold epLoadCmd
  dsimp only
  (repeat' split) <;> simp

@[simp] theorem execEpLoad_stores (s : State) : Completes (SameStores s) (execEpLoad s) :=
  withCmd_stores (fun h p => by simp)

@[simp] theorem epRemoveCmd_stores (h : Held) (p : List Byte) (s : State) : SameStores s (epRemoveCmd h p s) := by simp [epRemoveCmd]

@[simp] theorem execEpRemove_stores (s : State) : Completes (SameStores s) (execEpRemove s) :=
  withCmd_stores (fun h p => by simp)

@[simp] theorem epQueryCmd_stores (h : Held) (p : List Byte) (s : State) : SameStores s (epQueryCmd h p s) := by simp [epQueryCmd]

@[simp] theorem execEpQuery_stores (s : State) : Completes (SameStores s) (execEpQuery s) :=
  withCmd_stores (fun h p => by simp)

/-! ### Machine/Ptp -/

@[simp] theorem ptpReject_stores (p : Nat) (s : State) : SameStores s (ptpReject p s) := by simp [ptpReject]

@[simp] theorem ptpUnlock_stores (p : Nat) (s : State) : SameStores s (ptpUnlock p s) := by simp [ptpUnlock]

theorem ptpRow_stores {type p k : Nat} {f : List Byte} {s : State} {g : Nat → List Byte → State → State}
    (hg : ∀ v d s, SameStores s (g v d s)) :
    Completes (SameStores s) (ptpRow type p k f s g) := by
  simp only [SameStores] at hg
  unfold ptpRow
  split <;> simp [hg]

@[simp] theorem execPtpAnnounce_stores (p k : Nat) (f : List Byte) (s : State) : Completes (SameStores s) (execPtpAnnounce p k f s) :=
  ptpRow_stores (fun v d s => by dsimp only; (repeat' split) <;> simp)

@[simp] theorem sendDelayReq_stores (p : Nat) (s : State) : SameStores s (sendDelayReq p s) := by simp [sendDelayReq]

@[simp] theorem originSeen_stores (p : Nat) (t1 : Int) (s : State) : SameStores s (originSeen p t1 s).2 := by simp [originSeen]

@[simp] theorem masterTime_stores (p : Nat) (origin correction : Int) (s : State) : SameStores s (masterTime p origin correction s) := by
  simp [masterTime]

@[simp] theorem execPtpSync_stores (p k : Nat) (f : List Byte) (t2 : Int) (s : State) :
    Completes (SameStores s) (execPtpSync p k f t2 s) :=
  ptpRow_stores (fun v d s => by dsimp only; (repeat' split) <;> simp)

theorem inExchange_stores {g : PtpIn → State} {s : State} (hg : ∀ x, SameStores s (g x)) (p : Nat) (d : List Byte) :
    SameStores s (inExchange p d s g) := by
  unfold inExchange
  dsimp only
  split
  · exact .rfl
  · split
    · simp
    · exact hg _

@[simp] theorem execPtpFollowUp_stores (p k : Nat) (f : List Byte) (s : State) : Completes (SameStores s) (execPtpFollowUp p k f s) :=
  ptpRow_stores (fun _ d s => inExchange_stores (fun x => by simp) p d)

@[simp] theorem applyOffset_stores (p : Nat) (off : Int) (s : State) : SameStores s (applyOffset p off s) := by simp [applyOffset]

@[simp] theorem filterOffset_stores (p : Nat) (off : Int) (s : State) : SameStores s (filterOffset p off s) := by simp [filterOffset]

@[simp] theorem execPtpDelayResp_stores (p k : Nat) (f : List Byte) (t3 : Int) (s : State) :
    Completes (SameStores s) (execPtpDelayResp p k f t3 s) :=
  ptpRow_stores (fun _ d s => inExchange_stores (fun x => by (repeat' split) <;> simp) p d)

@[simp] theorem execPtpExchangeTimeout_stores (p : Nat) (s : State) : Completes (SameStores s) (execPtpExchangeTimeout p s) := by
  simp [execPtpExchangeTimeout]

@[simp] theorem execPtpLockLoss_stores (p : Nat) (s : State) : Completes (SameStores s) (execPtpLockLoss p s) := by simp [execPtpLockLoss]

@[simp] theorem ptpSetCmd_stores (h : Held) (p : List Byte) (s : State) : SameStores s (ptpSetCmd h p s) := by simp [ptpSetCmd]

@[simp] theorem execPtpSet_stores (s : State) : Completes (SameStores s) (execPtpSet s) :=
  withCmd_stores (fun h p => by simp)

/-! ### Machine/AccordCmds -/

@[simp] theorem accordLoadCmd_stores (h : Held) (p : List Byte) (s : State) : SameStores s (accordLoadCmd h p s) := by
  unfold accordLoadCmd
  dsimp only
  (repeat' split) <;> simp

@[simp] theorem execAccordLoad_stores (s : State) : Completes (SameStores s) (execAccordLoad s) :=
  withCmd_stores (fun h p => by simp)

@[simp] theorem accordRemoveCmd_stores (h : Held) (p : List Byte) (s : State) : SameStores s (accordRemoveCmd h p s) := by
  simp [accordRemoveCmd]

@[simp] theorem execAccordRemove_stores (s : State) : Completes (SameStores s) (execAccordRemove s) :=
  withCmd_stores (fun h p => by simp)

@[simp] theorem accordQueryCmd_stores (h : Held) (p : List Byte) (s : State) : SameStores s (accordQueryCmd h p s) := by
  simp [accordQueryCmd]

@[simp] theorem execAccordQuery_stores (s : State) : Completes (SameStores s) (execAccordQuery s) :=
  withCmd_stores (fun h p => by simp)

@[simp] theorem accordsPoint_stores (s : State) : SameStores s (accordsPoint s) :=
  foldl_stores (fun s a => by (repeat' split) <;> simp) _ _

@[simp] theorem routeSetCmd_stores (h : Held) (p : List Byte) (s : State) : SameStores s (routeSetCmd h p s) := by simp [routeSetCmd]

@[simp] theorem execRouteSet_stores (s : State) : Completes (SameStores s) (execRouteSet s) :=
  withCmd_stores (fun h p => by simp)

@[simp] theorem routesPoint_stores (s : State) : SameStores s (routesPoint s) := by simp [routesPoint]

@[simp] theorem refuseLater_stores (i : HdrInfo) (note status : Nat) (s : State) : SameStores s (refuseLater i note status s) := by
  simp [refuseLater]

@[simp] theorem execForwardClose_stores (id : Nat) (s : State) : Completes (SameStores s) (execForwardClose id s) := by
  unfold execForwardClose
  split <;> simp

@[simp] theorem execReferralVerdictExpiry_stores (id : Nat) (s : State) : Completes (SameStores s) (execReferralVerdictExpiry id s) := by
  unfold execReferralVerdictExpiry
  split <;> simp

@[simp] theorem verdictCmd_stores (h : Held) (p : List Byte) (s : State) : SameStores s (verdictCmd h p s) := by simp [verdictCmd]

@[simp] theorem execVerdict_stores (s : State) : Completes (SameStores s) (execVerdict s) :=
  withCmd_stores (fun h p => by simp)

@[simp] theorem applyVerdict_stores (s : State) (v : VerdictRec) : SameStores s (applyVerdict s v) := by
  unfold applyVerdict
  split <;> simp

@[simp] theorem verdictsPoint_stores (s : State) : SameStores s (verdictsPoint s) := by simp [verdictsPoint]

/-! ### Machine/Bar0 -/

@[simp] theorem bar0Notice_stores (off : Nat) (s : State) : SameStores s (bar0Notice off s) := by simp [bar0Notice]

@[simp] theorem badWrite_stores (off : Nat) (s : State) : SameStores s (badWrite off s) := by simp [badWrite]

@[simp] theorem badRead_stores (off size : Nat) (s : State) : SameStores s (badRead off size s) := by simp [badRead]

/-! ### Machine/Digest -/

@[simp] theorem execDgClaim_stores (u : Nat) (s : State) : Completes (SameStores s) (execDgClaim u s) := by simp [execDgClaim]

@[simp] theorem releaseUnit_stores (u : Nat) (s : State) : SameStores s (releaseUnit u s) := by simp [releaseUnit]

@[simp] theorem execDgRelease_stores (u : Nat) (s : State) : Completes (SameStores s) (execDgRelease u s) := by simp [execDgRelease]

@[simp] theorem releaseAll_stores (s : State) : SameStores s (releaseAll s) := by simp [releaseAll]

@[simp] theorem execDgClaimComplete_stores (u : Nat) (s : State) : Completes (SameStores s) (execDgClaimComplete u s) := by
  unfold execDgClaimComplete
  split
  · simp
  · refine completes_next.2 (.trans (t := modDg u (fun _ => { claimed := true }) s) (by simp) (foldl_stores (fun s p => ?_) _ _))
    split <;> simp

@[simp] theorem dgLost_stores (u : Nat) (s : State) : SameStores s (dgLost u s) := by simp [dgLost]

theorem dgPage_stores {u off : Nat} {s : State} {f : DgUnit → State} (hf : ∀ x, SameStores s (f x)) :
    Completes (SameStores s) (dgPage u off s f) := by
  simp only [SameStores] at hf
  simp [dgPage, hf]

@[simp] theorem execDgStart_stores (u alg : Nat) (isSealed : Bool) (s : State) :
    Completes (SameStores s) (execDgStart u alg isSealed s) := by simp [execDgStart, dgPage]

@[simp] theorem execDgSealedKeyReady_stores (u : Nat) (s : State) : Completes (SameStores s) (execDgSealedKeyReady u s) := by
  unfold execDgSealedKeyReady
  dsimp only
  (repeat' split) <;> simp

@[simp] theorem dgRefused_stores (u : Nat) (x : DgUnit) (s : State) : SameStores s (dgRefused u x s) := by simp [dgRefused]

@[simp] theorem execDgData_stores (u v : Nat) (s : State) : Completes (SameStores s) (execDgData u v s) := by simp [execDgData, dgPage]

@[simp] theorem execDgLastCtl_stores (u vb : Nat) (s : State) : Completes (SameStores s) (execDgLastCtl u vb s) := by
  simp [execDgLastCtl, dgPage]

@[simp] theorem dgBytes_stores (n : Nat) (s : State) : SameStores s (dgBytes n s) := by simp [dgBytes]

@[simp] theorem execDgBlockDone_stores (u : Nat) (s : State) : Completes (SameStores s) (execDgBlockDone u s) := by
  unfold execDgBlockDone
  split <;> simp

@[simp] theorem execDgMessageDone_stores (u : Nat) (s : State) : Completes (SameStores s) (execDgMessageDone u s) := by
  unfold execDgMessageDone
  split <;> simp

@[simp] theorem execDgAbort_stores (u : Nat) (s : State) : Completes (SameStores s) (execDgAbort u s) := by simp [execDgAbort, dgPage]

@[simp] theorem execDgSave_stores (u : Nat) (s : State) : Completes (SameStores s) (execDgSave u s) := by simp [execDgSave, dgPage]

@[simp] theorem execDgRestore_stores (u : Nat) (s : State) : Completes (SameStores s) (execDgRestore u s) := by
  unfold execDgRestore
  rw [completes_viaPf0]
  split
  · exact dgPage_stores (fun x => by dsimp only; (repeat' split) <;> simp)
  · simp

@[simp] theorem execDigestChunkEnd_stores (id : Nat) (s : State) : Completes (SameStores s) (execDigestChunkEnd id s) := by
  unfold execDigestChunkEnd
  split <;> simp

@[simp] theorem digestDomwinCmd_stores (h : Held) (p : List Byte) (s : State) : SameStores s (digestDomwinCmd h p s) := by
  simp [digestDomwinCmd]

@[simp] theorem execDigestDomwin_stores (s : State) : Completes (SameStores s) (execDigestDomwin s) :=
  withCmd_stores (fun h p => by simp)

@[simp] theorem execRnData_stores (s : State) : Completes (SameStores s) (execRnData s) := by
  unfold execRnData
  split <;> simp

@[simp] theorem execEntropyBlock_stores (s : State) : Completes (SameStores s) (execEntropyBlock s) := by simp [execEntropyBlock]

@[simp] theorem sourcesChanged_stores (s : State) : SameStores s (sourcesChanged s) := by simp [sourcesChanged]

@[simp] theorem sourceFails_stores (k cause : Nat) (s : State) : SameStores s (sourceFails k cause s) := by simp [sourceFails]

@[simp] theorem execNoiseSourceFail_stores (k cause : Nat) (s : State) : Completes (SameStores s) (execNoiseSourceFail k cause s) := by
  simp [execNoiseSourceFail]

@[simp] theorem execSourceRetest_stores (k : Nat) (passed : Bool) (s : State) :
    Completes (SameStores s) (execSourceRetest k passed s) := by simp [execSourceRetest]

@[simp] theorem noisePoint_stores (s : State) : SameStores s (noisePoint s) := by simp [noisePoint]

@[simp] theorem execNoSourceTimeout_stores (s : State) : Completes (SameStores s) (execNoSourceTimeout s) := by simp [execNoSourceTimeout]

@[simp] theorem execSourceWindowEnd_stores (k ones equal : Nat) (s : State) :
    Completes (SameStores s) (execSourceWindowEnd k ones equal s) := by simp [execSourceWindowEnd]

/-! ### Machine/KeyCmds -/

@[simp] theorem domainSetCmd_stores (h : Held) (p : List Byte) (s : State) : SameStores s (domainSetCmd h p s) := by
  unfold domainSetCmd
  split <;> simp

@[simp] theorem execDomainSet_stores (s : State) : Completes (SameStores s) (execDomainSet s) :=
  withCmd_stores (fun h p => by simp)

@[simp] theorem epochCmd_stores (h : Held) (p : List Byte) (s : State) : SameStores s (epochCmd h p s) := by simp [epochCmd]

@[simp] theorem execEpoch_stores (s : State) : Completes (SameStores s) (execEpoch s) :=
  withCmd_stores (fun h p => by simp)

@[simp] theorem journalSetCmd_stores (h : Held) (p : List Byte) (s : State) : SameStores s (journalSetCmd h p s) := by simp [journalSetCmd]

@[simp] theorem execJournalSet_stores (s : State) : Completes (SameStores s) (execJournalSet s) :=
  withCmd_stores (fun h p => by simp)

@[simp] theorem ringWrite_stores (r : JRing) (slots : Nat) (data : List Byte) (s : State) : SameStores s (ringWrite r slots data s) := by
  simp [ringWrite]

theorem sendEntry_stores {r : JRing} {e : JEntry} {s t : State} (h : sendEntry r e s = some t) : SameStores s t := by
  simp only [sendEntry, Option.ite_none_left_eq_some, Option.some.injEq] at h
  obtain ⟨-, -, rfl⟩ := h
  simp

@[simp] theorem sendEntries_stores (r : JRing) : ∀ (l : List JEntry) (s : State),
    SameStores s (sendEntries r l s).2
  | [], _ => .rfl
  | e :: l, s => by
    unfold sendEntries
    split
    · simp [sendEntries_stores r l]
    · split
      · exact .rfl
      next t ht =>
        obtain ⟨hrecs, hbuf, hrest⟩ := sendEntry_stores ht
        simp [sendEntries_stores r l, hrecs, hbuf, hrest]

@[simp] theorem updateFull_stores (s : State) : SameStores s (updateFull s) := by simp [updateFull]

@[simp] theorem execJournalStream_stores (s : State) : Completes (SameStores s) (execJournalStream s) := by
  unfold execJournalStream
  split <;> simp

@[simp] theorem execRootSlotWrite_stores (s : State) : Completes (SameStores s) (execRootSlotWrite s) := by
  unfold execRootSlotWrite
  split <;> simp

@[simp] theorem execKsJhead_stores (value : Nat) (s : State) : Completes (SameStores s) (execKsJhead value s) := by
  unfold execKsJhead
  split <;> simp

@[simp] theorem execHoldDownExpiry_stores (i : Nat) (s : State) : Completes (SameStores s) (execHoldDownExpiry i s) := by
  unfold execHoldDownExpiry
  split <;> simp

@[simp] theorem snapshotCmd_stores (h : Held) (p : List Byte) (s : State) : SameStores s (snapshotCmd h p s) := by simp [snapshotCmd]

@[simp] theorem execSnapshot_stores (s : State) : Completes (SameStores s) (execSnapshot s) :=
  withCmd_stores (fun h p => by simp)

@[simp] theorem takeSnap_stores (s : State) : SameStores s (takeSnap s) := by
  unfold takeSnap
  split <;> simp

@[simp] theorem spill_stores : ∀ (l : List (Nat × Nat)) (bs : List Byte) (s : State),
    SameStores s (spill l bs s)
  | [], _, _ => .rfl
  | (a, n) :: l, bs, s => by simp [spill, spill_stores l]

@[simp] theorem endSnapshot_stores (n : Snap) (s : State) : SameStores s (endSnapshot n s).2 := by simp [endSnapshot]

@[simp] theorem reloadCmd_stores (h : Held) (p : List Byte) (s : State) : SameStores s (reloadCmd h p s) := by simp [reloadCmd]

@[simp] theorem execReload_stores (s : State) : Completes (SameStores s) (execReload s) :=
  withCmd_stores (fun h p => by simp)

@[simp] theorem cerOpenCmd_stores (h : Held) (p : List Byte) (s : State) : SameStores s (cerOpenCmd h p s) := by
  unfold cerOpenCmd
  split <;> simp

@[simp] theorem execCerOpen_stores (s : State) : Completes (SameStores s) (execCerOpen s) :=
  withCmd_stores (fun h p => by simp)

@[simp] theorem cerComponentCmd_stores (h : Held) (p : List Byte) (s : State) : SameStores s (cerComponentCmd h p s) := by
  unfold cerComponentCmd
  dsimp only
  (repeat' split) <;> simp

@[simp] theorem execCerComponent_stores (s : State) : Completes (SameStores s) (execCerComponent s) :=
  withCmd_stores (fun h p => by simp)

@[simp] theorem cerCommitCmd_stores (h : Held) (p : List Byte) (s : State) : SameStores s (cerCommitCmd h p s) := by
  unfold cerCommitCmd
  dsimp only
  (repeat' split) <;> simp

@[simp] theorem execCerCommit_stores (s : State) : Completes (SameStores s) (execCerCommit s) :=
  withCmd_stores (fun h p => by simp)

@[simp] theorem cerAbortCmd_stores (h : Held) (p : List Byte) (s : State) : SameStores s (cerAbortCmd h p s) := by
  unfold cerAbortCmd
  split <;> simp

@[simp] theorem execCerAbort_stores (s : State) : Completes (SameStores s) (execCerAbort s) :=
  withCmd_stores (fun h p => by simp)

@[simp] theorem execCeremonyExpiry_stores (s : State) : Completes (SameStores s) (execCeremonyExpiry s) := by simp [execCeremonyExpiry]

@[simp] theorem startMigration_stores (s : State) : SameStores s (startMigration s) := by simp [startMigration]

@[simp] theorem execMigrationSegmentSwitch_stores (seg : Nat) (s : State) :
    Completes (SameStores s) (execMigrationSegmentSwitch seg s) := by
  unfold execMigrationSegmentSwitch
  split <;> simp

/-! ### Machine/Firebox -/

@[simp] theorem stepCond_stores (r : SensorReading) (acc : State × List Hit) (c : Cond) :
    SameStores acc.1 (stepCond r acc c).1 := .rfl

@[simp] theorem takeReading_stores (rs : List SensorReading) (acc : State × List Hit) (r : SensorReading) :
    SameStores acc.1 (takeReading rs acc r).1 := by simp [takeReading]

@[simp] theorem takeSample_stores (rs : List SensorReading) (s : State) : SameStores s (takeSample rs s).1 := by
  unfold takeSample
  dsimp only
  (repeat' split) <;> simp

@[simp] theorem battEvent_stores (e : BattEvt) (s : State) : SameStores s (battEvent e s) := by
  unfold battEvent
  dsimp only
  (repeat' split) <;> simp

@[simp] theorem nEvent_stores (h : Hit) (s : State) : SameStores s (nEvent h s) := by simp [nEvent]

@[simp] theorem recordLater_stores (h : Hit) (s : State) : SameStores s (recordLater h s) := by simp [recordLater]

@[simp] theorem recordHit_stores (h : Hit) (s : State) : SameStores s (recordHit h s) := by simp [recordHit]

@[simp] theorem firstDecision_stores (h : Hit) (s : State) : SameStores s (firstDecision h s) := by simp [firstDecision]

@[simp] theorem takeHit_stores (s : State) (h : Hit) : SameStores s (takeHit s h) := by
  unfold takeHit
  dsimp only
  (repeat' split) <;> simp

@[simp] theorem clockFault_stores (hs : List Hit) (s : State) : SameStores s (clockFault hs s) := by simp [clockFault]

@[simp] theorem takeHits_stores (hs : List Hit) (s : State) : SameStores s (takeHits hs s) := by simp [takeHits]

@[simp] theorem collectBaselines_stores (rs : List SensorReading) (s : State) : SameStores s (collectBaselines rs s) := by
  simp [collectBaselines]

@[simp] theorem summaryPoint_stores (s : State) : SameStores s (summaryPoint s) := by
  unfold summaryPoint
  dsimp only
  (repeat' split) <;> simp

@[simp] theorem refreshHealth_stores (s : State) : SameStores s (refreshHealth s) := by simp [refreshHealth]

@[simp] theorem execTamperSample_stores (rs : List SensorReading) (s : State) : Completes (SameStores s) (execTamperSample rs s) := by
  simp [execTamperSample]

@[simp] theorem execBatterySample_stores (rs : List SensorReading) (s : State) : Completes (SameStores s) (execBatterySample rs s) := by
  simp [execBatterySample]

@[simp] theorem execVibrationWake_stores (s : State) : Completes (SameStores s) (execVibrationWake s) := by simp [execVibrationWake]

@[simp] theorem tamperSplit_stores (d : TamperDec) (s : State) : SameStores s (tamperSplit d s) := by simp [tamperSplit]

@[simp] theorem execCrystalStop_stores (s : State) : Completes (SameStores s) (execCrystalStop s) := by simp [execCrystalStop]

@[simp] theorem execCrystalRestored_stores (s : State) : Completes (SameStores s) (execCrystalRestored s) := by simp [execCrystalRestored]

@[simp] theorem execCellSelectChange_stores (cellA cellB detail : Nat) (s : State) :
    Completes (SameStores s) (execCellSelectChange cellA cellB detail s) := by simp [execCellSelectChange]

@[simp] theorem execBaselineComplete_stores (sensor inst : Nat) (s : State) :
    Completes (SameStores s) (execBaselineComplete sensor inst s) := by simp [execBaselineComplete]

@[simp] theorem execTmEvidSel_stores (value : Nat) (s : State) : Completes (SameStores s) (execTmEvidSel value s) := by simp [execTmEvidSel]

@[simp] theorem execThermalRailRemoval_stores (s : State) : Completes (SameStores s) (execThermalRailRemoval s) := by
  unfold execThermalRailRemoval
  split <;> simp

/-! ### Machine/Pairs -/

@[simp] theorem abandonLongs_stores (s : State) : SameStores s (abandonLongs s) := by simp [abandonLongs]

@[simp] theorem loseActive_stores (i cause : Nat) (s : State) : SameStores s (loseActive i cause s) := by simp [loseActive]

@[simp] theorem loseStandby_stores (s : State) : SameStores s (loseStandby s) := by simp [loseStandby]

@[simp] theorem stopPair_stores (i cause : Nat) (s : State) : SameStores s (stopPair i cause s) := by simp [stopPair]

@[simp] theorem endInHand_stores (pair : Nat) (s : State) : SameStores s (endInHand pair s) := by
  unfold endInHand
  (repeat' split) <;> simp

@[simp] theorem hcViolation_stores (pair : Nat) (a : Access) (b : Blocked) (s : State) : SameStores s (hcViolation pair a b s) := by
  simp [hcViolation]

@[simp] theorem execHcPairStop_stores (pair cause : Nat) (a : Option Access) (s : State) :
    Completes (SameStores s) (execHcPairStop pair cause a s) := by
  unfold execHcPairStop
  (repeat' split) <;> simp

@[simp] theorem fencePoint_stores (s : State) : SameStores s (fencePoint s) := by simp [fencePoint]

@[simp] theorem execHcHeartbeatTimeout_stores (pair : Nat) (s : State) : Completes (SameStores s) (execHcHeartbeatTimeout pair s) := by
  simp [execHcHeartbeatTimeout]

@[simp] theorem answerByLedger_stores (s : State) : SameStores s (answerByLedger s) := by
  unfold answerByLedger
  dsimp only
  (repeat' split) <;> simp

@[simp] theorem resolveTransition_stores (s : State) : SameStores s (resolveTransition s) := by simp [resolveTransition]

@[simp] theorem afterTakeover_stores (s : State) : SameStores s (afterTakeover s) := by
  unfold afterTakeover
  split <;> simp

@[simp] theorem rollBack_stores (s : State) : SameStores s (rollBack s) := by simp [rollBack]

@[simp] theorem execTakeoverFirstCommand_stores (gap : Nat) (s : State) : Completes (SameStores s) (execTakeoverFirstCommand gap s) := by
  simp [execTakeoverFirstCommand]

@[simp] theorem switchFirmware_stores (out : Nat) (s : State) : SameStores s (switchFirmware out s) := by
  unfold switchFirmware
  split <;> simp

@[simp] theorem handControl_stores (cause since : Nat) (s : State) : SameStores s (handControl cause since s) := by simp [handControl]

@[simp] theorem endHandOver_stores (cause since : Nat) (s : State) : SameStores s (endHandOver cause since s) := by
  unfold endHandOver
  split <;> simp

@[simp] theorem tryPlanned_stores (cause since : Nat) (s : State) : SameStores s (tryPlanned cause since s) := by simp [tryPlanned]

@[simp] theorem retryPlanned_stores (s : State) : SameStores s (retryPlanned s) := by
  unfold retryPlanned
  split <;> simp

@[simp] theorem revertNow_stores (s : State) : SameStores s (revertNow s) := by simp [revertNow]

@[simp] theorem rotate_stores (s : State) : SameStores s (rotate s) := by simp [rotate]

@[simp] theorem execRevertBoundary_stores (s : State) : Completes (SameStores s) (execRevertBoundary s) := by simp [execRevertBoundary]

@[simp] theorem execRotationBoundary_stores (s : State) : Completes (SameStores s) (execRotationBoundary s) := by simp [execRotationBoundary]

@[simp] theorem restartPair_stores (s : State) (i : Nat) : SameStores s (restartPair s i) := by
  unfold restartPair
  split <;> simp

@[simp] theorem restartPairs_stores (s : State) : SameStores s (restartPairs s) := by simp [restartPairs]

@[simp] theorem execPairRestartDone_stores (pair failStep : Nat) (s : State) :
    Completes (SameStores s) (execPairRestartDone pair failStep s) := by simp [execPairRestartDone]

/-! ### Machine/LifeCmds -/

@[simp] theorem nonceCmd_stores (h : Held) (k : List Byte) (s : State) : SameStores s (nonceCmd h k s) := by simp [nonceCmd]

@[simp] theorem execNonce_stores (s : State) : Completes (SameStores s) (execNonce s) :=
  withCmd_stores (fun h p => by simp)

@[simp] theorem statusCmd_stores (h : Held) (k : List Byte) (s : State) : SameStores s (statusCmd h k s) := by simp [statusCmd]

@[simp] theorem execStatus_stores (s : State) : Completes (SameStores s) (execStatus s) :=
  withCmd_stores (fun h p => by simp)

@[simp] theorem packageRefused_stores (pkg : List Byte) (check : Nat) (s : State) : SameStores s (packageRefused pkg check s) := by
  simp [packageRefused]

@[simp] theorem gateRefusal_stores (h : Held) (e : Nat × Nat) (s : State) : SameStores s (gateRefusal h e s) := by simp [gateRefusal]

@[simp] theorem relaySend_stores (i : Held) (s : State) : SameStores s (relaySend i s) := by
  unfold relaySend
  split <;> simp

@[simp] theorem execQuorumCheckDone_stores (faults : List (Bool × Bool)) (s : State) :
    Completes (SameStores s) (execQuorumCheckDone faults s) := by
  unfold execQuorumCheckDone
  dsimp only
  (repeat' split) <;> simp

@[simp] theorem beginDecision_stores (k : DecKind) (first : Bool) (s : State) : SameStores s (beginDecision k first s) := by
  simp [beginDecision]

@[simp] theorem decideTwice_stores (k : DecKind) (first : Bool) (s : State) : SameStores s (decideTwice k first s) := by simp [decideTwice]

@[simp] theorem stateChangeCmd_stores (h : Held) (p : List Byte) (s : State) : SameStores s (stateChangeCmd h p s) := by
  unfold stateChangeCmd
  (repeat' split) <;> simp

@[simp] theorem execStateChange_stores (s : State) : Completes (SameStores s) (execStateChange s) :=
  withCmd_stores (fun h p => by simp)

@[simp] theorem unlockCmd_stores (h : Held) (k : List Byte) (s : State) : SameStores s (unlockCmd h k s) := by
  unfold unlockCmd
  split <;> simp

@[simp] theorem execUnlock_stores (s : State) : Completes (SameStores s) (execUnlock s) :=
  withCmd_stores (fun h p => by simp)

@[simp] theorem writeSlotVer_stores (slot v : Nat) (s : State) : SameStores s (writeSlotVer slot v s) := by simp [writeSlotVer]

@[simp] theorem fwLoadCmd_stores (h : Held) (p : List Byte) (s : State) : SameStores s (fwLoadCmd h p s) := by simp [fwLoadCmd]

@[simp] theorem execFwLoad_stores (s : State) : Completes (SameStores s) (execFwLoad s) :=
  withCmd_stores (fun h p => by simp)

@[simp] theorem commitTrial_stores (s : State) : SameStores s (commitTrial s) := by simp [commitTrial]

@[simp] theorem fwActivateCmd_stores (h : Held) (p : List Byte) (s : State) : SameStores s (fwActivateCmd h p s) := by simp [fwActivateCmd]

@[simp] theorem execFwActivate_stores (s : State) : Completes (SameStores s) (execFwActivate s) :=
  withCmd_stores (fun h p => by simp)

@[simp] theorem execFwStandbyLoaded_stores (s : State) : Completes (SameStores s) (execFwStandbyLoaded s) := by
  unfold execFwStandbyLoaded
  split <;> simp

@[simp] theorem execFwTrialCommit_stores (s : State) : Completes (SameStores s) (execFwTrialCommit s) := by simp [execFwTrialCommit]

@[simp] theorem progKeySetCmd_stores (h : Held) (p : List Byte) (s : State) : SameStores s (progKeySetCmd h p s) := by simp [progKeySetCmd]

@[simp] theorem execProgKeySet_stores (s : State) : Completes (SameStores s) (execProgKeySet s) :=
  withCmd_stores (fun h p => by simp)

@[simp] theorem installProg_stores (p : Prog) (s : State) : SameStores s (installProg p s) := by simp [installProg]

@[simp] theorem progLoadCmd_stores (h : Held) (p : List Byte) (s : State) : SameStores s (progLoadCmd h p s) := by simp [progLoadCmd]

@[simp] theorem execProgLoad_stores (s : State) : Completes (SameStores s) (execProgLoad s) :=
  withCmd_stores (fun h p => by simp)

@[simp] theorem progWithdrawCmd_stores (h : Held) (p : List Byte) (s : State) : SameStores s (progWithdrawCmd h p s) := by
  simp [progWithdrawCmd]

@[simp] theorem execProgWithdraw_stores (s : State) : Completes (SameStores s) (execProgWithdraw s) :=
  withCmd_stores (fun h p => by simp)

@[simp] theorem decideLong_stores (op status detail : Nat) (s : State) : SameStores s (decideLong op status detail s) := by
  simp [decideLong]

@[simp] theorem turnDown_stores (k : DecKind) (s : State) : SameStores s (turnDown k s) := by
  unfold turnDown
  dsimp only
  (repeat' split) <;> simp

@[simp] theorem splitDecision_stores (k : DecKind) (s : State) : SameStores s (splitDecision k s) := by
  unfold splitDecision
  split <;> simp

theorem stores_of_some {a b : Nat} {s t : State} {r : Nat × Nat × State} (h : some (a, b, t) = some r) (ht : SameStores s t) :
    SameStores s r.2.2 :=
  Option.some.inj h ▸ ht

/-! ### Machine/Accounting -/

@[simp] theorem beginClose_stores (c : Close) (s : State) : SameStores s (beginClose c s) := by simp [beginClose]

@[simp] theorem closeInterval_stores (cause : Nat) (deferred : Bool) (s : State) : SameStores s (closeInterval cause deferred s) := by
  simp [closeInterval]

@[simp] theorem closeOrDefer_stores (cause : Nat) (s : State) : SameStores s (closeOrDefer cause s) := by simp [closeOrDefer]

@[simp] theorem intervalClose_stores (s : State) : SameStores s (intervalClose s) := by
  unfold intervalClose
  split <;> simp

@[simp] theorem execIntervalClose_stores (s : State) : Completes (SameStores s) (execIntervalClose s) := by simp [execIntervalClose]

@[simp] theorem tariffSwitch_stores (s : State) : SameStores s (tariffSwitch s) := by
  unfold tariffSwitch
  split <;> simp

@[simp] theorem execTariffSwitch_stores (s : State) : Completes (SameStores s) (execTariffSwitch s) := by simp [execTariffSwitch]

@[simp] theorem startCkpt_stores (s : State) : SameStores s (startCkpt s) := by simp [startCkpt]

@[simp] theorem execCheckpointStart_stores (s : State) : Completes (SameStores s) (execCheckpointStart s) := by simp [execCheckpointStart]

@[simp] theorem execCheckpointEnd_stores (s : State) : Completes (SameStores s) (execCheckpointEnd s) := by
  unfold execCheckpointEnd
  split <;> simp

@[simp] theorem putRecord_stores (r : URing) (c : Close) (s : State) : SameStores s (putRecord r c s) := by simp [putRecord]

@[simp] theorem ringStalls_stores (s : State) : SameStores s (ringStalls s) := by simp [ringStalls]

@[simp] theorem streamEnds_stores (s : State) : SameStores s (streamEnds s) := by
  unfold streamEnds
  dsimp only
  (repeat' split) <;> simp

@[simp] theorem streamPoint_stores (s : State) : SameStores s (streamPoint s) := by simp [streamPoint]

@[simp] theorem execUsageStream_stores (n : Nat) (s : State) : Completes (SameStores s) (execUsageStream n s) := by
  unfold execUsageStream
  split <;> simp

@[simp] theorem execAcRhead_stores (value : Nat) (s : State) : Completes (SameStores s) (execAcRhead value s) := by
  unfold execAcRhead
  split <;> simp

@[simp] theorem acConfigCmd_stores (h : Held) (p : List Byte) (s : State) : SameStores s (acConfigCmd h p s) := by simp [acConfigCmd]

@[simp] theorem execAcConfig_stores (s : State) : Completes (SameStores s) (execAcConfig s) :=
  withCmd_stores (fun h p => by simp)

@[simp] theorem acRateLoadCmd_stores (h : Held) (p : List Byte) (s : State) : SameStores s (acRateLoadCmd h p s) := by simp [acRateLoadCmd]

@[simp] theorem execAcRateLoad_stores (s : State) : Completes (SameStores s) (execAcRateLoad s) :=
  withCmd_stores (fun h p => by simp)

@[simp] theorem acTariffArmCmd_stores (h : Held) (p : List Byte) (s : State) : SameStores s (acTariffArmCmd h p s) := by
  simp [acTariffArmCmd]

@[simp] theorem execAcTariffArm_stores (s : State) : Completes (SameStores s) (execAcTariffArm s) :=
  withCmd_stores (fun h p => by simp)

@[simp] theorem acTariffCancelCmd_stores (h : Held) (k : List Byte) (s : State) : SameStores s (acTariffCancelCmd h k s) := by
  simp [acTariffCancelCmd]

@[simp] theorem execAcTariffCancel_stores (s : State) : Completes (SameStores s) (execAcTariffCancel s) :=
  withCmd_stores (fun h p => by simp)

@[simp] theorem acRingSetCmd_stores (h : Held) (p : List Byte) (s : State) : SameStores s (acRingSetCmd h p s) := by simp [acRingSetCmd]

@[simp] theorem execAcRingSet_stores (s : State) : Completes (SameStores s) (execAcRingSet s) :=
  withCmd_stores (fun h p => by simp)

@[simp] theorem acCloseNowCmd_stores (h : Held) (k : List Byte) (s : State) : SameStores s (acCloseNowCmd h k s) := by simp [acCloseNowCmd]

@[simp] theorem execAcCloseNow_stores (s : State) : Completes (SameStores s) (execAcCloseNow s) :=
  withCmd_stores (fun h p => by simp)

@[simp] theorem closesPoint_stores (s : State) : SameStores s (closesPoint s) := by
  unfold closesPoint
  dsimp only
  (repeat' split) <;> simp

@[simp] theorem forcedPoint_stores (s : State) : SameStores s (forcedPoint s) := by simp [forcedPoint]

@[simp] theorem heldPoint_stores (s : State) : SameStores s (heldPoint s) := by
  unfold heldPoint
  dsimp only
  (repeat' split) <;> simp

@[simp] theorem execInputLossDetected_stores (s : State) : Completes (SameStores s) (execInputLossDetected s) := by
  simp [execInputLossDetected]

@[simp] theorem execPowerFailSave_stores (s : State) : Completes (SameStores s) (execPowerFailSave s) := by
  unfold execPowerFailSave
  split <;> simp

@[simp] theorem restoreCounters_stores (s : State) : SameStores s (restoreCounters s) := by
  unfold restoreCounters
  dsimp only
  (repeat' split) <;> simp

@[simp] theorem restoreRecords_stores (s : State) : SameStores s (restoreRecords s) := by
  unfold restoreRecords
  split <;> simp

/-! ### Machine/Power -/

@[simp] theorem powerOn_stores (s : State) : SameStores s (powerOn s) := by simp [powerOn]

@[simp] theorem execPowerGood_stores (addr0 addr1 : Bool) (s : State) : Completes (SameStores s) (execPowerGood addr0 addr1 s) := by
  simp [execPowerGood]

@[simp] theorem startFails_stores (stage cause : Nat) (s : State) : SameStores s (startFails stage cause s) := by simp [startFails]

@[simp] theorem execStage2SelftestEnd_stores (aOk bOk : Bool) (s : State) :
    Completes (SameStores s) (execStage2SelftestEnd aOk bOk s) := by simp [execStage2SelftestEnd]

@[simp] theorem tornEvid_stores (s : State) : SameStores s (tornEvid s) := by simp [tornEvid]

@[simp] theorem battAppend_stores (s : State) : SameStores s (battAppend s) := by simp [battAppend]

@[simp] theorem resolved_stores (origin target : Lc) (outcome : Nat) (s : State) : SameStores s (resolved origin target outcome s) := by
  simp [resolved]

@[simp] theorem execStage5RandomReady_stores (srcOk : List Bool) (katOk : Bool) (s : State) :
    Completes (SameStores s) (execStage5RandomReady srcOk katOk s) := by simp [execStage5RandomReady]

@[simp] theorem execStage6SlotDecided_stores (fault : Bool) (s : State) : Completes (SameStores s) (execStage6SlotDecided fault s) := by
  unfold execStage6SlotDecided
  dsimp only
  (repeat' split) <;> simp

@[simp] theorem lanesAtStart_stores (bad : List Nat) (s : State) : SameStores s (lanesAtStart bad s) := by
  unfold lanesAtStart
  generalize List.range 128 = slots
  refine .trans (foldl_stores (fun s n => ?_) _ _) (foldl_stores (fun s k => ?_) _ _)
  · simp
  · (repeat' split) <;> simp

@[simp] theorem unitsAtStart_stores (bad : List Nat) (s : State) : SameStores s (unitsAtStart bad s) := by simp [unitsAtStart]

@[simp] theorem clusterAtStart_stores (bad : List Nat) (c : Nat) (s : State) : SameStores s (clusterAtStart bad c s) := by
  simp [clusterAtStart]

@[simp] theorem execStage8UnitsTested_stores (engs lanes pks clusters : List Nat) (s : State) :
    Completes (SameStores s) (execStage8UnitsTested engs lanes pks clusters s) := by simp [execStage8UnitsTested]

@[simp] theorem storeAtStart_stores (s : State) : SameStores s (storeAtStart s) := by
  unfold storeAtStart
  dsimp only
  (repeat' split) <;> simp

@[simp] theorem tornRecords_stores (s : State) : SameStores s (tornRecords s) := by simp [tornRecords]

@[simp] theorem rejoin_stores (s : State) : SameStores s (rejoin s) := by simp [rejoin]

@[simp] theorem execStage9Ready_stores (s : State) : Completes (SameStores s) (execStage9Ready s) := by simp [execStage9Ready]

/-! ### Machine/Groups -/

@[simp] theorem heard_stores (h : GpHead) (s : State) : SameStores s (heard h s) := by simp [heard]

@[simp] theorem doubtPart_stores (m bid idx id : Nat) (w : Work) (res : Nat) (s : State) :
    SameStores s (doubtPart m bid idx id w res s) := by simp [doubtPart]

@[simp] theorem losePart_stores (keep : Bool) (s : State) (a : Away) : SameStores s (losePart keep s a) := by
  unfold losePart
  split <;> simp

@[simp] theorem loseParts_stores (m : Nat) (s : State) : SameStores s (loseParts m s) := by simp [loseParts]

@[simp] theorem loseDoubts_stores (c : Doubt → Bool) (s : State) : SameStores s (loseDoubts c s) := by simp [loseDoubts]

@[simp] theorem memberRestarted_stores (m : Nat) (s : State) : SameStores s (memberRestarted m s) := by simp [memberRestarted]

@[simp] theorem relayLost_stores (m : Nat) (s : State) : SameStores s (relayLost m s) := by simp [relayLost]

@[simp] theorem depose_stores (g : Nat) (s : State) : SameStores s (depose g s) := by
  unfold depose
  dsimp only
  (repeat' split) <;> simp

theorem takeFrame_stores {p k type : Nat} {h : GpHead} {s t : State} (e : takeFrame p k type h s = some t) : SameStores s t := by
  obtain ⟨f, -, rfl⟩ := Option.map_eq_some_iff.mp e
  exact .rfl

theorem withFrame_stores {from_ type p k : Nat} {h : GpHead} {s : State} {f : State → State} (hf : ∀ s, SameStores s (f s)) :
    Completes (SameStores s) (withFrame from_ type p k h s f) := by
  unfold withFrame
  split
  · exact completes_noEvent.2 .rfl
  next t ht =>
    have htaken := takeFrame_stores ht
    simp only [SameStores] at hf htaken
    (repeat' split) <;> simp [hf, htaken]

@[simp] theorem sendChange_stores (m seq : Nat) (bytes : List Byte) (s : State) : SameStores s (sendChange m seq bytes s) := by
  simp [sendChange]

@[simp] theorem addChange_stores (ks : Nat) (bytes : List Byte) (s : State) : SameStores s (addChange ks bytes s) := by simp [addChange]

@[simp] theorem replicate_stores (s : State) : SameStores s (replicate s) := by simp [replicate]

@[simp] theorem applyStop_stores (s : State) (c : PartStop) : SameStores s (applyStop s c) := by
  unfold applyStop
  split <;> simp

@[simp] theorem refreshMajority_stores (s : State) : SameStores s (refreshMajority s) := by simp [refreshMajority]

@[simp] theorem placeRelayed_stores (s : State) : SameStores s (placeRelayed s) := by
  unfold placeRelayed
  split <;> simp

@[simp] theorem markGranted_stores (s : State) : SameStores s (markGranted s) := by simp [markGranted]

@[simp] theorem staleAway_stores (s : State) : SameStores s (staleAway s) := by simp [staleAway]

@[simp] theorem flueSync_stores (s : State) : SameStores s (flueSync s) := by
  unfold flueSync
  split <;> simp

@[simp] theorem askRecords_stores (s : State) : SameStores s (askRecords s) := by simp [askRecords]

@[simp] theorem sendRecord_stores (m : Nat) (s : State) (i : Nat) : SameStores s (sendRecord m s i) := by simp [sendRecord]

@[simp] theorem ownFlue_stores (d : Nat) (s : State) : SameStores s (ownFlue d s) := by simp [ownFlue]

@[simp] theorem formGroup_stores (p : List Byte) (s : State) : SameStores s (formGroup p s) := by
  simp [formGroup]

@[simp] theorem promoteSelf_stores (h : Held) (p : List Byte) (s : State) :
    SameStores s (promoteSelf h p s) := by simp [promoteSelf]

@[simp] theorem gpFormCmd_stores (h : Held) (p : List Byte) (s : State) :
    SameStores s (gpFormCmd h p s) := by simp [gpFormCmd]

@[simp] theorem execGpForm_stores (s : State) : Completes (SameStores s) (execGpForm s) :=
  withCmd_stores (fun h p => by simp)

theorem asManager_stores {s : State} {f : State → State} (hf : SameStores s (f s)) : SameStores s (asManager s f) := by
  simp only [SameStores] at hf
  simp [asManager, hf]

@[simp] theorem gpAdmitCmd_stores (h : Held) (p : List Byte) (s : State) : SameStores s (gpAdmitCmd h p s) :=
  asManager_stores (by dsimp only; (repeat' split) <;> simp)

@[simp] theorem execGpAdmit_stores (s : State) : Completes (SameStores s) (execGpAdmit s) :=
  withCmd_stores (fun h p => by simp)

@[simp] theorem gpJoinCmd_stores (h : Held) (p : List Byte) (s : State) : SameStores s (gpJoinCmd h p s) := by simp [gpJoinCmd]

@[simp] theorem execGpJoin_stores (s : State) : Completes (SameStores s) (execGpJoin s) :=
  withCmd_stores (fun h p => by simp)

@[simp] theorem gpRemoveCmd_stores (h : Held) (p : List Byte) (s : State) : SameStores s (gpRemoveCmd h p s) :=
  asManager_stores (by dsimp only; (repeat' split) <;> simp)

@[simp] theorem execGpRemove_stores (s : State) : Completes (SameStores s) (execGpRemove s) :=
  withCmd_stores (fun h p => by simp)

@[simp] theorem gpSpreadCmd_stores (h : Held) (p : List Byte) (s : State) : SameStores s (gpSpreadCmd h p s) :=
  asManager_stores (by dsimp only; (repeat' split) <;> simp)

@[simp] theorem execGpSpread_stores (s : State) : Completes (SameStores s) (execGpSpread s) :=
  withCmd_stores (fun h p => by simp)

@[simp] theorem gpStatusCmd_stores (h : Held) (k : List Byte) (s : State) : SameStores s (gpStatusCmd h k s) := by simp [gpStatusCmd]

@[simp] theorem execGpStatus_stores (s : State) : Completes (SameStores s) (execGpStatus s) :=
  withCmd_stores (fun h p => by simp)

@[simp] theorem gpDoubtsCmd_stores (h : Held) (p : List Byte) (s : State) : SameStores s (gpDoubtsCmd h p s) :=
  asManager_stores (by simp)

@[simp] theorem execGpDoubts_stores (s : State) : Completes (SameStores s) (execGpDoubts s) :=
  withCmd_stores (fun h p => by simp)

@[simp] theorem gpRelayCmd_stores (h : Held) (p : List Byte) (s : State) : SameStores s (gpRelayCmd h p s) := by
  refine asManager_stores ?_
  dsimp only
  iterate 7
    split
    · simp
  split
  all_goals
    next hq =>
      have hgate := stores_of_gateEntry hq
      simp only [SameStores] at hgate
      simp [hgate]

@[simp] theorem execGpRelay_stores (s : State) : Completes (SameStores s) (execGpRelay s) :=
  withCmd_stores (fun h p => by simp)

@[simp] theorem streamResync_stores (m : Nat) (full : Bool) (s : State) : SameStores s (streamResync m full s) := by simp [streamResync]

@[simp] theorem execJoinHello_stores (p k : Nat) (group : Nat) (digest : List Byte) (sigOk restarted : Bool) (s : State) :
    Completes (SameStores s) (execJoinHello p k group digest sigOk restarted s) := by
  unfold execJoinHello
  dsimp only
  (repeat' split) <;> simp

@[simp] theorem joined_stores (h : GpHead) (full : Bool) (s : State) : SameStores s (joined h full s) := by simp [joined]

@[simp] theorem execJoinAccept_stores (p k : Nat) (h : GpHead) (digest : List Byte) (sigOk : Bool) (lc rtt : Nat) (full : Bool)
    (sak : List Byte) (s : State) :
    Completes (SameStores s) (execJoinAccept p k h digest sigOk lc rtt full sak s) := by
  unfold execJoinAccept
  dsimp only
  (repeat' split) <;> simp

@[simp] theorem execResyncDone_stores (m : Nat) (s : State) : Completes (SameStores s) (execResyncDone m s) := by simp [execResyncDone]

@[simp] theorem heartTo_stores (m : Nat) (s : State) : SameStores s (heartTo m s) := by simp [heartTo]

@[simp] theorem execHeartbeatSend_stores (s : State) : Completes (SameStores s) (execHeartbeatSend s) := by simp [execHeartbeatSend]

@[simp] theorem execHeartbeat_stores (p k : Nat) (h : GpHead) (echo rtt pool _backlog last : Nat) (s : State) :
    Completes (SameStores s) (execHeartbeat p k h echo rtt pool _backlog last s) :=
  withFrame_stores (fun s => by simp)

@[simp] theorem execControl_stores (p k : Nat) (h : GpHead) (inner : List Byte) (cls signers : Nat) (s : State) :
    Completes (SameStores s) (execControl p k h inner cls signers s) :=
  withFrame_stores (fun s => by simp)

@[simp] theorem execControlResp_stores (p k : Nat) (h : GpHead) (response : List Byte) (s : State) :
    Completes (SameStores s) (execControlResp p k h response s) :=
  withFrame_stores (fun s => by simp)

@[simp] theorem execRepl_stores (p k : Nat) (h : GpHead) (items : List (Nat × ReplItem)) (s : State) :
    Completes (SameStores s) (execRepl p k h items s) :=
  withFrame_stores (fun s => by simp)

@[simp] theorem execReplAck_stores (p k : Nat) (h : GpHead) (last : Nat) (wants : List Nat) (s : State) :
    Completes (SameStores s) (execReplAck p k h last wants s) :=
  withFrame_stores (fun s => by simp)

@[simp] theorem execLockout_stores (p k : Nat) (h : GpHead) (index until_ : Nat) (s : State) :
    Completes (SameStores s) (execLockout p k h index until_ s) :=
  withFrame_stores (fun s => by simp)

@[simp] theorem takePartIn_stores (port m : Nat) (s : State) (x : PartIn) : SameStores s (takePartIn port m s x) := by simp [takePartIn]

@[simp] theorem execPartReq_stores (p k : Nat) (h : GpHead) (parts : List PartIn) (s : State) :
    Completes (SameStores s) (execPartReq p k h parts s) :=
  withFrame_stores (fun s => by simp)

@[simp] theorem takePartOut_stores (m : Nat) (s : State) (x : PartOut) : SameStores s (takePartOut m s x) := by
  unfold takePartOut
  dsimp only
  (repeat' split) <;> simp

@[simp] theorem execPartResult_slicesFlush_stores (s : State) : SameStores s (execPartResult.slicesFlush s) := by
  simp [execPartResult.slicesFlush]

@[simp] theorem execPartResult_stores (p k : Nat) (h : GpHead) (results : List PartOut) (s : State) :
    Completes (SameStores s) (execPartResult p k h results s) :=
  withFrame_stores (fun s => by simp)

@[simp] theorem execPartCancel_stores (p k : Nat) (h : GpHead) (stops : List PartStop) (s : State) :
    Completes (SameStores s) (execPartCancel p k h stops s) :=
  withFrame_stores (fun s => by simp)

@[simp] theorem execPartJournal_stores (p k : Nat) (h : GpHead) (entries : List JPart) (s : State) :
    Completes (SameStores s) (execPartJournal p k h entries s) :=
  withFrame_stores (fun s => by simp)

@[simp] theorem expireDoubts_stores (m : Nat) (s : State) : SameStores s (expireDoubts m s) := by simp [expireDoubts]

@[simp] theorem execDoubtExpiry_stores (s : State) : Completes (SameStores s) (execDoubtExpiry s) := by
  unfold execDoubtExpiry
  split <;> simp

@[simp] theorem loseMember_stores (m : Nat) (s : State) : SameStores s (loseMember m s) := by simp [loseMember]

@[simp] theorem execMemberLost_stores (m : Nat) (s : State) : Completes (SameStores s) (execMemberLost m s) := by simp [execMemberLost]

@[simp] theorem withdrawParts_stores (s : State) : SameStores s (withdrawParts s) := by simp [withdrawParts]

@[simp] theorem execPartWithdrawTimeout_stores (s : State) : Completes (SameStores s) (execPartWithdrawTimeout s) := by
  simp [execPartWithdrawTimeout]

@[simp] theorem orphaned_stores (s : State) : SameStores s (orphaned s) := by simp [orphaned]

@[simp] theorem execManagerLost_stores (s : State) : Completes (SameStores s) (execManagerLost s) := by simp [execManagerLost]

@[simp] theorem silences_stores (s : State) : SameStores s (silences s) := by simp [silences]

@[simp] theorem acceptPromotion_stores (p k : Nat) (h : GpHead) (expel : Nat) (s : State) :
    SameStores s (acceptPromotion p k h expel s) := by simp [acceptPromotion]

@[simp] theorem execPromote_stores (p k : Nat) (h : GpHead) (f : Frame) (serial : Nat) (nonce : List Byte) (s : State) :
    Completes (SameStores s) (execPromote p k h f serial nonce s) := by
  unfold execPromote
  split
  · simp
  next t ht =>
    have htaken := takeFrame_stores ht
    simp only [SameStores] at htaken
    simp [htaken]

@[simp] theorem execPromoteAck_stores (p k : Nat) (h : GpHead) (s : State) : Completes (SameStores s) (execPromoteAck p k h s) :=
  withFrame_stores (fun s => by simp)

/-! ### Machine/Watch -/

@[simp] theorem modWm_stores (k : Nat) (f : Wm → Wm) (s : State) : SameStores s (modWm k f s) := by simp [modWm, listMod]

@[simp] theorem crossing_stores (k level : Nat) (s : State) : SameStores s (crossing k level s) := by simp [crossing]

@[simp] theorem lookAt_stores (s : State) (k : Nat) : SameStores s (lookAt s k) := by simp [lookAt]

@[simp] theorem watermarks_stores (s : State) : SameStores s (watermarks s) := by simp [watermarks]

@[simp] theorem execNqWmCfg_stores (k value : Nat) (s : State) : Completes (SameStores s) (execNqWmCfg k value s) := by simp [execNqWmCfg]

@[simp] theorem execNqWmRearm_stores (k : Nat) (s : State) : Completes (SameStores s) (execNqWmRearm k s) := by simp [execNqWmRearm]

@[simp] theorem evClearCmd_stores (h : Held) (p : List Byte) (s : State) : SameStores s (evClearCmd h p s) := by simp [evClearCmd]

@[simp] theorem execEvClear_stores (s : State) : Completes (SameStores s) (execEvClear s) :=
  withCmd_stores (fun h p => by simp)

@[simp] theorem clearPoint_stores (s : State) : SameStores s (clearPoint s) := by
  unfold clearPoint
  split <;> simp

@[simp] theorem execEvClearDone_stores (s : State) : Completes (SameStores s) (execEvClearDone s) := by
  unfold execEvClearDone
  split <;> simp

/-! ### Machine/Registers -/

@[simp] theorem afterRead_stores (o : Nat) (s : State) : SameStores s (afterRead o s) := by
  unfold afterRead
  dsimp only
  refine ite_keeps (by split <;> simp) ?_
  repeat' apply ite_keeps (P := SameStores s)
  all_goals simp

@[simp] theorem usedFree_stores (s : State) : SameStores s (usedFree s) := by simp [usedFree]

@[simp] theorem plainRead_stores (o size : Nat) (s : State) : SameStores s (plainRead o size s) := by
  unfold plainRead
  (repeat' split) <;> simp

@[simp] theorem readBar0_stores (o size : Nat) (s : State) : Completes (SameStores s) (readBar0 o size s) := by
  have hdata := execRnData_stores s
  unfold readBar0
  split
  · simp
  · split
    · simp
    · split
      · simp
      · split
        · split <;> simp_all
        · simp

@[simp] theorem readBar2_stores (l o size : Nat) (s : State) : Completes (SameStores s) (readBar2 l o size s) := by
  unfold readBar2
  dsimp only
  (repeat' split) <;> simp

@[simp] theorem execCounterReadClear_stores (bar2 : Option Nat) (off size : Nat) (s : State) :
    Completes (SameStores s) (execCounterReadClear bar2 off size s) := by
  unfold execCounterReadClear
  split <;> simp

@[simp] theorem writeDgCtrl_stores (u value : Nat) (s : State) : Completes (SameStores s) (writeDgCtrl u value s) := by
  unfold writeDgCtrl
  split <;> simp

@[simp] theorem writeDgPage_stores (u o value : Nat) (s : State) : Completes (SameStores s) (writeDgPage u o value s) := by
  unfold writeDgPage
  split <;> simp

@[simp] theorem writeDgClaim_stores (value : Nat) (s : State) : Completes (SameStores s) (writeDgClaim value s) := by simp [writeDgClaim]

@[simp] theorem writeEvSnap_stores (value : Nat) (s : State) : Completes (SameStores s) (writeEvSnap value s) := by
  unfold writeEvSnap
  dsimp only
  split
  · exact execEvSnapTake_stores { s with rc.snapRefused := w1c s.rc.snapRefused value 29 }
  · simp

@[simp] theorem writeSrc_stores (k value : Nat) (s : State) : SameStores s (writeSrc k value s) := by simp [writeSrc]

@[simp] theorem writeReg_stores (o value : Nat) (s : State) : Completes (SameStores s) (writeReg o value s) := by simp [writeReg]

@[simp] theorem writeBar2_stores (l o size value : Nat) (s : State) : Completes (SameStores s) (writeBar2 l o size value s) := by
  unfold writeBar2
  dsimp only
  split
  · simp
  · split
    · simp
    · simp
    · simp
    all_goals
      split
      next ht => exact completes_next.2 (doorbellOpen_stores ht)
      · simp

@[simp] theorem markStale_stores (s : State) : SameStores s (markStale s) := by simp [markStale]

@[simp] theorem execPerstAssert_stores (l : Nat) (s : State) : Completes (SameStores s) (execPerstAssert l s) := by simp [execPerstAssert]

@[simp] theorem execPerstDeassert_stores (l : Nat) (s : State) : Completes (SameStores s) (execPerstDeassert l s) := by
  simp [execPerstDeassert]

@[simp] theorem execFunctionLevelReset_stores (fn : Nat) (s : State) : Completes (SameStores s) (execFunctionLevelReset fn s) := by
  unfold execFunctionLevelReset
  split <;> simp

/-! ### Machine/Smbus -/

@[simp] theorem smbAnswer_stores (addr cmd : Nat) (pec : Bool) (data : List Byte) (s : State) :
    SameStores s (smbAnswer addr cmd pec data s) := by simp [smbAnswer]

@[simp] theorem smbSilent_stores (s : State) : SameStores s (smbSilent s) := by simp [smbSilent]

@[simp] theorem smbFree_stores (s : State) : SameStores s (smbFree s).2 := by simp [smbFree]

@[simp] theorem execSmbusReadByte_stores (addr cmd : Nat) (pec : Bool) (s : State) :
    Completes (SameStores s) (execSmbusReadByte addr cmd pec s) := by simp [execSmbusReadByte]

@[simp] theorem execSmbusReadWord_stores (addr cmd : Nat) (pec : Bool) (s : State) :
    Completes (SameStores s) (execSmbusReadWord addr cmd pec s) := by simp [execSmbusReadWord]

@[simp] theorem execSmbusBlockRead_stores (addr cmd : Nat) (pec : Bool) (s : State) :
    Completes (SameStores s) (execSmbusBlockRead addr cmd pec s) := by simp [execSmbusBlockRead]

@[simp] theorem execSmbusDataWrite_stores (_addr _cmd : Nat) (s : State) : Completes (SameStores s) (execSmbusDataWrite _addr _cmd s) := by
  simp [execSmbusDataWrite]

@[simp] theorem execSmbusClockStuck_stores (s : State) : Completes (SameStores s) (execSmbusClockStuck s) := by simp [execSmbusClockStuck]

/-! ### Machine/Sample -/

@[simp] theorem tickBoundaries_stores (s : State) : SameStores s (tickBoundaries s) := by simp [tickBoundaries]

@[simp] theorem supervisors_stores (s : State) : SameStores s (supervisors s) := by simp [supervisors]

@[simp] theorem withdrawals_stores (s : State) : SameStores s (withdrawals s) := by simp [withdrawals]

@[simp] theorem blankPoint_stores (s : State) : SameStores s (blankPoint s) := by simp [blankPoint]

@[simp] theorem afterGrants_stores (s : State) : SameStores s (afterGrants s) := by simp [afterGrants]

@[simp] theorem heartbeat_stores (s : State) : SameStores s (heartbeat s) := by simp [heartbeat]

@[simp] theorem tracePoint_stores (source code data : Nat) (pin : Bool) (s : State) :
    SameStores s (tracePoint source code data pin s) := by simp [tracePoint]

@[simp] theorem firmwarePoint_stores (s : State) : SameStores s (firmwarePoint s) := by
  unfold firmwarePoint
  dsimp only
  (repeat' split) <;> simp

@[simp] theorem firmwareTrace_stores (s : State) : SameStores s (firmwareTrace s) := by simp [firmwareTrace]

end Sys2Proof.Machine
end

section
/-!
PROOFS. The stores in canonical form (R22, R404, R411): what empties them, writes their keys or loads an image keeps the form.
-/
namespace Sys2Proof.Machine
open Sys2Proof

/-! ### What keeps the stores canonical -/

section
variable {α β : Type} {s t : State}

theorem StoresCanonical.of_same (w : StoresCanonical s) (h : SameStores s t) : StoresCanonical t := by
  obtain ⟨hrecs, hbuf, hregions, hcreds, hrules⟩ := h
  simpa only [StoresCanonical, hrecs, hbuf, hregions, hcreds, hrules] using w

theorem Completes.canonical {r : Res} (h : Completes (SameStores s) r) (w : StoresCanonical s) : ResKeeps StoresCanonical r := by
  obtain ⟨t, rfl, same⟩ := h
  exact w.of_same same

/-- `t` has the command buffer and the fence regions of `s`, and as many credentials and quorum rules. -/
@[simp] abbrev SameButRecs (s t : State) : Prop :=
  t.mb.cmdBuf = s.mb.cmdBuf ∧ t.fn.regions = s.fn.regions ∧ t.prov.creds.length = s.prov.creds.length ∧ t.prov.rules.length = s.prov.rules.length

/-- A change of the key records alone. -/
theorem StoresCanonical.of_recs (w : StoresCanonical s) (hrecs : tblCanon {} t.ks.recs = true) (h : SameButRecs s t) : StoresCanonical t := by
  obtain ⟨-, wrest⟩ := w
  obtain ⟨hbuf, hregions, hcreds, hrules⟩ := h
  exact ⟨hrecs, by rwa [hbuf, hregions, hcreds, hrules]⟩

@[simp] theorem tblCanon_nil [DecidableEq α] (d : α) : tblCanon d [] = true := rfl

/-- Writing keys one after the other keeps the canonical form. -/
theorem tblCanon_foldl [DecidableEq α] {d : α} {f : Tbl α → β → Tbl α} (h : ∀ t b, tblCanon d t = true → tblCanon d (f t b) = true)
    (l : List β) {t : Tbl α} (w : tblCanon d t = true) : tblCanon d (l.foldl f t) = true :=
  List.foldlRecOn (motive := fun t => tblCanon d t = true) l f w fun t ht b _ => h t b ht

/-! ### The store emptied and lost (R29, R204, R243) -/

theorem emptyStore_canonical (w : StoresCanonical s) : StoresCanonical (emptyStore s) :=
  w.of_recs (by simp [emptyStore, writeSlot]) (by simp [emptyStore, writeSlot])

theorem loseStore_canonical (w : StoresCanonical s) : StoresCanonical (loseStore s) :=
  w.of_recs (by simp [loseStore]) (by simp [loseStore])

theorem eraseAtOnce_canonical (w : StoresCanonical s) : StoresCanonical (eraseAtOnce s) := by
  unfold eraseAtOnce
  generalize hu : ({ s with tm.ember := false, lc.frk := [], wk := {}, mb.nonces := [], mb.inner := none, pk.units := _ } : State) = u
  have hlost : StoresCanonical (loseStore u) := loseStore_canonical (w.of_same (by simp [← hu]))
  exact hlost.of_same .rfl

/-! ### The life cycle -/

/-- The shipped provisioning block has 32 credentials and 16 rules; the fence regions lose their locks (R435). -/
theorem restoreProv_canonical (w : StoresCanonical s) : StoresCanonical (restoreProv s) := by
  obtain ⟨wrecs, wbuf, wregions, -, -⟩ := w
  exact ⟨wrecs, wbuf, tblCanon_foldl (fun _ _ => tblCanon_set _ _ _) _ wregions, rfl, rfl⟩

theorem doAction_canonical (a : LcAction) (w : StoresCanonical s) : StoresCanonical (doAction a s) := by
  cases a
  case restoreProv => exact restoreProv_canonical w
  case raiseStoreGen => exact emptyStore_canonical (w.of_same .rfl)
  case emptyStore => exact emptyStore_canonical w
  case destroyEmber => exact eraseAtOnce_canonical w
  all_goals exact w.of_same (by simp [doAction])

theorem runAction_canonical (w : StoresCanonical s) : StoresCanonical (runAction s) := by
  unfold runAction
  split
  · exact w
  next i a _ => exact (doAction_canonical a w).of_same (by simp)

theorem runActions_canonical : ∀ (n : Nat) {s : State}, StoresCanonical s → StoresCanonical (runActions n s)
  | 0, _, w => w
  | n + 1, s, w => by
    unfold runActions
    exact ite_keeps (runActions_canonical n (runAction_canonical w)) w

theorem stepTransition_canonical (w : StoresCanonical s) : StoresCanonical (stepTransition s) := by
  unfold stepTransition
  refine ite_keeps w ?_
  split
  · exact w.of_same (by simp)
  · exact ite_keeps (runAction_canonical w) (w.of_same (by simp))

theorem finishAtStart_canonical (w : StoresCanonical s) : StoresCanonical (finishAtStart s) := by
  have hrun : StoresCanonical (runActions 16 { s with mb.held := none }) := runActions_canonical 16 (w.of_same .rfl)
  exact hrun.of_same (by simp [finishAtStart])

theorem zeroAtStart_canonical (w : StoresCanonical s) : StoresCanonical (zeroAtStart s) := by
  unfold zeroAtStart
  refine (finishAtStart_canonical (w.of_same ?_)).of_same (resolved_stores _ _ _ _)
  simp

theorem resolveIntent_canonical (w : StoresCanonical s) : StoresCanonical (resolveIntent s) := by
  unfold resolveIntent
  refine ite_keeps (zeroAtStart_canonical w) (ite_keeps w (ite_keeps ?_ ?_))
  · exact (finishAtStart_canonical w).of_same (by simp)
  · exact w.of_same (by simp)

theorem lockAtStart_canonical (w : StoresCanonical s) : StoresCanonical (lockAtStart s) := by
  unfold lockAtStart
  refine ite_keeps ?_ (w.of_same .rfl)
  refine (finishAtStart_canonical (w.of_same ?_)).of_same (resolved_stores _ _ _ _)
  simp

/-! ### Responses and decisions -/

theorem zeroResponse_canonical (cause : Nat) (w : StoresCanonical s) : StoresCanonical (zeroResponse cause s) := by
  have herased : StoresCanonical (eraseAtOnce { releaseExits false s with tm.grantStop := true }) :=
    eraseAtOnce_canonical (w.of_same (by simp))
  unfold zeroResponse
  refine ite_keeps w (herased.of_same ?_)
  dsimp only
  (repeat' split) <;> simp

theorem tamperAgreed_canonical (d : TamperDec) (w : StoresCanonical s) : StoresCanonical (tamperAgreed d s) := by
  have hzero : StoresCanonical (zeroResponse s.tm.evidNext (recordHit d.hit s)) := zeroResponse_canonical _ (w.of_same (by simp))
  unfold tamperAgreed
  refine ite_keeps (hzero.of_same (by simp)) (ite_keeps (w.of_same (by simp)) (w.of_same ?_))
  simp

theorem execTamperSecondDecision_canonical (fault : Bool) (w : StoresCanonical s) :
    ResKeeps StoresCanonical (execTamperSecondDecision fault s) := by
  unfold execTamperSecondDecision
  split
  · exact w
  next d _ => exact ite_resKeeps w (ite_keeps (w.of_same (by simp)) (tamperAgreed_canonical d (w.of_same .rfl)))

theorem startChange_canonical (t : Lc) (w : StoresCanonical s) : StoresCanonical (startChange t s) := by
  unfold startChange
  extract_lets code dir zero u v x
  have hlogged : StoresCanonical u := w.of_same (by simp [u])
  have herased : StoresCanonical v := ite_keeps (eraseAtOnce_canonical hlogged) hlogged
  exact herased.of_same (by simp [x])

theorem armDecision_canonical (k : DecKind) (w : StoresCanonical s) : StoresCanonical (armDecision k s) := by
  unfold armDecision
  split
  · exact startChange_canonical _ w
  all_goals exact w.of_same (by (repeat' split) <;> simp)

theorem execDecisionSecond_canonical (fault : Bool) (w : StoresCanonical s) : ResKeeps StoresCanonical (execDecisionSecond fault s) := by
  unfold execDecisionSecond
  split
  · exact w
  next d _ =>
    have hdecided : StoresCanonical { s with lc.decision := none } := w.of_same .rfl
    exact ite_resKeeps w (ite_keeps (hdecided.of_same (by simp)) (ite_keeps (armDecision_canonical _ hdecided) (hdecided.of_same (by simp))))

/-! ### The start, and the loss of main power -/

theorem execStage3LcRecordRead_canonical (aOk bOk : Bool) (w : StoresCanonical s) :
    ResKeeps StoresCanonical (execStage3LcRecordRead aOk bOk s) := by
  unfold execStage3LcRecordRead
  refine ite_resKeeps w (ite_keeps (w.of_same (by simp)) ?_)
  dsimp only
  generalize hu : lockAtStart _ = u
  have hlocked : StoresCanonical u := hu ▸ lockAtStart_canonical (resolveIntent_canonical (w.of_same (by simp)))
  exact hlocked.of_same (by simp)

theorem execStage4RootDerived_canonical (pufOk : Bool) (w : StoresCanonical s) :
    ResKeeps StoresCanonical (execStage4RootDerived pufOk s) := by
  unfold execStage4RootDerived
  refine ite_resKeeps w ?_
  dsimp only
  generalize hu : (if s.tm.emberLost then _ else _ : State) = u
  have hember : StoresCanonical u := by
    subst hu
    refine ite_keeps (ite_keeps (zeroAtStart_canonical (w.of_same ?_)) (w.of_same ?_)) (ite_keeps (zeroAtStart_canonical w) w)
    all_goals simp
  refine ite_resKeeps (hember.of_same (by simp)) (ite_resKeeps ?_ ?_)
  all_goals exact hember.of_same (by simp)

theorem execStage7HbmReady_canonical (w : StoresCanonical s) : ResKeeps StoresCanonical (execStage7HbmReady s) :=
  whenOk_keeps w fun _ => w.of_recs (by simp) (by simp)

theorem factoryRegions_canonical : tblCanon {} factoryRegions = true := by decide

/-- Without main power the locked regions stand beside the factory's, and the key records and the command buffer are blank (R22, R24). -/
theorem powerOff_canonical (w : StoresCanonical s) : StoresCanonical (powerOff s) := by
  obtain ⟨-, -, -, wcreds, wrules⟩ := w
  exact ⟨rfl, rfl, tblCanon_foldl (fun _ _ => tblCanon_set _ _ _) _ factoryRegions_canonical, wcreds, wrules⟩

theorem execPowerFailSaveEnd_canonical (back : Bool) (w : StoresCanonical s) : ResKeeps StoresCanonical (execPowerFailSaveEnd back s) :=
  whenOk_keeps w fun _ => ite_keeps ((powerOff_canonical w).of_same (by simp)) (powerOff_canonical w)

/-! ### Fences, rules and the mailbox buffer -/

theorem applyFences_canonical (w : StoresCanonical s) : StoresCanonical (applyFences s) := by
  obtain ⟨wrecs, wbuf, wregions, wprov⟩ := w
  exact ⟨wrecs, wbuf, tblCanon_foldl (fun _ _ => tblCanon_set _ _ _) _ (tblCanon_foldl (fun _ _ => tblCanon_set _ _ _) _ wregions), wprov⟩

theorem tableSwitches_canonical (w : StoresCanonical s) : StoresCanonical (tableSwitches s) := by
  have hfences : StoresCanonical (applyFences (applyAdmission s)) := applyFences_canonical (w.of_same (by simp))
  exact hfences.of_same (by simp [tableSwitches])

@[simp] theorem length_parseRules (p : List Byte) : (parseRules p).length = 16 := by simp [parseRules]

theorem quorumSetCmd_canonical (h : Held) (p : List Byte) (w : StoresCanonical s) : StoresCanonical (quorumSetCmd h p s) := by
  have hset : StoresCanonical { s with prov.rules := parseRules p } := by
    obtain ⟨wrecs, wbuf, wregions, wcreds, -⟩ := w
    exact ⟨wrecs, wbuf, wregions, wcreds, length_parseRules p⟩
  unfold quorumSetCmd
  refine ite_keeps (w.of_same (by simp)) ?_
  split
  · exact w.of_same (by simp)
  · exact ite_keeps (w.of_same (by simp)) (hset.of_same (by simp))

theorem writeCmdBuf_canonical (o size value : Nat) (w : StoresCanonical s) : StoresCanonical (writeCmdBuf o size value s) := by
  unfold writeCmdBuf
  refine ite_keeps (w.of_same .rfl) ?_
  obtain ⟨wrecs, wbuf, wrest⟩ := w
  exact ⟨wrecs, tblCanon_foldl (fun _ _ => tblCanon_set _ _ _) _ wbuf, wrest⟩

theorem writeBar0_canonical (o size value : Nat) (w : StoresCanonical s) : ResKeeps StoresCanonical (writeBar0 o size value s) := by
  unfold writeBar0
  refine ite_resKeeps (writeCmdBuf_canonical _ _ _ w) (ite_resKeeps w (ite_resKeeps (w.of_same (by simp)) ?_))
  split
  · exact ite_resKeeps ((writeReg_stores _ _ s).canonical w) (w.of_same (by simp))
  · exact w.of_same (by simp)

theorem execRegisterWrite_canonical (bar2 : Option Nat) (off size value : Nat) (w : StoresCanonical s) :
    ResKeeps StoresCanonical (execRegisterWrite bar2 off size value s) := by
  cases bar2 with
  | none => exact viaPf0_keeps w (writeBar0_canonical off size value w)
  | some l => exact (writeBar2_stores l off size value s).canonical w

theorem execBar0AccessInvalid_canonical (write : Bool) (off size value : Nat) (w : StoresCanonical s) :
    ResKeeps StoresCanonical (execBar0AccessInvalid write off size value s) :=
  viaPf0_keeps w (ite_resKeeps (writeBar0_canonical off size value w) ((readBar0_stores off size s).canonical w))

/-! ### Key records: grants, commits, replication, migration, reload -/

theorem lookUp_canonical (i : Nat) (w : StoresCanonical s) : StoresCanonical (lookUp i s) := by
  unfold lookUp
  dsimp only
  generalize hu : (if (krec s i).noKey then s else _ : State) = u
  have hused : StoresCanonical u := hu ▸ ite_keeps w (w.of_recs (tblCanon_set _ _ _ w.1) ⟨rfl, rfl, rfl, rfl⟩)
  exact ite_keeps (hused.of_same (by simp)) (hused.of_same .rfl)

theorem modWork_canonical {id : Nat} {f : Work → Work} (w : StoresCanonical s) : StoresCanonical (modWork id f s) :=
  w.of_same (by simp)

theorem lockKeys_canonical (id : Nat) (w : StoresCanonical s) : StoresCanonical (lockKeys id s) := by
  unfold lockKeys
  split
  · exact w
  next x _ =>
    refine ite_keeps w ?_
    dsimp only
    refine modWork_canonical (foldl_keeps (fun s i => lookUp_canonical i) _ ?_)
    exact w.of_same (by simp)

theorem onGrant_canonical (id : Nat) (w : StoresCanonical s) : StoresCanonical (onGrant id s) := by
  have hlocked := lockKeys_canonical id w
  unfold onGrant
  generalize lockKeys id s = u at hlocked ⊢
  refine hlocked.of_same ?_
  dsimp only
  (repeat' split) <;> simp

theorem grantStep_canonical (id note cost : Nat) (w : StoresCanonical s) : StoresCanonical (grantStep id note cost s) := by
  unfold grantStep
  split
  · exact w
  · exact onGrant_canonical id (w.of_same (by simp))

theorem beginAtomic_canonical (bid note cost : Nat) (w : StoresCanonical s) : StoresCanonical (beginAtomic bid note cost s) := by
  unfold beginAtomic
  split
  · dsimp only
    split
    · exact grantStep_canonical _ _ _ (w.of_same (by simp))
    · exact w.of_same (by simp)
  · exact w

theorem grantAny_canonical (id note cost : Nat) (w : StoresCanonical s) : StoresCanonical (grantAny id note cost s) :=
  ite_keeps (beginAtomic_canonical id note cost w) (grantStep_canonical id note cost w)

theorem passOne_canonical (note : Nat) (p : Pass) (id : Nat) (w : StoresCanonical p.s) : StoresCanonical (passOne note p id).s := by
  unfold passOne
  split
  · exact w
  · split
    · exact w
    · dsimp only
      split
      · exact w
      · split
        · exact w
        · split
          · exact w
          · split
            · exact w.of_same (by simp)
            · exact grantAny_canonical _ _ _ w

theorem topOne_canonical (p : Pass) (id : Nat) (w : StoresCanonical p.s) : StoresCanonical (topOne p id).s := by
  unfold topOne
  split
  · exact w
  · dsimp only
    split
    · exact w.of_same (by simp)
    · split
      · exact w.of_same (by simp)
      · exact grantStep_canonical _ _ _ (w.of_same (by simp))

/-- A pass whose every step keeps the stores canonical does. -/
theorem foldl_pass_canonical {f : Pass → Nat → Pass} (h : ∀ p id, StoresCanonical p.s → StoresCanonical (f p id).s) (l : List Nat) {p : Pass}
    (w : StoresCanonical p.s) : StoresCanonical (l.foldl f p).s :=
  List.foldlRecOn (motive := fun p => StoresCanonical p.s) l f w fun p hp id _ => h p id hp

theorem topPass_canonical (stop : Bool) (w : StoresCanonical s) : StoresCanonical (topPass stop s).s := by
  refine foldl_pass_canonical (fun p id hp => ?_) _ w
  split
  · split
    · exact hp.of_same (by simp)
    · exact hp
  · exact topOne_canonical p id hp

/-- What `StoresCanonical` says of the five stores, one by one: the form in which `simp` carries it through a record update. -/
def CanonicalStores (recs : Tbl KRec) (buf : Tbl Byte) (regions : Tbl Region) (creds rules : Nat) : Prop :=
  tblCanon {} recs = true ∧ tblCanon 0 buf = true ∧ tblCanon {} regions = true ∧ creds = 32 ∧ rules = 16

theorem storesCanonical_iff : StoresCanonical s ↔
    CanonicalStores s.ks.recs s.mb.cmdBuf s.fn.regions s.prov.creds.length s.prov.rules.length := Iff.rfl

theorem grantPasses_canonical (w : StoresCanonical s) : StoresCanonical (grantPasses s) := by
  have htop {stop : Bool} {s : State} := @topPass_canonical s stop
  have hpass {note : Nat} {l : List Nat} {p : Pass} := foldl_pass_canonical (passOne_canonical note) l (p := p)
  simp only [storesCanonical_iff] at w htop hpass ⊢
  simp [grantPasses]
  refine hpass (hpass ?_)
  simp
  refine hpass (hpass ?_)
  simp [w, htop]

theorem grants_canonical (w : StoresCanonical s) : StoresCanonical (grants s) := by
  have hpasses : StoresCanonical (grantPasses { s with ks.missGrants := 0 }) := grantPasses_canonical (w.of_same .rfl)
  exact hpasses.of_same (by simp [grants])

theorem putRec_canonical (i : Nat) (r : KRec) (w : StoresCanonical s) : StoresCanonical (putRec i r s) :=
  w.of_recs (tblCanon_set _ _ _ w.1) ⟨rfl, rfl, rfl, rfl⟩

theorem bumpTree_canonical (i : Nat) (w : StoresCanonical s) : StoresCanonical (bumpTree i s).2 :=
  w.of_same (by simp)

theorem putExts_canonical (i : Nat) (r : KRec) (w : StoresCanonical s) : StoresCanonical (putExts i r s) := by
  unfold putExts
  exact foldl_keeps (fun s p hs => bumpTree_canonical _ (putRec_canonical p.1 _ hs)) _ w

theorem writeRec_canonical (i : Nat) (r : KRec) (w : StoresCanonical s) : StoresCanonical (writeRec i r s) :=
  (bumpTree_canonical i (putRec_canonical i { r with format := formatAt s i } w)).of_same (journal_stores _ _ _ _ _ _ _)

theorem eraseIndex_canonical (i : Nat) (w : StoresCanonical s) : StoresCanonical (eraseIndex s i) := by
  have herased : StoresCanonical { s with ks.recs := tset {} s.ks.recs i { gen := (krec s i).gen, format := formatAt s i } } :=
    w.of_recs (tblCanon_set _ _ _ w.1) ⟨rfl, rfl, rfl, rfl⟩
  have hbumped := bumpTree_canonical i herased
  unfold eraseIndex
  dsimp only
  generalize (bumpTree i _).2 = u at hbumped ⊢
  exact hbumped.of_same (by simp)

theorem eraseAll_canonical (l : List Nat) (w : StoresCanonical s) : StoresCanonical (l.foldl eraseIndex s) :=
  List.foldlRecOn l eraseIndex w fun _ hs i _ => eraseIndex_canonical i hs

theorem commitKind_canonical (k : ChangeKind) (w : StoresCanonical s) : StoresCanonical (commitKind k s) := by
  cases k with
  | place i r =>
    refine StoresCanonical.of_same ?_ (journal_stores _ _ _ _ _ _ _)
    exact putExts_canonical i _ (bumpTree_canonical i (putRec_canonical i _ w))
  | erase i => exact (eraseAll_canonical (eraseSet s i) w).of_same (journal_stores _ _ _ _ _ _ _)
  | replace i r => exact writeRec_canonical i _ w
  | pin i on => exact writeRec_canonical i _ w

theorem commitOne_canonical (c : Change) (full : List (Nat × Nat)) (w : StoresCanonical s) : StoresCanonical (commitOne c full s).2 :=
  (commitKind_canonical c.kind w).of_same (by simp [commitOne])

theorem commitAll_canonical (cs : List Change) (w : StoresCanonical s) : StoresCanonical (commitAll cs s).2.2 := by
  refine foldl_keeps_last (fun q c hq => ?_) cs w
  split
  · exact hq
  · exact commitOne_canonical c _ hq

theorem commitBatch_canonical (bid : Nat) (q : List (Nat × Nat) × State) (w : StoresCanonical q.2) : StoresCanonical (commitBatch bid q).2 := by
  unfold commitBatch
  extract_lets before mine ks taken done marked
  split
  · exact w
  · have hdone : StoresCanonical done.2 := foldl_keeps_snd (fun q c => commitOne_canonical c q.1) mine (StoresCanonical.of_same w .rfl)
    exact hdone.of_same (by (repeat' split) <;> simp [marked])

theorem commitChanges_canonical (w : StoresCanonical s) : StoresCanonical (commitChanges s) := by
  unfold commitChanges
  extract_lets live single ks taken committed ks' rest
  have hsingle : StoresCanonical committed.2.2 := commitAll_canonical single (StoresCanonical.of_same w .rfl)
  exact foldl_keeps_snd (fun q (p : Nat × Batch) => commitBatch_canonical p.1 q) _ (hsingle.of_same .rfl)

theorem switchSegment_canonical (seg : Nat) (w : StoresCanonical s) : StoresCanonical (switchSegment s seg) := by
  unfold switchSegment
  split
  · exact w
  · exact w.of_recs (tblCanon_foldl (fun _ _ => tblCanon_set _ _ _) _ w.1) ⟨rfl, rfl, rfl, rfl⟩

theorem migrationPoint_canonical (w : StoresCanonical s) : StoresCanonical (migrationPoint s) := by
  unfold migrationPoint
  split
  · exact w
  · exact foldl_keeps (fun s seg => switchSegment_canonical seg) _ (w.of_same .rfl)

theorem replay_canonical (e : Replay) (w : StoresCanonical s) : StoresCanonical (replay s e) := by
  unfold replay
  split
  · exact w.of_recs (tblCanon_foldl (fun _ _ => tblCanon_set _ _ _) _ w.1) ⟨rfl, rfl, rfl, rfl⟩
  · exact w.of_recs (tblCanon_foldl (fun _ _ => tblCanon_set _ _ _) _ w.1) ⟨rfl, rfl, rfl, rfl⟩
  all_goals exact w.of_same .rfl

theorem loadImage_canonical (img : Image) (root : RootSlot) (w : StoresCanonical s) : StoresCanonical (loadImage img root s) := by
  have hreplay {l : List Replay} {s : State} (w : StoresCanonical s) : StoresCanonical (l.foldl replay s) :=
    List.foldlRecOn l replay w fun _ hs e _ => replay_canonical e hs
  have hrecs : tblCanon {} (img.recs.foldl (fun t p => tset {} t p.1 p.2) []) = true :=
    tblCanon_foldl (fun _ _ => tblCanon_set _ _ _) _ (tblCanon_nil _)
  obtain ⟨-, wrest⟩ := w
  simp only [storesCanonical_iff] at hreplay ⊢
  simp [loadImage, foldl_stores]
  exact hreplay ⟨hrecs, wrest⟩

theorem endReload_canonical (img : Image) (before : Nat) (w : StoresCanonical s) : StoresCanonical (endReload img before s).2.2 := by
  unfold endReload
  split
  · exact w.of_same .rfl
  · split
    · exact w.of_same .rfl
    · exact loadImage_canonical _ _ w

/-! ### Commands of the mailbox, and the end of a long one -/

theorem withCmd_canonical {code : Nat} {f : Held → List Byte → State → State} (hf : ∀ h p, StoresCanonical (f h p s))
    (w : StoresCanonical s) : ResKeeps StoresCanonical (withCmd code s f) := by
  unfold withCmd
  split
  · exact w
  next h _ =>
    refine ite_resKeeps w ?_
    split
    · exact w.of_same (by simp)
    · split
      · exact w.of_same (by simp)
      · exact hf _ _

theorem execQuorumSet_canonical (w : StoresCanonical s) : ResKeeps StoresCanonical (execQuorumSet s) :=
  withCmd_canonical (fun h p => quorumSetCmd_canonical h p w) w

theorem storeEmptyCmd_canonical (h : Held) (p : List Byte) (w : StoresCanonical s) : StoresCanonical (storeEmptyCmd h p s) :=
  ite_keeps (w.of_same (by simp)) ((emptyStore_canonical w).of_same (respond_stores _ _ _ _ _))

theorem execStoreEmpty_canonical (w : StoresCanonical s) : ResKeeps StoresCanonical (execStoreEmpty s) :=
  withCmd_canonical (fun h p => storeEmptyCmd_canonical h p w) w

/-- An answer that takes its status and its state from one pair. -/
theorem answer_canonical (p : Nat × State) (w : StoresCanonical p.2) (q : Nat × Nat × State) (hq : some (p.1, 0, p.2) = some q) :
    StoresCanonical q.2.2 := by
  obtain rfl := Option.some.inj hq
  exact w

theorem longWork_canonical (l : LongCmd) (img : Option Image) (w : StoresCanonical s) :
    ∀ q ∈ longWork l img s, StoresCanonical q.2.2 := by
  unfold longWork
  simp only [Option.mem_def]
  split
  · split
    · split
      next n _ _ =>
        exact answer_canonical (endSnapshot n s) (w.of_same (endSnapshot_stores n s))
      · exact fun _ hq => nomatch hq
    · exact fun _ hq => Option.some.inj hq ▸ w
  · split
    · split
      · exact fun _ hq => Option.some.inj hq ▸ endReload_canonical _ _ w
      · exact fun _ hq => Option.some.inj hq ▸ w.of_same .rfl
      · split <;> exact fun _ hq => Option.some.inj hq ▸ w
    · split
      · exact fun _ hq => nomatch hq
      · split <;> exact fun _ hq => Option.some.inj hq ▸ w

theorem execLongCommandEnd_canonical (op : Nat) (img : Option Image) (w : StoresCanonical s) :
    ResKeeps StoresCanonical (execLongCommandEnd op img s) := by
  unfold execLongCommandEnd
  split
  · exact w
  · split
    · exact w
    next l _ _ st d u hu =>
      have hdone : StoresCanonical u := longWork_canonical l img w _ hu
      exact hdone.of_same (by simp)

/-! ### What the group's manager replicates -/

theorem applyItem_canonical (i : ReplItem) (w : StoresCanonical s) : StoresCanonical (applyItem s i) := by
  cases i with
  | key i r => exact (putRec_canonical i r w).of_same (by simp [applyItem])
  | erase i => exact eraseAll_canonical _ w
  | creds l =>
    obtain ⟨wrecs, wbuf, wregions, -, wrules⟩ := id w
    simp only [applyItem]
    split
    next hl => exact ⟨wrecs, wbuf, wregions, hl, wrules⟩
    · exact w
  | rules l =>
    obtain ⟨wrecs, wbuf, wregions, wcreds, -⟩ := id w
    simp only [applyItem]
    split
    next hl => exact ⟨wrecs, wbuf, wregions, wcreds, hl⟩
    · exact w
  | domain | epoch | isSealed | progKeys | policy | programs | members | lockout => exact w.of_same .rfl

theorem applyInbox_canonical (w : StoresCanonical s) : StoresCanonical (applyInbox s) := by
  have hitems {l : List (Nat × ReplItem)} {s : State} (w : StoresCanonical s) : StoresCanonical (l.foldl (fun s q => applyItem s q.2) s) :=
    List.foldlRecOn l _ w fun _ hs q _ => applyItem_canonical q.2 hs
  unfold applyInbox
  refine ite_keeps w ?_
  have hdone : StoresCanonical (s.gp.inbox.foldl (fun s q => applyItem s q.2) { s with gp.inbox := [] }) := hitems (w.of_same .rfl)
  dsimp only
  generalize s.gp.inbox.foldl _ _ = u at hdone ⊢
  exact ite_keeps hdone (hdone.of_same (by simp))

theorem emptyForResync_canonical (w : StoresCanonical s) : StoresCanonical (emptyForResync s) :=
  ite_keeps (emptyStore_canonical (w.of_same .rfl)) w

theorem groupPoint_canonical (w : StoresCanonical s) : StoresCanonical (groupPoint s) := by
  have hinbox : StoresCanonical (applyInbox (emptyForResync (silences s))) :=
    applyInbox_canonical (emptyForResync_canonical (w.of_same (by simp)))
  unfold groupPoint
  generalize applyInbox _ = u at hinbox ⊢
  exact hinbox.of_same (by simp)

/-! ### Sample points -/

theorem commits_canonical (w : StoresCanonical s) : StoresCanonical (commits s) := by
  have hgroup : StoresCanonical (groupPoint (commitChanges (migrationPoint s))) :=
    groupPoint_canonical (commitChanges_canonical (migrationPoint_canonical w))
  unfold commits
  generalize groupPoint _ = u at hgroup ⊢
  exact hgroup.of_same (by simp)

theorem controls_canonical (w : StoresCanonical s) : StoresCanonical (controls s) := by
  have hstep : StoresCanonical (stepTransition (restartPairs (blankPoint (traceEndPoint s)))) := stepTransition_canonical (w.of_same (by simp))
  unfold controls
  generalize stepTransition _ = u at hstep ⊢
  exact hstep.of_same (by simp)

theorem samplePoint_canonical (w : StoresCanonical s) : StoresCanonical (samplePoint s) := by
  have htables : StoresCanonical (tableSwitches (lanesStopPoint (fencePoint s))) := tableSwitches_canonical (w.of_same (by simp))
  have hcontrols : StoresCanonical (controls (commits (withdrawals (supervisors (tickBoundaries (tableSwitches (lanesStopPoint (fencePoint s)))))))) :=
    controls_canonical (commits_canonical (htables.of_same (by simp)))
  have hgrants : StoresCanonical (grants (stagePump (powerAbsent (controls (commits (withdrawals (supervisors (tickBoundaries
      (tableSwitches (lanesStopPoint (fencePoint s))))))))))) := grants_canonical (hcontrols.of_same (by simp))
  unfold samplePoint
  generalize grants _ = u at hgrants ⊢
  exact hgrants.of_same (by simp)

theorem execSamplePoint_canonical (w : StoresCanonical s) : ResKeeps StoresCanonical (execSamplePoint s) :=
  whenOk_keeps w fun _ => samplePoint_canonical (w.of_same .rfl)

/-! ### Every command -/

@[simp] theorem execSupplyExhausted_stores (s : State) : Completes (SameStores s) (execSupplyExhausted s) := by
  unfold execSupplyExhausted
  split <;> simp

@[simp] theorem execMonitorCrystalPeriod_stores (s : State) : Completes (SameStores s) (execMonitorCrystalPeriod s) := by
  unfold execMonitorCrystalPeriod
  split <;> simp

@[simp] theorem execStage1BellowsLocked_stores (s : State) : Completes (SameStores s) (execStage1BellowsLocked s) := by
  simp [execStage1BellowsLocked]

/-- Every command keeps the stores canonical: most leave them as they are, and the rest have their own lemma. -/
theorem exec_canonical (c : Instr) (w : StoresCanonical s) : ResKeeps StoresCanonical (exec c s) := by
  cases c
  case samplePoint => exact execSamplePoint_canonical w
  case registerWrite bar2 off size value => exact execRegisterWrite_canonical bar2 off size value w
  case bar0AccessInvalid write off size value => exact execBar0AccessInvalid_canonical write off size value w
  case longCommandEnd op img => exact execLongCommandEnd_canonical op img w
  case quorumSet => exact execQuorumSet_canonical w
  case storeEmpty => exact execStoreEmpty_canonical w
  case tamperSecondDecision fault => exact execTamperSecondDecision_canonical fault w
  case decisionSecond fault => exact execDecisionSecond_canonical fault w
  case powerFailSaveEnd back => exact execPowerFailSaveEnd_canonical back w
  case stage3LcRecordRead aOk bOk => exact execStage3LcRecordRead_canonical aOk bOk w
  case stage4RootDerived pufOk => exact execStage4RootDerived_canonical pufOk w
  case stage7HbmReady => exact execStage7HbmReady_canonical w
  all_goals exact Completes.canonical (by simp [exec]) w

end

/-- Settles O8: a step takes the front of the queue, which no store holds, and its command keeps the stores canonical. -/
theorem storesStayCanonical : Obligations.StoresStayCanonical := by
  intro s t h e
  exact step_keeps (fun _ _ _ _ w => w) (fun c _ w => exec_canonical c w) h e

end Sys2Proof.Machine
end

section
/-!
PROOFS. Every command answers a next state (log entry 19).
-/
namespace Sys2Proof.Machine
open Sys2Proof

section
variable {P : State → Prop} {r : Res} {s : State}

theorem Completes.next (h : Completes P r) : ∃ t, r = .next t :=
  h.imp fun _ ht => ht.1

theorem completes_true_iff : Completes (fun _ => True) r ↔ ∃ t, r = .next t := by
  simp [Completes]

theorem withCmd_completes (code : Nat) (s : State) (f : Held → List Byte → State → State) : Completes (fun _ => True) (withCmd code s f) :=
  completes_true_iff.2 (withCmd_next code s f)

theorem execDecisionSecond_completes (fault : Bool) (s : State) : Completes (fun _ => True) (execDecisionSecond fault s) := by
  unfold execDecisionSecond
  split
  · exact ⟨s, rfl, trivial⟩
  · simp

theorem execTamperSecondDecision_completes (fault : Bool) (s : State) : Completes (fun _ => True) (execTamperSecondDecision fault s) := by
  unfold execTamperSecondDecision
  split
  · exact ⟨s, rfl, trivial⟩
  · simp

theorem execLongCommandEnd_completes (op : Nat) (img : Option Image) (s : State) :
    Completes (fun _ => True) (execLongCommandEnd op img s) := by
  unfold execLongCommandEnd
  split
  · exact ⟨s, rfl, trivial⟩
  · split
    · exact ⟨s, rfl, trivial⟩
    · exact ⟨_, rfl, trivial⟩

theorem execStage3LcRecordRead_completes (aOk bOk : Bool) (s : State) :
    Completes (fun _ => True) (execStage3LcRecordRead aOk bOk s) := by
  unfold execStage3LcRecordRead
  rw [completes_ite]
  split
  · exact ⟨s, rfl, trivial⟩
  · exact ⟨_, rfl, trivial⟩

theorem execStage4RootDerived_completes (pufOk : Bool) (s : State) : Completes (fun _ => True) (execStage4RootDerived pufOk s) := by
  unfold execStage4RootDerived
  rw [completes_ite]
  split
  · exact ⟨s, rfl, trivial⟩
  · simp

theorem writeBar0_completes (o size value : Nat) (s : State) : Completes (fun _ => True) (writeBar0 o size value s) := by
  have hreg (v : Nat) : Completes (fun _ => True) (writeReg o v s) := completes_true_iff.2 (writeReg_stores o v s).next
  unfold writeBar0
  dsimp only
  split
  · exact ⟨_, rfl, trivial⟩
  · split
    · exact ⟨s, rfl, trivial⟩
    · split
      · exact ⟨_, rfl, trivial⟩
      · split
        · rw [completes_ite]
          split
          · exact hreg _
          · exact ⟨_, rfl, trivial⟩
        · exact ⟨_, rfl, trivial⟩

theorem execRegisterWrite_completes (bar2 : Option Nat) (off size value : Nat) (s : State) :
    Completes (fun _ => True) (execRegisterWrite bar2 off size value s) := by
  cases bar2 with
  | none => simp [execRegisterWrite, writeBar0_completes]
  | some l => exact completes_true_iff.2 (writeBar2_stores l off size value s).next

theorem execBar0AccessInvalid_completes (write : Bool) (off size value : Nat) (s : State) :
    Completes (fun _ => True) (execBar0AccessInvalid write off size value s) := by
  have hread : Completes (fun _ => True) (readBar0 off size s) := completes_true_iff.2 (readBar0_stores off size s).next
  simp [execBar0AccessInvalid, writeBar0_completes, hread]

end

/-- Settles O4: most commands complete and leave the stores as they are, and those that write the stores have their own lemma. -/
theorem everyCommandIsCarriedOut : Obligations.EveryCommandIsCarriedOut := by
  intro c s
  cases c
  case samplePoint => exact (completes_whenOk (P := fun _ => True)).2 (by simp) |>.next
  case stage7HbmReady => exact (completes_whenOk (P := fun _ => True)).2 (by simp) |>.next
  case powerFailSaveEnd back => exact (completes_whenOk (P := fun _ => True)).2 (by simp) |>.next
  case registerWrite bar2 off size value => exact (execRegisterWrite_completes bar2 off size value s).next
  case bar0AccessInvalid write off size value => exact (execBar0AccessInvalid_completes write off size value s).next
  case longCommandEnd op img => exact (execLongCommandEnd_completes op img s).next
  case quorumSet => exact withCmd_next _ _ _
  case storeEmpty => exact withCmd_next _ _ _
  case tamperSecondDecision fault => exact (execTamperSecondDecision_completes fault s).next
  case decisionSecond fault => exact (execDecisionSecond_completes fault s).next
  case stage3LcRecordRead aOk bOk => exact (execStage3LcRecordRead_completes aOk bOk s).next
  case stage4RootDerived pufOk => exact (execStage4RootDerived_completes pufOk s).next
  all_goals exact Completes.next (P := SameStores s) (by simp [exec])

end Sys2Proof.Machine
end

section
/-!
PROOFS. The doorbell pages (R83 to R85, R97, R103, R104).
-/
namespace Sys2Proof.Machine
open Sys2Proof

section
variable {n l : Nat} {s : State}

/-! ### Who may write a doorbell (R83, R84) -/

theorem doorbellOpen_ok (home : (qp s n).link = l) (enabled : (qp s n).state = 1) (live : (slice s (qp s n).slice).resetAt = none) :
    doorbellOpen n l s = .ok () := by
  simp [doorbellOpen, home, enabled, live]

theorem doorbellOpen_elsewhere (other : l ≠ (qp s n).link) : doorbellOpen n l s = .error (doorbellNotice 0x0901 n l s) :=
  if_pos other

theorem doorbellOpen_notEnabled (home : l = (qp s n).link) (state : (qp s n).state ≠ 1) : doorbellOpen n l s =
    .error (doorbellNotice 0x0902 n l (modQp n (fun q => { q with discarded := satAdd 32 q.discarded 1 }) s)) := by
  simp [doorbellOpen, home, state]

theorem doorbellOpen_inReset (home : l = (qp s n).link) (enabled : (qp s n).state = 1) (reset : (slice s (qp s n).slice).resetAt ≠ none) :
    doorbellOpen n l s = .error (modSlice (qp s n).slice (fun x => { x with discards := satAdd 32 x.discards 1 }) s) := by
  simp [doorbellOpen, home, enabled, Option.isSome_iff_ne_none, reset]

/-- A doorbell write that is discarded has the same outcome at each of the three registers. -/
theorem exec_doorbell_discarded (v : Nat) {t : State} (closed : doorbellOpen n l s = .error t) :
    ∀ c ∈ [Instr.qpSqTail n l v, .qpCqHead n l v, .qpCancel n l v], exec c s = .next t := by
  simp [exec, execQpSqTail, execQpCqHead, execQpCancel, closed]

/-! ### The three doorbells, taken (R85, R97, R103) -/

variable {v : Nat}

theorem execQpSqTail_inRing (isOpen : doorbellOpen n l s = .ok ()) (inRing : v % 2 ^ 16 < 2 ^ (qp s n).sqLog) :
    execQpSqTail n l v s = .next (pump (modQp n (fun q => { q with
      tail := v % 2 ^ 16, announced := q.announced + (v % 2 ^ 16 + 2 ^ (qp s n).sqLog - (qp s n).tail) % 2 ^ (qp s n).sqLog }) s)) := by
  unfold execQpSqTail
  rw [isOpen]
  exact if_neg (Nat.not_le.2 inRing)

theorem execQpSqTail_outOfRing (isOpen : doorbellOpen n l s = .ok ()) (outside : 2 ^ (qp s n).sqLog ≤ v % 2 ^ 16)
    (few : ((qp s n).badTails.filter (fun t => decide (s.tick < t + 2 ^ 19))).length < 7) :
    execQpSqTail n l v s = .next (modQp n (fun q => { q with
      discarded := satAdd 32 q.discarded 1
      badTails := (qp s n).badTails.filter (fun t => decide (s.tick < t + 2 ^ 19)) ++ [s.tick] }) s) := by
  have hfewer : ¬8 ≤ ((qp s n).badTails.filter (fun t => decide (s.tick < t + 2 ^ 19)) ++ [s.tick]).length := by
    rw [List.length_append, List.length_singleton]
    omega
  unfold execQpSqTail
  rw [isOpen]
  dsimp only
  rw [if_pos outside, if_neg hfewer]

theorem execQpCqHead_inSpan (isOpen : doorbellOpen n l s = .ok ()) (inRing : v % 2 ^ 18 < 2 ^ (qp s n).cqLog)
    (written : (v % 2 ^ 18 + 2 ^ (qp s n).cqLog - (qp s n).head % 2 ^ (qp s n).cqLog) % 2 ^ (qp s n).cqLog ≤ (qp s n).written - (qp s n).head) :
    execQpCqHead n l v s = .next (pump (modQp n (fun q => { q with
      head := q.head + (v % 2 ^ 18 + 2 ^ (qp s n).cqLog - (qp s n).head % 2 ^ (qp s n).cqLog) % 2 ^ (qp s n).cqLog
      entries := q.entries.filter (fun e => decide (q.head +
        (v % 2 ^ 18 + 2 ^ (qp s n).cqLog - (qp s n).head % 2 ^ (qp s n).cqLog) % 2 ^ (qp s n).cqLog ≤ e)) }) s)) := by
  unfold execQpCqHead
  rw [isOpen]
  exact if_neg (not_or.2 ⟨Nat.not_le.2 inRing, Nat.not_lt.2 written⟩)

theorem execQpCqHead_outOfRing (isOpen : doorbellOpen n l s = .ok ()) (outside : 2 ^ (qp s n).cqLog ≤ v % 2 ^ 18) :
    execQpCqHead n l v s = .next (note 0x0903 0 n (v % 2 ^ 18) 0 s) := by
  unfold execQpCqHead
  rw [isOpen]
  exact if_pos (.inl outside)

theorem execQpCancel_held (isOpen : doorbellOpen n l s = .ok ()) (room : (qp s n).cancels.length < 16) : execQpCancel n l v s =
    .next (modQp n (fun q => { q with cancels := q.cancels ++ [⟨v / 2 ^ 32, v % 2 ^ 32, s.tick⟩] }) s) := by
  unfold execQpCancel
  rw [isOpen]
  exact if_neg (Nat.not_le.2 room)

theorem execQpCancel_full (isOpen : doorbellOpen n l s = .ok ()) (full : 16 ≤ (qp s n).cancels.length) :
    execQpCancel n l v s = .next (modQp n (fun q => { q with ovf := true }) s) := by
  unfold execQpCancel
  rw [isOpen]
  exact if_pos full

theorem execQpPoll_home (n : Nat) (s : State) :
    execQpPoll n (qp s n).link s = .next (emit (.readData (n * 4096 + 16) (pollWord s (qp s n))) s) :=
  if_neg (not_not.2 rfl)

end

/-- Settles O19: a doorbell that is open is taken by its register's own rule, and one that is closed is discarded with the reason. -/
theorem doorbellWritesAreTakenOrDiscarded : Obligations.DoorbellWritesAreTakenOrDiscarded := by
  refine ⟨fun n l v s home enabled live => ?_, execQpPoll_home, fun n l v s c hc => ⟨fun other => ?_, fun home state => ?_, fun home enabled reset => ?_⟩⟩
  · have isOpen := doorbellOpen_ok home enabled live
    exact ⟨execQpSqTail_inRing isOpen, execQpSqTail_outOfRing isOpen, execQpCqHead_inSpan isOpen, execQpCqHead_outOfRing isOpen,
      execQpCancel_held isOpen, execQpCancel_full isOpen⟩
  · exact exec_doorbell_discarded v (doorbellOpen_elsewhere other) c hc
  · exact exec_doorbell_discarded v (doorbellOpen_notEnabled home state) c hc
  · exact exec_doorbell_discarded v (doorbellOpen_inReset home enabled reset) c hc

end Sys2Proof.Machine
end

section
/-!
PROOFS. Admission and accounts armed for a switch tick (R31, R47, R48).
-/
namespace Sys2Proof.Machine
open Sys2Proof

section
variable {h : Held} {s : State}

theorem exec_admitSet_taken (taken : CmdTaken 0x0301 h s) : exec .admitSet s = .next (admitSetCmd h h.frame.payload s) :=
  withCmd_of_taken taken

theorem exec_acctSet_taken (taken : CmdTaken 0x0302 h s) : exec .acctSet s = .next (acctSetCmd h h.frame.payload s) :=
  withCmd_of_taken taken

/-- A configuration within the budgets of R47 at every switch from its own on is armed for its switch tick (R31). -/
theorem admitSetCmd_within_budgets {p : List Byte} (within : budgetsFrom s (insertArmed (switchAt (be p 0 8) s, admCfg p) s.tk.cfgArmed)
    s.tk.acctArmed (switchAt (be p 0 8) s) = true) :
    admitSetCmd h p s = respondAt (switchAt (be p 0 8) s) []
      { s with tk := { s.tk with cfgArmed := insertArmed (switchAt (be p 0 8) s, admCfg p) s.tk.cfgArmed } } := by
  simp [admitSetCmd, within]

/-- Account entries within the budgets of R47 at every switch from their own on are armed for their switch tick (R31). -/
theorem acctSetCmd_within_budgets {p : List Byte} (within : budgetsFrom s s.tk.cfgArmed
    (insertArmed (switchAt (be p 0 8) s, acctEntries p) s.tk.acctArmed) (switchAt (be p 0 8) s) = true) :
    acctSetCmd h p s = respondAt (switchAt (be p 0 8) s) []
      { s with tk := { s.tk with acctArmed := insertArmed (switchAt (be p 0 8) s, acctEntries p) s.tk.acctArmed } } := by
  simp [acctSetCmd, within]

variable {k : Nat}

theorem switchAt_past (past : k ≤ s.tick) : switchAt k s = s.tick + 1 := if_pos past

theorem switchAt_future (future : s.tick < k) : switchAt k s = k := if_neg (Nat.not_le.2 future)

variable {c : AdmCfg}

theorem applyAdmission_due (armed : s.tk.cfgArmed = [(k, c)]) (due : k ≤ s.tick) :
    (applyAdmission s).tk.cfg = c ∧ (applyAdmission s).tk.cfgArmed = [] := by
  simp [applyAdmission, armed, due, Nat.not_lt.2 due]

theorem applyAdmission_notDue (armed : s.tk.cfgArmed = [(k, c)]) (waits : s.tick < k) :
    (applyAdmission s).tk.cfg = s.tk.cfg ∧ (applyAdmission s).tk.cfgArmed = [(k, c)] := by
  simp [applyAdmission, armed, waits, Nat.not_le.2 waits]

end

/-- Settles O24: both commands arm what keeps the budgets for the tick that `switchAt` selects, and `applyAdmission` takes what is due. -/
theorem admissionIsSetAtASwitchTick : Obligations.AdmissionIsSetAtASwitchTick := by
  refine ⟨fun h s taken within => ?_, fun p => ⟨rfl, rfl, rfl, rfl, rfl, rfl⟩, fun h s taken within => ?_,
    fun k s => ⟨switchAt_past, switchAt_future⟩, fun k c s armed => ⟨applyAdmission_due armed, applyAdmission_notDue armed⟩⟩
  · rw [exec_admitSet_taken taken, admitSetCmd_within_budgets within]
  · rw [exec_acctSet_taken taken, acctSetCmd_within_budgets within]

end Sys2Proof.Machine
end

section
/-!
PROOFS. Power samples, the fault of the sensor, and the band (R64, R65).
-/
namespace Sys2Proof.Machine
open Sys2Proof

/-! ### What a report leaves of the host links: the queue pairs and the slices -/

section
variable {s : State}

/-- `t` has the queue pairs and the slices of `s`. -/
@[simp] abbrev SameQueues (s t : State) : Prop := t.hl.qps = s.hl.qps ∧ t.hl.slices = s.hl.slices

@[simp] theorem vector_queues (v : Nat) (s : State) : SameQueues s (vector v s) := by
  unfold vector raiseMsix
  dsimp only
  split <;> exact ⟨rfl, rfl⟩

@[simp] theorem enterNotice_queues (n : Notice) (s : State) : SameQueues s (enterNotice n s).2 := by
  unfold enterNotice
  dsimp only
  (repeat' split) <;> simp

@[simp] theorem openLost_queues (cont : Bool) (s : State) : SameQueues s (openLost cont s) := by
  unfold openLost
  dsimp only
  split <;> simp

@[simp] theorem lostNotice_queues (s : State) : SameQueues s (lostNotice s) := by
  unfold lostNotice
  dsimp only
  (repeat' split) <;> simp

@[simp] theorem openRec_queues (p : Report) (cont : Bool) (s : State) : SameQueues s (openRec p cont s) := by
  rw [openRec_eq]
  split
  · simp
  · split
    · rw [postNotice_eq]
      split <;> simp
    · simp

@[simp] theorem report_queues (p : Report) (s : State) : SameQueues s (report p s) := by
  unfold report
  dsimp only
  (repeat' split) <;> simp

@[simp] theorem note_queues (event sev unit a b : Nat) (s : State) : SameQueues s (note event sev unit a b s) := by simp [note]

/-! ### The conservation state (R65) -/

/-- `t` differs from `s` in the conservation state and in what a report changes. -/
@[simp] abbrev SameButCons (s t : State) : Prop :=
  t.tk = { s.tk with cons := t.tk.cons } ∧ t.tick = s.tick ∧ t.wk = s.wk ∧ SameQueues s t ∧ t.ks = s.ks ∧ t.lc = s.lc ∧ t.en = s.en

theorem refreshCons_sameButCons (s : State) : SameButCons s (refreshCons s) := by
  unfold refreshCons
  dsimp only
  split <;> simp

/-! ### One sample -/

variable {mv ma : Int} {n : Nat}

theorem execPowerSample_fault_counts (hmv : -500 ≤ mv) (hmv' : mv ≤ 65000) (hma : 0 ≤ ma) (hma' : ma ≤ 40000)
    (hn : n = (if s.tk.lastV = mv ∧ s.tk.lastI = ma then s.tk.sameRun + 1 else 1)) (fresh : n < 2 ^ 16)
    (fault : s.tk.pwrFault = true) (early : s.tk.validRun + 1 < 256) :
    execPowerSample mv ma s = .next { s with tk := { s.tk with
      lastV := mv, lastI := ma, sameRun := n, sampleTick := s.tick, samples := (mv * ma :: s.tk.samples).take 256
      validRun := s.tk.validRun + 1 } } := by
  have hstuck : ¬2 ^ 16 ≤ n := Nat.not_le.2 fresh
  simp only [execPowerSample, ← hn, hmv, hmv', hma, hma', hstuck, fault, early, and_self, decide_true, decide_false, Bool.not_true,
    Bool.or_false, Bool.and_self, Bool.false_eq_true, if_false, if_true]

theorem execPowerSample_sets_mean (hmv : -500 ≤ mv) (hmv' : mv ≤ 65000) (hma : 0 ≤ ma) (hma' : ma ≤ 40000)
    (hn : n = (if s.tk.lastV = mv ∧ s.tk.lastI = ma then s.tk.sameRun + 1 else 1)) (fresh : n < 2 ^ 16)
    (sound : s.tk.pwrFault = false ∨ 256 ≤ s.tk.validRun + 1) :
    execPowerSample mv ma s = .next (refreshCons { s with tk := { s.tk with
      lastV := mv, lastI := ma, sameRun := n, sampleTick := s.tick, samples := (mv * ma :: s.tk.samples).take 256
      validRun := s.tk.validRun + 1, pwrFault := false, powerW := meanWatts ((mv * ma :: s.tk.samples).take 256) } }) := by
  have hstuck : ¬2 ^ 16 ≤ n := Nat.not_le.2 fresh
  have hcounts : (s.tk.pwrFault && decide (s.tk.validRun + 1 < 256)) = false := by
    rcases sound with h | h
    · simp [h]
    · simp [Nat.not_lt.2 h]
  simp only [execPowerSample, ← hn, hmv, hmv', hma, hma', hstuck, hcounts, and_self, decide_true, decide_false, Bool.not_true,
    Bool.or_false, Bool.false_eq_true, if_false]

theorem execPowerSample_outOfRange (outside : mv < -500 ∨ 65000 < mv ∨ ma < 0 ∨ 40000 < ma) (s : State) :
    execPowerSample mv ma s = .next (powerFault { s with tk := { s.tk with
      lastV := mv, lastI := ma, sampleTick := s.tick
      sameRun := if s.tk.lastV = mv ∧ s.tk.lastI = ma then s.tk.sameRun + 1 else 1 } }) := by
  have hrange : ¬(-500 ≤ mv ∧ mv ≤ 65000 ∧ 0 ≤ ma ∧ ma ≤ 40000) := by omega
  simp only [execPowerSample, hrange, decide_false, Bool.not_false, Bool.true_or, if_true]

/-- A fault of the sensor forgets the samples, and leaves the band and the work as they are. -/
theorem powerFault_raised (sound : s.tk.pwrFault = false) :
    (powerFault s).tk.pwrFault = true ∧ (powerFault s).tk.samples = [] ∧ (powerFault s).tk.validRun = 0 ∧
      (powerFault s).tk.band = s.tk.band ∧ (powerFault s).tick = s.tick ∧ (powerFault s).wk = s.wk ∧ (powerFault s).hl.qps = s.hl.qps ∧
      (powerFault s).hl.slices = s.hl.slices ∧ (powerFault s).ks = s.ks ∧ (powerFault s).lc = s.lc ∧ (powerFault s).en = s.en := by
  unfold powerFault
  rw [if_neg (by simp [sound])]
  generalize hu : note _ _ _ _ _ _ = u
  obtain ⟨htk, htick, hwk, ⟨hqps, hslices⟩, hks, hlc, hen⟩ := refreshCons_sameButCons u
  rw [htk, htick, hwk, hqps, hslices, hks, hlc, hen, ← hu]
  simp

/-! ### The band (R64) -/

theorem bandFor_zero (p : Int) (n : Nat) :
    bandFor 0 p n = (if 900000000 * n < p then 2 else if 400000000 * n < p then 1 else 0) := by
  simp [bandFor]

theorem bandFor_one (p : Int) (n : Nat) :
    bandFor 1 p n = (if 900000000 * n < p then 2 else if p < 375000000 * n then 0 else 1) := by
  simp [bandFor]

theorem bandFor_two (p : Int) (n : Nat) :
    bandFor 2 p n = (if p < 375000000 * n then 0 else if p < 875000000 * n then 1 else 2) := by
  simp [bandFor]

/-- The band at a sample point: Full during a fault, the old one while no sample stands, else by the mean. -/
def bandDue (s : State) : Nat :=
  if s.tk.pwrFault then 2 else if s.tk.samples = [] then s.tk.band else bandFor s.tk.band s.tk.samples.sum s.tk.samples.length

theorem loadBandPoint_eq (s : State) : loadBandPoint s = refreshCons (if bandDue s = s.tk.band then s
    else { s with tk := { s.tk with band := bandDue s, bandTick := s.tick, bandChanges := satAdd 32 s.tk.bandChanges 1 } }) := by
  have hdue : bandDue s = if s.tk.pwrFault then 2 else if s.tk.samples.isEmpty then s.tk.band
      else bandFor s.tk.band s.tk.samples.sum s.tk.samples.length := by
    simp [bandDue]
  rw [hdue]
  rfl

theorem loadBandPoint_band (s : State) : (loadBandPoint s).tk.band = bandDue s := by
  rw [loadBandPoint_eq, (refreshCons_sameButCons _).1]
  dsimp only
  split
  next same => exact same.symm
  · rfl

theorem loadBandPoint_bandChanges (s : State) : (loadBandPoint s).tk.bandChanges =
    (if (loadBandPoint s).tk.band = s.tk.band then s.tk.bandChanges else satAdd 32 s.tk.bandChanges 1) := by
  rw [loadBandPoint_band, loadBandPoint_eq, (refreshCons_sameButCons _).1]
  dsimp only
  split <;> rfl

end

/-- Settles O28: each sample by its case, the fault it can raise, the band of the mean, and the order of the sample point. -/
theorem powerSamplesSetTheBand : Obligations.PowerSamplesSetTheBand := by
  refine ⟨fun mv ma n s hmv hmv' hma hma' hn fresh =>
      ⟨execPowerSample_fault_counts hmv hmv' hma hma' hn fresh, execPowerSample_sets_mean hmv hmv' hma hma' hn fresh⟩,
    fun mv ma s outside sound => ?_, fun n p => ⟨bandFor_zero p n, bandFor_one p n, bandFor_two p n⟩,
    fun s => ⟨loadBandPoint_band s, loadBandPoint_bandChanges s⟩, fun s power stage => ?_⟩
  · exact ⟨_, execPowerSample_outOfRange outside s, powerFault_raised sound⟩
  · exact whenOk_true (by simp [power, stage])

end Sys2Proof.Machine
end

section
/-!
PROOFS. Power-good, the loss of the input, and the monitor on battery (R26, R457 to R459, R557, R558, R565, R569).
-/
namespace Sys2Proof.Machine
open Sys2Proof

section
variable {s : State}

/-! ### Power-good and the loss of the input (R557, R558, R565, R569) -/

theorem execPowerGood_off (a b : Bool) (off : s.pin.mainPower = false) :
    execPowerGood a b s = .next (powerOn { s with pin := { s.pin with smbAddr0 := a, smbAddr1 := b } }) :=
  whenOk_true (by simp [off])

/-- Main power comes up at stage 0, at the tick it finds. -/
theorem powerOn_atStageZero (s : State) : (powerOn s).pin.mainPower = true ∧ (powerOn s).pin.pwrGood = true ∧ (powerOn s).lc.stage = 0 ∧
    (powerOn s).lc.pgTick = s.tick ∧ (powerOn s).tick = s.tick := by
  simp [powerOn, refreshHealth]

theorem execInputLossDetected_powered (power : s.pin.mainPower = true) (first : s.pin.shedding = false) :
    execInputLossDetected s = .next { s with
      pin := { s.pin with shedding := true, pwrGood := false }
      ac := { s.ac with lossTick := if s.lc.ready then some s.tick else none } } :=
  whenOk_true (by simp [power, first])

theorem execPowerFailSave_due {f : Nat} (loss : s.ac.lossTick = some f) (due : f + 5 ≤ s.tick) (unsaved : s.ac.saving = none) :
    execPowerFailSave s = .next (let t : State := { s with ac := { s.ac with saving := some s.tick, saveSeq := (saveOf s).seq } }
      if (saveOf s).seq % 2 = 1 then { t with ac := { t.ac with saveA := some (saveOf s) } }
      else { t with ac := { t.ac with saveB := some (saveOf s) } }) := by
  have hnow : ¬(s.tick < f + 5 ∨ s.ac.saving.isSome = true) := by simp [unsaved, due]
  unfold execPowerFailSave
  rw [loss]
  exact if_neg hnow

theorem execPowerFailSaveEnd_shed (back : Bool) (shed : s.pin.shedding = true) (saved : s.ac.lossTick = none ∨ s.ac.saving ≠ none) :
    execPowerFailSaveEnd back s = .next (if back then powerOn (powerOff s) else powerOff s) :=
  whenOk_true (by simpa [shed, Option.isSome_iff_ne_none] using saved)

/-- What stands without main power: the copies of the life-cycle record, the provisioning block and the tick, and no work. -/
theorem powerOff_keeps (s : State) : (powerOff s).pin.mainPower = false ∧ (powerOff s).wk = {} ∧ (powerOff s).mb = {} ∧
    (powerOff s).ad = {} ∧ (powerOff s).lc.stage = 0 ∧ (powerOff s).lc.copyA = s.lc.copyA ∧ (powerOff s).lc.copyB = s.lc.copyB ∧
    (powerOff s).prov = s.prov ∧ (powerOff s).tick = s.tick :=
  ⟨rfl, rfl, rfl, rfl, rfl, rfl, rfl, rfl, rfl⟩

/-! ### The monitor on battery (R26, R457 to R459, R577) -/

theorem execMonitorCrystalPeriod_counts (dark : s.pin.mainPower = false ∨ s.lc.stage = 0) :
    execMonitorCrystalPeriod s = .next { s with
      tick := s.tick + (s.tm.accFrac + 10 ^ 9) / 2 ^ 26
      tm := { s.tm with
        accFrac := (s.tm.accFrac + 10 ^ 9) % 2 ^ 26
        battTicks := if s.pin.mainPower then s.tm.battTicks else s.tm.battTicks + (s.tm.accFrac + 10 ^ 9) / 2 ^ 26 } } := by
  have hcounts : ¬(s.pin.mainPower && decide (s.lc.stage ≠ 0)) = true := by
    rcases dark with h | h <;> simp [h]
  exact if_neg hcounts

theorem execSupplyExhausted_dark (dark : s.pin.mainPower = false) : execSupplyExhausted s = .next { (draw s).2 with
    tm := { (draw s).2.tm with ember := false, emberLost := true, battBuf := [], battLost := 0, lSeen := false, accFrac := 0 }
    tick := (draw s).1 } :=
  if_neg (by simp [dark])

theorem execCrystalStop_running (running : s.tm.clockRc = false) : execCrystalStop s =
    .next (summaryPoint (nEvent ⟨1, 15, 0, 0, false, 0, 0, 0, false⟩ { s with tm := { s.tm with clockRc := true, rcSince := s.tick } })) :=
  whenOk_true (by simp [running])

theorem execCrystalRestored_due (stopped : s.tm.clockRc = true) (power : s.pin.mainPower = true) (due : s.tm.rcSince + 2 ^ 16 ≤ s.tick) :
    execCrystalRestored s = .next (summaryPoint { s with tm := { s.tm with clockRc := false } }) :=
  whenOk_true (by simp only [stopped, power, due, decide_true, Bool.and_self])

end

/-- Settles O49: each event of the power and of the monitor's clock by its own rule. -/
theorem powerGoesAndTheMonitorKeepsTime : Obligations.PowerGoesAndTheMonitorKeepsTime :=
  ⟨fun a b _ => execPowerGood_off a b, powerOn_atStageZero, fun _ => execInputLossDetected_powered, fun _ _ => execPowerFailSave_due,
    fun _ shed saved => ⟨execPowerFailSaveEnd_shed false shed saved, execPowerFailSaveEnd_shed true shed saved⟩, powerOff_keeps,
    fun _ => execMonitorCrystalPeriod_counts, fun _ => execSupplyExhausted_dark, fun _ => execCrystalStop_running,
    fun _ => execCrystalRestored_due, fun _ _ _ _ known => if_neg (Nat.not_lt.2 known)⟩

end Sys2Proof.Machine
end
